-- ==== Sys2Proof/Word.lean ====
section
/-!
DEFINITION. The smallest types of the FK480 model: a byte of a frame, and a sparse table of records.
Amounts and counts are Int and Nat (spec 00 section 4.1, log 34), so no machine word is needed.
-/

namespace Sys2Proof

/-- One byte on the Host Port (R195). -/
abbrev Byte := BitVec 8

/-- A table of records keyed by small numbers: a bag reference, a till, a lane, a slot, an entry number.
Canonical form: keys strictly rising, and no record equal to what an unlisted key reads as. -/
abbrev Table (α : Type) := List (Nat × α)

end Sys2Proof
end

