-- ==== Sys2Proof/Syntax.lean ====
section
/-!
DEFINITION. The commands the FK480 takes: one constructor of `Instr` for each row of
spec/opcode_table.json, with the named values and operand shapes they carry.
A named value that a rule lets be out of its set (answered BAD_FIELD by the owner) is an Option, whose
`none` is the absent value of section 11.7; an Amount field is an Option, whose `none` is a malformed one (R1).
-/

namespace Sys2Proof

/-! ## Named values -/

/-- R66: the class of a credential. -/
inductive CredClass where
  | cashier | custodian | supervisor | auditor | courier
  deriving DecidableEq, Repr

/-- Section 4.3: the three badge readers. -/
inductive Reader where
  | office | strongroom | hatch
  deriving DecidableEq, Repr

/-- Section 4.3 of chapter 4: the PIN result of a BADGE record. -/
inductive PinResult where
  | ok | fail | duress
  deriving DecidableEq, Repr

/-- R23: the purpose of a bag. -/
inductive Purpose where
  | float | takings | skim | deposit | changeIn
  deriving DecidableEq, Repr

/-- R34: the purpose of a tag range. -/
inductive RangePurpose where
  | float | takings | skim | deposit | changeIn | void
  deriving DecidableEq, Repr

/-- R3: the kind of a denomination slot. -/
inductive SlotKind where
  | note | coin | unused
  deriving DecidableEq, Repr

/-- R87: the kind of a till posting. -/
inductive PostingKind where
  | sale | refund | paidOut | paidIn | skim
  deriving DecidableEq, Repr

/-- R18, R19: the classification of a result. -/
inductive Classification where
  | exact | within | over | short | range
  deriving DecidableEq, Repr

/-- R24: the kind of a bag's source. -/
inductive SourceKind where
  | till | courier | office | unknown
  deriving DecidableEq, Repr

/-- R147: the kind of a result. -/
inductive ResultKind where
  | bag | till
  deriving DecidableEq, Repr

/-- R146: the action of a watch entry. -/
inductive WatchAction where
  | notice | holdTill | recount | haltLanes
  deriving DecidableEq, Repr

/-- R142: the tally that RESOLVE_DISPUTE names. -/
inductive DisputeChoice where
  | first | latest | manual
  deriving DecidableEq, Repr

/-- R40: the destination of MOVE_BAG. -/
inductive MoveDest where
  | strongroom | bench
  deriving DecidableEq, Repr

/-- R175, R177: the PANIC edge selection. -/
inductive EdgeSelect where
  | falling | rising | both
  deriving DecidableEq, Repr

/-- R175: one change of level at the PANIC input. -/
inductive Edge where
  | falling | rising
  deriving DecidableEq, Repr

/-- R112: the fitness of a note. -/
inductive Fitness where
  | fit | unfit
  deriving DecidableEq, Repr

/-- R117: a pocket of a transport. -/
inductive Pocket where
  | stacker | reject
  deriving DecidableEq, Repr

/-- R160: the door a request or a record names; `other` is a name that is no door. -/
inductive DoorName where
  | strongroom
  | drop (n : Nat)
  | other
  deriving DecidableEq, Repr

/-- R201: the types of unit record. -/
inductive RecordType where
  | note | pocket | jam | badge | door | drop | hatchScan | unknown
  deriving DecidableEq, Repr

/-! ## Operand shapes -/

/-- An Amount field of a request: `none` is malformed (R1). -/
abbrev AmountArg := Option Int

/-- R57: a day, month and year. -/
structure Date where
  year  : Nat
  month : Nat
  day   : Nat
  deriving DecidableEq, Repr

/-- R57: a reading of the clock. -/
structure ClockTime where
  date : Date
  secs : Nat
  deriving DecidableEq, Repr

/-- R4: one entry of SET_DENOMINATIONS. -/
structure DenomEntry where
  slot  : Nat
  kind  : SlotKind
  face  : Nat
  strap : Nat
  deriving DecidableEq, Repr

/-- R60: one opening stock line; a count that the line's form leaves out is `none`. -/
structure StockLine where
  slot     : Nat
  strapped : Option Nat
  loose    : Option Nat
  unfit    : Option Nat
  coin     : Option Nat
  deriving DecidableEq, Repr

/-- R61, R80: a slot and a number of pieces. -/
structure SlotLine where
  slot  : Nat
  count : Nat
  deriving DecidableEq, Repr

/-- R180: one line of MAKE_DEPOSIT; a count that the line's form leaves out is `none`. -/
structure DepositLine where
  slot     : Nat
  strapped : Option Nat
  unfit    : Option Nat
  coin     : Option Nat
  deriving DecidableEq, Repr

/-- R6: the four piece counts of one slot of a tally. -/
structure SlotCount where
  fit     : Nat
  unfit   : Nat
  suspect : Nat
  coin    : Nat
  deriving DecidableEq, Repr

/-- R6: a tally. -/
structure Tally where
  slots      : Table SlotCount
  unreadable : Nat
  deriving DecidableEq, Repr

/-- R147: a condition's test on the variance. -/
inductive VarianceTest where
  | any
  | equal (v : AmountArg)
  | inside (lo hi : AmountArg)
  | outside (lo hi : AmountArg)
  deriving DecidableEq, Repr

/-- R147: the classification set of a condition. -/
structure ClassSet where
  hasExact  : Bool
  hasWithin : Bool
  hasOver   : Bool
  hasShort  : Bool
  hasRange  : Bool
  deriving DecidableEq, Repr

/-- R147: a condition; a masked match field is `none`. -/
structure Condition where
  result       : Option ResultKind
  sourceKind   : Option SourceKind
  sourceNumber : Option Nat
  declarer     : Option Nat
  purpose      : Option Purpose
  classes      : ClassSet
  test         : VarianceTest
  deriving DecidableEq, Repr

/-- R172: the timings that SET_DOOR_POLICY carries; one left out is `none`. -/
structure PolicyArgs where
  dayDelay      : Option Nat
  courierDelay  : Option Nat
  dropDelay     : Option Nat
  confirmWindow : Option Nat
  releaseWindow : Option Nat
  openLimit     : Option Nat
  lockdownHold  : Option Nat
  deriving DecidableEq, Repr

/-- R183: one inbound item of CREATE_MANIFEST. -/
structure InboundArg where
  tagNo    : Nat
  declared : AmountArg
  deriving DecidableEq, Repr

/-- R198: the eight notice class enables, in the order of its table. -/
structure NoticeEnables where
  start    : Bool
  custody  : Bool
  badges   : Bool
  lanes    : Bool
  results  : Bool
  tills    : Bool
  watch    : Bool
  handover : Bool
  deriving DecidableEq, Repr

/-! ## The commands -/

/-- The commands of the FK480.  `tag` is a request's tag (R195); `part` its optional part number (R197). -/
inductive Instr where
  -- Host Port
  | setNotices (tag : Nat) (global : Bool) (classes : NoticeEnables)
  | status (tag : Nat)
  | restart (tag cred : Nat)
  -- Accounts Unit
  | setClock (tag : Nat) (date : Date) (secs : Nat) (cred : Option Nat)
  | setDenominations (tag : Nat) (entries : List DenomEntry) (cred : Nat)
  | setBand (tag : Nat) (floor : AmountArg) (rate cred : Nat)
  | openDay (tag : Nat) (date : Date) (lines : List StockLine) (cred : Nat)
  | closeDay (tag : Nat) (handOuts : List SlotLine) (cred : Nat)
  | openOffice (tag cred : Nat)
  | closeOffice (tag cred : Nat)
  | takeJournal (tag k : Nat)
  | queryStock (tag : Nat)
  -- Credential Unit
  | enrol (tag number : Nat) (cls : Option CredClass) (cred : Nat)
  | revoke (tag number cred : Nat)
  | reinstate (tag number cred : Nat)
  | setPresenceLifetime (tag secs cred : Nat)
  -- Bag Register
  | setTagRange (tag entry : Nat) (enable : Bool) (first last : Option Nat) (purpose : Option RangePurpose) (cred : Nat)
  | moveBag (tag ref : Nat) (dest : Option MoveDest) (cred : Nat)
  | queryBag (tag ref : Nat) (tagNo : Option Nat) (part : Option Nat)
  -- Till Accounts Unit
  | setTill (tag till : Nat) (limit : AmountArg) (cred : Nat)
  | setTemplate (tag template : Nat) (lines : List SlotLine) (cred : Nat)
  | makeFloat (tag till template tagNo cred : Nat)
  | unmakeFloat (tag till cred : Nat)
  | issueFloat (tag till cashier custodian : Nat)
  | receiveTakings (tag till tagNo : Nat) (declared : AmountArg) (cashier custodian : Nat)
  | post (tag till : Nat) (kind : Option PostingKind) (amount : AmountArg) (skimTag : Option Nat)
  | releaseTill (tag till cred : Nat)
  | queryTill (tag till : Nat)
  -- Counting Lane Controller
  | loadLane (tag lane ref : Nat) (urgent : Bool) (cred : Nat)
  | start (tag lane cred : Nat)
  | stop (tag lane : Nat)
  | resume (tag lane cred : Nat)
  | closeBatch (tag lane : Nat) (coins : Option (Table Nat)) (cred : Nat)
  | abortBatch (tag lane cred : Nat)
  | clearFault (tag lane cred : Nat)
  | queryLane (tag lane : Nat) (part : Option Nat)
  -- Reconciliation Unit
  | countManual (tag ref : Nat) (tally : Tally) (cred : Nat)
  | resolveDispute (tag ref : Nat) (choice : Option DisputeChoice) (tally : Option Tally) (cred1 cred2 : Nat)
  | mergeBag (tag ref cred : Nat)
  -- Watch Unit
  | setWatch (tag entry : Nat) (enable : Bool) (cred : Nat) (level1 level2 : Option Condition) (same : Bool)
      (action : Option WatchAction)
  | rearm (tag entry cred : Nat)
  | auditHold (tag cred : Nat)
  | auditRelease (tag cred : Nat)
  /-- `entry = none` is the mark ALL. -/
  | queryWatch (tag : Nat) (entry : Option Nat) (part : Option Nat)
  -- Custody Controller
  | requestDoor (tag : Nat) (door : DoorName) (creds : List Nat)
  | cancelDoor (tag : Nat) (door : DoorName)
  | setDoorPolicy (tag : Nat) (timings : PolicyArgs) (cred : Nat)
  | setMaintenance (tag : Nat) (choice : Option Bool) (cred : Nat)
  | freezeSettings (tag cred : Nat)
  | clearDropSafe (tag safe cred : Nat)
  | lockdown (tag : Nat)
  | releaseLockdown (tag cred1 cred2 : Nat)
  | setPanicEdge (tag : Nat) (choice : Option EdgeSelect) (cred : Nat)
  -- Handover Controller
  | makeDeposit (tag tagNo : Nat) (lines : List DepositLine) (cred : Nat)
  | createManifest (tag visit courier : Nat) (opens closes : ClockTime) (window : Option Nat)
      (outbound : List Nat) (inbound : List InboundArg) (cred : Nat)
  | cancelManifest (tag visit cred : Nat)
  /-- `entry = none` is the mark ALL. -/
  | queryManifest (tag : Nat) (entry : Option Nat) (part : Option Nat)
  -- Host Port events
  /-- The bytes received on the Host Port since the last such command. -/
  | frameReceived (bytes : List Byte)
  | frameTimeout
  | messageSend
  -- unit records; a `slot` or `tagNo` of `none` is UNREADABLE or NO_TAG
  | note (lane : Nat) (slot : Option Nat) (fitness : Fitness) (suspect : Bool)
  | pocket (lane : Nat) (which : Pocket)
  | jam (lane : Nat)
  | badge (reader : Reader) (number : Nat) (pin : PinResult)
  | door (door : DoorName) (isOpen : Bool)
  | drop (safe : Nat) (tagNo : Option Nat)
  | hatchScan (tagNo : Option Nat)
  /-- A record from bus address `addr`; `fieldsOk` says whether every field lies in its set. -/
  | unitRecordDiscarded (addr : Nat) (type : RecordType) (fieldsOk : Bool)
  -- the discrete lines, the supply and the starts
  | panicEdge (edge : Edge)
  | resetAsserted
  /-- `storeOk`: the retained store passes the part's check of its contents. -/
  | lineStart (storeOk : Bool)
  | coldStart
  | powerStart
  | restartStart (storeOk : Bool)
  -- the Time Base and the expiries
  | clockTick
  | presenceExpiry (reader : Reader) (number : Nat)
  | delayExpiry
  | dropDelayExpiry (safe : Nat)
  | confirmWindowExpiry
  | releaseWindowExpiry (door : DoorName)
  | openLimitExpiry (door : DoorName)
  | lockdownHoldExpiry
  | handoverWindowExpiry
  | alarmPeriodExpiry
  -- background work
  | postingApplication
  | valuationBegin
  | valuationCompletion
  /-- `backupLost`: the backup supply of the retained store is lost as well. -/
  | lossOfSupply (backupLost : Bool)
  deriving DecidableEq, Repr

end Sys2Proof
end

