-- ==== Sys2Proof/Config.lean ====
section
/-!
DEFINITION. The open values of this model: what the board's position straps give (R201), and the Amount that stands
for a template value past the range of an Amount (R80).
-/

namespace Sys2Proof

/-- The bus address that the board's position straps give unit position `p` (0 to 20, in the order of
the table of section 11.4).  The manual leaves it to the board: an open value, with no body (log 10). -/
opaque Config.strapAddress : Nat → Nat

/-- What SET_TEMPLATE's reply gives as the value of a template whose lines, each a slot, a count and the slot's face
value, pass the range of an Amount.  R80 and R12 state no value: an open value, with no body (log 38). -/
opaque Config.templateValue : List (Nat × Nat × Nat) → Int

end Sys2Proof
end

