-- ==== Sys2Proof/Machine/State.lean ====
section
/-!
DEFINITION. The state of the FK480 as plain data, block by block (spec 00 section 2), the three outcomes' reasons,
and State.reset, the part right after a COLD start.
Every table is a `Table` whose unlisted keys read as the record named `….initial` (or as free).
-/

namespace Sys2Proof.Machine

open Sys2Proof

/-! ## Outcomes -/

/-- The FK480 has no fault that stops it: every event the spec describes leaves a next state. -/
inductive Fault where
  deriving DecidableEq, Repr

/-- Why a command would have no meaning. -/
inductive Refusal where
  /-- Raised by `exec` alone, for a row that has no meaning yet; safe.  No arm raises it now. -/
  | notModelled (mnemonic : String)
  deriving DecidableEq, Repr

/-! ## Messages to the host (R197, R198, 11.3, 11.7) -/

/-- The status codes of a reply, in the order of their values 0 to 33 (11.3). -/
inductive Status where
  | ok | accepted
  | badFrame | badKind | badField | badTill
  | noAuthority | auditHold | frozen | lockdown | hours
  | wrongState | busy | inProgress | holdRunning | clockNotSet | laneOff | laneFault | doorSecure | doorOpen
  | tillHeld | sessionLimit | bagNotAtBench | pocketsNotEmpty | stackFull
  | queueFull | tableFull | journalFull
  | shortStock | stockHeld | amountRange
  | tagRejected | overlap | notFound
  deriving DecidableEq, Repr

/-- R198: the notices, in the order of its table (kinds 128 to 153). -/
inductive NoticeKind where
  | start
  | forced | doorAjar | duress | lockdownSet | lockdownCleared | overfill | chuteLocked
  | unknownBadge | suspended
  | strayNote | hold | fault
  | result | stockRange
  | latePosting | orphanPosting | skimAlert | undeclaredDrop
  | watch
  | unexpectedCourier | stagingIncomplete | duplicateScan | scanRefused | lateScan | manifestClosed
  deriving DecidableEq, Repr

/-- 11.3: the requests, in the order of the catalogue (kinds 1 to 57). -/
inductive ReqKind where
  | setNotices | status | restart
  | setClock | setDenominations | setBand | openDay | closeDay | openOffice | closeOffice | takeJournal | queryStock
  | enrol | revoke | reinstate | setPresenceLifetime
  | setTagRange | moveBag | queryBag
  | setTill | setTemplate | makeFloat | unmakeFloat | issueFloat | receiveTakings | post | releaseTill | queryTill
  | loadLane | start | stop | resume | closeBatch | abortBatch | clearFault | queryLane
  | countManual | resolveDispute | mergeBag
  | setWatch | rearm | auditHold | auditRelease | queryWatch
  | requestDoor | cancelDoor | setDoorPolicy | setMaintenance | freezeSettings | clearDropSafe | lockdown
  | releaseLockdown | setPanicEdge
  | makeDeposit | createManifest | cancelManifest | queryManifest
  deriving DecidableEq, Repr

/-- R51: the kinds of journal entry, in their order. -/
inductive EntryKind where
  | dayOpen | dayClose | stockToBag | bagToStock | bagIn | bagOut | bagAttach | variance | resolve | unmake | tillResult
  deriving DecidableEq, Repr

/-- R51: a journal entry.  `time` is the clock as it stood when the entry was written. -/
structure JournalEntry where
  seq            : Nat
  time           : Option ClockTime
  kind           : EntryKind
  ref            : Option Nat
  till           : Option Nat
  amount         : Int
  accountability : Int
  deriving DecidableEq, Repr

/-- 11.7: the smallest pieces of a message body. -/
inductive Atom where
  /-- A binary byte: a named value's number, a flag, a presence byte, a count byte. -/
  | byte (v : Nat)
  /-- A packed decimal number of `n` bytes. -/
  | packed (n v : Nat)
  /-- A set of named values as a bit field of one byte. -/
  | bits (v : Nat)
  | amount (a : Int)
  | tally (t : Tally)
  | entry (e : JournalEntry)
  deriving DecidableEq, Repr

/-- 11.7, R197: a field of a reply or a notice, never divided; or a list, divided only between its items. -/
inductive Field where
  | one (atoms : List Atom)
  | many (items : List (List Atom))
  deriving DecidableEq, Repr

/-- R197: a reply.  `kind` is the kind byte of the request it answers. -/
structure Reply where
  tag    : Nat
  kind   : Nat
  status : Status
  fields : List Field
  deriving DecidableEq, Repr

/-- R198: a notice. -/
structure Notice where
  kind   : NoticeKind
  fields : List Field
  deriving DecidableEq, Repr

/-- A message that has left the part. -/
inductive Message where
  | reply (r : Reply)
  | notice (n : Notice)
  deriving DecidableEq, Repr

/-! ## Host Port and the part's operation -/

/-- R203: the cause of a start. -/
inductive StartCause where
  | cold | power | line | restart
  deriving DecidableEq, Repr

/-- The supply, the RESET input and the last start (R199, R202, R203). -/
structure Sys where
  powered        : Bool
  resetAsserted  : Bool
  lastCause      : StartCause
  retentionValid : Bool
  storeValid     : Bool
  deriving DecidableEq, Repr

/-- R195: a frame in progress: the bytes after its lead byte, and the ticks since the lead byte. -/
structure RxFrame where
  bytes : List Byte
  ticks : Nat
  deriving DecidableEq, Repr

/-- The Host Port's records (R195 to R198, R200).  `sent` is the model's own log of the messages sent, oldest first (log 3). -/
structure Hpt where
  rx             : Option RxFrame
  buffer         : List Instr
  replies        : List Reply
  notices        : List Notice
  globalEnable   : Bool
  classEnables   : NoticeEnables
  overflow       : Bool
  dropped        : Nat
  restartPending : Bool
  sent           : List Message
  deriving DecidableEq, Repr

/-! ## Unit Bus Controller -/

/-- 11.4: a unit position. -/
inductive UnitPos where
  | lane (n : Nat)
  | reader (r : Reader)
  | door (d : DoorName)
  | chute (n : Nat)
  | hatch
  deriving DecidableEq, Repr

/-- 11.4: the unit commands. -/
inductive UnitCmd where
  | run | stop | release | engage | lock | unlock | reject
  deriving DecidableEq, Repr

/-- R201: a unit command as the Unit Bus Controller sends it: the position it was handed over for, that position's bus
address (`none` for a position that the part does not have), and the command. -/
structure SentCommand where
  pos  : UnitPos
  addr : Option Nat
  cmd  : UnitCmd
  deriving DecidableEq, Repr

/-- The Unit Bus Controller's records (R177, R201, R202).  `addrs` holds the address of each unit position, 0 to 20 in the
order of the table of 11.4; `commands` is the model's own log of the unit commands sent, oldest first (log 3). -/
structure Ubc where
  addrs      : List Nat
  panicSel   : EdgeSelect
  panicHigh  : Bool
  alarm      : Bool
  alarmTimer : Option Nat
  unitErrors : Nat
  commands   : List SentCommand
  deriving DecidableEq, Repr

/-! ## Credential Unit -/

/-- R66: an entry of the credential table (its number is its key). -/
structure Credential where
  cls       : CredClass
  suspended : Bool
  fails     : Nat
  deriving DecidableEq, Repr

/-- R72: an entry of a presence list. -/
structure Presence where
  number : Nat
  cls    : CredClass
  left   : Nat
  deriving DecidableEq, Repr

/-- The Credential Unit's records (R66, R72, R75). -/
structure Cru where
  creds      : Table (Option Credential)
  office     : List Presence
  strongroom : List Presence
  hatch      : List Presence
  lifetime   : Nat
  deriving DecidableEq, Repr

/-! ## Accounts Unit -/

/-- R3: what a slot of the denomination table holds. -/
inductive Denom where
  | unused
  | note (face strap : Nat)
  | coin (face : Nat)
  deriving DecidableEq, Repr

/-- R44: the stock counts of a slot. -/
structure SlotStock where
  strapped : Nat
  loose    : Nat
  unfit    : Nat
  coin     : Nat
  deriving DecidableEq, Repr

/-- R44: a slot's stock after a COLD start. -/
def SlotStock.initial : SlotStock := ⟨0, 0, 0, 0⟩

/-- R49: a variance account. -/
structure VarAccount where
  amount : Int
  range  : Bool
  deriving DecidableEq, Repr

/-- R59: the day state NONE, OPEN or CLOSED. -/
inductive DayState where
  | noDay | dayOpen | dayClosed
  deriving DecidableEq, Repr

/-- R63: the office mode. -/
inductive OfficeMode where
  | opened | afterHours
  deriving DecidableEq, Repr

/-- The Accounts Unit's records (R3, R17, R44 to R63). -/
structure Acu where
  denoms         : Table Denom
  stock          : Table SlotStock
  accountability : Int
  courier        : VarAccount
  unattributed   : VarAccount
  suspects       : Table Nat
  journal        : List JournalEntry
  nextSeq        : Nat
  reserved       : Nat
  clock          : Option ClockTime
  day            : DayState
  businessDate   : Option Date
  mode           : OfficeMode
  bandFloor      : Int
  bandRate       : Nat
  deriving DecidableEq, Repr

/-! ## Bag Register -/

/-- R24: a bag's source. -/
inductive Source where
  | till (n session : Nat)
  | courier (visit : Nat)
  | office
  | unknown
  deriving DecidableEq, Repr

/-- R23: a custody place. -/
inductive Place where
  | bench
  | strongroom
  | drop (n : Nat)
  | lane (n : Nat)
  | till (n : Nat)
  | inTransit
  deriving DecidableEq, Repr

/-- R23: the state of a bag. -/
inductive BagState where
  | intact | counting | quarantined | disputed | confirmed | emptied | issued | despatched
  deriving DecidableEq, Repr

/-- R23: the anomaly flags of a bag. -/
structure AnomalyFlags where
  unlisted     : Bool
  duplicate    : Bool
  wrongPurpose : Bool
  undeclared   : Bool
  deriving DecidableEq, Repr

/-- R23: a bag record. -/
structure Bag where
  tagNo    : Option Nat
  purpose  : Purpose
  source   : Source
  declarer : Option Nat
  custody  : Place
  state    : BagState
  book     : Int
  declared : Option Int
  tally    : Option Tally
  previous : Option Tally
  recount  : Nat
  flags    : AnomalyFlags
  deriving DecidableEq, Repr

/-- R34: an entry of the tag range map. -/
structure TagRange where
  enabled : Bool
  first   : Nat
  last    : Nat
  purpose : RangePurpose
  deriving DecidableEq, Repr

/-- R34: an entry after a COLD start. -/
def TagRange.initial : TagRange := ⟨false, 1, 1, .void⟩

/-- The Bag Register's records (R22, R30, R34). -/
structure Bgr where
  bags    : Table (Option Bag)
  retired : List Nat
  ranges  : Table TagRange
  deriving DecidableEq, Repr

/-! ## Till Accounts Unit -/

/-- R78: the state of a till. -/
inductive TillState where
  | idle | floatReady | issued | takingsIn | reconciled
  deriving DecidableEq, Repr

/-- R93: a pending skim. -/
structure PendingSkim where
  tagNo   : Nat
  amount  : Int
  session : Nat
  deriving DecidableEq, Repr

/-- R78: a till record. -/
structure Till where
  state          : TillState
  session        : Nat
  before         : Option TillState
  floatBag       : Option Nat
  floatLines     : List SlotLine
  hold           : Bool
  overLimit      : Bool
  limit          : Int
  cashier        : Option Nat
  floatValue     : Int
  sales          : Int
  refunds        : Int
  paidOuts       : Int
  paidIns        : Int
  skims          : Int
  expected       : Int
  counted        : Int
  countedRange   : Bool
  outstanding    : Nat
  variance       : Option Int
  classification : Option Classification
  late           : Int
  range          : Bool
  day            : VarAccount
  pendingSkims   : List PendingSkim
  deriving DecidableEq, Repr

/-- R78: a till record after a COLD start. -/
def Till.initial : Till where
  state := .idle
  session := 1
  before := none
  floatBag := none
  floatLines := []
  hold := false
  overLimit := false
  limit := 150000
  cashier := none
  floatValue := 0
  sales := 0
  refunds := 0
  paidOuts := 0
  paidIns := 0
  skims := 0
  expected := 0
  counted := 0
  countedRange := false
  outstanding := 0
  variance := none
  classification := none
  late := 0
  range := false
  day := ⟨0, false⟩
  pendingSkims := []

/-- R87: an entry of the posting queue. -/
structure Posting where
  till   : Nat
  kind   : PostingKind
  amount : Int
  tagNo  : Option Nat
  deriving DecidableEq, Repr

/-- The Till Accounts Unit's records (R78, R80, R87, R98). -/
structure Tau where
  tills     : Table Till
  templates : Table (List SlotLine)
  postings  : List Posting
  skimQueue : List Nat
  deriving DecidableEq, Repr

/-! ## Counting Lane Controller -/

/-- R103: the state of a lane. -/
inductive LaneState where
  | off | idle | ready | running | held | closing | fault | faultLocked
  deriving DecidableEq, Repr

/-- R103: a hold set. -/
structure HoldSet where
  operator    : Bool
  stackerFull : Bool
  rejectFull  : Bool
  lockdown    : Bool
  watch       : Bool
  deriving DecidableEq, Repr

/-- R109: a hold cause. -/
inductive HoldCause where
  | operator | stackerFull | rejectFull | lockdown | watch
  deriving DecidableEq, Repr

/-- The empty hold set. -/
def HoldSet.empty : HoldSet := ⟨false, false, false, false, false⟩

/-- R103: a lane's fault cause. -/
inductive FaultCause where
  | jam | overflow | countRange
  deriving DecidableEq, Repr

/-- R104: a batch record. -/
structure Batch where
  ref       : Nat
  tally     : Tally
  straps    : Table Nat
  full      : Table Nat
  lateNotes : Bool
  urgent    : Bool
  queued    : Bool
  deriving DecidableEq, Repr

/-- R103: a suspended batch with the hold set saved when it was pushed. -/
structure Suspended where
  batch : Batch
  holds : HoldSet
  deriving DecidableEq, Repr

/-- R103: a lane record; `stack` has its newest batch first; `locked` is the locking cause JAM. -/
structure Lane where
  state   : LaneState
  batch   : Option Batch
  stack   : List Suspended
  stacker : Nat
  reject  : Nat
  holds   : HoldSet
  fault   : Option FaultCause
  locked  : Bool
  deriving DecidableEq, Repr

/-- R103: a lane after a COLD start. -/
def Lane.initial : Lane := ⟨.off, none, [], 0, 0, HoldSet.empty, none, false⟩

/-- The Counting Lane Controller's records (R103). -/
structure Clc where
  lanes : Table Lane
  deriving DecidableEq, Repr

/-! ## Reconciliation Unit -/

/-- R130: an entry of the reconciliation queue. -/
inductive QueueEntry where
  | lane (n : Nat)
  | manual (ref : Nat) (tally : Tally)
  deriving DecidableEq, Repr

/-- R132: a valuation in flight: the tally taken at its beginning and the counted value formed from it
(none when the valuation stopped under R13 or R14). -/
structure Valuation where
  tally   : Tally
  counted : Option Int
  deriving DecidableEq, Repr

/-- The Reconciliation Unit's records (R130, R132). -/
structure Rcu where
  queue  : List QueueEntry
  engine : Option Valuation
  deriving DecidableEq, Repr

/-! ## Watch Unit -/

/-- R135, R101: a result as offered. -/
structure WatchResult where
  kind         : ResultKind
  ref          : Option Nat
  sourceKind   : SourceKind
  sourceNumber : Option Nat
  declarer     : Option Nat
  purpose      : Option Purpose
  cls          : Classification
  variance     : Option Int
  deriving DecidableEq, Repr

/-- R146: the state of a watch entry. -/
inductive WatchState where
  | off | armed1 | armed2 | fired
  deriving DecidableEq, Repr

/-- R149: a captured source. -/
structure Captured where
  kind   : SourceKind
  number : Option Nat
  deriving DecidableEq, Repr

/-- R146: what moved an entry to FIRED. -/
structure FiredBy where
  result : WatchResult
  level  : Nat
  time   : Option ClockTime
  deriving DecidableEq, Repr

/-- R146: an entry of the watch table. -/
structure WatchEntry where
  state    : WatchState
  level1   : Option Condition
  level2   : Option Condition
  same     : Bool
  action   : Option WatchAction
  captured : Option Captured
  firedBy  : Option FiredBy
  deriving DecidableEq, Repr

/-- R146: an entry after a COLD start. -/
def WatchEntry.initial : WatchEntry := ⟨.off, none, none, false, none, none, none⟩

/-- The Watch Unit's records (R146, R156). -/
structure Wcu where
  entries   : Table WatchEntry
  auditHold : Bool
  deriving DecidableEq, Repr

/-! ## Custody Controller -/

/-- R159, R167: the state of a door. -/
inductive DoorState where
  | secure | delay | confirm | released | opened
  deriving DecidableEq, Repr

/-- R159, R167: a door record.  `openFor` counts the seconds the door has stood open, which DOOR_AJAR reports. -/
structure Door where
  state        : DoorState
  named        : Option (Nat × Nat)
  timer        : Option Nat
  lockReleased : Bool
  contactOpen  : Bool
  ajarSent     : Bool
  openFor      : Nat
  deriving DecidableEq, Repr

/-- R159: a door after a COLD start. -/
def Door.initial : Door := ⟨.secure, none, none, false, false, false, 0⟩

/-- R167: the chute causes of a drop safe. -/
structure ChuteCauses where
  full     : Bool
  table    : Bool
  journal  : Bool
  lockdown : Bool
  opened   : Bool
  deriving DecidableEq, Repr

/-- R169: a chute cause. -/
inductive ChuteCause where
  | full | table | journal | lockdown | opened
  deriving DecidableEq, Repr

/-- R167: a drop-safe record. -/
structure DropSafe where
  door        : Door
  count       : Nat
  causes      : ChuteCauses
  chuteLocked : Bool
  deriving DecidableEq, Repr

/-- R167: a drop safe after a COLD start. -/
def DropSafe.initial : DropSafe := ⟨Door.initial, 0, ⟨false, false, false, false, false⟩, false⟩

/-- R172: the door policy. -/
structure DoorPolicy where
  dayDelay      : Nat
  courierDelay  : Nat
  dropDelay     : Nat
  confirmWindow : Nat
  releaseWindow : Nat
  openLimit     : Nat
  lockdownHold  : Nat
  deriving DecidableEq, Repr

/-- R172: the door policy after a COLD start. -/
def DoorPolicy.initial : DoorPolicy := ⟨600, 120, 300, 120, 60, 900, 900⟩

/-- The Custody Controller's records (R159, R167, R172 to R176). -/
structure Csc where
  strongroom  : Door
  safes       : Table DropSafe
  policy      : DoorPolicy
  maintenance : Bool
  freeze      : Bool
  latch       : Bool
  holdTimer   : Nat
  holdRunning : Bool
  deriving DecidableEq, Repr

/-! ## Handover Controller -/

/-- R182: the state of a manifest. -/
inductive ManifestState where
  | planned | handover | complete | short | expired | aborted | cancelled
  deriving DecidableEq, Repr

/-- R182: a manifest's close cause. -/
inductive CloseCause where
  | accepted | window | host | lockdown | start
  deriving DecidableEq, Repr

/-- R182: an outbound item; the tag is copied from the bag record when the manifest is created. -/
structure OutItem where
  ref     : Nat
  tagNo   : Option Nat
  scanned : Bool
  deriving DecidableEq, Repr

/-- R182: an inbound item; `received` holds the bag reference once the item is received. -/
structure InItem where
  tagNo    : Nat
  declared : Int
  received : Option Nat
  deriving DecidableEq, Repr

/-- R182: a manifest. -/
structure Manifest where
  visit     : Nat
  courier   : Nat
  opens     : ClockTime
  closes    : ClockTime
  window    : Nat
  outbound  : List OutItem
  inbound   : List InItem
  state     : ManifestState
  custodian : Option Nat
  timer     : Option Nat
  cause     : Option CloseCause
  deriving DecidableEq, Repr

/-- The Handover Controller's records (R182): the table, and the entries of the closed manifests in the order
in which they closed. -/
structure Hoc where
  manifests   : Table (Option Manifest)
  closedOrder : List Nat
  deriving DecidableEq, Repr

/-! ## The whole part -/

/-- The state of the FK480: the records of its blocks, and the commands that wait, first in first out. -/
structure State where
  sys     : Sys
  hpt     : Hpt
  ubc     : Ubc
  cru     : Cru
  acu     : Acu
  bgr     : Bgr
  tau     : Tau
  clc     : Clc
  rcu     : Rcu
  wcu     : Wcu
  csc     : Csc
  hoc     : Hoc
  pending : List Instr
  deriving DecidableEq, Repr

/-- R198: after every start the notice classes are all enabled. -/
def NoticeEnables.all : NoticeEnables := ⟨true, true, true, true, true, true, true, true⟩

/-- The 21 unit positions read the straps (R201). -/
def strapAddresses : List Nat := (List.range 21).map Config.strapAddress

/-- R201, R203: the unit commands of a COLD start, each to its position's address: STOP to every transport, ENGAGE to every
lock, UNLOCK to every chute. -/
def coldCommands : List SentCommand :=
  [⟨.lane 0, some (Config.strapAddress 0), .stop⟩, ⟨.lane 1, some (Config.strapAddress 1), .stop⟩,
   ⟨.lane 2, some (Config.strapAddress 2), .stop⟩, ⟨.lane 3, some (Config.strapAddress 3), .stop⟩,
   ⟨.door .strongroom, some (Config.strapAddress 7), .engage⟩, ⟨.door (.drop 1), some (Config.strapAddress 8), .engage⟩,
   ⟨.door (.drop 2), some (Config.strapAddress 9), .engage⟩, ⟨.door (.drop 3), some (Config.strapAddress 10), .engage⟩,
   ⟨.door (.drop 4), some (Config.strapAddress 11), .engage⟩, ⟨.door (.drop 5), some (Config.strapAddress 12), .engage⟩,
   ⟨.door (.drop 6), some (Config.strapAddress 13), .engage⟩, ⟨.chute 1, some (Config.strapAddress 14), .unlock⟩,
   ⟨.chute 2, some (Config.strapAddress 15), .unlock⟩, ⟨.chute 3, some (Config.strapAddress 16), .unlock⟩,
   ⟨.chute 4, some (Config.strapAddress 17), .unlock⟩, ⟨.chute 5, some (Config.strapAddress 18), .unlock⟩,
   ⟨.chute 6, some (Config.strapAddress 19), .unlock⟩]

/-- R203: the START notice of a COLD start: COLD, INVALID, NONE, AFTER_HOURS, clock NOT_SET, latch clear. -/
def coldStartNotice : Notice :=
  ⟨.start, [.one [.byte 1], .one [.byte 2], .one [.byte 1], .one [.byte 2], .one [.byte 0], .one [.byte 0]]⟩

/-- The part right after a COLD start (R203): START has been sent (log 39) and nothing waits. -/
def State.reset : State where
  sys := { powered := true, resetAsserted := false, lastCause := .cold, retentionValid := false, storeValid := true }
  hpt := { rx := none, buffer := [], replies := [], notices := [], globalEnable := true,
           classEnables := NoticeEnables.all, overflow := false, dropped := 0, restartPending := false,
           sent := [.notice coldStartNotice] }
  ubc := { addrs := strapAddresses, panicSel := .falling, panicHigh := true, alarm := false, alarmTimer := none,
           unitErrors := 0, commands := coldCommands }
  cru := { creds := [], office := [], strongroom := [], hatch := [], lifetime := 60 }
  acu := { denoms := [], stock := [], accountability := 0, courier := ⟨0, false⟩, unattributed := ⟨0, false⟩,
           suspects := [], journal := [], nextSeq := 1, reserved := 0, clock := none, day := .noDay,
           businessDate := none, mode := .afterHours, bandFloor := 1000, bandRate := 5 }
  bgr := { bags := [], retired := [], ranges := [] }
  tau := { tills := [], templates := [], postings := [], skimQueue := [] }
  clc := { lanes := [] }
  rcu := { queue := [], engine := none }
  wcu := { entries := [], auditHold := false }
  csc := { strongroom := Door.initial, safes := [], policy := DoorPolicy.initial, maintenance := false,
           freeze := false, latch := false, holdTimer := 0, holdRunning := false }
  hoc := { manifests := [], closedOrder := [] }
  pending := []

end Sys2Proof.Machine
end

