-- ==== Sys2Proof/Machine/Decimal.lean ====
section
/-!
DEFINITION. Amounts (R1, R9 to R12), valuation (R13, R14), the variance, the band and the classification
(R15, R16, R18).  An Amount is held as the integer it stands for, so +0 is the only zero; the digit-by-digit
procedures of R9, R10, R11, R13 and R16 are written out below and give the same results (log 34).
-/

namespace Sys2Proof.Machine

open Sys2Proof

/-- R1: the largest magnitude of an Amount. -/
def maxAmount : Int := 999999999999

/-- R1: the sums of money an Amount can hold. -/
def amountInRange (a : Int) : Bool := decide (-maxAmount ≤ a) && decide (a ≤ maxAmount)

/-- R2: the largest piece count. -/
def maxPieces : Nat := 999999

/-- R11: signed addition of two Amounts; `none` is an overflow. -/
def addAmount (a b : Int) : Option Int := if amountInRange (a + b) then some (a + b) else none

/-- R11: subtraction is the addition of the negation. -/
def subAmount (a b : Int) : Option Int := addAmount a (-b)

/-- R12: a till accumulator that overflows is set to +999,999,999,999; the flag says that it did. -/
def addSaturating (a b : Int) : Int × Bool :=
  match addAmount a b with
  | some c => (c, false)
  | none => (maxAmount, true)

/-- R49, R91: a figure that overflows is set to 999,999,999,999 with the sign of the true result. -/
def addSigned (a b : Int) : Int × Bool :=
  match addAmount a b with
  | some c => (c, false)
  | none => (if a + b < 0 then -maxAmount else maxAmount, true)

/-- R49: a charge to a variance account. -/
def VarAccount.charge (v : VarAccount) (b : Int) : VarAccount :=
  ⟨(addSigned v.amount b).1, v.range || (addSigned v.amount b).2⟩

/-! ## Digit by digit (R9, R10, R11, R13, R16) -/

/-- The `n` decimal digits of a magnitude, least significant first. -/
def digitsOf : Nat → Nat → List Nat
  | 0, _ => []
  | n + 1, m => m % 10 :: digitsOf n (m / 10)

/-- The magnitude that a list of digits stands for, least significant first. -/
def ofDigits : List Nat → Nat
  | [] => 0
  | d :: ds => d + 10 * ofDigits ds

/-- R9: addition of two digit lists from the least significant upward, with the carry coming in; the result
digits and the carry passing out of the last position. -/
def addDigits : List Nat → List Nat → Nat → List Nat × Nat
  | x :: xs, y :: ys, c =>
    let sum := x + y + c
    let r := if 10 ≤ sum then addDigits xs ys 1 else addDigits xs ys 0
    ((if 10 ≤ sum then sum - 10 else sum) :: r.1, r.2)
  | _, _, c => ([], c)

/-- R10: subtraction of a smaller or equal magnitude, with the borrow coming in. -/
def subDigits : List Nat → List Nat → Nat → List Nat
  | x :: xs, y :: ys, b =>
    if x < y + b then (x + 10 - (y + b)) :: subDigits xs ys 1 else (x - (y + b)) :: subDigits xs ys 0
  | _, _, _ => []

/-- R10: comparison; the lists come least significant digit first, and the most significant difference decides. -/
def compareDigits : List Nat → List Nat → Ordering
  | x :: xs, y :: ys =>
    match compareDigits xs ys with
    | .eq => compare x y
    | o => o
  | _, _ => .eq

/-- R9 on two twelve-digit magnitudes; `none` is a carry out of d11. -/
def addMagnitudes (x y : Nat) : Option Nat :=
  let r := addDigits (digitsOf 12 x) (digitsOf 12 y) 0
  if r.2 = 0 then some (ofDigits r.1) else none

/-- R10 on two twelve-digit magnitudes. -/
def compareMagnitudes (x y : Nat) : Ordering := compareDigits (digitsOf 12 x) (digitsOf 12 y)

/-- R10 on two twelve-digit magnitudes, the first not the smaller. -/
def subMagnitudes (x y : Nat) : Nat := ofDigits (subDigits (digitsOf 12 x) (digitsOf 12 y) 0)

/-- R11: signed addition of two Amounts by their signs and magnitudes, digit by digit. -/
def addAmountDigits (a b : Int) : Option Int :=
  if decide (a < 0) = decide (b < 0) then
    (addMagnitudes a.natAbs b.natAbs).map (fun m => if a < 0 then -(m : Int) else (m : Int))
  else
    match compareMagnitudes a.natAbs b.natAbs with
    | .eq => some 0
    | .gt => some (if a < 0 then -(subMagnitudes a.natAbs b.natAbs : Int) else (subMagnitudes a.natAbs b.natAbs : Int))
    | .lt => some (if b < 0 then -(subMagnitudes b.natAbs a.natAbs : Int) else (subMagnitudes b.natAbs a.natAbs : Int))

/-- Adding a term a number of times. -/
def addTimes (term : Nat) : Nat → Nat → Nat
  | 0, acc => acc
  | n + 1, acc => addTimes term n (acc + term)

/-- R13, R16: a product by shifted addition: for each digit k of `c` among `n`, f shifted left by k positions is
added as many times as the digit says. -/
def shiftedProduct : Nat → Nat → Nat → Nat → Nat
  | 0, _, _, acc => acc
  | n + 1, c, f, acc => shiftedProduct n (c / 10) (f * 10) (addTimes f (c % 10) acc)

/-! ## Valuation -/

/-- R6: a slot of a tally. -/
def SlotCount.initial : SlotCount := ⟨0, 0, 0, 0⟩

/-- R6: a tally with every count 0. -/
def Tally.initial : Tally := ⟨[], 0⟩

/-- R13: one slot's count and face value; `none` when the NOTE sum passes 999,999. -/
def slotTerm (d : Denom) (c : SlotCount) : Option (Nat × Nat) :=
  match d with
  | .unused => some (0, 0)
  | .note face _ => if c.fit + c.unfit ≤ maxPieces then some (c.fit + c.unfit, face) else none
  | .coin face => some (c.coin, face)

/-- R13, R14: the running sum of the slot products over the slots given, from `acc`; `none` is RANGE. -/
def valueSlots : List (Denom × SlotCount) → Int → Option Int
  | [], acc => some acc
  | (d, c) :: rest, acc =>
    match slotTerm d c with
    | none => none
    | some (n, face) =>
      match addAmount acc ((n * face : Nat) : Int) with
      | none => none
      | some acc' => valueSlots rest acc'

/-- R16: the band for a reference. -/
def bandOf (bandFloor : Int) (bandRate : Nat) (reference : Int) : Int :=
  max bandFloor ((reference.natAbs * bandRate / 1000 : Nat) : Int)

/-- R18: the classification of a variance against a band. -/
def classify (v band : Int) : Classification :=
  if v = 0 then .exact
  else if (v.natAbs : Int) ≤ band then .within
  else if 0 < v then .over
  else .short

/-- R19: a valuation result. -/
structure ValuationResult where
  counted  : Option Int
  variance : Option Int
  band     : Option Int
  cls      : Classification
  deriving DecidableEq, Repr

/-- R15, R16, R18, R19: the result of a counted value set against a book value. -/
def valuationResult (counted : Option Int) (book bandFloor : Int) (bandRate : Nat) : ValuationResult :=
  match counted with
  | none => ⟨none, none, none, .range⟩
  | some c =>
    match subAmount c book with
    | none => ⟨some c, none, none, .range⟩
    | some v => ⟨some c, some v, some (bandOf bandFloor bandRate book), classify v (bandOf bandFloor bandRate book)⟩

end Sys2Proof.Machine
end

