-- ==== Sys2Proof/Machine/Table.lean ====
section
/-!
DEFINITION. Reading and writing a sparse table (`Table`): what an unlisted key reads as is given by the caller,
and a write of that value takes the key out, so that equal tables are equal data.
-/

namespace Sys2Proof.Machine

open Sys2Proof

/-- What key `i` of a table reads as; `d` is what an unlisted key reads as. -/
def Table.get {α : Type} (d : α) : Table α → Nat → α
  | [], _ => d
  | (k, v) :: t, i => if k = i then v else Table.get d t i

/-- The table with key `i` unlisted. -/
def Table.erase {α : Type} : Table α → Nat → Table α
  | [], _ => []
  | (k, v) :: t, i => if k = i then Table.erase t i else (k, v) :: Table.erase t i

/-- The table with `v` listed at key `i`, before the first greater key. -/
def Table.place {α : Type} (i : Nat) (v : α) : Table α → Table α
  | [] => [(i, v)]
  | (k, w) :: t => if i < k then (i, v) :: (k, w) :: t else (k, w) :: Table.place i v t

/-- The table that reads `v` at key `i` and as before elsewhere. -/
def Table.set {α : Type} [DecidableEq α] (d : α) (t : Table α) (i : Nat) (v : α) : Table α :=
  if v = d then Table.erase t i else Table.place i v (Table.erase t i)

/-- The table with `f` applied at each of the keys `ks`, in their order. -/
def Table.update {α : Type} [DecidableEq α] (d : α) (f : α → α) (ks : List Nat) (t : Table α) : Table α :=
  ks.foldl (fun t k => Table.set d t k (f (Table.get d t k))) t

/-- Canonical form: keys strictly rising, and nothing listed that an unlisted key reads as. -/
def Table.wf {α : Type} [DecidableEq α] (d : α) : Table α → Bool
  | [] => true
  | [(_, v)] => decide (v ≠ d)
  | (k, v) :: (k', v') :: t => decide (v ≠ d) && decide (k < k') && Table.wf d ((k', v') :: t)

end Sys2Proof.Machine
end

