-- ==== Sys2Proof/Machine/Layout.lean ====
section
/-!
DEFINITION. The layouts of section 11.7: numbers of named values, fields and messages as bytes, the check of a
frame, the parts of a long reply (R197), and the reading of a request's body.
The order and widths of a request's fields follow its owning rule (log 13), the numbers of named values the
order in which that rule lists them (log 14).
-/

namespace Sys2Proof.Machine

open Sys2Proof

/-! ## Numbers of named values -/

def CredClass.list : List CredClass := [.cashier, .custodian, .supervisor, .auditor, .courier]
def Reader.list : List Reader := [.office, .strongroom, .hatch]
def PinResult.list : List PinResult := [.ok, .fail, .duress]
def Purpose.list : List Purpose := [.float, .takings, .skim, .deposit, .changeIn]
def RangePurpose.list : List RangePurpose := [.float, .takings, .skim, .deposit, .changeIn, .void]
def SlotKind.list : List SlotKind := [.note, .coin, .unused]
def PostingKind.list : List PostingKind := [.sale, .refund, .paidOut, .paidIn, .skim]
def Classification.list : List Classification := [.exact, .within, .over, .short, .range]
def SourceKind.list : List SourceKind := [.till, .courier, .office, .unknown]
def ResultKind.list : List ResultKind := [.bag, .till]
def WatchAction.list : List WatchAction := [.notice, .holdTill, .recount, .haltLanes]
def DisputeChoice.list : List DisputeChoice := [.first, .latest, .manual]
def MoveDest.list : List MoveDest := [.strongroom, .bench]
def EdgeSelect.list : List EdgeSelect := [.falling, .rising, .both]
def Fitness.list : List Fitness := [.fit, .unfit]
def StartCause.list : List StartCause := [.cold, .power, .line, .restart]
def EntryKind.list : List EntryKind :=
  [.dayOpen, .dayClose, .stockToBag, .bagToStock, .bagIn, .bagOut, .bagAttach, .variance, .resolve, .unmake, .tillResult]
def DayState.list : List DayState := [.noDay, .dayOpen, .dayClosed]
def OfficeMode.list : List OfficeMode := [.opened, .afterHours]
def BagState.list : List BagState :=
  [.intact, .counting, .quarantined, .disputed, .confirmed, .emptied, .issued, .despatched]
def TillState.list : List TillState := [.idle, .floatReady, .issued, .takingsIn, .reconciled]
def LaneState.list : List LaneState := [.off, .idle, .ready, .running, .held, .closing, .fault, .faultLocked]
def HoldCause.list : List HoldCause := [.operator, .stackerFull, .rejectFull, .lockdown, .watch]
def FaultCause.list : List FaultCause := [.jam, .overflow, .countRange]
def WatchState.list : List WatchState := [.off, .armed1, .armed2, .fired]
/-- R159: the strongroom door's states. -/
def DoorState.list : List DoorState := [.secure, .delay, .confirm, .released, .opened]
/-- R167: a drop-safe door's states. -/
def DoorState.dropList : List DoorState := [.secure, .delay, .released, .opened]
def ManifestState.list : List ManifestState :=
  [.planned, .handover, .complete, .short, .expired, .aborted, .cancelled]
def CloseCause.list : List CloseCause := [.accepted, .window, .host, .lockdown, .start]
def Status.list : List Status :=
  [.ok, .accepted, .badFrame, .badKind, .badField, .badTill, .noAuthority, .auditHold, .frozen, .lockdown, .hours,
   .wrongState, .busy, .inProgress, .holdRunning, .clockNotSet, .laneOff, .laneFault, .doorSecure, .doorOpen,
   .tillHeld, .sessionLimit, .bagNotAtBench, .pocketsNotEmpty, .stackFull, .queueFull, .tableFull, .journalFull,
   .shortStock, .stockHeld, .amountRange, .tagRejected, .overlap, .notFound]
def NoticeKind.list : List NoticeKind :=
  [.start, .forced, .doorAjar, .duress, .lockdownSet, .lockdownCleared, .overfill, .chuteLocked, .unknownBadge,
   .suspended, .strayNote, .hold, .fault, .result, .stockRange, .latePosting, .orphanPosting, .skimAlert,
   .undeclaredDrop, .watch, .unexpectedCourier, .stagingIncomplete, .duplicateScan, .scanRefused, .lateScan,
   .manifestClosed]
def ReqKind.list : List ReqKind :=
  [.setNotices, .status, .restart,
   .setClock, .setDenominations, .setBand, .openDay, .closeDay, .openOffice, .closeOffice, .takeJournal, .queryStock,
   .enrol, .revoke, .reinstate, .setPresenceLifetime,
   .setTagRange, .moveBag, .queryBag,
   .setTill, .setTemplate, .makeFloat, .unmakeFloat, .issueFloat, .receiveTakings, .post, .releaseTill, .queryTill,
   .loadLane, .start, .stop, .resume, .closeBatch, .abortBatch, .clearFault, .queryLane,
   .countManual, .resolveDispute, .mergeBag,
   .setWatch, .rearm, .auditHold, .auditRelease, .queryWatch,
   .requestDoor, .cancelDoor, .setDoorPolicy, .setMaintenance, .freezeSettings, .clearDropSafe, .lockdown,
   .releaseLockdown, .setPanicEdge,
   .makeDeposit, .createManifest, .cancelManifest, .queryManifest]

/-- 11.7: a named value's number, counted from 1. -/
def codeIn {α : Type} [DecidableEq α] (vals : List α) (a : α) : Nat := vals.idxOf a + 1

/-- 11.7: an absent named value is 0. -/
def codeOpt {α : Type} [DecidableEq α] (vals : List α) : Option α → Nat
  | none => 0
  | some a => codeIn vals a

/-- R197, 11.3: the kind byte of a request. -/
def ReqKind.code (k : ReqKind) : Nat := codeIn ReqKind.list k

/-- 11.3: the status byte. -/
def Status.code (x : Status) : Nat := Status.list.idxOf x

/-- 11.3: the kind byte of a notice. -/
def NoticeKind.code (k : NoticeKind) : Nat := 128 + NoticeKind.list.idxOf k

/-- 11.7: a set of named values, the first in the lowest bit. -/
def bitsOf : List Bool → Nat
  | [] => 0
  | b :: bs => (if b then 1 else 0) + 2 * bitsOf bs

/-! ## Fields of replies and notices -/

/-- A named value. -/
def fNamed (n : Nat) : Field := .one [.byte n]

/-- A flag or two-way choice. -/
def flagByte (b : Bool) : Nat := if b then 1 else 0

/-- A flag or two-way choice as a field. -/
def fFlag (b : Bool) : Field := .one [.byte (flagByte b)]

/-- A packed decimal number of `n` bytes. -/
def fNum (n v : Nat) : Field := .one [.packed n v]

/-- A set of named values. -/
def fSet (bs : List Bool) : Field := .one [.bits (bitsOf bs)]

/-- An Amount. -/
def fAmount (a : Int) : Field := .one [.amount a]

/-- A field that is carried only in some cases, behind its presence byte. -/
def fOpt (x : Option (List Atom)) : Field :=
  match x with
  | none => .one [.byte 0]
  | some a => .one (.byte 1 :: a)

/-- An optional number. -/
def fNumOpt (n : Nat) (v : Option Nat) : Field := fOpt (v.map fun x => [.packed n x])

/-- A list that its rule carries only in some cases, behind its presence byte. -/
def fManyOpt (items : Option (List (List Atom))) : List Field :=
  match items with
  | none => [.one [.byte 0]]
  | some l => [.one [.byte 1], .many l]

/-- An optional Amount. -/
def fAmountOpt (a : Option Int) : Field := fOpt (a.map fun x => [.amount x])

/-- A bag reference; 0 when absent. -/
def fRef (r : Option Nat) : Field := fNum 2 (r.getD 0)

/-- A till number; 0 when absent. -/
def fTill (n : Option Nat) : Field := fNum 2 (n.getD 0)

/-- The byte of a lane or slot number; hexadecimal FF when absent. -/
def laneAtom : Option Nat → Atom
  | none => .byte 255
  | some n => .packed 1 n

/-- A lane or slot number. -/
def fLane (n : Option Nat) : Field := .one [laneAtom n]

/-- A tag number, or the mark that there is none. -/
def fTag (t : Option Nat) : Field := fNumOpt 4 t

/-- A date: year, month and day as eight packed decimal digits, as 11.7 lays out that of a journal entry.  In every other
field the order and the widths are the model's choice (log 13). -/
def dateAtoms (d : Date) : List Atom := [.packed 2 d.year, .packed 1 d.month, .packed 1 d.day]

/-- A clock reading. -/
def clockAtoms (c : ClockTime) : List Atom := dateAtoms c.date ++ [.packed 3 c.secs]

/-- The clock, or NOT_SET. -/
def fClock (c : Option ClockTime) : Field := fOpt (c.map clockAtoms)

/-- The number of a door name: STRONGROOM 1, DROP 2, and the drop-safe number behind a presence byte. -/
def doorAtoms : DoorName → List Atom
  | .strongroom => [.byte 1, .byte 0]
  | .drop n => [.byte 2, .byte 1, .packed 1 n]
  | .other => [.byte 0, .byte 0]

/-- A door. -/
def fDoor (d : DoorName) : Field := .one (doorAtoms d)

/-- A custody place: its number in the order of R23, and then the lane or till number with no presence byte (11.7), or
the drop-safe number behind its presence byte, which is 00 for the other three places (log 13). -/
def placeAtoms : Place → List Atom
  | .bench => [.byte 1, .byte 0]
  | .strongroom => [.byte 2, .byte 0]
  | .drop n => [.byte 3, .byte 1, .packed 1 n]
  | .lane n => [.byte 4, laneAtom (some n)]
  | .till n => [.byte 5, .packed 2 n]
  | .inTransit => [.byte 6, .byte 0]

/-- R24: the kind of a source. -/
def Source.kind : Source → SourceKind
  | .till _ _ => .till
  | .courier _ => .courier
  | .office => .office
  | .unknown => .unknown

/-- R24: the number of a source. -/
def Source.number : Source → Option Nat
  | .till n _ => some n
  | .courier v => some v
  | .office => none
  | .unknown => none

/-- R24: the session of a source. -/
def Source.session : Source → Option Nat
  | .till _ k => some k
  | .courier _ => none
  | .office => none
  | .unknown => none

/-- A bag's source: kind, number and session, the last two each behind a presence byte (log 13). -/
def sourceFields (x : Source) : List Field :=
  [fNamed (codeIn SourceKind.list x.kind), fNumOpt 2 x.number, fNumOpt 1 x.session]

/-- R23: anomaly flags as a set. -/
def AnomalyFlags.toList (f : AnomalyFlags) : List Bool := [f.unlisted, f.duplicate, f.wrongPurpose, f.undeclared]

/-- R103: a hold set as a set. -/
def HoldSet.toList (h : HoldSet) : List Bool := [h.operator, h.stackerFull, h.rejectFull, h.lockdown, h.watch]

/-- R167: chute causes as a set. -/
def ChuteCauses.toList (c : ChuteCauses) : List Bool := [c.full, c.table, c.journal, c.lockdown, c.opened]

/-- R147: a classification set. -/
def classSetList (c : ClassSet) : List Bool := [c.hasExact, c.hasWithin, c.hasOver, c.hasShort, c.hasRange]

/-! ## Bytes -/

/-- A packed decimal number in `n` bytes, most significant digit first. -/
def packedBytes : Nat → Nat → List Byte
  | 0, _ => []
  | n + 1, v => packedBytes n (v / 100) ++ [BitVec.ofNat 8 (16 * (v / 10 % 10) + v % 10)]

/-- 11.7: an Amount, 7 bytes. -/
def amountBytes (a : Int) : List Byte := (if a < 0 then 1#8 else 0#8) :: packedBytes 6 a.natAbs

/-- 11.7: a tally, 99 bytes. -/
def tallyBytes (t : Tally) : List Byte :=
  (List.range 8).flatMap (fun i =>
    let c := Table.get SlotCount.initial t.slots i
    packedBytes 3 c.fit ++ packedBytes 3 c.unfit ++ packedBytes 3 c.suspect ++ packedBytes 3 c.coin)
  ++ packedBytes 3 t.unreadable

/-- 11.7: the date and seconds of a journal entry; zeros when the clock was not set (log 25). -/
def entryTimeBytes : Option ClockTime → List Byte
  | none => packedBytes 4 0 ++ packedBytes 3 0
  | some c => packedBytes 2 c.date.year ++ packedBytes 1 c.date.month ++ packedBytes 1 c.date.day ++ packedBytes 3 c.secs

/-- 11.7: a journal entry, 29 bytes. -/
def entryBytes (e : JournalEntry) : List Byte :=
  packedBytes 4 e.seq ++ entryTimeBytes e.time ++ [BitVec.ofNat 8 (codeIn EntryKind.list e.kind)]
  ++ [BitVec.ofNat 8 (e.ref.getD 0 / 256), BitVec.ofNat 8 (e.ref.getD 0)] ++ [BitVec.ofNat 8 (e.till.getD 0)]
  ++ amountBytes e.amount ++ amountBytes e.accountability

/-- The bytes of an atom. -/
def Atom.bytes : Atom → List Byte
  | .byte v => [BitVec.ofNat 8 v]
  | .packed n v => packedBytes n v
  | .bits v => [BitVec.ofNat 8 v]
  | .amount a => amountBytes a
  | .tally t => tallyBytes t
  | .entry e => entryBytes e

/-- The number of bytes of an atom. -/
def Atom.size : Atom → Nat
  | .byte _ => 1
  | .packed n _ => n
  | .bits _ => 1
  | .amount _ => 7
  | .tally _ => 99
  | .entry _ => 29

/-- The number of bytes of a field or item that is not divided. -/
def atomsSize (l : List Atom) : Nat := (l.map Atom.size).sum

/-- The bytes of a field; a list is preceded by its count byte. -/
def Field.bytes : Field → List Byte
  | .one a => a.flatMap Atom.bytes
  | .many items => BitVec.ofNat 8 items.length :: items.flatMap (fun i => i.flatMap Atom.bytes)

/-- 11.7: one bit of the check: polynomial x^16 + x^12 + x^5 + 1. -/
def checkBit (c : BitVec 16) : BitVec 16 := if c.msb then (c <<< 1) ^^^ 0x1021#16 else c <<< 1

/-- 11.7: one byte of the check, most significant bit first. -/
def checkByte (c : BitVec 16) (b : Byte) : BitVec 16 :=
  checkBit (checkBit (checkBit (checkBit (checkBit (checkBit (checkBit (checkBit
    (c ^^^ (b.setWidth 16 <<< 8)))))))))

/-- 11.7: the check over a list of bytes, started from all ones. -/
def frameCheck (l : List Byte) : BitVec 16 := l.foldl checkByte 0xFFFF#16

/-- 11.7: the check as two bytes, high byte first. -/
def checkBytes (l : List Byte) : List Byte :=
  [((frameCheck l) >>> 8).setWidth 8, (frameCheck l).setWidth 8]

/-- 11.7: the lead byte. -/
def leadByte : Byte := 0xC5#8

/-- 11.7: a frame. -/
def frameBytes (tag kind : Nat) (body : List Byte) : List Byte :=
  let inner := BitVec.ofNat 8 body.length :: BitVec.ofNat 8 tag :: BitVec.ofNat 8 kind :: body
  leadByte :: (inner ++ checkBytes inner)

/-- R197, R198: a message as it leaves the part. -/
def Message.bytes : Message → List Byte
  | .reply r => frameBytes r.tag r.kind (BitVec.ofNat 8 r.status.code :: r.fields.flatMap Field.bytes)
  | .notice n => frameBytes 0 n.kind.code (n.fields.flatMap Field.bytes)

/-! ## Parts of a long reply (R197) -/

/-- The parts filled so far, the part being filled and the bytes its fields take. -/
structure Pager where
  done : List (List Field)
  cur  : List Field
  used : Nat
  deriving DecidableEq, Repr

/-- 240 body bytes less the status byte, the part number and the number of parts. -/
def partRoom : Nat := 237

/-- Puts a field that is not divided into the current part, or opens the next one. -/
def Pager.addOne (p : Pager) (f : Field) (size : Nat) : Pager :=
  if p.used + size ≤ partRoom then ⟨p.done, p.cur ++ [f], p.used + size⟩
  else ⟨p.done ++ [p.cur], [f], size⟩

/-- Puts one list item into the current part; `acc` holds the list's items already in it. -/
def Pager.addItem (q : Pager × List (List Atom)) (item : List Atom) : Pager × List (List Atom) :=
  let (p, acc) := q
  let size := atomsSize item
  if acc = [] then
    if p.used + 1 + size ≤ partRoom then (⟨p.done, p.cur, p.used + 1 + size⟩, [item])
    else (⟨p.done ++ [p.cur], [], 1 + size⟩, [item])
  else if p.used + size ≤ partRoom then (⟨p.done, p.cur, p.used + size⟩, acc ++ [item])
  else (⟨p.done ++ [p.cur ++ [.many acc]], [], 1 + size⟩, [item])

/-- Puts a field into the parts. -/
def Pager.add (p : Pager) : Field → Pager
  | .one a => p.addOne (.one a) (atomsSize a)
  | .many [] => p.addOne (.many []) 1
  | .many items =>
    let q := items.foldl Pager.addItem (p, [])
    ⟨q.1.done, q.1.cur ++ [.many q.2], q.1.used⟩

/-- R197: the fields of a reply cut into parts. -/
def partsOf (fields : List Field) : List (List Field) :=
  let p := fields.foldl Pager.add ⟨[], [], 0⟩
  p.done ++ [p.cur]

/-! ## Reading a request's body -/

/-- A reader of bytes; `none` is a body too short or a malformed field. -/
abbrev BodyReader := StateT (List Byte) Option

/-- The next byte. -/
def readByte : BodyReader Nat := fun l =>
  match l with
  | [] => none
  | b :: t => some (b.toNat, t)

/-- A packed decimal number of `n` bytes after `acc`; a half-byte above 9 is malformed. -/
def readPackedFrom : Nat → Nat → BodyReader Nat
  | 0, acc => pure acc
  | n + 1, acc => do
    let b ← readByte
    if b / 16 ≤ 9 ∧ b % 16 ≤ 9 then readPackedFrom n (acc * 100 + 10 * (b / 16) + b % 16) else failure

/-- A packed decimal number of `n` bytes. -/
def readNum (n : Nat) : BodyReader Nat := readPackedFrom n 0

/-- A flag: 00 or 01. -/
def readFlag : BodyReader Bool := do
  let b ← readByte
  if b = 0 then pure false else if b = 1 then pure true else failure

/-- A named value or its absence, the byte 0, which is left to the owning rule's checks: the model's choice (log 55). -/
def readNamed {α : Type} (vals : List α) : BodyReader (Option α) := do
  let b ← readByte
  if b = 0 then pure none else
  match vals[b - 1]? with
  | some v => pure (some v)
  | none => failure

/-- A named value that may not be absent, whose byte 0 is malformed: the model's choice (log 55). -/
def readNamedOf {α : Type} (vals : List α) : BodyReader α := do
  match ← readNamed vals with
  | some v => pure v
  | none => failure

/-- A field behind a presence byte. -/
def readOpt {α : Type} (r : BodyReader α) : BodyReader (Option α) := do
  if ← readFlag then return some (← r) else return none

/-- `n` items. -/
def readItems {α : Type} (r : BodyReader α) : Nat → BodyReader (List α)
  | 0 => pure []
  | n + 1 => do
    let x ← r
    let xs ← readItems r n
    return x :: xs

/-- A list behind its count byte. -/
def readList {α : Type} (r : BodyReader α) : BodyReader (List α) := do
  let n ← readByte
  readItems r n

/-- A list that a request may leave out; left out it is empty. -/
def readListOpt {α : Type} (r : BodyReader α) : BodyReader (List α) := do
  return (← readOpt (readList r)).getD []

/-- An Amount (R1): a sign byte of 00 or 01 and twelve digits; a negative zero is +0. -/
def readAmount : BodyReader AmountArg := do
  let neg ← readFlag
  let m ← readNum 6
  return some (if neg then -(m : Int) else (m : Int))

/-- R58, R60: a date of a request: year, month and day, an order and widths that are the model's choice (log 13). -/
def readDate : BodyReader Date := do
  return ⟨← readNum 2, ← readNum 1, ← readNum 1⟩

/-- A clock reading. -/
def readClock : BodyReader ClockTime := do
  return ⟨← readDate, ← readNum 3⟩

/-- A table of the values listed for keys 0, 1, …. -/
def tableOf {α : Type} [DecidableEq α] (d : α) (l : List α) : Table α :=
  (l.zipIdx.map fun p => (p.2, p.1)).filter fun p => decide (p.2 ≠ d)

/-- One slot's counts of a tally. -/
def readSlotCount : BodyReader SlotCount := do
  return ⟨← readNum 3, ← readNum 3, ← readNum 3, ← readNum 3⟩

/-- A tally, 99 bytes. -/
def readTally : BodyReader Tally := do
  let l ← readItems readSlotCount 8
  return ⟨tableOf SlotCount.initial l, ← readNum 3⟩

/-- The coin part of CLOSE_BATCH, 24 bytes. -/
def readCoins : BodyReader (Table Nat) := do
  return tableOf 0 (← readItems (readNum 3) 8)

/-- A slot and a count. -/
def readSlotLine : BodyReader SlotLine := do
  return ⟨← readNum 1, ← readNum 3⟩

/-- A door name: its number, and a drop-safe number behind a presence byte.  Which bytes are malformed beside those is the
model's choice (log 56). -/
def readDoor : BodyReader DoorName := do
  let k ← readByte
  let n ← readOpt (readNum 1)
  match k, n with
  | 1, none => pure .strongroom
  | 2, some n => pure (.drop n)
  | 0, none => pure .other
  | _, _ => failure

/-- R147: the variance test: its name and the Amounts it carries, each behind a presence byte.  An Amount that the test's
kind does not take is disregarded, and one that it takes and the body leaves out is read as malformed: the model's choice
(log 48). -/
def readTest : BodyReader VarianceTest := do
  let k ← readByte
  let v ← readOpt readAmount
  let lo ← readOpt readAmount
  let hi ← readOpt readAmount
  match k with
  | 1 => pure .any
  | 2 => pure (.equal v.join)
  | 3 => pure (.inside lo.join hi.join)
  | 4 => pure (.outside lo.join hi.join)
  | _ => failure

/-- R147: a classification set, one byte. -/
def readClassSet : BodyReader ClassSet := do
  let b ← readByte
  if b < 32 then
    return ⟨b % 2 = 1, b / 2 % 2 = 1, b / 4 % 2 = 1, b / 8 % 2 = 1, b / 16 % 2 = 1⟩
  else failure

/-- R147: a condition. -/
def readCondition : BodyReader Condition := do
  return ⟨← readNamed ResultKind.list, ← readNamed SourceKind.list, ← readOpt (readNum 2), ← readOpt (readNum 3),
    ← readNamed Purpose.list, ← readClassSet, ← readTest⟩

/-- R157, R194: an entry number behind a presence byte, then the mark ALL (1) or its absence (0).  A body with both or with
neither is malformed: the model's choice (log 53). -/
def readWhich : BodyReader (Option Nat) := do
  let n ← readOpt (readNum 1)
  let all ← readFlag
  match n, all with
  | some n, false => pure (some n)
  | none, true => pure none
  | _, _ => failure

/-- R183: an inbound item. -/
def readInbound : BodyReader InboundArg := do
  return ⟨← readNum 4, ← readAmount⟩

/-- R4: a denomination entry.  The strap size in four digits is the model's choice (log 13). -/
def readDenomEntry : BodyReader DenomEntry := do
  return ⟨← readNum 1, ← readNamedOf SlotKind.list, ← readNum 3, ← readNum 2⟩

/-- R60: an opening stock line, each count behind a presence byte: the model's choice (log 13). -/
def readStockLine : BodyReader StockLine := do
  return ⟨← readNum 1, ← readOpt (readNum 3), ← readOpt (readNum 3), ← readOpt (readNum 3), ← readOpt (readNum 3)⟩

/-- R180: a deposit line, each count behind a presence byte: the model's choice (log 13). -/
def readDepositLine : BodyReader DepositLine := do
  return ⟨← readNum 1, ← readOpt (readNum 3), ← readOpt (readNum 3), ← readOpt (readNum 3)⟩

/-- R198: the eight class enables. -/
def readEnables : BodyReader NoticeEnables := do
  return ⟨← readFlag, ← readFlag, ← readFlag, ← readFlag, ← readFlag, ← readFlag, ← readFlag, ← readFlag⟩

/-- R172: the seven timings. -/
def readPolicy : BodyReader PolicyArgs := do
  let t := readOpt (readNum 3)
  return ⟨← t, ← t, ← t, ← t, ← t, ← t, ← t⟩

/-- The body of each kind of request, its fields in the order its owning rule lists them.  The model's choices: the
credentials of REQUEST_DOOR are a list behind a count byte (log 13), and a SET_WATCH that leaves its same-source choice out
and an OPEN_DAY that leaves its list out are taken as clear and as empty (log 54). -/
def readBody (tag : Nat) (k : ReqKind) : BodyReader Instr := do
  let cred := readNum 3
  let part := readOpt (readNum 1)
  match k with
  | .setNotices => return .setNotices tag (← readFlag) (← readEnables)
  | .status => return .status tag
  | .restart => return .restart tag (← cred)
  | .setClock => return .setClock tag (← readDate) (← readNum 3) (← readOpt cred)
  | .setDenominations => return .setDenominations tag (← readList readDenomEntry) (← cred)
  | .setBand => return .setBand tag (← readAmount) (← readNum 3) (← cred)
  | .openDay => return .openDay tag (← readDate) (← readListOpt readStockLine) (← cred)
  | .closeDay => return .closeDay tag (← readListOpt readSlotLine) (← cred)
  | .openOffice => return .openOffice tag (← cred)
  | .closeOffice => return .closeOffice tag (← cred)
  | .takeJournal => return .takeJournal tag (← readNum 1)
  | .queryStock => return .queryStock tag
  | .enrol => return .enrol tag (← readNum 3) (← readNamed CredClass.list) (← cred)
  | .revoke => return .revoke tag (← readNum 3) (← cred)
  | .reinstate => return .reinstate tag (← readNum 3) (← cred)
  | .setPresenceLifetime => return .setPresenceLifetime tag (← readNum 3) (← cred)
  | .setTagRange =>
    return .setTagRange tag (← readNum 1) (← readFlag) (← readOpt (readNum 4)) (← readOpt (readNum 4))
      (← readNamed RangePurpose.list) (← cred)
  | .moveBag => return .moveBag tag (← readNum 2) (← readNamed MoveDest.list) (← cred)
  | .queryBag => return .queryBag tag (← readNum 2) (← readOpt (readNum 4)) (← part)
  | .setTill => return .setTill tag (← readNum 2) (← readAmount) (← cred)
  | .setTemplate => return .setTemplate tag (← readNum 1) (← readList readSlotLine) (← cred)
  | .makeFloat => return .makeFloat tag (← readNum 2) (← readNum 1) (← readNum 4) (← cred)
  | .unmakeFloat => return .unmakeFloat tag (← readNum 2) (← cred)
  | .issueFloat => return .issueFloat tag (← readNum 2) (← cred) (← cred)
  | .receiveTakings =>
    return .receiveTakings tag (← readNum 2) (← readNum 4) (← readAmount) (← cred) (← cred)
  | .post =>
    return .post tag (← readNum 2) (← readNamed PostingKind.list) (← readAmount) (← readOpt (readNum 4))
  | .releaseTill => return .releaseTill tag (← readNum 2) (← cred)
  | .queryTill => return .queryTill tag (← readNum 2)
  | .loadLane => return .loadLane tag (← readNum 1) (← readNum 2) (← readFlag) (← cred)
  | .start => return .start tag (← readNum 1) (← cred)
  | .stop => return .stop tag (← readNum 1)
  | .resume => return .resume tag (← readNum 1) (← cred)
  | .closeBatch => return .closeBatch tag (← readNum 1) (← readOpt readCoins) (← cred)
  | .abortBatch => return .abortBatch tag (← readNum 1) (← cred)
  | .clearFault => return .clearFault tag (← readNum 1) (← cred)
  | .queryLane => return .queryLane tag (← readNum 1) (← part)
  | .countManual => return .countManual tag (← readNum 2) (← readTally) (← cred)
  | .resolveDispute =>
    return .resolveDispute tag (← readNum 2) (← readNamed DisputeChoice.list) (← readOpt readTally) (← cred) (← cred)
  | .mergeBag => return .mergeBag tag (← readNum 2) (← cred)
  | .setWatch =>
    return .setWatch tag (← readNum 1) (← readFlag) (← cred) (← readOpt readCondition) (← readOpt readCondition)
      ((← readOpt readFlag).getD false) (← readNamed WatchAction.list)
  | .rearm => return .rearm tag (← readNum 1) (← cred)
  | .auditHold => return .auditHold tag (← cred)
  | .auditRelease => return .auditRelease tag (← cred)
  | .queryWatch => return .queryWatch tag (← readWhich) (← part)
  | .requestDoor => return .requestDoor tag (← readDoor) (← readList cred)
  | .cancelDoor => return .cancelDoor tag (← readDoor)
  | .setDoorPolicy => return .setDoorPolicy tag (← readPolicy) (← cred)
  | .setMaintenance => return .setMaintenance tag (some (← readFlag)) (← cred)
  | .freezeSettings => return .freezeSettings tag (← cred)
  | .clearDropSafe => return .clearDropSafe tag (← readNum 1) (← cred)
  | .lockdown => return .lockdown tag
  | .releaseLockdown => return .releaseLockdown tag (← cred) (← cred)
  | .setPanicEdge => return .setPanicEdge tag (← readNamed EdgeSelect.list) (← cred)
  | .makeDeposit => return .makeDeposit tag (← readNum 4) (← readList readDepositLine) (← cred)
  | .createManifest =>
    return .createManifest tag (← readNum 2) (← readNum 3) (← readClock) (← readClock) (← readOpt (readNum 3))
      (← readList (readNum 2)) (← readList readInbound) (← cred)
  | .cancelManifest => return .cancelManifest tag (← readNum 2) (← cred)
  | .queryManifest => return .queryManifest tag (← readWhich) (← part)

/-- A whole body: nothing short, nothing over, nothing malformed. -/
def parseBody (tag : Nat) (k : ReqKind) (body : List Byte) : Option Instr :=
  match (readBody tag k).run body with
  | some (i, []) => some i
  | _ => none

end Sys2Proof.Machine
end

