-- ==== Sys2Proof/Machine/Flags.lean ====
section
/-!
DEFINITION. Flags and sets of causes: hold sets (R103, R109), chute causes (R167, R169), anomaly flags (R38),
notice class enables (R198), and the sets of bag, till and door states the rules name.
-/

namespace Sys2Proof.Machine

open Sys2Proof

/-- R103: whether a hold set holds a cause. -/
def HoldSet.has (h : HoldSet) : HoldCause → Bool
  | .operator => h.operator
  | .stackerFull => h.stackerFull
  | .rejectFull => h.rejectFull
  | .lockdown => h.lockdown
  | .watch => h.watch

/-- R103: a hold set with a cause put in or taken out. -/
def HoldSet.put (h : HoldSet) (c : HoldCause) (on : Bool) : HoldSet :=
  match c with
  | .operator => { h with operator := on }
  | .stackerFull => { h with stackerFull := on }
  | .rejectFull => { h with rejectFull := on }
  | .lockdown => { h with lockdown := on }
  | .watch => { h with watch := on }

/-- R169: whether a set of chute causes holds a cause. -/
def ChuteCauses.has (c : ChuteCauses) : ChuteCause → Bool
  | .full => c.full
  | .table => c.table
  | .journal => c.journal
  | .lockdown => c.lockdown
  | .opened => c.opened

/-- R169: a set of chute causes with a cause set or cleared. -/
def ChuteCauses.put (c : ChuteCauses) (x : ChuteCause) (on : Bool) : ChuteCauses :=
  match x with
  | .full => { c with full := on }
  | .table => { c with table := on }
  | .journal => { c with journal := on }
  | .lockdown => { c with lockdown := on }
  | .opened => { c with opened := on }

/-- R169: whether a chute has a cause. -/
def ChuteCauses.any (c : ChuteCauses) : Bool := c.full || c.table || c.journal || c.lockdown || c.opened

/-- R28: no anomaly flag. -/
def AnomalyFlags.none : AnomalyFlags := ⟨false, false, false, false⟩

/-- R198: whether a notice's class is enabled. -/
def classEnabled (e : NoticeEnables) : NoticeKind → Bool
  | .start => e.start
  | .forced | .doorAjar | .duress | .lockdownSet | .lockdownCleared | .overfill | .chuteLocked => e.custody
  | .unknownBadge | .suspended => e.badges
  | .strayNote | .hold | .fault => e.lanes
  | .result | .stockRange => e.results
  | .latePosting | .orphanPosting | .skimAlert | .undeclaredDrop => e.tills
  | .watch => e.watch
  | .unexpectedCourier | .stagingIncomplete | .duplicateScan | .scanRefused | .lateScan | .manifestClosed => e.handover

/-- R25: the live states of a bag. -/
def BagState.live : BagState → Bool
  | .intact | .counting | .quarantined | .disputed | .confirmed => true
  | .emptied | .issued | .despatched => false

/-- R90, R94 to R96: a till in session, ISSUED or TAKINGS_IN. -/
def TillState.inSession (t : TillState) : Bool := decide (t = .issued) || decide (t = .takingsIn)

/-- R66: custodian class is CUSTODIAN or SUPERVISOR. -/
def isCustodian (c : CredClass) : Bool := decide (c = .custodian) || decide (c = .supervisor)

/-- R182: an open manifest is PLANNED or in HANDOVER. -/
def Manifest.isOpen (m : Manifest) : Bool := decide (m.state = .planned) || decide (m.state = .handover)

/-- R147: whether a classification set holds a classification. -/
def classSetHas (c : ClassSet) : Classification → Bool
  | .exact => c.hasExact
  | .within => c.hasWithin
  | .over => c.hasOver
  | .short => c.hasShort
  | .range => c.hasRange

end Sys2Proof.Machine
end

