-- ==== Sys2Proof/Machine/Ops.lean ====
section
/-!
DEFINITION. The named operations that several blocks share: raising a notice (R198), handing over a unit command
(R201), the ALARM output (R202), chute causes (R169), the records of the tables, the Bag Register's allocation,
retirement and tag check (R29 to R39), and the Accounts Unit's movements (R47 to R55).
-/

namespace Sys2Proof.Machine

open Sys2Proof

/-! ## Notices, unit commands and ALARM -/

/-- R198: a notice enters the queue when its class and the global enable are on; a full queue drops it. -/
def notify (k : NoticeKind) (fields : List Field) (s : State) : State :=
  if s.hpt.globalEnable && classEnabled s.hpt.classEnables k then
    if s.hpt.notices.length < 32 then
      { s with hpt.notices := s.hpt.notices ++ [⟨k, fields⟩] }
    else
      { s with hpt.overflow := true, hpt.dropped := min 65535 (s.hpt.dropped + 1) }
  else s

/-- 11.4: the place of a unit position in the table, 0 to 20. -/
def UnitPos.place : UnitPos → Option Nat
  | .lane n => if n < 4 then some n else none
  | .reader .office => some 4
  | .reader .strongroom => some 5
  | .reader .hatch => some 6
  | .door .strongroom => some 7
  | .door (.drop n) => if 1 ≤ n ∧ n ≤ 6 then some (7 + n) else none
  | .door .other => none
  | .chute n => if 1 ≤ n ∧ n ≤ 6 then some (13 + n) else none
  | .hatch => some 20

/-- R201: the bus address of a unit position. -/
def Ubc.address (u : Ubc) (p : UnitPos) : Option Nat := p.place.bind (fun i => u.addrs[i]?)

/-- R201: a unit command as it is sent, to its position's address. -/
def Ubc.send (u : Ubc) (x : UnitPos × UnitCmd) : SentCommand := ⟨x.1, u.address x.1, x.2⟩

/-- R201: unit commands as they are sent, in the order handed over. -/
def Ubc.sends (u : Ubc) (l : List (UnitPos × UnitCmd)) : List SentCommand := l.map u.send

/-- R201: a unit command is handed over with its position and sent to that position's address. -/
def command (p : UnitPos) (c : UnitCmd) (s : State) : State :=
  { s with ubc.commands := s.ubc.commands ++ s.ubc.sends [(p, c)] }

/-- R202: the length of the Alarm Period in seconds. -/
def alarmPeriod : Nat := 180

/-- R202: a request to drive ALARM starts the Alarm Period again in full. -/
def driveAlarm (s : State) : State := { s with ubc.alarm := true, ubc.alarmTimer := some alarmPeriod }

/-! ## Records of the tables -/

/-- R3: a slot of the denomination table. -/
def State.denom (s : State) (i : Nat) : Denom := Table.get .unused s.acu.denoms i

/-- R44: a slot's stock. -/
def State.slotStock (s : State) (i : Nat) : SlotStock := Table.get SlotStock.initial s.acu.stock i

/-- R50: a slot's suspect count. -/
def State.suspect (s : State) (i : Nat) : Nat := Table.get 0 s.acu.suspects i

/-- R22: a slot of the bag table; `none` is free. -/
def State.bag (s : State) (r : Nat) : Option Bag := Table.get none s.bgr.bags r

/-- Writes a bag record. -/
def putBag (r : Nat) (b : Bag) (s : State) : State :=
  { s with bgr.bags := Table.set none s.bgr.bags r (some b) }

/-- R34: an entry of the tag range map. -/
def State.tagRange (s : State) (i : Nat) : TagRange := Table.get TagRange.initial s.bgr.ranges i

/-- R78: a till record. -/
def State.till (s : State) (n : Nat) : Till := Table.get Till.initial s.tau.tills n

/-- Writes a till record. -/
def putTill (n : Nat) (t : Till) (s : State) : State :=
  { s with tau.tills := Table.set Till.initial s.tau.tills n t }

/-- R80: a float template. -/
def State.template (s : State) (n : Nat) : List SlotLine := Table.get [] s.tau.templates n

/-- R103: a lane record. -/
def State.lane (s : State) (n : Nat) : Lane := Table.get Lane.initial s.clc.lanes n

/-- Writes a lane record. -/
def putLane (n : Nat) (l : Lane) (s : State) : State :=
  { s with clc.lanes := Table.set Lane.initial s.clc.lanes n l }

/-- R146: a watch entry. -/
def State.watchEntry (s : State) (n : Nat) : WatchEntry := Table.get WatchEntry.initial s.wcu.entries n

/-- Writes a watch entry. -/
def putWatch (n : Nat) (e : WatchEntry) (s : State) : State :=
  { s with wcu.entries := Table.set WatchEntry.initial s.wcu.entries n e }

/-- R167: a drop-safe record. -/
def State.safe (s : State) (n : Nat) : DropSafe := Table.get DropSafe.initial s.csc.safes n

/-- Writes a drop-safe record. -/
def putSafe (n : Nat) (d : DropSafe) (s : State) : State :=
  { s with csc.safes := Table.set DropSafe.initial s.csc.safes n d }

/-- R182: a manifest entry; `none` is free. -/
def State.manifest (s : State) (n : Nat) : Option Manifest := Table.get none s.hoc.manifests n

/-- Writes a manifest entry. -/
def putManifest (n : Nat) (m : Manifest) (s : State) : State :=
  { s with hoc.manifests := Table.set none s.hoc.manifests n (some m) }

/-- R66: an entry of the credential table. -/
def State.credential (s : State) (n : Nat) : Option Credential := Table.get none s.cru.creds n

/-- R72: the presence list of a reader. -/
def State.presence (s : State) : Reader → List Presence
  | .office => s.cru.office
  | .strongroom => s.cru.strongroom
  | .hatch => s.cru.hatch

/-- Writes a presence list. -/
def putPresence (r : Reader) (l : List Presence) (s : State) : State :=
  match r with
  | .office => { s with cru.office := l }
  | .strongroom => { s with cru.strongroom := l }
  | .hatch => { s with cru.hatch := l }

/-- The lanes, the drop safes, the slots, the tills and the bag references, in order. -/
def laneNumbers : List Nat := [0, 1, 2, 3]
def safeNumbers : List Nat := [1, 2, 3, 4, 5, 6]
def slotNumbers : List Nat := [0, 1, 2, 3, 4, 5, 6, 7]
def manifestNumbers : List Nat := [0, 1, 2, 3]
def tillNumbers : List Nat := List.range' 1 128
def bagNumbers : List Nat := List.range' 1 1024

/-! ## Chute causes (R169) -/

/-- R169: sets or clears a chute cause of a drop safe; a change between the empty and a not empty set sends LOCK
or UNLOCK and CHUTE_LOCKED. -/
def setChuteCause (n : Nat) (c : ChuteCause) (on : Bool) (s : State) : State :=
  let d := s.safe n
  if d.causes.has c = on then s
  else
    let causes := d.causes.put c on
    if d.causes.any = causes.any then putSafe n { d with causes := causes } s
    else
      notify .chuteLocked [fNum 1 n, fNamed (if causes.any then 1 else 2), fSet causes.toList]
        (command (.chute n) (if causes.any then .lock else .unlock)
          (putSafe n { d with causes := causes, chuteLocked := causes.any } s))

/-- R169: a change of one cause on all six safes, in order 1 to 6. -/
def setChuteCauseAll (c : ChuteCause) (on : Bool) (s : State) : State :=
  safeNumbers.foldl (fun s n => setChuteCause n c on s) s

/-! ## The Bag Register -/

/-- R29: the available count: free slots plus retired bags. -/
def State.available (s : State) : Nat := (1024 - s.bgr.bags.length) + s.bgr.retired.length

/-- R33: the TABLE cause is set exactly while the available count is 8 or fewer. -/
def syncTable (s : State) : State := setChuteCauseAll .table (decide (s.available ≤ 8)) s

/-- R29: the lowest-numbered free slot. -/
def State.lowestFree (s : State) : Option Nat := bagNumbers.find? (fun r => (s.bag r).isNone)

/-- R29, R30, R32: the slot that an allocation takes, and the state with the reclaimed record, if one is, gone. -/
def allocate (s : State) : Option (Nat × State) :=
  match s.lowestFree with
  | some r => some (r, s)
  | none =>
    match s.bgr.retired with
    | [] => none
    | r :: rest => some (r, { s with bgr.bags := Table.set none s.bgr.bags r none, bgr.retired := rest })

/-- R29: the room check of an allocation for a host request or an inbound scan. -/
def State.canAllocate (s : State) : Bool := decide (8 < s.available)

/-- R28, R33: a new record is filled into its allocated slot. -/
def recordBag (r : Nat) (b : Bag) (s : State) : State := syncTable (putBag r b s)

/-- R30, R33: a bag retires: its record is written with its retired state and it joins the retired list. -/
def retireBag (r : Nat) (b : Bag) (s : State) : State :=
  syncTable { putBag r b s with bgr.retired := s.bgr.retired ++ [r] }

/-- R27: the state before counting of a COUNTING bag. -/
def Bag.beforeCounting (b : Bag) : BagState := if b.tally.isSome then .quarantined else .intact

/-- R27: a COUNTING bag returns to the BENCH without a completed valuation. -/
def returnBag (r : Nat) (s : State) : State :=
  match s.bag r with
  | none => s
  | some b => putBag r { b with state := b.beforeCounting, custody := .bench } s

/-- R36: the results of the tag check, in their order. -/
inductive TagCheck where
  | unlisted | void | wrongPurpose | duplicate | ok
  deriving DecidableEq, Repr

/-- R36: the number of a tag check's result. -/
def TagCheck.code : TagCheck → Nat
  | .unlisted => 1
  | .void => 2
  | .wrongPurpose => 3
  | .duplicate => 4
  | .ok => 5

/-- R34: the enabled range that holds a tag. -/
def State.rangeOf (s : State) (tagNo : Nat) : Option TagRange :=
  (slotNumbers.map s.tagRange).find? (fun e => e.enabled && decide (e.first ≤ tagNo) && decide (tagNo ≤ e.last))

/-- The bag purpose that a range purpose names; VOID names none. -/
def purposeOfRange : RangePurpose → Option Purpose
  | .float => some .float
  | .takings => some .takings
  | .skim => some .skim
  | .deposit => some .deposit
  | .changeIn => some .changeIn
  | .void => none

/-- R36: whether some record, live or retired, carries a tag. -/
def State.tagInUse (s : State) (tagNo : Nat) : Bool :=
  s.bgr.bags.any (fun p => match p.2 with
    | some b => decide (b.tagNo = some tagNo)
    | none => false)

/-- R36: the tag check. -/
def tagCheck (tagNo : Nat) (expected : Purpose) (s : State) : TagCheck :=
  match s.rangeOf tagNo with
  | none => .unlisted
  | some e =>
    if e.purpose = .void then .void
    else if purposeOfRange e.purpose ≠ some expected then .wrongPurpose
    else if s.tagInUse tagNo then .duplicate
    else .ok

/-- R38: the anomaly flags of a dropped bag from its tag check; a bag with no tag is UNLISTED. -/
def dropFlags (tagNo : Option Nat) (s : State) : AnomalyFlags :=
  match tagNo with
  | none => { AnomalyFlags.none with unlisted := true }
  | some t =>
    match tagCheck t .skim s with
    | .ok => AnomalyFlags.none
    | .unlisted => { AnomalyFlags.none with unlisted := true }
    | .void => { AnomalyFlags.none with wrongPurpose := true }
    | .wrongPurpose => { AnomalyFlags.none with wrongPurpose := true }
    | .duplicate => { AnomalyFlags.none with duplicate := true }

/-- The references of the records that satisfy `p`, in order of bag reference. -/
def State.refsWhere (s : State) (p : Bag → Bool) : List Nat :=
  bagNumbers.filter (fun r => match s.bag r with
    | some b => p b
    | none => false)

/-- R39: the tag lookup: the live records that carry a tag, in order of bag reference. -/
def State.tagLookup (s : State) (tagNo : Nat) : List Nat :=
  s.refsWhere (fun b => b.state.live && decide (b.tagNo = some tagNo))

/-- R25: whether a live bag has a custody place. -/
def State.liveAt (s : State) (pl : Place) : Bool :=
  s.bgr.bags.any (fun p => match p.2 with
    | some b => b.state.live && decide (b.custody = pl)
    | none => false)

/-- R65: the sum of the book values of the bags in office custody (R25: the live bags). -/
def State.bookSum (s : State) : Int :=
  (s.bgr.bags.map (fun p => match p.2 with
    | some b => if b.state.live then b.book else 0
    | none => 0)).sum

/-! ## The Accounts Unit's movements -/

/-- R45: the value of a slot's stock. -/
def slotValue (d : Denom) (k : SlotStock) : Int :=
  match d with
  | .unused => 0
  | .note face _ => (((k.strapped + k.loose + k.unfit) * face : Nat) : Int)
  | .coin face => ((k.coin * face : Nat) : Int)

/-- R45: the stock value, slot by slot in order 0 to 7. -/
def State.stockValue (s : State) : Int := (slotNumbers.map (fun i => slotValue (s.denom i) (s.slotStock i))).sum

/-- R52: the journal's free count. -/
def State.journalFree (s : State) : Nat := 256 - s.acu.journal.length - s.acu.reserved

/-- R55: the JOURNAL cause is set exactly while the free count is 8 or fewer. -/
def syncJournal (s : State) : State := setChuteCauseAll .journal (decide (s.journalFree ≤ 8)) s

/-- R47: the origin class of a movement. -/
inductive Origin where
  | host | reserved | field
  deriving DecidableEq, Repr

/-- R47: a stock change of one slot, pieces to add or (negative) to take. -/
structure StockChange where
  slot     : Nat
  strapped : Int
  loose    : Int
  unfit    : Int
  coin     : Int
  deriving DecidableEq, Repr

/-- R47, R51: a journal entry to write: `delta` is the change of the accountability it records. -/
structure EntrySpec where
  kind   : EntryKind
  ref    : Option Nat
  till   : Option Nat
  amount : Int
  delta  : Int
  deriving DecidableEq, Repr

/-- R49: the variance account a movement charges. -/
inductive Account where
  | till (n : Nat)
  | courier
  | unattributed
  deriving DecidableEq, Repr

/-- R47: a movement. -/
structure Movement where
  origin   : Origin
  stock    : List StockChange
  charge   : Option (Account × Int)
  suspects : List (Nat × Nat)
  entries  : List EntrySpec
  deriving DecidableEq, Repr

/-- R47: why a movement fails; a stock failure names the first slot that fails. -/
inductive MoveFail where
  | wrongState
  | journalFull
  | shortStock (slot : Nat)
  | amountRange (slot : Option Nat)
  deriving DecidableEq, Repr

/-- R53: the journal room that an origin class needs for `n` entries. -/
def State.hasRoom (s : State) (o : Origin) (n : Nat) : Bool :=
  match o with
  | .host => decide (n = 0) || decide (n + 8 ≤ s.journalFree)
  | .reserved => true
  | .field => decide (n ≤ s.journalFree)

/-- R44: the failure of one count after a change, if it fails. -/
def countFail (slot : Nat) (now : Nat) (change : Int) : Option MoveFail :=
  if (now : Int) + change < 0 then some (.shortStock slot)
  else if (maxPieces : Int) < now + change then some (.amountRange (some slot))
  else none

/-- R3: the strap size of a slot, where it has one. -/
def Denom.strap? : Denom → Option Nat
  | .note _ k => some k
  | .unused => none
  | .coin _ => none

/-- R44: the failure of one slot after a stock change: a count out of range, or a strapped count that is no whole
multiple of the strap size, for which R47 gives no code and the model answers AMOUNT_RANGE (log 41). -/
def stockFail (s : State) (c : StockChange) : Option MoveFail :=
  let k := s.slotStock c.slot
  (countFail c.slot k.strapped c.strapped).or
    ((countFail c.slot k.loose c.loose).or
      ((countFail c.slot k.unfit c.unfit).or
        ((countFail c.slot k.coin c.coin).or
          (match (s.denom c.slot).strap? with
           | none => none
           | some n => if ((k.strapped : Int) + c.strapped) % (n : Int) = 0 then none else some (.amountRange (some c.slot))))))

/-- R50: the failure of the suspect register after an addition. -/
def suspectFail (s : State) (c : Nat × Nat) : Option MoveFail :=
  if maxPieces < s.suspect c.1 + c.2 then some (.amountRange (some c.1)) else none

/-- The slot a failure names. -/
def MoveFail.slot : MoveFail → Option Nat
  | .shortStock i => some i
  | .amountRange i => i
  | .wrongState => none
  | .journalFull => none

/-- R47 check 3: the first slot, in slot order, whose stock count or suspect count fails. -/
def stockCheck (m : Movement) (s : State) : Option MoveFail :=
  slotNumbers.findSome? (fun i =>
    (m.stock.filter (fun c => c.slot = i)).findSome? (stockFail s) |>.or
      ((m.suspects.filter (fun c => c.1 = i)).findSome? (suspectFail s)))

/-- R47: the status of a host request whose movement fails. -/
def MoveFail.status : MoveFail → Status
  | .wrongState => .wrongState
  | .journalFull => .journalFull
  | .shortStock _ => .shortStock
  | .amountRange _ => .amountRange

/-- R47: the change of the accountability a movement makes. -/
def Movement.delta (m : Movement) : Int := (m.entries.map EntrySpec.delta).sum

/-- R47: the checks of a movement in their order. -/
def checkMovement (m : Movement) (s : State) : Option MoveFail :=
  if decide (m.origin = .host) && decide (s.acu.day ≠ .dayOpen) then some .wrongState
  else if !s.hasRoom m.origin m.entries.length then some .journalFull
  else
    match stockCheck m s with
    | some f => some f
    | none => if amountInRange (s.acu.accountability + m.delta) then none else some (.amountRange none)

/-- R51: the next sequence number after one is taken. -/
def seqAfter (n : Nat) : Nat := if n = 99999999 then 1 else n + 1

/-- R51, R52: one entry is written. -/
def writeEntry (a : Acu) (e : EntrySpec) : Acu :=
  { a with
    accountability := a.accountability + e.delta
    journal := a.journal ++ [⟨a.nextSeq, a.clock, e.kind, e.ref, e.till, e.amount, a.accountability + e.delta⟩]
    nextSeq := seqAfter a.nextSeq }

/-- R47: one stock change is made. -/
def applyStock (t : Table SlotStock) (c : StockChange) : Table SlotStock :=
  let k := Table.get SlotStock.initial t c.slot
  Table.set SlotStock.initial t c.slot
    ⟨((k.strapped : Int) + c.strapped).toNat, ((k.loose : Int) + c.loose).toNat, ((k.unfit : Int) + c.unfit).toNat,
     ((k.coin : Int) + c.coin).toNat⟩

/-- R50: one suspect count is added. -/
def applySuspect (t : Table Nat) (c : Nat × Nat) : Table Nat := Table.set 0 t c.1 (Table.get 0 t c.1 + c.2)

/-- R49: a charge to a variance account. -/
def chargeAccount (c : Option (Account × Int)) (s : State) : State :=
  match c with
  | none => s
  | some (.courier, v) => { s with acu.courier := s.acu.courier.charge v }
  | some (.unattributed, v) => { s with acu.unattributed := s.acu.unattributed.charge v }
  | some (.till n, v) => putTill n { s.till n with day := (s.till n).day.charge v } s

/-- R47, R54: a movement is applied whole; a RESERVED one ends its reservation of 3 entries. -/
def applyMovement (m : Movement) (s : State) : State :=
  let a : Acu :=
    { s.acu with
      stock := m.stock.foldl applyStock s.acu.stock
      suspects := m.suspects.foldl applySuspect s.acu.suspects
      reserved := if m.origin = .reserved then s.acu.reserved - 3 else s.acu.reserved }
  syncJournal (chargeAccount m.charge { s with acu := m.entries.foldl writeEntry a })

/-- R54: a reservation ends with no entry written. -/
def endReservation (s : State) : State := syncJournal { s with acu.reserved := s.acu.reserved - 3 }

/-- R54: a reservation of 3 entries is made. -/
def makeReservation (s : State) : State := syncJournal { s with acu.reserved := s.acu.reserved + 3 }

/-- R51: the till that an entry about a bag names. -/
def Source.till? : Source → Option Nat
  | .till n _ => some n
  | .courier _ => none
  | .office => none
  | .unknown => none

/-- R49: the account that a bag's variance charges. -/
def Source.account : Source → Option Account
  | .till n _ => some (.till n)
  | .courier _ => some .courier
  | .office => none
  | .unknown => some .unattributed

end Sys2Proof.Machine
end

