-- ==== Sys2Proof/Machine/Operands.lean ====
section
/-!
DEFINITION. What every command meets first: the Host Port taking a request (R195 to R197), the delivery of a unit
record (R201), the part's operation (R202, R203), the authority check (R76), and the checks of request fields.
-/

namespace Sys2Proof.Machine

open Sys2Proof

/-- What a command answers. -/
abbrev Out := Host.Outcome State Fault Refusal

/-! ## Requests -/

/-- A refusal by the owning rule: its status code and the fields it names. -/
structure Refused where
  status : Status
  fields : List Field
  deriving DecidableEq, Repr

/-- A request taken: the state after, the status and the reply's fields. -/
structure Answered where
  state  : State
  status : Status
  fields : List Field
  deriving DecidableEq, Repr

/-- The checks of a request, in order: the first that fails refuses it. -/
abbrev Check (α : Type) := Except Refused α

/-- One check of a refusal table. -/
def require (p : Bool) (status : Status) (fields : List Field := []) : Check Unit :=
  if p then .ok () else .error ⟨status, fields⟩

/-- Something the rest of the request needs, or the refusal given for its absence. -/
def requireSome {α : Type} (x : Option α) (status : Status) (fields : List Field := []) : Check α :=
  match x with
  | some a => .ok a
  | none => .error ⟨status, fields⟩

/-- A request that is taken with status OK. -/
def answerOk (s : State) (fields : List Field) : Check Answered := .ok ⟨s, .ok, fields⟩

/-- R202, R203: the part has its supply and RESET is not asserted. -/
def State.operating (s : State) : Bool := s.sys.powered && !s.sys.resetAsserted

/-- R197: a reply is formed; replies leave in the order they are formed. -/
def formReply (r : Reply) (s : State) : State := { s with hpt.replies := s.hpt.replies ++ [r] }

/-- R195, R196: a frame is answered without being taken.  After a RESTART answered OK the part makes its start once that
reply has been sent (R200), so no later answer could leave and none is formed (log 8). -/
def answerFrame (r : Reply) (s : State) : State := if s.hpt.restartPending then s else formReply r s

/-- R196: the replies formed are sent before the next request is taken (log 2). -/
def sendReplies (s : State) : State :=
  { s with hpt.sent := s.hpt.sent ++ s.hpt.replies.map .reply, hpt.replies := [] }

/-- R196: the request at the head of the input buffer, or one that arrives at an empty buffer, is the next taken. -/
def State.nextIs (s : State) (i : Instr) : Bool :=
  match s.hpt.buffer with
  | [] => true
  | j :: _ => decide (j = i)

/-- R196: a request that arrives behind others joins the buffer; with 4 frames held it is answered BUSY. -/
def arrive (i : Instr) (tag kind : Nat) (s : State) : State :=
  if s.hpt.buffer.length < 4 then { s with hpt.buffer := s.hpt.buffer ++ [i] }
  else answerFrame ⟨tag, kind, .busy, []⟩ s

/-- The state in which a request is taken: it has left the buffer and the replies before it are sent. -/
def takeFrom (s : State) : State := sendReplies { s with hpt.buffer := s.hpt.buffer.tail }

/-- R196, R197: a request is taken by its owner and its reply formed; a refusal changes nothing. -/
def answerRequest (tag : Nat) (k : ReqKind) (body : State → Check Answered) (s : State) : State :=
  match body (takeFrom s) with
  | .ok a => formReply ⟨tag, k.code, a.status, a.fields⟩ a.state
  | .error r => formReply ⟨tag, k.code, r.status, r.fields⟩ (takeFrom s)

/-- R196: a request command: taken when it is next; otherwise it arrives behind the requests that wait (log 1).
After a RESTART has been answered no request is taken (R200). -/
def hostRequest (i : Instr) (tag : Nat) (k : ReqKind) (body : State → Check Answered) (s : State) : Out :=
  if !s.operating then .next s
  else if s.hpt.restartPending || !s.nextIs i then .next (arrive i tag k.code s)
  else .next (answerRequest tag k body s)

/-! ## Unit records and events -/

/-- R201: a record is discarded: the unit error count rises by 1, stopping at 65,535. -/
def discardRecord (s : State) : State := { s with ubc.unitErrors := min 65535 (s.ubc.unitErrors + 1) }

/-- R201, R202: a record is delivered to its owner; one with fields outside their sets, or that arrives while
RESET is asserted, is discarded. -/
def unitRecord (fieldsOk : Bool) (deliver : State → State) (s : State) : Out :=
  if !s.sys.powered then .next s
  else if s.sys.resetAsserted || !fieldsOk then .next (discardRecord s)
  else .next (deliver s)

/-- R202: an event of the Host Port or of a timer: nothing while RESET is asserted or the supply is lost. -/
def event (f : State → State) (s : State) : Out := if s.operating then .next (f s) else .next s

/-- Background work of a block, which RESET does not stop (log 6). -/
def background (f : State → State) (s : State) : Out := if s.sys.powered then .next (f s) else .next s

/-! ## The authority check (R76) -/

/-- R76: a role: a reader and a set of classes. -/
abbrev Role := Reader × List CredClass

def custodianAtOffice : List Role := [(.office, [.custodian, .supervisor])]
def supervisorAtOffice : List Role := [(.office, [.supervisor])]
def twoSupervisors : List Role := [(.office, [.supervisor]), (.office, [.supervisor])]
def auditorAtOffice : List Role := [(.office, [.auditor])]
def cashierWithCustodian : List Role := [(.office, [.cashier]), (.office, [.custodian, .supervisor])]
def supervisorOrAuditor : List Role := [(.office, [.supervisor, .auditor])]
def twoCustodiansAtStrongroom : List Role :=
  [(.strongroom, [.custodian, .supervisor]), (.strongroom, [.custodian, .supervisor])]

/-- R76: why a role fails. -/
inductive AuthReason where
  | notPresent | wrongClass | notDistinct
  deriving DecidableEq, Repr

/-- R76: the number of a reason. -/
def AuthReason.code : AuthReason → Nat
  | .notPresent => 1
  | .wrongClass => 2
  | .notDistinct => 3

/-- R72: a credential's entry in a reader's list. -/
def State.presenceOf (s : State) (r : Reader) (cred : Nat) : Option Presence :=
  (s.presence r).find? (fun e => decide (e.number = cred))

/-- R76: the test of one role; `earlier` holds the credentials carried for the roles before it.  A credential that is
both of another class and carried already fails with WRONG_CLASS: the model's choice (log 44). -/
def roleFailure (role : Role) (cred : Nat) (earlier : List Nat) (s : State) : Option AuthReason :=
  match s.presenceOf role.1 cred with
  | none => some .notPresent
  | some e =>
    if e.cls ∈ role.2 then (if cred ∈ earlier then some .notDistinct else none) else some .wrongClass

/-- R76: the first role that does not pass, with its position and reason.  A role whose credential the request leaves out
(SET_CLOCK, R58) fails with NOT_PRESENT: the model's choice (log 45). -/
def authorityFailure (s : State) : List Role → List Nat → List Nat → Option (Nat × AuthReason)
  | [], _, _ => none
  | _ :: _, [], earlier => some (earlier.length + 1, .notPresent)
  | r :: rs, c :: cs, earlier =>
    match roleFailure r c earlier s with
    | some x => some (earlier.length + 1, x)
    | none => authorityFailure s rs cs (earlier ++ [c])

/-- R76: the authority check of a request. -/
def authority (roles : List Role) (creds : List Nat) (s : State) : Check Unit :=
  match authorityFailure s roles creds [] with
  | none => .ok ()
  | some (n, x) => .error ⟨.noAuthority, [fNum 1 n, fNamed x.code]⟩

/-! ## Checks of request fields -/

/-- Section 4.2: the ranges of identifiers. -/
def validRef (r : Nat) : Bool := decide (1 ≤ r) && decide (r ≤ 1024)
def validTill (n : Nat) : Bool := decide (1 ≤ n) && decide (n ≤ 128)
def validTagNo (t : Nat) : Bool := decide (1 ≤ t) && decide (t ≤ 99999999)
def validCred (c : Nat) : Bool := decide (1 ≤ c) && decide (c ≤ 999999)
def validSafe (n : Nat) : Bool := decide (1 ≤ n) && decide (n ≤ 6)
def validVisit (n : Nat) : Bool := decide (1 ≤ n) && decide (n ≤ 9999)

/-- R160: the doors that exist. -/
def validDoor : DoorName → Bool
  | .strongroom => true
  | .drop n => validSafe n
  | .other => false

/-- R1: an Amount field that is well formed. -/
def amountArg (a : AmountArg) : Option Int :=
  match a with
  | none => none
  | some v => if amountInRange v then some v else none

/-- An Amount field that must be at least zero. -/
def amountAtLeastZero (a : AmountArg) : Option Int := (amountArg a).filter (fun v => decide (0 ≤ v))

/-- An Amount field that must be greater than zero. -/
def amountPositive (a : AmountArg) : Option Int := (amountArg a).filter (fun v => decide (0 < v))

/-- R22: a bag reference that names a bag: BAD_FIELD outside 1 to 1024, NOT_FOUND for a free slot. -/
def requireBag (r : Nat) (s : State) : Check Bag := do
  require (validRef r) .badField
  requireSome (s.bag r) .notFound

/-- R57: every fourth year from 2000 is a leap year. -/
def daysIn (year month : Nat) : Nat :=
  if month = 2 then (if year % 4 = 0 then 29 else 28)
  else if month = 4 ∨ month = 6 ∨ month = 9 ∨ month = 11 then 30
  else 31

/-- R58: a valid date. -/
def validDate (d : Date) : Bool :=
  decide (2000 ≤ d.year) && decide (d.year ≤ 2099) && decide (1 ≤ d.month) && decide (d.month ≤ 12)
  && decide (1 ≤ d.day) && decide (d.day ≤ daysIn d.year d.month)

/-- R58: a valid clock reading. -/
def validClock (c : ClockTime) : Bool := validDate c.date && decide (c.secs ≤ 86399)

/-- The order of dates. -/
def dateKey (d : Date) : Nat := (d.year * 100 + d.month) * 100 + d.day

/-- The order of clock readings. -/
def clockKey (c : ClockTime) : Nat := dateKey c.date * 100000 + c.secs

/-- R160: a visit window covers the present time; not while the clock is not set. -/
def windowCovers (opens closes : ClockTime) (s : State) : Bool :=
  match s.acu.clock with
  | none => false
  | some now => decide (clockKey opens ≤ clockKey now) && decide (clockKey now ≤ clockKey closes)

/-- No number twice. -/
def distinct (l : List Nat) : Bool := decide l.Nodup

/-- R7: the tests of one slot of a tally. -/
def slotCountOk (d : Denom) (c : SlotCount) : Bool :=
  decide (c.fit ≤ maxPieces) && decide (c.unfit ≤ maxPieces) && decide (c.suspect ≤ maxPieces)
  && decide (c.coin ≤ maxPieces)
  && (match d with
      | .note _ _ => decide (c.coin = 0) && decide (c.fit + c.unfit ≤ maxPieces)
      | .coin _ => decide (c.fit = 0) && decide (c.unfit = 0) && decide (c.suspect = 0)
      | .unused => decide (c.fit = 0) && decide (c.unfit = 0) && decide (c.suspect = 0) && decide (c.coin = 0))

/-- R6: a slot of a tally. -/
def tallySlot (t : Tally) (i : Nat) : SlotCount := Table.get SlotCount.initial t.slots i

/-- R7: the checks of a tally. -/
def tallyOk (t : Tally) (s : State) : Bool :=
  slotNumbers.all (fun i => slotCountOk (s.denom i) (tallySlot t i)) && decide (t.unreadable ≤ maxPieces)

/-- A tally with the coin counts given written into it. -/
def withCoins (t : Tally) (coins : Table Nat) : Tally :=
  { t with slots := slotNumbers.foldl (fun sl i =>
      Table.set SlotCount.initial sl i { Table.get SlotCount.initial sl i with coin := Table.get 0 coins i }) t.slots }

/-- R7: the checks of a coin part. -/
def coinsOk (coins : Table Nat) (s : State) : Bool := tallyOk (withCoins Tally.initial coins) s

/-- R8: identical tallies. -/
def identicalTallies (a b : Tally) : Bool := slotNumbers.all (fun i => decide (tallySlot a i = tallySlot b i))

/-- R13, R14: the counted value of a tally under the denomination table. -/
def valueTally (t : Tally) (s : State) : Option Int :=
  valueSlots (slotNumbers.map (fun i => (s.denom i, tallySlot t i))) 0

/-- A slot in use (R3). -/
def Denom.inUse : Denom → Bool
  | .unused => false
  | .note _ _ => true
  | .coin _ => true

/-- The face value of a slot, 0 when it has none. -/
def Denom.face : Denom → Nat
  | .unused => 0
  | .note f _ => f
  | .coin f => f

/-- R2, R197: a part number of a query: left out it is 1. -/
def requirePart (part : Option Nat) (fields : List Field) : Check (List Field) :=
  let parts := partsOf fields
  let n := part.getD 1
  match (if n = 0 then none else parts[n - 1]?) with
  | some p => .ok (fNum 1 n :: fNum 1 parts.length :: p)
  | none => .error ⟨.badField, []⟩

end Sys2Proof.Machine
end

