-- ==== Sys2Proof/Machine/Lanes.lean ====
section
/-!
DEFINITION. The Counting Lane Controller (chapter 6): loading, running, notes, pockets, faults, closing and
completing batches, lanes under lockdown and the watch halt.
-/

namespace Sys2Proof.Machine

open Sys2Proof

/-! ## Shared lane operations -/

/-- R109: a hold cause is added to a lane's hold set. -/
def addHold (n : Nat) (c : HoldCause) (s : State) : State :=
  let l := s.lane n
  if l.holds.has c then s
  else
    let after : LaneState := if l.state = .running ∨ l.state = .ready then .held else l.state
    let holds := l.holds.put c true
    let s1 := putLane n { l with holds := holds, state := after } s
    let s2 := if l.state = .running then command (.lane n) .stop s1 else s1
    notify .hold [fLane (some n), fNamed (codeIn HoldCause.list c), fNamed (codeIn LaneState.list after),
      fSet holds.toList] s2

/-- R122, R123: the FAULT notice; `noBatch` is the mark NO_BATCH. -/
def notifyFault (n : Nat) (cause : FaultCause) (st : LaneState) (ref : Option Nat) (noBatch : Bool) (s : State) : State :=
  notify .fault [fLane (some n), fNamed (codeIn FaultCause.list cause), fNamed (codeIn LaneState.list st), fRef ref,
    fNamed (flagByte noBatch)] s

/-- R122: a lane in READY, RUNNING, HELD or CLOSING faults. -/
def faultLane (n : Nat) (cause : FaultCause) (s : State) : State :=
  let l := s.lane n
  let s1 := putLane n { l with state := .fault, fault := some cause } s
  let s2 := if l.state = .running then command (.lane n) .stop s1 else s1
  notifyFault n cause .fault (l.batch.map Batch.ref) false s2

/-- R20: the strap counters of a new batch. -/
def loadedStraps (s : State) : Table Nat :=
  slotNumbers.foldl (fun t i => Table.set 0 t i (((s.denom i).strap?).getD 0)) []

/-- R104: a new batch. -/
def newBatch (ref : Nat) (urgent : Bool) (s : State) : Batch :=
  ⟨ref, Tally.initial, loadedStraps s, [], false, urgent, false⟩

/-- R111: a HELD lane whose hold set is empty goes to READY. -/
def settleHeld (l : Lane) : Lane := if l.state = .held ∧ l.holds = HoldSet.empty then { l with state := .ready } else l

/-- R120, R121: the lane after its current batch has gone: pocket counts 0, hold set empty, the top suspended
batch current and READY, or IDLE. -/
def popOrIdle (l : Lane) : Lane :=
  match l.stack with
  | [] => { l with state := .idle, batch := none, stacker := 0, reject := 0, holds := HoldSet.empty }
  | x :: rest =>
    { l with state := .ready, batch := some x.batch, stack := rest, stacker := 0, reject := 0, holds := HoldSet.empty }

/-- R120: the lane acts on the completion of its batch's valuation. -/
def completeLane (n : Nat) (s : State) : State :=
  let l := s.lane n
  if l.state = .fault ∨ l.state = .faultLocked then
    match l.stack with
    | [] => putLane n { l with batch := none } s
    | x :: rest => putLane n { l with batch := some x.batch, stack := rest } s
  else putLane n (popOrIdle l) s

/-- R125: the lockdown latch is set: LOCKDOWN is added to every lane in RUNNING, READY or HELD, in number order: the model's
choice (log 51). -/
def lockdownLanes (s : State) : State :=
  laneNumbers.foldl (fun s n =>
    if (s.lane n).state = .running ∨ (s.lane n).state = .ready ∨ (s.lane n).state = .held then
      addHold n .lockdown s
    else s) s

/-- R126: the lanes a watch halt stops, in number order: the model's choice (log 51). -/
def State.runningLanes (s : State) : List Nat := laneNumbers.filter (fun n => decide ((s.lane n).state = .running))

/-- R126: a watch halt: WATCH is added to every lane in RUNNING at that moment. -/
def haltLanes (s : State) : State := s.runningLanes.foldl (fun s n => addHold n .watch s) s

/-- R63: a lane as OPEN_OFFICE leaves it. -/
def switchOn (l : Lane) : Lane := if l.state = .off then { l with state := .idle } else l

/-- R64: a lane as CLOSE_OFFICE leaves it. -/
def switchOff (l : Lane) : Lane := if l.state = .idle then { l with state := .off } else l

/-- R63: OPEN_OFFICE moves every lane from OFF to IDLE. -/
def lanesOn (s : State) : State :=
  { s with clc.lanes := Table.update Lane.initial switchOn laneNumbers s.clc.lanes }

/-- R64: CLOSE_OFFICE moves every lane from IDLE to OFF. -/
def lanesOff (s : State) : State :=
  { s with clc.lanes := Table.update Lane.initial switchOff laneNumbers s.clc.lanes }

/-- R76: the class of a credential present at OFFICE. -/
def State.officeClass (s : State) (cred : Nat) : Option CredClass := (s.presenceOf .office cred).map Presence.cls

/-! ## LOAD_LANE -/

/-- R106, R107: the bag goes to COUNTING at LANE n. -/
def bagToLane (n ref : Nat) (b : Bag) (s : State) : State := putBag ref { b with state := .counting, custody := .lane n } s

/-- R105 to R107. -/
def loadLane (n ref : Nat) (urgent : Bool) (cred : Nat) (s : State) : Check Answered := do
  authority custodianAtOffice [cred] s
  require (decide (n ≤ 3) && validRef ref) .badField
  let b ← requireSome (s.bag ref) .notFound
  require (decide (s.acu.day = .dayOpen)) .wrongState
  let l := s.lane n
  require (decide (l.state ≠ .off)) .laneOff
  require (decide (l.state ≠ .fault) && decide (l.state ≠ .faultLocked)) .laneFault
  require (decide (l.state ≠ .running) && decide (l.state ≠ .closing) && (urgent || decide (l.state = .idle))) .busy
  require (decide (l.stacker = 0) && decide (l.reject = 0)) .pocketsNotEmpty
  require (decide (l.state = .idle) || decide (l.stack.length < 3)) .stackFull
  let detail := [fNamed (codeIn Purpose.list b.purpose), fNamed (codeIn BagState.list b.state)]
  require (decide (b.purpose = .takings) || decide (b.purpose = .skim) || decide (b.purpose = .changeIn)) .wrongState detail
  require (decide (b.state = .intact) || decide (b.state = .quarantined)) .wrongState detail
  require (decide (b.custody = .bench)) .bagNotAtBench
  let s1 := bagToLane n ref b s
  match l.state, l.batch with
  | .idle, _ =>
    answerOk (putLane n { l with state := .ready, batch := some (newBatch ref urgent s), holds := HoldSet.empty } s1)
      [fLane (some n), fRef (some ref), fNamed (codeIn LaneState.list .ready)]
  | _, cur =>
    let stack := (cur.map (fun x => (⟨x, l.holds⟩ : Suspended))).toList ++ l.stack
    let l1 : Lane := { l with state := .ready, batch := some (newBatch ref true s), stack := stack, holds := HoldSet.empty }
    answerOk (putLane n l1 s1)
      [fLane (some n), fRef (some ref), fNamed (codeIn LaneState.list .ready), fNum 1 stack.length]

/-- LOAD_LANE (R105 to R107). -/
def execLoadLane (tag lane ref : Nat) (urgent : Bool) (cred : Nat) (s : State) : Out :=
  hostRequest (.loadLane tag lane ref urgent cred) tag .loadLane (loadLane lane ref urgent cred) s

/-! ## START, STOP, RESUME -/

/-- R108. -/
def startLane (n cred : Nat) (s : State) : Check Answered := do
  authority custodianAtOffice [cred] s
  require (decide (n ≤ 3)) .badField
  require (decide ((s.lane n).state = .ready)) .wrongState
  require (!s.csc.latch) .lockdown
  answerOk (command (.lane n) .run (putLane n { s.lane n with state := .running } s)) []

/-- START (R108). -/
def execStart (tag lane cred : Nat) (s : State) : Out :=
  hostRequest (.start tag lane cred) tag .start (startLane lane cred) s

/-- A lane's state and hold set as a reply carries them. -/
def laneStateFields (l : Lane) : List Field := [fNamed (codeIn LaneState.list l.state), fSet l.holds.toList]

/-- R110. -/
def stopLane (n : Nat) (s : State) : Check Answered := do
  require (decide (n ≤ 3)) .badField
  require (decide ((s.lane n).state = .running) || decide ((s.lane n).state = .held)) .wrongState
  let s1 := addHold n .operator s
  answerOk s1 (laneStateFields (s1.lane n))

/-- STOP (R110). -/
def execStop (tag lane : Nat) (s : State) : Out := hostRequest (.stop tag lane) tag .stop (stopLane lane) s

/-- R111: the hold set that a RESUME leaves. -/
def resumedHolds (h : HoldSet) (latch : Bool) : HoldSet :=
  { h with operator := false, watch := false, lockdown := h.lockdown && latch }

/-- R111. -/
def resumeLane (n cred : Nat) (s : State) : Check Answered := do
  authority custodianAtOffice [cred] s
  require (decide (n ≤ 3)) .badField
  require (decide ((s.lane n).state = .held)) .wrongState
  let l := settleHeld { s.lane n with holds := resumedHolds (s.lane n).holds s.csc.latch }
  answerOk (putLane n l s) (laneStateFields l)

/-- RESUME (R111). -/
def execResume (tag lane cred : Nat) (s : State) : Out :=
  hostRequest (.resume tag lane cred) tag .resume (resumeLane lane cred) s

/-! ## CLOSE_BATCH, ABORT_BATCH, CLEAR_FAULT -/

/-- R54: a reservation of 3 journal entries: WRONG_STATE unless the day is OPEN, then JOURNAL_FULL. -/
def requireReservation (s : State) : Check Unit := do
  require (decide (s.acu.day = .dayOpen)) .wrongState
  require (s.hasRoom .host 3) .journalFull

/-- R118, R119. -/
def closeBatch (n : Nat) (coins : Option (Table Nat)) (cred : Nat) (s : State) : Check Answered := do
  authority custodianAtOffice [cred] s
  require (decide (n ≤ 3) && coinsOk (coins.getD []) s) .badField
  let l := s.lane n
  require (decide (l.state ≠ .off)) .laneOff
  require (decide (l.state ≠ .idle)) .wrongState
  require (decide (l.state ≠ .fault) && decide (l.state ≠ .faultLocked)) .laneFault
  require (decide (l.state ≠ .running) && decide (l.state ≠ .closing)) .busy
  require (decide (s.rcu.queue.length < 6)) .busy
  requireReservation s
  let l1 : Lane :=
    { l with
      state := .closing
      batch := l.batch.map (fun x => { x with tally := withCoins x.tally (coins.getD []), queued := true })
      holds := { l.holds with operator := false, watch := false, lockdown := false } }
  let s1 := putLane n l1 { s with rcu.queue := s.rcu.queue ++ [.lane n] }
  .ok ⟨makeReservation s1, .accepted, [fLane (some n), fRef (l.batch.map Batch.ref)]⟩

/-- CLOSE_BATCH (R118, R119). -/
def execCloseBatch (tag lane : Nat) (coins : Option (Table Nat)) (cred : Nat) (s : State) : Out :=
  hostRequest (.closeBatch tag lane coins cred) tag .closeBatch (closeBatch lane coins cred) s

/-- R121. -/
def abortBatch (n cred : Nat) (s : State) : Check Answered := do
  authority custodianAtOffice [cred] s
  require (decide (n ≤ 3)) .badField
  let l := s.lane n
  require (decide (l.state ≠ .off)) .laneOff
  require (decide (l.state ≠ .idle)) .wrongState
  require (decide (l.state ≠ .running) && decide (l.state ≠ .closing)) .busy
  require (decide (l.state ≠ .fault) && decide (l.state ≠ .faultLocked)) .laneFault
  let ref := (l.batch.map Batch.ref).getD 0
  let s1 := putLane n (popOrIdle l) (returnBag ref s)
  answerOk s1 [fRef (some ref), fNamed (codeOpt BagState.list ((s1.bag ref).map Bag.state)),
    fNamed (codeIn LaneState.list (s1.lane n).state)]

/-- ABORT_BATCH (R121). -/
def execAbortBatch (tag lane cred : Nat) (s : State) : Out :=
  hostRequest (.abortBatch tag lane cred) tag .abortBatch (abortBatch lane cred) s

/-- R124: the lane that a CLEAR_FAULT leaves. -/
def clearedLane (l : Lane) : Lane :=
  match l.batch with
  | some _ => { l with state := .held, fault := none, locked := false, holds := { l.holds with operator := true } }
  | none => { l with state := .idle, fault := none, locked := false, holds := HoldSet.empty }

/-- R124. -/
def clearFault (n cred : Nat) (s : State) : Check Answered := do
  authority custodianAtOffice [cred] s
  require (decide ((s.lane n).state ≠ .faultLocked) || decide (s.officeClass cred = some .supervisor)) .noAuthority
    [fNum 1 1, fNamed AuthReason.wrongClass.code]
  require (decide (n ≤ 3)) .badField
  let l := s.lane n
  require (decide (l.state = .fault) || decide (l.state = .faultLocked)) .wrongState
  require (!(l.batch.map Batch.queued).getD false) .busy
  answerOk (putLane n (clearedLane l) s) (laneStateFields (clearedLane l))

/-- CLEAR_FAULT (R124). -/
def execClearFault (tag lane cred : Nat) (s : State) : Out :=
  hostRequest (.clearFault tag lane cred) tag .clearFault (clearFault lane cred) s

/-! ## QUERY_LANE -/

/-- R129: the strap counters and full straps of a batch, NOTE slots only. -/
def strapItems (b : Batch) (s : State) : List (List Atom) :=
  (slotNumbers.filter (fun i => (s.denom i).strap?.isSome)).map (fun i =>
    [.packed 1 i, .packed 2 (Table.get 0 b.straps i), .packed 3 (Table.get 0 b.full i)])

/-- R129: what QUERY_LANE reports.  The tally and the strap list of the current batch stand behind presence bytes (11.7);
its late-notes, urgent and queued marks do not, and are 00 when there is no batch (log 13). -/
def laneFields (l : Lane) (s : State) : List Field :=
  [fNamed (codeIn LaneState.list l.state), fNum 2 l.stacker, fNum 1 l.reject, fSet l.holds.toList,
   fNamed (codeOpt FaultCause.list l.fault), fNamed (if l.locked then codeIn FaultCause.list .jam else 0),
   fRef (l.batch.map Batch.ref), fOpt (l.batch.map (fun b => [.tally b.tally]))]
  ++ fManyOpt (l.batch.map (fun b => strapItems b s))
  ++ [fFlag ((l.batch.map Batch.lateNotes).getD false), fFlag ((l.batch.map Batch.urgent).getD false),
   fFlag ((l.batch.map Batch.queued).getD false),
   .many (l.stack.map (fun x => [.packed 2 x.batch.ref, .byte (flagByte x.batch.urgent), .bits (bitsOf x.holds.toList),
     .tally x.batch.tally]))]

/-- R129. -/
def queryLane (n : Nat) (part : Option Nat) (s : State) : Check Answered := do
  require (decide (n ≤ 3)) .badField
  let fs ← requirePart part (laneFields (s.lane n) s)
  answerOk s fs

/-- QUERY_LANE (R129). -/
def execQueryLane (tag lane : Nat) (part : Option Nat) (s : State) : Out :=
  hostRequest (.queryLane tag lane part) tag .queryLane (queryLane lane part) s

/-! ## Unit records -/

/-- R115: a stray note is reported and changes nothing else.  UNREADABLE is the absent slot, the byte FF, with no mark byte
after it: the model's choice (log 13). -/
def strayNote (n : Nat) (slot : Option Nat) (f : Fitness) (suspect : Bool) (s : State) : State :=
  notify .strayNote [fLane (some n), fNamed (codeIn LaneState.list (s.lane n).state), fLane slot,
    fNamed (codeIn Fitness.list f), fFlag suspect] s

/-- A slot of a batch's tally written. -/
def Batch.putSlot (b : Batch) (i : Nat) (c : SlotCount) : Batch :=
  { b with tally := { b.tally with slots := Table.set SlotCount.initial b.tally.slots i c } }

/-- R20: a FIT note lowers the slot's strap counter, which at 0 raises the full straps and loads the counter again. -/
def Batch.countStrap (b : Batch) (i strap : Nat) : Batch :=
  let c := Table.get 0 b.straps i - 1
  if c = 0 then { b with straps := Table.set 0 b.straps i strap, full := Table.set 0 b.full i (Table.get 0 b.full i + 1) }
  else { b with straps := Table.set 0 b.straps i c }

/-- R116: a note tallied in CLOSING is late. -/
def Batch.markLate (b : Batch) (st : LaneState) : Batch := if st = .closing then { b with lateNotes := true } else b

/-- R113: a stacker note of NOTE slot `i`. -/
def stackerNote (n i strap : Nat) (f : Fitness) (b : Batch) (s : State) : State :=
  let l := s.lane n
  let c := tallySlot b.tally i
  if 220 ≤ l.stacker then faultLane n .overflow s
  else if maxPieces ≤ (match f with | .fit => c.fit | .unfit => c.unfit) then faultLane n .countRange s
  else
    let b1 := match f with
      | .fit => (b.putSlot i { c with fit := c.fit + 1 }).countStrap i strap
      | .unfit => b.putSlot i { c with unfit := c.unfit + 1 }
    let s1 := putLane n { l with batch := some (b1.markLate l.state), stacker := l.stacker + 1 } s
    if l.stacker + 1 = 200 then addHold n .stackerFull s1 else s1

/-- R114: a reject note; `slot` is its NOTE slot when it counts as a suspect. -/
def rejectNote (n : Nat) (slot : Option Nat) (b : Batch) (s : State) : State :=
  let l := s.lane n
  let now := match slot with
    | some i => (tallySlot b.tally i).suspect
    | none => b.tally.unreadable
  if 50 ≤ l.reject then faultLane n .overflow s
  else if maxPieces ≤ now then faultLane n .countRange s
  else
    let b1 := match slot with
      | some i => b.putSlot i { tallySlot b.tally i with suspect := now + 1 }
      | none => { b with tally := { b.tally with unreadable := now + 1 } }
    let s1 := putLane n { l with batch := some (b1.markLate l.state), reject := l.reject + 1 } s
    if l.reject + 1 = 50 then addHold n .rejectFull s1 else s1

/-- R112 to R116: a NOTE record; a slot above 7 is taken as UNREADABLE. -/
def takeNote (n : Nat) (slot : Option Nat) (f : Fitness) (suspect : Bool) (s : State) : State :=
  let slot := slot.filter (fun i => decide (i ≤ 7))
  let l := s.lane n
  match l.batch with
  | none => strayNote n slot f suspect s
  | some b =>
    if l.state = .running ∨ l.state = .held ∨ l.state = .closing then
      match slot with
      | none => rejectNote n none b s
      | some i =>
        match (s.denom i).strap? with
        | none => rejectNote n none b s
        | some strap => if suspect then rejectNote n (some i) b s else stackerNote n i strap f b s
    else strayNote n slot f suspect s

/-- NOTE (R112 to R116). -/
def execNote (lane : Nat) (slot : Option Nat) (fitness : Fitness) (suspect : Bool) (s : State) : Out :=
  unitRecord (decide (lane ≤ 3)) (takeNote lane slot fitness suspect) s

/-- R117: a pocket is emptied. -/
def emptyPocket (n : Nat) (p : Pocket) (s : State) : State :=
  let l := s.lane n
  match p with
  | .stacker => putLane n (settleHeld { l with stacker := 0, holds := { l.holds with stackerFull := false } }) s
  | .reject => putLane n (settleHeld { l with reject := 0, holds := { l.holds with rejectFull := false } }) s

/-- POCKET (R117). -/
def execPocket (lane : Nat) (which : Pocket) (s : State) : Out :=
  unitRecord (decide (lane ≤ 3)) (emptyPocket lane which) s

/-- R122, R123: a JAM record.  On a FAULT or FAULT_LOCKED lane that holds no current batch, FAULT carries the reference 0
and not the mark NO_BATCH: the model's choice (log 46). -/
def takeJam (n : Nat) (s : State) : State :=
  let l := s.lane n
  match l.state with
  | .idle => notifyFault n .jam .idle none true s
  | .off => notifyFault n .jam .off none true s
  | .fault =>
    notifyFault n .jam .faultLocked (l.batch.map Batch.ref) false (putLane n { l with state := .faultLocked, locked := true } s)
  | .faultLocked => notifyFault n .jam .faultLocked (l.batch.map Batch.ref) false s
  | .ready => faultLane n .jam s
  | .running => faultLane n .jam s
  | .held => faultLane n .jam s
  | .closing => faultLane n .jam s

/-- JAM (R122, R123). -/
def execJam (lane : Nat) (s : State) : Out := unitRecord (decide (lane ≤ 3)) (takeJam lane) s

end Sys2Proof.Machine
end

