-- ==== Sys2Proof/Machine/Watch.lean ====
section
/-!
DEFINITION. The Watch Unit (chapter 8): conditions and their matching, offers of results and the actions that fire,
writing and rearming entries, the Audit Hold, and QUERY_WATCH.
-/

namespace Sys2Proof.Machine

open Sys2Proof

/-! ## Conditions (R147) -/

/-- R147: the test of one Amount of a variance test; a malformed Amount (R1) satisfies nothing. -/
def amountTest (p : Int → Int → Bool) (a : AmountArg) (v : Int) : Bool :=
  match a with
  | none => false
  | some x => p x v

/-- R147: the variance tests; a result with no variance passes ANY alone. -/
def testPasses (t : VarianceTest) (variance : Option Int) : Bool :=
  match t, variance with
  | .any, _ => true
  | _, none => false
  | .equal a, some v => amountTest (fun x v => decide (v = x)) a v
  | .inside lo hi, some v => amountTest (fun x v => decide (x ≤ v)) lo v && amountTest (fun x v => decide (v ≤ x)) hi v
  | .outside lo hi, some v => amountTest (fun x v => decide (v < x)) lo v || amountTest (fun x v => decide (x < v)) hi v

/-- R147: an unmasked match field equals the result's field; a field the result does not carry equals nothing. -/
def fieldMatches {α : Type} [DecidableEq α] (wanted carried : Option α) : Bool :=
  match wanted with
  | none => true
  | some x => decide (carried = some x)

/-- R147: a condition matches a result. -/
def conditionMatches (c : Condition) (r : WatchResult) : Bool :=
  decide (c.result = some r.kind) && fieldMatches c.sourceKind (some r.sourceKind)
  && fieldMatches c.sourceNumber r.sourceNumber && fieldMatches c.declarer r.declarer
  && fieldMatches c.purpose r.purpose && classSetHas c.classes r.cls && testPasses c.test r.variance

/-- A condition that may be absent matches nothing when it is. -/
def levelMatches (c : Option Condition) (r : WatchResult) : Bool :=
  match c with
  | none => false
  | some c => conditionMatches c r

/-! ## Offers (R148, R149) -/

/-- R149: the source of a result. -/
def WatchResult.source (r : WatchResult) : Captured := ⟨r.sourceKind, r.sourceNumber⟩

/-- R148: an entry that fires. -/
def firedEntry (e : WatchEntry) (r : WatchResult) (level : Nat) (now : Option ClockTime) : WatchEntry :=
  { e with state := .fired, captured := none, firedBy := some ⟨r, level, now⟩ }

/-- R148: one entry checked against a result, on the state it held before the offer; the level it fires at, if any. -/
def checkEntry (r : WatchResult) (now : Option ClockTime) (e : WatchEntry) : WatchEntry × Option Nat :=
  match e.state with
  | .off => (e, none)
  | .fired => (e, none)
  | .armed1 =>
    if levelMatches e.level1 r then
      if e.level2.isSome then
        ({ e with state := .armed2, captured := if e.same then some r.source else none }, none)
      else (firedEntry e r 1 now, some 1)
    else (e, none)
  | .armed2 =>
    if levelMatches e.level2 r && (!e.same || decide (e.captured = some r.source)) then (firedEntry e r 2 now, some 2)
    else (e, none)

/-- R148: an entry that fired on an offer. -/
structure Firing where
  entry  : Nat
  level  : Nat
  action : WatchAction
  deriving DecidableEq, Repr

/-- R148: the firings of an offer, in entry order. -/
def firings (r : WatchResult) (s : State) : List Firing :=
  slotNumbers.filterMap (fun n =>
    (checkEntry r s.acu.clock (s.watchEntry n)).2.map (fun level =>
      ⟨n, level, (s.watchEntry n).action.getD .notice⟩))

/-- R148: an entry as an offer leaves it. -/
def movedEntry (r : WatchResult) (now : Option ClockTime) (e : WatchEntry) : WatchEntry := (checkEntry r now e).1

/-- R148: every entry moved by an offer. -/
def moveEntries (r : WatchResult) (s : State) : State :=
  { s with wcu.entries := Table.update WatchEntry.initial (movedEntry r s.acu.clock) slotNumbers s.wcu.entries }

/-- R151: the till that HOLD_TILL names; a result of another source names none. -/
def heldTill (r : WatchResult) : Option Nat := if r.sourceKind = .till then r.sourceNumber else none

/-- R150: what the WATCH notice carries of a result. -/
def resultFields (r : WatchResult) : List Field :=
  [fNamed (codeIn ResultKind.list r.kind), fRef r.ref, fNamed (codeIn SourceKind.list r.sourceKind),
   fNumOpt 2 r.sourceNumber, fNumOpt 3 r.declarer, fNamed (codeOpt Purpose.list r.purpose),
   fNamed (codeIn Classification.list r.cls), fAmountOpt r.variance]

/-- R150: the WATCH notice of a firing. -/
def notifyWatch (f : Firing) (r : WatchResult) (effect : List Field) (s : State) : State :=
  notify .watch ([fNum 1 f.entry, fNamed (codeIn WatchAction.list f.action), fNum 1 f.level] ++ resultFields r ++ effect) s

/-- R150 to R153: a firing's action and its WATCH notice.  The marks NO_TILL (1), QUARANTINE (1), AS_NOTICE (2) and NO_LANE
(1) stand after the field they replace, and are 0 when it is there (log 13). -/
def takeFiring (r : WatchResult) (s : State) (f : Firing) : State :=
  match f.action with
  | .notice => notifyWatch f r [] s
  | .holdTill =>
    match heldTill r with
    | none => notifyWatch f r [fTill none, fNamed 1] s
    | some n => notifyWatch f r [fTill (some n), fNamed 0] (putTill n { s.till n with hold := true } s)
  | .recount => notifyWatch f r [fNamed (if r.kind = .bag then 1 else 2)] s
  | .haltLanes =>
    let stopped := s.runningLanes
    notifyWatch f r [.many (stopped.map (fun n => [.packed 1 n])), fNamed (flagByte stopped.isEmpty)] (haltLanes s)

/-- R148: a result is offered: the state after, and the actions that fired. -/
def offer (r : WatchResult) (s : State) : State × List WatchAction :=
  let fs := firings r s
  (fs.foldl (takeFiring r) (moveEntries r s), fs.map Firing.action)

/-! ## SET_WATCH (R154) -/

/-- R154 check 4: the source fields of a condition. -/
def sourceOk (c : Condition) : Bool :=
  match c.sourceKind, c.sourceNumber with
  | none, none => true
  | some .till, none => true
  | some .courier, none => true
  | some .unknown, none => true
  | some .till, some n => validTill n
  | some .courier, some n => validVisit n
  | _, _ => false

/-- R147, R154 check 4: the Amounts of a variance test. -/
def testOk (t : VarianceTest) : Bool :=
  match t with
  | .any => true
  | .equal v => (amountArg v).isSome
  | .inside lo hi => match amountArg lo, amountArg hi with
    | some l, some h => decide (l ≤ h)
    | _, _ => false
  | .outside lo hi => match amountArg lo, amountArg hi with
    | some l, some h => decide (l ≤ h)
    | _, _ => false

/-- R147: the purposes a condition may name. -/
def purposeOk (p : Option Purpose) : Bool :=
  match p with
  | none => true
  | some p => decide (p = .takings) || decide (p = .skim) || decide (p = .changeIn)

/-- R154 check 4: a condition. -/
def conditionOk (c : Condition) : Bool :=
  c.result.isSome
  && (c.classes.hasExact || c.classes.hasWithin || c.classes.hasOver || c.classes.hasShort || c.classes.hasRange)
  && sourceOk c && ((c.declarer.map validCred).getD true) && testOk c.test && purposeOk c.purpose
  && (decide (c.result ≠ some .till)
      || (c.purpose.isNone && (c.sourceKind.isNone || decide (c.sourceKind = some .till))))

/-- R147: a variance test as a reply carries it: its number and its Amounts, each behind a presence byte. -/
def testAtoms (t : VarianceTest) : List Atom :=
  let opt : AmountArg → List Atom := fun a => match a with
    | none => [.byte 0]
    | some v => [.byte 1, .amount v]
  match t with
  | .any => [.byte 1] ++ opt none ++ opt none ++ opt none
  | .equal v => [.byte 2] ++ opt v ++ opt none ++ opt none
  | .inside lo hi => [.byte 3] ++ opt none ++ opt lo ++ opt hi
  | .outside lo hi => [.byte 4] ++ opt none ++ opt lo ++ opt hi

/-- A number behind its presence byte. -/
def numOptAtoms (n : Nat) (v : Option Nat) : List Atom :=
  match v with
  | none => [.byte 0]
  | some x => [.byte 1, .packed n x]

/-- R147: a condition as a reply carries it. -/
def conditionAtoms (c : Option Condition) : List Atom :=
  match c with
  | none => [.byte 0]
  | some c =>
    [.byte 1, .byte (codeOpt ResultKind.list c.result), .byte (codeOpt SourceKind.list c.sourceKind)]
    ++ numOptAtoms 2 c.sourceNumber ++ numOptAtoms 3 c.declarer
    ++ [.byte (codeOpt Purpose.list c.purpose), .bits (bitsOf (classSetList c.classes))] ++ testAtoms c.test

/-- R149: a captured source as a reply carries it. -/
def capturedAtoms (c : Option Captured) : List Atom :=
  match c with
  | none => [.byte 0]
  | some c => [.byte 1, .byte (codeIn SourceKind.list c.kind)] ++ numOptAtoms 2 c.number

/-- R146: a fired-by as a reply carries it.  That the result stands in it as in the WATCH notice (R150), with the bag
reference after the result kind, 0 for a till result, is the model's choice (log 13). -/
def firedByAtoms (f : Option FiredBy) : List Atom :=
  match f with
  | none => [.byte 0]
  | some f =>
    [.byte 1, .byte (codeIn ResultKind.list f.result.kind), .packed 2 (f.result.ref.getD 0),
     .byte (codeIn SourceKind.list f.result.sourceKind)]
    ++ numOptAtoms 2 f.result.sourceNumber ++ numOptAtoms 3 f.result.declarer
    ++ [.byte (codeOpt Purpose.list f.result.purpose), .byte (codeIn Classification.list f.result.cls)]
    ++ (match f.result.variance with
        | none => [.byte 0]
        | some v => [.byte 1, .amount v])
    ++ [.packed 1 f.level]
    ++ (match f.time with
        | none => [.byte 0]
        | some t => .byte 1 :: clockAtoms t)

/-- R146: the same-source flag of an entry, behind a presence byte since an entry holds it once written (11.7). -/
def sameAtoms (e : WatchEntry) : List Atom := if e.level1.isNone then [.byte 0] else [.byte 1, .byte (flagByte e.same)]

/-- R146, R157: an entry as a reply carries it, headed by its entry number and then its state and the mark NOT_WRITTEN: the
model's choice (log 13).  The mark stands for an entry with no level-1 condition. -/
def entryAtoms (n : Nat) (e : WatchEntry) : List Atom :=
  [.packed 1 n, .byte (codeIn WatchState.list e.state), .byte (flagByte e.level1.isNone)]
  ++ conditionAtoms e.level1 ++ conditionAtoms e.level2
  ++ sameAtoms e ++ [.byte (codeOpt WatchAction.list e.action)]
  ++ capturedAtoms e.captured ++ firedByAtoms e.firedBy

/-- R154 check 2, R155: the Audit Hold bars a SUPERVISOR. -/
def requireNoAuditHold (cred : Nat) (s : State) : Check Unit :=
  require (!(s.wcu.auditHold && decide (s.officeClass cred = some .supervisor))) .auditHold

/-- R154 checks 3 and 4 of an enabling SET_WATCH.  When both conditions are faulty, BAD_FIELD names level 1: the model's
choice (log 47). -/
def checkWatch (level1 level2 : Option Condition) (same : Bool) (action : Option WatchAction) : Check Unit := do
  require (action.isSome && (!same || level2.isSome)) .badField
  require ((level1.map conditionOk).getD false) .badField [fNamed 1]
  require ((level2.map conditionOk).getD true) .badField [fNamed 2]

/-- R154: the entry that a SET_WATCH leaves. -/
def writtenEntry (enable : Bool) (level1 level2 : Option Condition) (same : Bool) (action : Option WatchAction)
    (old : WatchEntry) : WatchEntry :=
  if enable then ⟨.armed1, level1, level2, same, action, none, none⟩
  else { old with state := .off, captured := none, firedBy := none }

/-- R154. -/
def setWatch (entry : Nat) (enable : Bool) (cred : Nat) (level1 level2 : Option Condition) (same : Bool)
    (action : Option WatchAction) (s : State) : Check Answered := do
  authority supervisorOrAuditor [cred] s
  requireNoAuditHold cred s
  require (decide (entry ≤ 7)) .badField
  if enable then checkWatch level1 level2 same action
  let e := writtenEntry enable level1 level2 same action (s.watchEntry entry)
  answerOk (putWatch entry e s) [.one (entryAtoms entry e)]

/-- SET_WATCH (R154). -/
def execSetWatch (tag entry : Nat) (enable : Bool) (cred : Nat) (level1 level2 : Option Condition) (same : Bool)
    (action : Option WatchAction) (s : State) : Out :=
  hostRequest (.setWatch tag entry enable cred level1 level2 same action) tag .setWatch
    (setWatch entry enable cred level1 level2 same action) s

/-! ## REARM, AUDIT_HOLD, AUDIT_RELEASE, QUERY_WATCH -/

/-- R155. -/
def rearmWatch (entry cred : Nat) (s : State) : Check Answered := do
  authority supervisorOrAuditor [cred] s
  requireNoAuditHold cred s
  require (decide (entry ≤ 7)) .badField
  let e := s.watchEntry entry
  require (decide (e.state ≠ .off)) .wrongState
  answerOk (putWatch entry { e with state := .armed1, captured := none, firedBy := none } s)
    [fNamed (codeIn WatchState.list e.state), .one (firedByAtoms e.firedBy)]

/-- REARM (R155). -/
def execRearm (tag entry cred : Nat) (s : State) : Out :=
  hostRequest (.rearm tag entry cred) tag .rearm (rearmWatch entry cred) s

/-- R156. -/
def setAuditHold (cred : Nat) (s : State) : Check Answered := do
  authority auditorAtOffice [cred] s
  require (!s.wcu.auditHold) .wrongState
  answerOk { s with wcu.auditHold := true } []

/-- AUDIT_HOLD (R156). -/
def execAuditHold (tag cred : Nat) (s : State) : Out :=
  hostRequest (.auditHold tag cred) tag .auditHold (setAuditHold cred) s

/-- R156. -/
def clearAuditHold (cred : Nat) (s : State) : Check Answered := do
  authority auditorAtOffice [cred] s
  require s.wcu.auditHold .wrongState
  answerOk { s with wcu.auditHold := false } []

/-- AUDIT_RELEASE (R156). -/
def execAuditRelease (tag cred : Nat) (s : State) : Out :=
  hostRequest (.auditRelease tag cred) tag .auditRelease (clearAuditHold cred) s

/-- R157: the entries are one list, of a single item when one entry is named: the model's choice (log 13). -/
def queryWatch (entry part : Option Nat) (s : State) : Check Answered := do
  require ((entry.map (fun n => decide (n ≤ 7))).getD true) .badField
  let named := match entry with
    | some n => [n]
    | none => slotNumbers
  let fs ← requirePart part [fFlag s.wcu.auditHold, .many (named.map (fun n => entryAtoms n (s.watchEntry n)))]
  answerOk s fs

/-- QUERY_WATCH (R157). -/
def execQueryWatch (tag : Nat) (entry part : Option Nat) (s : State) : Out :=
  hostRequest (.queryWatch tag entry part) tag .queryWatch (queryWatch entry part) s

end Sys2Proof.Machine
end

