-- ==== Sys2Proof/Machine/Tills.lean ====
section
/-!
DEFINITION. The Till Accounts Unit (chapter 5): templates, floats, takings, the posting queue and its snoop, skims
in either order, the skim queue, the till result, and the till's requests.
-/

namespace Sys2Proof.Machine

open Sys2Proof

/-- The place, counted from 1, of the first item of a list that fails a test. -/
def firstFailing {α : Type} (ok : α → Bool) (l : List α) : Option Nat := (l.findIdx? (fun x => !ok x)).map (· + 1)

/-- A change of no piece of a slot. -/
def noChange (slot : Nat) : StockChange := ⟨slot, 0, 0, 0, 0⟩

/-- A movement of entries alone. -/
def entriesOnly (o : Origin) (entries : List EntrySpec) : Movement := ⟨o, [], none, [], entries⟩

/-! ## The cash limit and the skim queue (R97, R98) -/

/-- R98: a till joins the skim queue, unless it is in it or it is full. -/
def joinSkim (n : Nat) (s : State) : State :=
  if n ∈ s.tau.skimQueue ∨ 16 ≤ s.tau.skimQueue.length then s
  else
    let q := s.tau.skimQueue ++ [n]
    let s1 := { s with tau.skimQueue := q }
    if 4 ≤ q.length then notify .skimAlert [fTill (some n), fNum 1 q.length, fNum 1 q.length] s1 else s1

/-- R98: the till that joins after till `n` has left: the lowest-numbered other one that waits. -/
def State.nextWaiting (s : State) (n : Nat) : Option Nat :=
  tillNumbers.find? (fun m => decide (m ≠ n) && (s.till m).overLimit && decide (m ∉ s.tau.skimQueue))

/-- R98: a till leaves the skim queue if it is in it, and the lowest-numbered other waiting till joins. -/
def leaveSkim (n : Nat) (s : State) : State :=
  if n ∈ s.tau.skimQueue then
    let s1 := { s with tau.skimQueue := s.tau.skimQueue.filter (fun m => decide (m ≠ n)) }
    match s1.nextWaiting n with
    | none => s1
    | some m => joinSkim m s1
  else s

/-- R97, R98: the over-limit flag is cleared and the till leaves the queue. -/
def clearOverLimit (n : Nat) (s : State) : State := leaveSkim n (putTill n { s.till n with overLimit := false } s)

/-- R97: whether the in-drawer estimate is greater than the cash limit; not when its subtraction overflows. -/
def Till.isOver (t : Till) : Bool :=
  match subAmount t.expected t.skims with
  | none => false
  | some e => decide (t.limit < e)

/-- R97: the over-limit test, made for an ISSUED till. -/
def overLimitTest (n : Nat) (s : State) : State :=
  let t := s.till n
  if t.state ≠ .issued then s
  else if t.isOver then joinSkim n (putTill n { t with overLimit := true } s)
  else clearOverLimit n s

/-! ## Applying a posting (R90 to R95) -/

/-- R90, R12: a posting's Amount is added to the accumulator of its kind. -/
def Till.accumulate (t : Till) (k : PostingKind) (a : Int) : Till :=
  match k with
  | .sale => { t with sales := (addSaturating t.sales a).1, range := t.range || (addSaturating t.sales a).2 }
  | .refund => { t with refunds := (addSaturating t.refunds a).1, range := t.range || (addSaturating t.refunds a).2 }
  | .paidOut => { t with paidOuts := (addSaturating t.paidOuts a).1, range := t.range || (addSaturating t.paidOuts a).2 }
  | .paidIn => { t with paidIns := (addSaturating t.paidIns a).1, range := t.range || (addSaturating t.paidIns a).2 }
  | .skim => { t with skims := (addSaturating t.skims a).1, range := t.range || (addSaturating t.skims a).2 }

/-- R90: the expected total worked out afresh from +0; `none` when a step overflows. -/
def Till.expectedTotal (t : Till) : Option Int := do
  let a ← addAmount 0 t.floatValue
  let b ← addAmount a t.sales
  let c ← subAmount b t.refunds
  let d ← subAmount c t.paidOuts
  addAmount d t.paidIns

/-- R90, R12: the till with its expected total worked out afresh. -/
def Till.reckon (t : Till) : Till :=
  match t.expectedTotal with
  | some e => { t with expected := e }
  | none => { t with expected := maxAmount, range := true }

/-- R91: the signed effect of a posting. -/
def signedEffect (k : PostingKind) (a : Int) : Int :=
  match k with
  | .sale => a
  | .paidIn => a
  | .refund => -a
  | .paidOut => -a
  | .skim => 0

/-- R92, R93, R95: the causes of an ORPHAN_POSTING. -/
inductive OrphanCause where
  | notIssued | pendingFull | noRoom
  deriving DecidableEq, Repr

/-- The number of an orphan cause. -/
def OrphanCause.code : OrphanCause → Nat
  | .notIssued => 1
  | .pendingFull => 2
  | .noRoom => 3

/-- R92: the notice ORPHAN_POSTING. -/
def notifyOrphan (p : Posting) (c : OrphanCause) (s : State) : State :=
  notify .orphanPosting [fTill (some p.till), fNamed (codeIn PostingKind.list p.kind), fAmount p.amount, fTag p.tagNo,
    fNamed c.code] s

/-- R95, R96: an Amount added to the counted total; an overflow leaves it and sets the counted range mark. -/
def Till.count (t : Till) (v : Int) : Till :=
  match addAmount t.counted v with
  | some c => { t with counted := c }
  | none => { t with countedRange := true }

/-- R39, R95: the bag that a SKIM posting attaches. -/
def State.attachable (s : State) (tagNo : Nat) : Option Nat :=
  (s.tagLookup tagNo).find? (fun r => match s.bag r with
    | some b => decide (b.purpose = .skim) && b.flags.undeclared && decide (b.source = .unknown)
    | none => false)

/-- R95: the record of an attached bag; a CONFIRMED bag keeps its book value. -/
def Bag.attach (b : Bag) (n session : Nat) (a : Int) : Bag :=
  { b with
    source := .till n session
    declared := some a
    book := if b.state = .confirmed then b.book else a
    flags := { b.flags with undeclared := false } }

/-- R95: the skim-attached movement. -/
def attachMovement (n r : Nat) (a : Int) : Movement := entriesOnly .field [⟨.bagAttach, some r, some n, a, a⟩]

/-- R93: a SKIM posting that finds no bag becomes a pending skim, unless the till holds 4. -/
def rememberSkim (p : Posting) (tagNo : Nat) (s : State) : State :=
  let t := s.till p.till
  if t.pendingSkims.length < 4 then
    putTill p.till { t with pendingSkims := t.pendingSkims ++ [⟨tagNo, p.amount, t.session⟩] } s
  else notifyOrphan p .pendingFull s

/-- R95: the skim attachment. -/
def attachSkim (p : Posting) (tagNo : Nat) (s : State) : State :=
  let t := s.till p.till
  match s.attachable tagNo with
  | none => rememberSkim p tagNo s
  | some r =>
    match s.bag r with
    | none => rememberSkim p tagNo s
    | some b =>
      let attached := b.attach p.till t.session p.amount
      if b.state = .confirmed then clearOverLimit p.till (putBag r attached (putTill p.till (t.count b.book) s))
      else
        match checkMovement (attachMovement p.till r p.amount) s with
        | some _ => notifyOrphan p .noRoom s
        | none =>
          let s1 := putTill p.till { t with outstanding := t.outstanding + 1 } s
          clearOverLimit p.till (putBag r attached (applyMovement (attachMovement p.till r p.amount) s1))

/-- R90: a posting applied to a till in session. -/
def applyInSession (p : Posting) (s : State) : State :=
  let s1 := putTill p.till ((s.till p.till).accumulate p.kind p.amount).reckon s
  let s2 := match p.kind, p.tagNo with
    | .skim, some t => attachSkim p t s1
    | _, _ => s1
  overLimitTest p.till s2

/-- R91: the till after a late posting. -/
def Till.addLate (t : Till) (e : Int) : Till :=
  { t with
    late := (addSigned t.late e).1
    variance := t.variance.map (fun v => (addSigned v e).1)
    day := t.day.charge e }

/-- R91: a posting applied to a RECONCILED till is LATE. -/
def applyLate (p : Posting) (s : State) : State :=
  let t := (s.till p.till).addLate (signedEffect p.kind p.amount)
  notify .latePosting [fTill (some p.till), fNum 1 t.session, fNamed (codeIn PostingKind.list p.kind), fAmount p.amount,
    fAmount (signedEffect p.kind p.amount), fAmount t.late] (putTill p.till t s)

/-- R92: a posting applied to a till in IDLE or FLOAT_READY is ORPHAN. -/
def applyOrphan (p : Posting) (s : State) : State :=
  notifyOrphan p .notIssued (chargeAccount (some (.unattributed, signedEffect p.kind p.amount)) s)

/-- R90 to R92: a posting applied to the till it names. -/
def applyPosting (s : State) (p : Posting) : State :=
  match (s.till p.till).state with
  | .issued => applyInSession p s
  | .takingsIn => applyInSession p s
  | .reconciled => applyLate p s
  | .idle => applyOrphan p s
  | .floatReady => applyOrphan p s

/-- R89: the snoop of a till. -/
def snoopTill (n : Nat) (s : State) : State :=
  let mine := s.tau.postings.filter (fun p => decide (p.till = n))
  let rest := s.tau.postings.filter (fun p => decide (p.till ≠ n))
  mine.foldl applyPosting { s with tau.postings := rest }

/-- R88: one application of the oldest entry of the posting queue. -/
def applyOldest (s : State) : State :=
  match s.tau.postings with
  | [] => s
  | p :: rest => applyPosting { s with tau.postings := rest } p

/-- POSTING_APPLICATION (R88). -/
def execPostingApplication (s : State) : Out := background applyOldest s

/-- R94: the skim search of a drop. -/
def skimSearch (tagNo : Nat) (s : State) : State :=
  match s.tau.postings.find? (fun p => decide (p.kind = .skim) && decide (p.tagNo = some tagNo)) with
  | none => s
  | some p => applyPosting { s with tau.postings := s.tau.postings.erase p } p

/-- R94: a pending skim that a drop takes. -/
structure TakenSkim where
  till  : Nat
  entry : PendingSkim
  deriving DecidableEq, Repr

/-- R94: the first pending skim with a drop's tag, tills in order and each list oldest first. -/
def findPending (tagNo : Nat) (s : State) : Option TakenSkim :=
  tillNumbers.findSome? (fun n =>
    ((s.till n).pendingSkims.find? (fun e => decide (e.tagNo = tagNo))).map (fun e => ⟨n, e⟩))

/-- R94: the pending skim leaves its till's list. -/
def removePending (x : TakenSkim) (s : State) : State :=
  putTill x.till { s.till x.till with pendingSkims := (s.till x.till).pendingSkims.erase x.entry } s

/-- R94: the till after a drop has been recorded against its pending skim. -/
def countDrop (x : TakenSkim) (s : State) : State :=
  let t := s.till x.till
  if t.session = x.entry.session ∧ t.state.inSession then
    clearOverLimit x.till (putTill x.till { t with outstanding := t.outstanding + 1 } s)
  else clearOverLimit x.till s

/-! ## The confirmation report and the till result (R96, R100, R101) -/

/-- R96: whether a confirmation report concerns the till's current session. -/
def Till.takesReport (t : Till) (session : Nat) : Bool := decide (t.session = session) && t.state.inSession

/-- R96: the till after a confirmation report.  Bags outstanding at 0 stay at 0: the model's choice (log 43). -/
def Till.report (t : Till) (session : Nat) (v : Int) : Till :=
  if t.takesReport session then { t.count v with outstanding := t.outstanding - 1 } else t

/-- R96: whether a report brings a TAKINGS_IN till's bags outstanding to 0. -/
def Till.resultDue (t : Till) (session : Nat) : Bool :=
  t.takesReport session && decide (t.outstanding ≤ 1) && decide (t.state = .takingsIn)

/-- R100: the till variance. -/
def Till.resultVariance (t : Till) : Option Int := if t.range || t.countedRange then none else subAmount t.counted t.expected

/-- R100: the till after its result is made. -/
def Till.settle (t : Till) (bandFloor : Int) (bandRate : Nat) : Till :=
  { t with
    state := .reconciled
    variance := t.resultVariance
    classification := some (match t.resultVariance with
      | none => .range
      | some v => classify v (bandOf bandFloor bandRate t.expected)) }

/-- R100: the TILL_RESULT entry. -/
def resultEntry (n : Nat) (t : Till) : EntrySpec := ⟨.tillResult, none, some n, t.variance.getD 0, 0⟩

/-- R101: a till result as offered. -/
def tillWatchResult (n : Nat) (t : Till) : WatchResult :=
  ⟨.till, none, .till, some n, t.cashier, none, t.classification.getD .range, t.variance⟩

/-- R100, R101: the RESULT notice of a till result, and then its offer. -/
def announceResult (n : Nat) (s : State) : State :=
  let t := s.till n
  let s1 := notify .result [fNamed (codeIn ResultKind.list .till), fTill (some n), fNum 1 t.session, fAmount t.counted,
    fAmount t.expected, fAmountOpt t.variance, fNamed (codeOpt Classification.list t.classification)] s
  (offer (tillWatchResult n t) s1).1

/-- R100: whether the till is snooped before the confirmation of a bag is decided. -/
def snoopDue (b : Bag) (s : State) : Option Nat :=
  match b.source with
  | .till n k =>
    if (b.purpose = .takings ∨ b.purpose = .skim) ∧ (s.till n).session = k ∧ (s.till n).state = .takingsIn
        ∧ (s.till n).outstanding = 1 then some n else none
  | .courier _ => none
  | .office => none
  | .unknown => none

/-- R100: the snoop before a confirmation, where one is due. -/
def snoopFor (b : Bag) (s : State) : State :=
  match snoopDue b s with
  | none => s
  | some n => snoopTill n s

/-! ## Templates and tills -/

/-- The items of a list of lines, each a slot and a count. -/
def lineItems (lines : List SlotLine) : List (List Atom) := lines.map (fun l => [.packed 1 l.slot, .packed 3 l.count])

/-- R80, R81: the value of lines under the denomination table in force. -/
def linesValue (lines : List SlotLine) (s : State) : Int :=
  (lines.map (fun l => ((l.count * (s.denom l.slot).face : Nat) : Int))).sum

/-- R1: the Amount nearest to an integer. -/
def clampAmount (v : Int) : Int := max (-maxAmount) (min maxAmount v)

/-- R80: a template's value as SET_TEMPLATE's reply gives it: the value of its lines, or past the range of an Amount,
where neither R80 nor R12 states a value, an open one: the model's choice (log 38). -/
def templateValue (lines : List SlotLine) (s : State) : Int :=
  if amountInRange (linesValue lines s) then linesValue lines s
  else clampAmount (Config.templateValue (lines.map (fun l => (l.slot, l.count, (s.denom l.slot).face))))

/-- R80.  The reply carries the template's lines and value without its number: the model's choice (log 13). -/
def setTemplate (template : Nat) (lines : List SlotLine) (cred : Nat) (s : State) : Check Answered := do
  authority supervisorAtOffice [cred] s
  require (decide (template ≤ 7) && decide (lines.length ≤ 8)
    && lines.all (fun l => decide (l.slot ≤ 7) && decide (1 ≤ l.count) && decide (l.count ≤ maxPieces) && (s.denom l.slot).inUse)
    && distinct (lines.map SlotLine.slot)) .badField
  answerOk { s with tau.templates := Table.set [] s.tau.templates template lines }
    [.many (lineItems lines), fAmount (templateValue lines s)]

/-- SET_TEMPLATE (R80). -/
def execSetTemplate (tag template : Nat) (lines : List SlotLine) (cred : Nat) (s : State) : Out :=
  hostRequest (.setTemplate tag template lines cred) tag .setTemplate (setTemplate template lines cred) s

/-- R99. -/
def setTill (n : Nat) (limit : AmountArg) (cred : Nat) (s : State) : Check Answered := do
  authority supervisorAtOffice [cred] s
  require (validTill n) .badTill
  let v ← requireSome (amountAtLeastZero limit) .badField
  let s1 := overLimitTest n (putTill n { s.till n with limit := v } s)
  answerOk s1 [fAmount (s1.till n).limit, fFlag (s1.till n).overLimit]

/-- SET_TILL (R99). -/
def execSetTill (tag till : Nat) (limit : AmountArg) (cred : Nat) (s : State) : Out :=
  hostRequest (.setTill tag till limit cred) tag .setTill (setTill till limit cred) s

/-- R101. -/
def releaseTill (n cred : Nat) (s : State) : Check Answered := do
  authority supervisorAtOffice [cred] s
  require (validTill n) .badTill
  require (s.till n).hold .wrongState
  answerOk (putTill n { s.till n with hold := false } s) []

/-- RELEASE_TILL (R101). -/
def execReleaseTill (tag till cred : Nat) (s : State) : Out :=
  hostRequest (.releaseTill tag till cred) tag .releaseTill (releaseTill till cred) s

/-! ## Floats (R81 to R85) -/

/-- R82: the straps broken for a NOTE line. -/
def strapsBroken (loose count strap : Nat) : Nat := (count - loose + (strap - 1)) / strap

/-- R82: what a line takes from stock and the straps it breaks; `none` when it is short. -/
def takeLine (l : SlotLine) (s : State) : Option (StockChange × Nat) :=
  let k := s.slotStock l.slot
  match s.denom l.slot with
  | .unused => none
  | .coin _ => if l.count ≤ k.coin then some ({ noChange l.slot with coin := -(l.count : Int) }, 0) else none
  | .note _ strap =>
    if l.count ≤ k.loose + k.strapped then
      let b := strapsBroken k.loose l.count strap
      some ({ noChange l.slot with
        strapped := -((b * strap : Nat) : Int), loose := ((b * strap : Nat) : Int) - (l.count : Int) }, b)
    else none

/-- R82: all the lines of a float, in template order; the slot of the first short one otherwise. -/
def takeLines (lines : List SlotLine) (s : State) : Check (List (StockChange × Nat)) :=
  lines.mapM (fun l => requireSome (takeLine l s) .shortStock [fLane (some l.slot)])

/-- A bag at the BENCH as R28 fills it in. -/
def newBag (tagNo : Nat) (p : Purpose) (src : Source) (declarer : Option Nat) (book : Int) (declared : Option Int) : Bag :=
  ⟨some tagNo, p, src, declarer, .bench, .intact, book, declared, none, none, 0, AnomalyFlags.none⟩

/-- R37: a tag check that must give OK. -/
def requireTag (tagNo : Nat) (p : Purpose) (s : State) : Check Unit :=
  require (decide (tagCheck tagNo p s = .ok)) .tagRejected [fNamed (tagCheck tagNo p s).code]

/-- R29: an allocation for a request. -/
def requireAllocation (s : State) : Check (Nat × State) := do
  require s.canAllocate .tableFull
  requireSome (allocate s) .tableFull

/-- R83: the straps broken, for each NOTE line its slot and the number: the model's choice (log 13). -/
def brokenItems (lines : List SlotLine) (taken : List (StockChange × Nat)) (s : State) : List (List Atom) :=
  (lines.zip taken).filterMap (fun x =>
    ((s.denom x.1.slot).strap?).map (fun _ => [.packed 1 x.1.slot, .packed 3 x.2.2]))

/-- R81 to R83. -/
def makeFloat (n template tagNo cred : Nat) (s : State) : Check Answered := do
  authority custodianAtOffice [cred] s
  require (validTill n) .badTill
  require (decide (template ≤ 7) && validTagNo tagNo) .badField
  let lines := s.template template
  require (!lines.isEmpty) .notFound
  require (decide (s.acu.day = .dayOpen)) .wrongState
  let t := s.till n
  require (decide (t.state = .idle) || decide (t.state = .reconciled)) .wrongState
  require (!t.hold) .tillHeld
  require (!(decide (t.state = .reconciled) && decide (9 ≤ t.session))) .sessionLimit
  let bad := firstFailing (fun l => (s.denom l.slot).inUse) lines
  require bad.isNone .badField [fNum 1 (bad.getD 0)]
  requireTag tagNo .float s
  require (s.hasRoom .host 1) .journalFull
  let taken ← takeLines lines s
  let (r, s1) ← requireAllocation s
  let session := if t.state = .reconciled then t.session + 1 else t.session
  let value := linesValue lines s
  let m : Movement := ⟨.host, taken.map Prod.fst, none, [], [⟨.stockToBag, some r, some n, value, 0⟩]⟩
  let t1 : Till :=
    { t with state := .floatReady, before := some t.state, floatBag := some r, floatLines := lines, session := session }
  let s2 := putTill n t1 (applyMovement m (recordBag r (newBag tagNo .float (.till n session) none value none) s1))
  answerOk s2 [fRef (some r), fAmount value, fNum 1 session, .many (brokenItems lines taken s)]

/-- MAKE_FLOAT (R81 to R83). -/
def execMakeFloat (tag till template tagNo cred : Nat) (s : State) : Out :=
  hostRequest (.makeFloat tag till template tagNo cred) tag .makeFloat (makeFloat till template tagNo cred) s

/-- The float bag of a till, if it holds one. -/
def State.floatBag (s : State) (n : Nat) : Option (Nat × Bag) :=
  match (s.till n).floatBag with
  | none => none
  | some r => (s.bag r).map (fun b => (r, b))

/-- R84: what a line gives back to stock. -/
def giveLine (s : State) (l : SlotLine) : StockChange :=
  match s.denom l.slot with
  | .coin _ => { noChange l.slot with coin := (l.count : Int) }
  | .note _ _ => { noChange l.slot with loose := (l.count : Int) }
  | .unused => noChange l.slot

/-- R84. -/
def unmakeFloat (n cred : Nat) (s : State) : Check Answered := do
  authority custodianAtOffice [cred] s
  require (validTill n) .badTill
  let t := s.till n
  require (decide (s.acu.day = .dayOpen) && decide (t.state = .floatReady)) .wrongState
  let (r, b) ← requireSome (s.floatBag n) .wrongState
  require (decide (b.custody = .bench)) .bagNotAtBench
  require (s.hasRoom .host 1) .journalFull
  let m : Movement := ⟨.host, t.floatLines.map (giveLine s), none, [], [⟨.unmake, some r, some n, b.book, 0⟩]⟩
  require (stockCheck m s).isNone .amountRange
  let session := if t.before = some .reconciled then t.session - 1 else t.session
  let t1 : Till :=
    { t with state := t.before.getD .idle, before := none, floatBag := none, floatLines := [], session := session }
  let s1 := putTill n t1 (retireBag r { b with state := .emptied } (applyMovement m s))
  answerOk s1 [fNamed (codeIn TillState.list t1.state), fNum 1 session]

/-- UNMAKE_FLOAT (R84). -/
def execUnmakeFloat (tag till cred : Nat) (s : State) : Out :=
  hostRequest (.unmakeFloat tag till cred) tag .unmakeFloat (unmakeFloat till cred) s

/-- R85: the till's session figures set afresh. -/
def Till.issue (t : Till) (cashier : Nat) (value : Int) : Till :=
  { t with
    state := .issued, before := none, floatBag := none, floatLines := [], cashier := some cashier
    floatValue := value, sales := 0, refunds := 0, paidOuts := 0, paidIns := 0, skims := 0
    expected := value, counted := 0, countedRange := false, outstanding := 0
    variance := none, classification := none, late := 0, range := false }

/-- R85. -/
def issueFloat (n cashier custodian : Nat) (s : State) : Check Answered := do
  authority cashierWithCustodian [cashier, custodian] s
  require (validTill n) .badTill
  let t := s.till n
  require (decide (s.acu.day = .dayOpen)) .wrongState
  require (decide (t.state = .floatReady)) .wrongState
  require (!t.hold) .tillHeld
  let (r, b) ← requireSome (s.floatBag n) .wrongState
  require (decide (b.custody = .bench)) .bagNotAtBench
  require (s.hasRoom .host 1) .journalFull
  let m := entriesOnly .host [⟨.bagOut, some r, some n, -b.book, -b.book⟩]
  let s1 := retireBag r { b with state := .issued, custody := .till n } (applyMovement m s)
  answerOk (overLimitTest n (putTill n (t.issue cashier b.book) s1)) [fAmount b.book]

/-- ISSUE_FLOAT (R85). -/
def execIssueFloat (tag till cashier custodian : Nat) (s : State) : Out :=
  hostRequest (.issueFloat tag till cashier custodian) tag .issueFloat (issueFloat till cashier custodian) s

/-! ## Takings, postings and QUERY_TILL -/

/-- R86. -/
def receiveTakings (n tagNo : Nat) (declared : AmountArg) (cashier custodian : Nat) (s : State) : Check Answered := do
  authority cashierWithCustodian [cashier, custodian] s
  require (validTill n) .badTill
  require (validTagNo tagNo) .badField
  let v ← requireSome (amountAtLeastZero declared) .badField
  let t := s.till n
  require (decide (s.acu.day = .dayOpen)) .wrongState
  require (decide (t.state = .issued)) .wrongState
  requireTag tagNo .takings s
  require (s.hasRoom .host 1) .journalFull
  require (amountInRange (s.acu.accountability + v)) .amountRange
  let (r, s1) ← requireAllocation s
  let b := newBag tagNo .takings (.till n t.session) (some cashier) v (some v)
  let m := entriesOnly .host [⟨.bagIn, some r, some n, v, v⟩]
  let t1 : Till := { t with state := .takingsIn, outstanding := t.outstanding + 1 }
  let s2 := putTill n t1 (applyMovement m (recordBag r b s1))
  answerOk (clearOverLimit n s2) [fRef (some r)]

/-- RECEIVE_TAKINGS (R86). -/
def execReceiveTakings (tag till tagNo : Nat) (declared : AmountArg) (cashier custodian : Nat) (s : State) : Out :=
  hostRequest (.receiveTakings tag till tagNo declared cashier custodian) tag .receiveTakings
    (receiveTakings till tagNo declared cashier custodian) s

/-- R87: the tag that a POST must carry for its kind. -/
def postTagOk (k : PostingKind) (tagNo : Option Nat) : Bool :=
  match k with
  | .skim => (tagNo.map validTagNo).getD false
  | .sale => true
  | .refund => true
  | .paidOut => true
  | .paidIn => true

/-- R87. -/
def postEntry (n : Nat) (kind : Option PostingKind) (amount : AmountArg) (skimTag : Option Nat) (s : State) :
    Check Answered := do
  require (validTill n) .badTill
  let k ← requireSome kind .badField
  let a ← requireSome (amountPositive amount) .badField
  require (postTagOk k skimTag) .badField
  require (decide (s.tau.postings.length < 64)) .queueFull
  let p : Posting := ⟨n, k, a, if k = .skim then skimTag else none⟩
  answerOk { s with tau.postings := s.tau.postings ++ [p] } [fNum 1 (s.tau.postings.length + 1)]

/-- POST (R87). -/
def execPost (tag till : Nat) (kind : Option PostingKind) (amount : AmountArg) (skimTag : Option Nat) (s : State) : Out :=
  hostRequest (.post tag till kind amount skimTag) tag .post (postEntry till kind amount skimTag) s

/-- R102: the till's position in the skim queue, or the mark WAITING (1) or NONE (2). -/
def skimPosition (n : Nat) (s : State) : List Field :=
  match s.tau.skimQueue.findIdx? (fun m => decide (m = n)) with
  | some i => [fNumOpt 1 (some (i + 1)), fNamed 0]
  | none => [fNumOpt 1 none, fNamed (if (s.till n).overLimit then 1 else 2)]

/-- R78: the float lines, which a till record holds in FLOAT_READY alone. -/
def floatLinesFields (t : Till) : List Field :=
  fManyOpt (if t.state = .floatReady then some (lineItems t.floatLines) else none)

/-- R78, R102: a till record as QUERY_TILL reports it. -/
def tillFields (n : Nat) (s : State) : List Field :=
  let t := s.till n
  [fTill (some n), fNamed (codeIn TillState.list t.state), fNum 1 t.session, fNamed (codeOpt TillState.list t.before),
   fRef t.floatBag]
  ++ floatLinesFields t
  ++ [fFlag t.hold, fFlag t.overLimit, fAmount t.limit, fNumOpt 3 t.cashier, fAmount t.floatValue, fAmount t.sales,
   fAmount t.refunds, fAmount t.paidOuts, fAmount t.paidIns, fAmount t.skims, fAmount t.expected, fAmount t.counted,
   fFlag t.countedRange, fNum 2 t.outstanding, fAmountOpt t.variance, fNamed (codeOpt Classification.list t.classification),
   fAmount t.late, fFlag t.range, fAmount t.day.amount, fFlag t.day.range,
   .many (t.pendingSkims.map (fun e => [.packed 4 e.tagNo, .amount e.amount, .packed 1 e.session]))]
  ++ skimPosition n s ++ [fNum 1 s.tau.skimQueue.length, fNum 1 s.tau.postings.length]

/-- R102. -/
def queryTill (n : Nat) (s : State) : Check Answered := do
  require (validTill n) .badTill
  answerOk (snoopTill n s) (tillFields n (snoopTill n s))

/-- QUERY_TILL (R102). -/
def execQueryTill (tag till : Nat) (s : State) : Out := hostRequest (.queryTill tag till) tag .queryTill (queryTill till) s

end Sys2Proof.Machine
end

