-- ==== Sys2Proof/Machine/Handover.lean ====
section
/-!
DEFINITION. The Handover Controller (chapter 10): deposits, the manifest table, the start of a handover, scans at the
hatch, closes, and the manifests' requests.
-/

namespace Sys2Proof.Machine

open Sys2Proof

/-! ## Deposits (R180, R181) -/

/-- R180 check 2: the counts of a line are in range and not all 0. -/
def depositCountsOk (l : DepositLine) : Bool :=
  let counts := l.strapped.toList ++ l.unfit.toList ++ l.coin.toList
  counts.all (fun c => decide (c ≤ maxPieces)) && counts.any (fun c => decide (0 < c))

/-- R180 check 4: a line suits the slot it names. -/
def depositLineSuits (s : State) (l : DepositLine) : Bool :=
  match s.denom l.slot, l.strapped, l.unfit, l.coin with
  | .note _ strap, some k, some _, none => decide (k % strap = 0)
  | .coin _, none, none, some _ => true
  | _, _, _, _ => false

/-- R180 check 7: stock covers a line. -/
def depositLineCovered (s : State) (l : DepositLine) : Bool :=
  let k := s.slotStock l.slot
  decide (l.strapped.getD 0 ≤ k.strapped) && decide (l.unfit.getD 0 ≤ k.unfit) && decide (l.coin.getD 0 ≤ k.coin)

/-- R181: what a line takes from stock. -/
def depositChange (l : DepositLine) : StockChange :=
  ⟨l.slot, -(l.strapped.getD 0 : Int), 0, -(l.unfit.getD 0 : Int), -(l.coin.getD 0 : Int)⟩

/-- R180: the deposit value. -/
def depositValue (lines : List DepositLine) (s : State) : Int :=
  (lines.map (fun l =>
    (((l.strapped.getD 0 + l.unfit.getD 0 + l.coin.getD 0) * (s.denom l.slot).face : Nat) : Int))).sum

/-- R180, R181. -/
def makeDeposit (tagNo : Nat) (lines : List DepositLine) (cred : Nat) (s : State) : Check Answered := do
  authority custodianAtOffice [cred] s
  require (validTagNo tagNo && !lines.isEmpty && decide (lines.length ≤ 8)
    && lines.all (fun l => decide (l.slot ≤ 7) && depositCountsOk l) && distinct (lines.map DepositLine.slot)) .badField
  require (decide (s.acu.day = .dayOpen)) .wrongState
  let bad := firstFailing (depositLineSuits s) lines
  require bad.isNone .badField [fNum 1 (bad.getD 0)]
  requireTag tagNo .deposit s
  require (s.hasRoom .host 1) .journalFull
  let short := lines.find? (fun l => !depositLineCovered s l)
  require short.isNone .shortStock [fLane (short.map DepositLine.slot)]
  let (r, s1) ← requireAllocation s
  let value := depositValue lines s
  let m : Movement := ⟨.host, lines.map depositChange, none, [], [⟨.stockToBag, some r, none, value, 0⟩]⟩
  answerOk (applyMovement m (recordBag r (newBag tagNo .deposit .office none value none) s1)) [fRef (some r), fAmount value]

/-- MAKE_DEPOSIT (R180, R181). -/
def execMakeDeposit (tag tagNo : Nat) (lines : List DepositLine) (cred : Nat) (s : State) : Out :=
  hostRequest (.makeDeposit tag tagNo lines cred) tag .makeDeposit (makeDeposit tagNo lines cred) s

/-! ## The manifest table (R182) -/

/-- The entries whose manifest satisfies a test, in entry order. -/
def State.manifestsWhere (s : State) (p : Manifest → Bool) : List (Nat × Manifest) :=
  manifestNumbers.filterMap (fun n => ((s.manifest n).filter p).map (fun m => (n, m)))

/-- R186: the manifest in HANDOVER, if one is. -/
def State.inHandover (s : State) : Option (Nat × Manifest) := (s.manifestsWhere (fun m => decide (m.state = .handover))).head?

/-- R160: C, some PLANNED manifest's visit window covers the present time. -/
def State.visitDue (s : State) : Bool :=
  !(s.manifestsWhere (fun m => decide (m.state = .planned) && windowCovers m.opens m.closes s)).isEmpty

/-- R183: whether a bag is on the outbound list of an open manifest. -/
def State.onOpenManifest (s : State) (r : Nat) : Bool :=
  !(s.manifestsWhere (fun m => m.isOpen && m.outbound.any (fun o => decide (o.ref = r)))).isEmpty

/-- R191: the manifest as a close leaves it. -/
def Manifest.close (m : Manifest) (st : ManifestState) (c : CloseCause) : Manifest :=
  { m with state := st, timer := none, cause := some c }

/-- R191: what MANIFEST_CLOSED carries. -/
def closedFields (n : Nat) (m : Manifest) : List Field :=
  [fNum 1 n, fNum 2 m.visit, fNamed (codeIn ManifestState.list m.state), fNamed (codeOpt CloseCause.list m.cause),
   fNum 1 (m.outbound.countP OutItem.scanned), fNum 1 m.outbound.length,
   fNum 1 (m.inbound.countP (fun i => i.received.isSome)), fNum 1 m.inbound.length,
   .many ((m.outbound.filter (fun o => !o.scanned)).map (fun o => [.packed 2 o.ref]))]

/-- R182, R191: a manifest closes; its notice is separate. -/
def closeRecord (n : Nat) (m : Manifest) (st : ManifestState) (c : CloseCause) (s : State) : State :=
  let s1 := putManifest n (m.close st c) s
  { s1 with hoc.closedOrder := s1.hoc.closedOrder ++ [n] }

/-- R191: a manifest closes, with MANIFEST_CLOSED. -/
def closeManifest (n : Nat) (m : Manifest) (st : ManifestState) (c : CloseCause) (s : State) : State :=
  notify .manifestClosed (closedFields n (m.close st c)) (closeRecord n m st c s)

/-- R192: the lockdown latch is set: a manifest in HANDOVER is ABORTED. -/
def abortHandover (s : State) : State :=
  match s.inHandover with
  | none => s
  | some (n, m) => closeManifest n m .aborted .lockdown s

/-! ## CREATE_MANIFEST, CANCEL_MANIFEST, QUERY_MANIFEST -/

/-- R183 check 3. -/
def manifestFieldsOk (visit : Nat) (opens closes now : ClockTime) (window : Option Nat) (outbound : List Nat)
    (inbound : List InboundArg) : Bool :=
  validVisit visit && validClock opens && validClock closes && decide (clockKey opens ≤ clockKey closes)
  && decide (clockKey now ≤ clockKey closes) && decide (window.getD 900 ≤ 65535)
  && decide (outbound.length ≤ 24) && distinct outbound && outbound.all validRef
  && decide (inbound.length ≤ 12) && inbound.all (fun i => validTagNo i.tagNo && (amountAtLeastZero i.declared).isSome)

/-- R37, R183 check 8: the position and the result of the first inbound tag that is not OK; a tag that appears
twice is a DUPLICATE at its second position. -/
def inboundFailure (s : State) : List InboundArg → List Nat → Option (Nat × TagCheck)
  | [], _ => none
  | i :: rest, earlier =>
    let c := match tagCheck i.tagNo .changeIn s with
      | .ok => if i.tagNo ∈ earlier then .duplicate else .ok
      | other => other
    if c = .ok then inboundFailure s rest (earlier ++ [i.tagNo]) else some (earlier.length + 1, c)

/-- R183: the handover window as held. -/
def heldWindow (w : Option Nat) : Nat := max 300 (min 3600 (w.getD 900))

/-- R183: the entry a new manifest takes: the lowest-numbered free one, or that of the manifest closed first. -/
def State.manifestSlot (s : State) : Option Nat :=
  (manifestNumbers.find? (fun n => (s.manifest n).isNone)).or s.hoc.closedOrder.head?

/-- R183: an outbound bag that a new manifest may name. -/
def depositReady (s : State) (r : Nat) : Bool :=
  match s.bag r with
  | none => false
  | some b => decide (b.purpose = .deposit) && decide (b.state = .intact) && !s.onOpenManifest r

/-- R183: the outbound items of a new manifest. -/
def outItems (outbound : List Nat) (s : State) : List OutItem :=
  outbound.map (fun r => ⟨r, (s.bag r).bind Bag.tagNo, false⟩)

/-- R183: the inbound items of a new manifest. -/
def inItems (inbound : List InboundArg) : List InItem := inbound.map (fun i => ⟨i.tagNo, (amountArg i.declared).getD 0, none⟩)

/-- R183. -/
def createManifest (visit courier : Nat) (opens closes : ClockTime) (window : Option Nat) (outbound : List Nat)
    (inbound : List InboundArg) (cred : Nat) (s : State) : Check Answered := do
  authority supervisorAtOffice [cred] s
  let now ← requireSome s.acu.clock .clockNotSet
  require (manifestFieldsOk visit opens closes now window outbound inbound) .badField
  require (decide ((s.credential courier).map Credential.cls = some .courier)) .badField
  let other := (s.manifestsWhere (fun m => m.isOpen && decide (m.visit = visit))).head?
  require other.isNone .wrongState [fNum 1 ((other.map Prod.fst).getD 0)]
  let free := firstFailing (fun r => (s.bag r).isSome) outbound
  require free.isNone .notFound [fNum 1 (free.getD 0)]
  let unready := firstFailing (depositReady s) outbound
  require unready.isNone .wrongState [fNum 1 (unready.getD 0)]
  match inboundFailure s inbound [] with
  | some (n, c) => .error ⟨.tagRejected, [fNum 1 n, fNamed c.code]⟩
  | none =>
    let n ← requireSome s.manifestSlot .tableFull
    let m : Manifest :=
      ⟨visit, courier, opens, closes, heldWindow window, outItems outbound s, inItems inbound, .planned, none, none, none⟩
    let s1 := putManifest n m s
    answerOk { s1 with hoc.closedOrder := s1.hoc.closedOrder.filter (fun k => decide (k ≠ n)) }
      [fNum 1 n, fNum 2 m.window, fNumOpt 2 ((s.manifest n).map Manifest.visit)]

/-- CREATE_MANIFEST (R183). -/
def execCreateManifest (tag visit courier : Nat) (opens closes : ClockTime) (window : Option Nat)
    (outbound : List Nat) (inbound : List InboundArg) (cred : Nat) (s : State) : Out :=
  hostRequest (.createManifest tag visit courier opens closes window outbound inbound cred) tag .createManifest
    (createManifest visit courier opens closes window outbound inbound cred) s

/-- R184. -/
def cancelManifest (visit cred : Nat) (s : State) : Check Answered := do
  authority supervisorAtOffice [cred] s
  require (validVisit visit) .badField
  let (n, m) ← requireSome (s.manifestsWhere (fun m => m.isOpen && decide (m.visit = visit))).head? .notFound
  let st : ManifestState := if m.state = .handover then .aborted else .cancelled
  answerOk (closeManifest n m st .host s) [fNamed (codeIn ManifestState.list st)]

/-- CANCEL_MANIFEST (R184). -/
def execCancelManifest (tag visit cred : Nat) (s : State) : Out :=
  hostRequest (.cancelManifest tag visit cred) tag .cancelManifest (cancelManifest visit cred) s

/-- R194: an outbound entry as QUERY_MANIFEST reports it, with the mark NOT_SENT (1).  R182 always holds its tag, the tag
of a DEPOSIT bag, so it takes no presence byte (11.7); a custody and state that R194 does not give are zeros (log 13). -/
def outAtoms (m : Manifest) (s : State) (o : OutItem) : List Atom :=
  let head : List Atom := [.packed 2 o.ref, .packed 4 (o.tagNo.getD 0), .byte (flagByte o.scanned)]
  if o.scanned then head ++ placeAtoms .inTransit ++ [.byte (codeIn BagState.list .despatched), .byte 0]
  else if m.isOpen then
    match s.bag o.ref with
    | none => head ++ [.byte 0, .byte 0, .byte 0, .byte 0]
    | some b => head ++ placeAtoms b.custody ++ [.byte (codeIn BagState.list b.state), .byte 0]
  else head ++ [.byte 0, .byte 0, .byte 0, .byte 1]

/-- R194: an inbound entry as QUERY_MANIFEST reports it. -/
def inAtoms (i : InItem) : List Atom :=
  [.packed 4 i.tagNo, .amount i.declared, .byte (flagByte i.received.isSome), .packed 2 (i.received.getD 0)]

/-- R182, R194: an entry as QUERY_MANIFEST reports it, headed by its entry number and the mark FREE (1): the model's choice
(log 13). -/
def manifestFields (s : State) (n : Nat) : List Field :=
  match s.manifest n with
  | none => [fNum 1 n, fNamed 1]
  | some m =>
    [fNum 1 n, fNamed 0, fNum 2 m.visit, fNum 3 m.courier, .one (clockAtoms m.opens), .one (clockAtoms m.closes),
     fNum 2 m.window, .many (m.outbound.map (outAtoms m s)), .many (m.inbound.map inAtoms),
     fNamed (codeIn ManifestState.list m.state), fNumOpt 3 m.custodian, fNumOpt 2 m.timer,
     fNamed (codeOpt CloseCause.list m.cause)]

/-- R194. -/
def queryManifest (entry part : Option Nat) (s : State) : Check Answered := do
  require ((entry.map (fun n => decide (n ≤ 3))).getD true) .badField
  let named := match entry with
    | some n => [n]
    | none => manifestNumbers
  let fs ← requirePart part (named.flatMap (manifestFields s))
  answerOk s fs

/-- QUERY_MANIFEST (R194). -/
def execQueryManifest (tag : Nat) (entry part : Option Nat) (s : State) : Out :=
  hostRequest (.queryManifest tag entry part) tag .queryManifest (queryManifest entry part) s

/-! ## The start of a handover, and acceptance (R185, R186, R189, R190) -/

/-- R72, R185: the newest entry of the HATCH list that satisfies a test (the list holds the newest last). -/
def State.newestAtHatch (s : State) (p : Presence → Bool) : Option Presence := s.cru.hatch.reverse.find? p

/-- R185: the candidate courier of a presentation. -/
def candidateCourier (number : Nat) (cls : CredClass) (s : State) : Option Nat :=
  match cls with
  | .courier => some number
  | .custodian => (s.newestAtHatch (fun e => decide (e.cls = .courier))).map Presence.number
  | .supervisor => (s.newestAtHatch (fun e => decide (e.cls = .courier))).map Presence.number
  | .cashier => none
  | .auditor => none

/-- R185: the manifest with the earliest window start, the lowest-numbered entry of those. -/
def earliestManifest : List (Nat × Manifest) → Option (Nat × Manifest)
  | [] => none
  | x :: rest =>
    match earliestManifest rest with
    | none => some x
    | some y => if clockKey y.2.opens < clockKey x.2.opens then some y else some x

/-- R185: the notice UNEXPECTED_COURIER; the reasons are NO_MANIFEST 1, OUTSIDE_WINDOW 2, LOCKDOWN 3.  The visits are listed in
the order of the manifest entries: the model's choice (log 51). -/
def notifyUnexpected (courier reason : Nat) (visits : Option (List Nat)) (s : State) : State :=
  notify .unexpectedCourier ([fNum 3 courier, fNamed reason] ++ fManyOpt (visits.map (fun l => l.map (fun v => [.packed 2 v])))) s

/-- R185 row 5: the outbound bags of a manifest that are not at the BENCH, each with its custody. -/
def unstaged (m : Manifest) (s : State) : List (Nat × Option Place) :=
  (m.outbound.map (fun o => (o.ref, (s.bag o.ref).map Bag.custody))).filter (fun x => decide (x.2 ≠ some .bench))

/-- R185: the start test. -/
def startTest (number : Nat) (cls : CredClass) (s : State) : State :=
  match candidateCourier number cls s with
  | none => s
  | some courier =>
    let planned := s.manifestsWhere (fun m => decide (m.state = .planned) && decide (m.courier = courier))
    let visits := planned.map (fun x => x.2.visit)
    if planned.isEmpty then (if cls = .courier then notifyUnexpected courier 1 none s else s)
    else
      match s.newestAtHatch (fun e => isCustodian e.cls) with
      | none => s
      | some custodian =>
        match earliestManifest (planned.filter (fun x => windowCovers x.2.opens x.2.closes s)) with
        | none => notifyUnexpected courier 2 (some visits) s
        | some (n, m) =>
          if s.csc.latch then notifyUnexpected courier 3 (some visits) s
          else if (unstaged m s).isEmpty then
            putManifest n { m with state := .handover, custodian := some custodian.number, timer := some m.window } s
          else
            let place : Option Place → List Atom := fun p => match p with
              | none => [.byte 0, .byte 0]
              | some p => placeAtoms p
            notify .stagingIncomplete [fNum 2 m.visit, .many ((unstaged m s).map (fun x => .packed 2 x.1 :: place x.2))] s

/-- R190: acceptance. -/
def acceptHandover (n : Nat) (m : Manifest) (s : State) : State :=
  let whole := m.outbound.all OutItem.scanned && m.inbound.all (fun i => i.received.isSome)
  closeManifest n m (if whole then .complete else .short) .accepted s

/-- R185, R189: a presentation at HATCH reaches the Handover Controller. -/
def presentedAtHatch (number : Nat) (cls : CredClass) (s : State) : State :=
  match s.inHandover with
  | some (n, m) => if m.courier = number then acceptHandover n m s else s
  | none => startTest number cls s

/-- R190: the handover window of the manifest in HANDOVER expires. -/
def expireHandover (s : State) : State :=
  match s.inHandover with
  | none => s
  | some (n, m) => if m.timer = some 0 then closeManifest n m .expired .window s else s

/-- HANDOVER_WINDOW_EXPIRY (R190). -/
def execHandoverWindowExpiry (s : State) : Out := event expireHandover s

/-! ## Scans at the hatch (R187 to R189) -/

/-- R187 to R189: the reasons of SCAN_REFUSED. -/
inductive ScanReason where
  | notStaged | noRoom | tableFull | amountRange | noTag | notListed
  deriving DecidableEq, Repr

/-- The number of a reason. -/
def ScanReason.code : ScanReason → Nat
  | .notStaged => 1
  | .noRoom => 2
  | .tableFull => 3
  | .amountRange => 4
  | .noTag => 5
  | .notListed => 6

/-- R187 to R189: a scan is refused: REJECT and SCAN_REFUSED. -/
def refuseScan (tagNo ref : Option Nat) (reason : ScanReason) (s : State) : State :=
  notify .scanRefused [fTag tagNo, fRef ref, fNamed reason.code] (command .hatch .reject s)

/-- R187, R188: the SCAN_REFUSED reason of a movement that fails; an outbound scan's overflow has R188's, the model's choice
(log 40). -/
def scanReasonOf : MoveFail → ScanReason
  | .journalFull => .noRoom
  | .wrongState => .noRoom
  | .shortStock _ => .amountRange
  | .amountRange _ => .amountRange

/-- R189: a bag scanned a second time; its tag is always carried and takes no presence byte (11.7). -/
def notifyDuplicate (tagNo ref : Nat) (s : State) : State := notify .duplicateScan [fNum 4 tagNo, fRef (some ref)] s

/-- R187: an outbound scan of the entry `o` of manifest `n`. -/
def scanOutbound (n : Nat) (m : Manifest) (o : OutItem) (tagNo : Nat) (s : State) : State :=
  if o.scanned then notifyDuplicate tagNo o.ref s
  else
    match s.bag o.ref with
    | none => refuseScan (some tagNo) (some o.ref) .notStaged s
    | some b =>
      if b.custody ≠ .bench then refuseScan (some tagNo) (some o.ref) .notStaged s
      else
        let mv := entriesOnly .field [⟨.bagOut, some o.ref, none, -b.book, -b.book⟩]
        match checkMovement mv s with
        | some f => refuseScan (some tagNo) (some o.ref) (scanReasonOf f) s
        | none =>
          let s1 := retireBag o.ref { b with state := .despatched, custody := .inTransit } (applyMovement mv s)
          let mark : OutItem → OutItem := fun x => if x.ref = o.ref then { x with scanned := true } else x
          putManifest n { m with outbound := m.outbound.map mark } s1

/-- R188: an inbound scan of the entry `i` of manifest `n`.  Where more than one refusal applies, the reason is the first
in the order of R188's table: the model's choice (log 40). -/
def scanInbound (n : Nat) (m : Manifest) (i : InItem) (s : State) : State :=
  match i.received with
  | some r => notifyDuplicate i.tagNo r s
  | none =>
    match (if s.canAllocate then allocate s else none) with
    | none => refuseScan (some i.tagNo) none .tableFull s
    | some (r, s1) =>
      let mv := entriesOnly .field [⟨.bagIn, some r, none, i.declared, i.declared⟩]
      match checkMovement mv s with
      | some f => refuseScan (some i.tagNo) none (scanReasonOf f) s
      | none =>
        let b := newBag i.tagNo .changeIn (.courier m.visit) none i.declared (some i.declared)
        let flagged := { b with flags := { AnomalyFlags.none with duplicate := s1.tagInUse i.tagNo } }
        let mark : InItem → InItem := fun x => if x.tagNo = i.tagNo then { x with received := some r } else x
        putManifest n { m with inbound := m.inbound.map mark } (applyMovement mv (recordBag r flagged s1))

/-- R189: the visit number of the manifest that closed last. -/
def State.lastClosedVisit (s : State) : Option Nat := (s.hoc.closedOrder.getLast?.bind s.manifest).map Manifest.visit

/-- R187 to R189: a HATCH_SCAN record. -/
def takeScan (tagNo : Option Nat) (s : State) : State :=
  match s.inHandover with
  | none => notify .lateScan [fTag tagNo, fNumOpt 2 s.lastClosedVisit] (command .hatch .reject s)
  | some (n, m) =>
    match tagNo with
    | none => refuseScan none none .noTag s
    | some t =>
      match m.outbound.find? (fun o => decide (o.tagNo = some t)) with
      | some o => scanOutbound n m o t s
      | none =>
        match m.inbound.find? (fun i => decide (i.tagNo = t)) with
        | some i => scanInbound n m i s
        | none => refuseScan (some t) none .notListed s

/-- HATCH_SCAN (R187 to R189). -/
def execHatchScan (tagNo : Option Nat) (s : State) : Out := unitRecord ((tagNo.map validTagNo).getD true) (takeScan tagNo) s

end Sys2Proof.Machine
end

