-- ==== Sys2Proof/Machine/Custody.lean ====
section
/-!
DEFINITION. The Custody Controller (chapter 9): the strongroom door and its grant table, the drop safes, the door
policy, Maintenance Open and Settings Freeze, and lockdown.
-/

namespace Sys2Proof.Machine

open Sys2Proof

/-! ## Doors (R159, R167) -/

/-- The record of a door. -/
def State.door (s : State) : DoorName → Door
  | .strongroom => s.csc.strongroom
  | .drop n => (s.safe n).door
  | .other => Door.initial

/-- Writes a door's record; R168, R169: the chute cause OPEN is set while a drop safe's door is not SECURE. -/
def putDoor (d : DoorName) (x : Door) (s : State) : State :=
  match d with
  | .strongroom => { s with csc.strongroom := x }
  | .drop n => setChuteCause n .opened (decide (x.state ≠ .secure)) (putSafe n { s.safe n with door := x } s)
  | .other => s

/-- R159, R167: the seven doors. -/
def allDoors : List DoorName := .strongroom :: safeNumbers.map .drop

/-- The number of a door's state: R159 for the strongroom, R167 for a drop safe. -/
def doorStateCode (d : DoorName) (x : DoorState) : Nat :=
  match d with
  | .strongroom => codeIn DoorState.list x
  | .drop _ => codeIn DoorState.dropList x
  | .other => 0

/-- R163, R164, R166: a door returns to SECURE; a released lock is engaged, before the chute that is then unlocked: the
model's choice (log 49). -/
def secureDoor (d : DoorName) (s : State) : State :=
  let x := s.door d
  let s1 := if x.lockReleased then command (.door d) .engage s else s
  putDoor d { x with
    state := .secure, named := none, timer := none, lockReleased := false, ajarSent := false, openFor := 0 } s1

/-- R160, R162, R168: the lock is released and the Release Window starts.  On a drop safe that leaves SECURE so, RELEASE
comes before the LOCK and CHUTE_LOCKED of the cause OPEN: the model's choice (log 49). -/
def releaseDoor (d : DoorName) (s : State) : State :=
  let s1 := command (.door d) .release s
  putDoor d { s.door d with state := .released, lockReleased := true, timer := some s.csc.policy.releaseWindow } s1

/-- R160, R161: the strongroom enters CONFIRM. -/
def confirmDoor (s : State) : State :=
  putDoor .strongroom { s.door .strongroom with state := .confirm, timer := some s.csc.policy.confirmWindow } s

/-- R160, R161, R168: the end of a delay. -/
def endDelay (d : DoorName) (s : State) : State :=
  match d with
  | .strongroom => confirmDoor s
  | .drop n => releaseDoor (.drop n) s
  | .other => s

/-- R160, R168: a delay granted; one of 0 ends within the request. -/
def grantDelay (d : DoorName) (secs : Nat) (s : State) : State :=
  if secs = 0 then endDelay d s else putDoor d { s.door d with state := .delay, timer := some secs } s

/-- R162: a presentation at STRONGROOM reaches the Custody Controller. -/
def presentedAtStrongroom (number : Nat) (s : State) : State :=
  let x := s.csc.strongroom
  match x.state, x.named with
  | .confirm, some (a, b) => if number = a ∨ number = b then releaseDoor .strongroom s else s
  | _, _ => s

/-- R163, R165: a door stands open and its Open Limit starts. -/
def openDoor (d : DoorName) (s : State) : State :=
  putDoor d { s.door d with
    state := .opened, timer := some s.csc.policy.openLimit, contactOpen := true, ajarSent := false, openFor := 0 } s

/-- R165: a forced door. -/
def forceDoor (d : DoorName) (s : State) : State :=
  let was := (s.door d).state
  let s1 := putDoor d { s.door d with named := none } s
  notify .forced [fDoor d, fNamed (doorStateCode d was)] (driveAlarm (openDoor d s1))

/-- R163 to R165, R168: a DOOR(open) record. -/
def doorOpened (d : DoorName) (s : State) : State :=
  match (s.door d).state with
  | .released => openDoor d s
  | .opened => putDoor d { s.door d with contactOpen := true } s
  | .secure => forceDoor d s
  | .delay => forceDoor d s
  | .confirm => forceDoor d s

/-- R164: a DOOR(closed) record. -/
def doorClosed (d : DoorName) (s : State) : State :=
  let s1 := putDoor d { s.door d with contactOpen := false } s
  if (s.door d).state = .opened then secureDoor d s1 else s1

/-- R163 to R165, R168: a DOOR record. -/
def takeDoor (d : DoorName) (isOpen : Bool) (s : State) : State := if isOpen then doorOpened d s else doorClosed d s

/-- DOOR (R163 to R165, R168). -/
def execDoor (d : DoorName) (isOpen : Bool) (s : State) : Out := unitRecord (validDoor d) (takeDoor d isOpen) s

/-! ## Expiries of the doors -/

/-- Whether a door stands in a state with its timer at 0. -/
def doorExpired (d : DoorName) (x : DoorState) (s : State) : Bool :=
  decide ((s.door d).state = x) && decide ((s.door d).timer = some 0)

/-- R161, R168: a delay expires. -/
def expireDelay (d : DoorName) (s : State) : State := if doorExpired d .delay s then endDelay d s else s

/-- R162: the Confirm Window expires. -/
def expireConfirm (s : State) : State := if doorExpired .strongroom .confirm s then secureDoor .strongroom s else s

/-- R163: the Release Window expires. -/
def expireRelease (d : DoorName) (s : State) : State := if doorExpired d .released s then secureDoor d s else s

/-- R164: the Open Limit expires. -/
def expireOpen (d : DoorName) (s : State) : State :=
  if doorExpired d .opened s then
    let s1 := putDoor d { s.door d with timer := none, ajarSent := true } s
    notify .doorAjar [fDoor d, fNum 3 (s.door d).openFor] s1
  else s

/-- DELAY_EXPIRY (R161). -/
def execDelayExpiry (s : State) : Out := event (expireDelay .strongroom) s

/-- DROP_DELAY_EXPIRY (R168). -/
def execDropDelayExpiry (safe : Nat) (s : State) : Out :=
  if validSafe safe then event (expireDelay (.drop safe)) s else .next s

/-- CONFIRM_WINDOW_EXPIRY (R162). -/
def execConfirmWindowExpiry (s : State) : Out := event expireConfirm s

/-- RELEASE_WINDOW_EXPIRY (R163). -/
def execReleaseWindowExpiry (door : DoorName) (s : State) : Out :=
  if validDoor door then event (expireRelease door) s else .next s

/-- OPEN_LIMIT_EXPIRY (R164). -/
def execOpenLimitExpiry (door : DoorName) (s : State) : Out :=
  if validDoor door then event (expireOpen door) s else .next s

/-! ## REQUEST_DOOR and CANCEL_DOOR (R160, R166, R168) -/

/-- R160 row 1, R168: the credentials suit the door. -/
def doorCredsOk (d : DoorName) (creds : List Nat) : Bool :=
  match d with
  | .strongroom => decide (creds.length = 2)
  | .drop _ => decide (creds.length = 1)
  | .other => false

/-- R160, R168: D. -/
def doorRoles (d : DoorName) : List Role :=
  match d with
  | .strongroom => twoCustodiansAtStrongroom
  | .drop _ => custodianAtOffice
  | .other => []

/-- R160, R168: a door's state and timer as a reply carries them. -/
def doorFields (d : DoorName) (s : State) : List Field :=
  [fNamed (doorStateCode d (s.door d).state), fNum 2 ((s.door d).timer.getD 0)]

/-- R160 rows 7 to 9, R168: the delay granted, if one is. -/
def grantedDelay (d : DoorName) (s : State) : Option Nat :=
  match d, s.acu.mode with
  | .strongroom, .opened => some s.csc.policy.dayDelay
  | .strongroom, .afterHours => if s.visitDue then some s.csc.policy.courierDelay else none
  | .drop _, .opened => some s.csc.policy.dropDelay
  | .drop _, .afterHours => none
  | .other, _ => none

/-- R160, R168: the named credentials recorded at a grant: the strongroom's two, none for a drop safe. -/
def grantedNames (d : DoorName) (creds : List Nat) : Option (Nat × Nat) :=
  match d, creds with
  | .strongroom, [a, b] => some (a, b)
  | _, _ => none

/-- R160, R168: the grant table. -/
def requestDoor (d : DoorName) (creds : List Nat) (s : State) : Check Answered := do
  require (validDoor d && doorCredsOk d creds) .badField
  require (!s.csc.latch) .lockdown
  let x := s.door d
  require (decide (x.state ≠ .opened)) .doorOpen
  require (decide (x.state = .secure)) .inProgress (doorFields d s)
  authority (doorRoles d) creds s
  let s1 := putDoor d { x with named := grantedNames d creds } s
  if s.csc.maintenance then
    let s2 := releaseDoor d s1
    answerOk s2 (doorFields d s2)
  else
    let delay ← requireSome (grantedDelay d s) .hours
    let s2 := grantDelay d delay s1
    answerOk s2 (doorFields d s2)

/-- REQUEST_DOOR (R160, R168). -/
def execRequestDoor (tag : Nat) (door : DoorName) (creds : List Nat) (s : State) : Out :=
  hostRequest (.requestDoor tag door creds) tag .requestDoor (requestDoor door creds) s

/-- R166. -/
def cancelDoor (d : DoorName) (s : State) : Check Answered := do
  require (validDoor d) .badField
  let x := (s.door d).state
  require (decide (x = .delay) || decide (x = .confirm) || decide (x = .released)) .wrongState
  answerOk (secureDoor d s) [fNamed (doorStateCode d x)]

/-- CANCEL_DOOR (R166, R168). -/
def execCancelDoor (tag : Nat) (door : DoorName) (s : State) : Out :=
  hostRequest (.cancelDoor tag door) tag .cancelDoor (cancelDoor door) s

/-! ## Drop safes (R170, R171) -/

/-- R28, R38, R170: the record of a dropped bag. -/
def droppedBag (n : Nat) (tagNo : Option Nat) (flags : AnomalyFlags) (src : Source) (book : Int) (declared : Option Int)
    (undeclared : Bool) : Bag :=
  ⟨tagNo, .skim, src, none, .drop n, .intact, book, declared, none, none, 0, { flags with undeclared := undeclared }⟩

/-- R94: the bag is recorded undeclared; `noRoom` is the mark NO_ROOM. -/
def recordUndeclared (n r : Nat) (tagNo : Option Nat) (flags : AnomalyFlags) (noRoom : Bool) (s : State) : State :=
  notify .undeclaredDrop [fNum 1 n, fRef (some r), fTag tagNo, fNamed (flagByte noRoom)]
    (recordBag r (droppedBag n tagNo flags .unknown 0 none true) s)

/-- R94: the drop is recorded against the pending skim taken, or undeclared when its movement fails. -/
def recordDeclared (n r : Nat) (tagNo : Option Nat) (flags : AnomalyFlags) (x : TakenSkim) (s : State) : State :=
  let s1 := removePending x s
  let m := entriesOnly .field [⟨.bagIn, some r, some x.till, x.entry.amount, x.entry.amount⟩]
  match checkMovement m s1 with
  | some _ => recordUndeclared n r tagNo flags true s1
  | none =>
    let b := droppedBag n tagNo flags (.till x.till x.entry.session) x.entry.amount (some x.entry.amount) false
    countDrop x (applyMovement m (recordBag r b s1))

/-- R94, R170 step 1: the record of a drop in its allocated slot. -/
def recordDrop (n r : Nat) (tagNo : Option Nat) (s : State) : State :=
  let flags := dropFlags tagNo s
  match tagNo with
  | none => recordUndeclared n r none flags false s
  | some t =>
    let s1 := skimSearch t s
    match findPending t s1 with
    | none => recordUndeclared n r (some t) flags false s1
    | some x => recordDeclared n r (some t) flags x s1

/-- R167: the greatest bag count. -/
def maxDropCount : Nat := 9999

/-- R170 steps 2 and 3: OVERFILL where it applies, and the bag count; `ref` is absent for a table overrun. -/
def countInSafe (n : Nat) (tagNo ref : Option Nat) (s : State) : State :=
  let before := (s.safe n).count
  let after := min maxDropCount (before + 1)
  let s1 :=
    if 40 ≤ before ∨ ref = none then
      notify .overfill [fNum 1 n, fNum 2 after, fTag tagNo, fRef ref, fNamed (flagByte ref.isNone)] s
    else s
  let s2 := putSafe n { s1.safe n with count := after } s1
  if after = 40 then setChuteCause n .full true s2 else s2

/-- R170: a DROP record. -/
def takeDrop (n : Nat) (tagNo : Option Nat) (s : State) : State :=
  match allocate s with
  | none => countInSafe n tagNo none s
  | some (r, s1) => countInSafe n tagNo (some r) (recordDrop n r tagNo s1)

/-- DROP (R170, R94). -/
def execDrop (safe : Nat) (tagNo : Option Nat) (s : State) : Out :=
  unitRecord (validSafe safe && (tagNo.map validTagNo).getD true) (takeDrop safe tagNo) s

/-- R171: a bag is moved to the BENCH. -/
def benchBag (s : State) (r : Nat) : State :=
  match s.bag r with
  | none => s
  | some b => putBag r { b with custody := .bench } s

/-- R171. -/
def clearDropSafe (n cred : Nat) (s : State) : Check Answered := do
  authority custodianAtOffice [cred] s
  require (validSafe n) .badField
  require (decide ((s.safe n).door.state = .opened)) .doorSecure
  let refs := s.refsWhere (fun b => b.state.live && decide (b.custody = .drop n))
  let s1 := refs.foldl benchBag s
  let s2 := setChuteCause n .full false (putSafe n { s1.safe n with count := 0 } s1)
  answerOk s2 [fNum 2 (s.safe n).count, fNum 2 refs.length]

/-- CLEAR_DROP_SAFE (R171). -/
def execClearDropSafe (tag safe cred : Nat) (s : State) : Out :=
  hostRequest (.clearDropSafe tag safe cred) tag .clearDropSafe (clearDropSafe safe cred) s

/-! ## Door policy, Maintenance Open, Settings Freeze (R172 to R174) -/

/-- R172: a timing carried is clamped into its range; one not carried keeps its value. -/
def clampTiming (lo hi : Nat) (given : Option Nat) (held : Nat) : Nat :=
  match given with
  | none => held
  | some v => max lo (min hi v)

/-- R172: the policy that a SET_DOOR_POLICY leaves. -/
def newPolicy (t : PolicyArgs) (p : DoorPolicy) : DoorPolicy where
  dayDelay := clampTiming 0 3600 t.dayDelay p.dayDelay
  courierDelay := clampTiming 0 900 t.courierDelay p.courierDelay
  dropDelay := clampTiming 0 1800 t.dropDelay p.dropDelay
  confirmWindow := clampTiming 30 600 t.confirmWindow p.confirmWindow
  releaseWindow := clampTiming 10 300 t.releaseWindow p.releaseWindow
  openLimit := clampTiming 60 3600 t.openLimit p.openLimit
  lockdownHold := clampTiming 300 7200 t.lockdownHold p.lockdownHold

/-- The timings that a request carries. -/
def carriedTimings (t : PolicyArgs) : List Nat :=
  t.dayDelay.toList ++ t.courierDelay.toList ++ t.dropDelay.toList ++ t.confirmWindow.toList ++ t.releaseWindow.toList
  ++ t.openLimit.toList ++ t.lockdownHold.toList

/-- R172: all seven timings as a reply carries them. -/
def policyFields (p : DoorPolicy) : List Field :=
  [fNum 2 p.dayDelay, fNum 2 p.courierDelay, fNum 2 p.dropDelay, fNum 2 p.confirmWindow, fNum 2 p.releaseWindow,
   fNum 2 p.openLimit, fNum 2 p.lockdownHold]

/-- R172. -/
def setDoorPolicy (t : PolicyArgs) (cred : Nat) (s : State) : Check Answered := do
  authority supervisorAtOffice [cred] s
  require (!s.csc.freeze) .frozen
  require (!(carriedTimings t).isEmpty && (carriedTimings t).all (fun v => decide (v ≤ 65535))) .badField
  let p := newPolicy t s.csc.policy
  answerOk { s with csc.policy := p } (policyFields p)

/-- SET_DOOR_POLICY (R172). -/
def execSetDoorPolicy (tag : Nat) (timings : PolicyArgs) (cred : Nat) (s : State) : Out :=
  hostRequest (.setDoorPolicy tag timings cred) tag .setDoorPolicy (setDoorPolicy timings cred) s

/-- R173. -/
def setMaintenance (choice : Option Bool) (cred : Nat) (s : State) : Check Answered := do
  authority supervisorAtOffice [cred] s
  require (!s.csc.freeze) .frozen
  let v ← requireSome choice .badField
  answerOk { s with csc.maintenance := v } []

/-- SET_MAINTENANCE (R173). -/
def execSetMaintenance (tag : Nat) (choice : Option Bool) (cred : Nat) (s : State) : Out :=
  hostRequest (.setMaintenance tag choice cred) tag .setMaintenance (setMaintenance choice cred) s

/-- R174. -/
def freezeSettings (cred : Nat) (s : State) : Check Answered := do
  authority supervisorAtOffice [cred] s
  require (!s.csc.freeze) .wrongState
  answerOk { s with csc.freeze := true, csc.maintenance := false } []

/-- FREEZE_SETTINGS (R174). -/
def execFreezeSettings (tag cred : Nat) (s : State) : Out :=
  hostRequest (.freezeSettings tag cred) tag .freezeSettings (freezeSettings cred) s

/-! ## Lockdown (R175 to R177) -/

/-- R175: the cause of a LOCKDOWN_SET. -/
inductive LockdownCause where
  | panic | request
  deriving DecidableEq, Repr

/-- The number of a lockdown cause. -/
def LockdownCause.code : LockdownCause → Nat
  | .panic => 1
  | .request => 2

/-- R175 step 1: the doors on their way to opening.  They are secured, and listed in LOCKDOWN_SET, with the strongroom
first and the drop safes in number order: the model's choice (log 50). -/
def State.movingDoors (s : State) : List DoorName :=
  allDoors.filter (fun d => decide ((s.door d).state = .delay) || decide ((s.door d).state = .confirm)
    || decide ((s.door d).state = .released))

/-- R175 step 1 on one door; the chute cause OPEN follows in step 2. -/
def dropToSecure (s : State) (d : DoorName) : State :=
  let x := s.door d
  let s1 := if x.lockReleased then command (.door d) .engage s else s
  let y : Door :=
    { x with state := .secure, named := none, timer := none, lockReleased := false, ajarSent := false, openFor := 0 }
  match d with
  | .strongroom => { s1 with csc.strongroom := y }
  | .drop n => putSafe n { s1.safe n with door := y } s1
  | .other => s1

/-- R175 step 1: the doors given drop to SECURE. -/
def secureDoors (l : List DoorName) (s : State) : State := l.foldl dropToSecure s

/-- R175 step 2 on one safe. -/
def lockChute (s : State) (n : Nat) : State :=
  setChuteCause n .opened (decide ((s.safe n).door.state ≠ .secure)) (setChuteCause n .lockdown true s)

/-- R175 step 2: LOCKDOWN on every chute. -/
def lockChutes (s : State) : State := safeNumbers.foldl lockChute s

/-- R175: the Lockdown Hold starts in full. -/
def startHold (s : State) : State := { s with csc.holdTimer := s.csc.policy.lockdownHold, csc.holdRunning := true }

/-- R175: the notice LOCKDOWN_SET. -/
def notifyLockdown (c : LockdownCause) (renewed : Bool) (doors : List DoorName) (s : State) : State :=
  notify .lockdownSet [fNamed c.code, fNamed (flagByte renewed), .many (doors.map doorAtoms)] s

/-- R175: the latch is set from clear. -/
def setLatch (c : LockdownCause) (s : State) : State :=
  let doors := s.movingDoors
  let s1 := lockChutes (secureDoors doors { s with csc.latch := true })
  abortHandover (lockdownLanes (notifyLockdown c false doors (startHold (driveAlarm s1))))

/-- R175: the latch is renewed. -/
def renewLatch (c : LockdownCause) (s : State) : State := notifyLockdown c true [] (driveAlarm (startHold s))

/-- R175: a PANIC edge or a LOCKDOWN request. -/
def lockdown (c : LockdownCause) (s : State) : State := if s.csc.latch then renewLatch c s else setLatch c s

/-- R175: LOCKDOWN. -/
def requestLockdown (s : State) : Check Answered := answerOk (lockdown .request s) [fNamed (flagByte s.csc.latch)]

/-- LOCKDOWN (R175). -/
def execLockdown (tag : Nat) (s : State) : Out := hostRequest (.lockdown tag) tag .lockdown requestLockdown s

/-- R175: whether the edge selection names an edge. -/
def selects (sel : EdgeSelect) (e : Edge) : Bool :=
  match sel, e with
  | .falling, .falling => true
  | .rising, .rising => true
  | .both, _ => true
  | .falling, .rising => false
  | .rising, .falling => false

/-- The level of the PANIC input after an edge: high or not. -/
def levelAfter : Edge → Bool
  | .falling => false
  | .rising => true

/-- R175: one change of level at the PANIC input. -/
def panicEdge (e : Edge) (s : State) : State :=
  let s1 := { s with ubc.panicHigh := levelAfter e }
  if selects s.ubc.panicSel e then lockdown .panic s1 else s1

/-- PANIC_EDGE (R175, R202): while RESET is asserted a change of level is no edge. -/
def execPanicEdge (edge : Edge) (s : State) : Out :=
  if s.operating then .next (panicEdge edge s) else .next { s with ubc.panicHigh := levelAfter edge }

/-- R202: ALARM is released once the Alarm Period is over and the latch is clear. -/
def settleAlarm (s : State) : State :=
  if s.ubc.alarmTimer = none ∧ s.csc.latch = false then { s with ubc.alarm := false } else s

/-- R176. -/
def releaseLockdown (cred1 cred2 : Nat) (s : State) : Check Answered := do
  authority twoSupervisors [cred1, cred2] s
  require s.csc.latch .wrongState
  require (!s.csc.holdRunning) .holdRunning [fNum 2 s.csc.holdTimer]
  let s1 := setChuteCauseAll .lockdown false { s with csc.latch := false }
  answerOk (settleAlarm (notify .lockdownCleared [fNum 3 cred1, fNum 3 cred2] s1)) []

/-- RELEASE_LOCKDOWN (R176). -/
def execReleaseLockdown (tag cred1 cred2 : Nat) (s : State) : Out :=
  hostRequest (.releaseLockdown tag cred1 cred2) tag .releaseLockdown (releaseLockdown cred1 cred2) s

/-- R176: the Lockdown Hold expires. -/
def expireHold (s : State) : State :=
  if s.csc.holdRunning ∧ s.csc.holdTimer = 0 then { s with csc.holdRunning := false } else s

/-- LOCKDOWN_HOLD_EXPIRY (R176). -/
def execLockdownHoldExpiry (s : State) : Out := event expireHold s

/-- R202: the Alarm Period expires. -/
def expireAlarm (s : State) : State :=
  if s.ubc.alarmTimer = some 0 then settleAlarm { s with ubc.alarmTimer := none } else s

/-- ALARM_PERIOD_EXPIRY (R202). -/
def execAlarmPeriodExpiry (s : State) : Out := event expireAlarm s

/-- R177. -/
def setPanicEdge (choice : Option EdgeSelect) (cred : Nat) (s : State) : Check Answered := do
  authority supervisorAtOffice [cred] s
  let e ← requireSome choice .badField
  answerOk { s with ubc.panicSel := e } [fNamed (codeIn EdgeSelect.list e)]

/-- SET_PANIC_EDGE (R177). -/
def execSetPanicEdge (tag : Nat) (choice : Option EdgeSelect) (cred : Nat) (s : State) : Out :=
  hostRequest (.setPanicEdge tag choice cred) tag .setPanicEdge (setPanicEdge choice cred) s

end Sys2Proof.Machine
end

