-- ==== Sys2Proof/Machine/Credentials.lean ====
section
/-!
DEFINITION. The Credential Unit (chapter 4): enrolment, revocation, reinstatement, presentations at the readers and
the Presence Lifetime.  The authority check (R76) is in Operands.
-/

namespace Sys2Proof.Machine

open Sys2Proof

/-- Writes or removes an entry of the credential table. -/
def putCredential (n : Nat) (c : Option Credential) (s : State) : State :=
  { s with cru.creds := Table.set none s.cru.creds n c }

/-- R66: the number of entries held. -/
def State.credentialCount (s : State) : Nat := s.cru.creds.length

/-- R67: some SUPERVISOR in the table is ACTIVE. -/
def State.activeSupervisor (s : State) : Bool :=
  s.cru.creds.any (fun p => match p.2 with
    | some c => decide (c.cls = .supervisor) && !c.suspended
    | none => false)

/-- R66: the number of a credential's state, ACTIVE 1 and SUSPENDED 2. -/
def credStateCode (c : Credential) : Nat := if c.suspended then 2 else 1

/-- R66: an entry as a reply carries it. -/
def credentialFields (n : Nat) (c : Credential) : List Field :=
  [fNum 3 n, fNamed (codeIn CredClass.list c.cls), fNamed (credStateCode c), fNum 1 c.fails]

/-- R68, R71: a credential's entries leave every presence list. -/
def leaveReaders (n : Nat) (s : State) : State :=
  let gone : List Presence → List Presence := fun l => l.filter (fun e => decide (e.number ≠ n))
  { s with cru.office := gone s.cru.office, cru.strongroom := gone s.cru.strongroom, cru.hatch := gone s.cru.hatch }

/-- R67: the authority check of ENROL, not required for a SUPERVISOR while none is ACTIVE. -/
def enrolAuthority (cls : Option CredClass) (cred : Nat) (s : State) : Check Unit :=
  if cls = some .supervisor ∧ s.activeSupervisor = false then .ok () else authority supervisorAtOffice [cred] s

/-- R67. -/
def enrol (number : Nat) (cls : Option CredClass) (cred : Nat) (s : State) : Check Answered := do
  enrolAuthority cls cred s
  let k ← requireSome cls .badField
  require (validCred number) .badField
  match s.credential number with
  | some c => .error ⟨.wrongState, [fNamed (codeIn CredClass.list c.cls), fNamed (credStateCode c)]⟩
  | none =>
    require (decide (s.credentialCount < 96)) .tableFull
    let s1 := putCredential number (some ⟨k, false, 0⟩) s
    answerOk s1 (credentialFields number ⟨k, false, 0⟩ ++ [fNum 1 s1.credentialCount])

/-- ENROL (R67). -/
def execEnrol (tag number : Nat) (cls : Option CredClass) (cred : Nat) (s : State) : Out :=
  hostRequest (.enrol tag number cls cred) tag .enrol (enrol number cls cred) s

/-- R68. -/
def revoke (number cred : Nat) (s : State) : Check Answered := do
  authority supervisorAtOffice [cred] s
  require (validCred number) .badField
  require (s.credential number).isSome .notFound
  let s1 := leaveReaders number (putCredential number none s)
  answerOk s1 [fNum 1 s1.credentialCount]

/-- REVOKE (R68). -/
def execRevoke (tag number cred : Nat) (s : State) : Out :=
  hostRequest (.revoke tag number cred) tag .revoke (revoke number cred) s

/-- R69. -/
def reinstate (number cred : Nat) (s : State) : Check Answered := do
  authority supervisorAtOffice [cred] s
  require (validCred number) .badField
  let c ← requireSome (s.credential number) .notFound
  require c.suspended .wrongState
  answerOk (putCredential number (some ⟨c.cls, false, 0⟩) s) []

/-- REINSTATE (R69). -/
def execReinstate (tag number cred : Nat) (s : State) : Out :=
  hostRequest (.reinstate tag number cred) tag .reinstate (reinstate number cred) s

/-- R75: the Presence Lifetime a value gives. -/
def clampLifetime (secs : Nat) : Nat := max 10 (min 300 secs)

/-- R75. -/
def setPresenceLifetime (secs cred : Nat) (s : State) : Check Answered := do
  authority supervisorAtOffice [cred] s
  require (decide (secs ≤ 65535)) .badField
  answerOk { s with cru.lifetime := clampLifetime secs } [fNum 2 (clampLifetime secs)]

/-- SET_PRESENCE_LIFETIME (R75). -/
def execSetPresenceLifetime (tag secs cred : Nat) (s : State) : Out :=
  hostRequest (.setPresenceLifetime tag secs cred) tag .setPresenceLifetime (setPresenceLifetime secs cred) s

/-! ## Presentations (R70 to R73) -/

/-- R70, R71: the mark of a SUSPENDED notice: HELD 1, LIMIT 2. -/
def notifySuspended (r : Reader) (n : Nat) (p : PinResult) (mark : Nat) (s : State) : State :=
  notify .suspended [fNamed (codeIn Reader.list r), fNum 3 n, fNamed (codeIn PinResult.list p), fNamed mark] s

/-- R71: a FAIL for an ACTIVE credential. -/
def failPin (r : Reader) (n : Nat) (c : Credential) (s : State) : State :=
  if c.fails + 1 < 3 then putCredential n (some { c with fails := c.fails + 1 }) s
  else notifySuspended r n .fail 2 (leaveReaders n (putCredential n (some { c with suspended := true, fails := 3 }) s))

/-- R72: a presence list after a presentation; the newest entry is last. -/
def enterPresence (e : Presence) (l : List Presence) : List Presence :=
  if l.any (fun x => decide (x.number = e.number)) then l.filter (fun x => decide (x.number ≠ e.number)) ++ [e]
  else if 4 ≤ l.length then l.tail ++ [e]
  else l ++ [e]

/-- R72: the block that acts on a reader is told. -/
def tellOwner (r : Reader) (n : Nat) (cls : CredClass) (s : State) : State :=
  match r with
  | .office => s
  | .strongroom => presentedAtStrongroom n s
  | .hatch => presentedAtHatch n cls s

/-- R73: a duress presentation drives ALARM and sends DURESS. -/
def raiseDuress (r : Reader) (n : Nat) (cls : CredClass) (s : State) : State :=
  notify .duress [fNamed (codeIn Reader.list r), fNum 3 n, fNamed (codeIn CredClass.list cls)] (driveAlarm s)

/-- R72, R73: an OK or DURESS presentation of an ACTIVE credential. -/
def present (r : Reader) (n : Nat) (c : Credential) (duress : Bool) (s : State) : State :=
  let s1 := putCredential n (some { c with fails := 0 }) s
  let s2 := putPresence r (enterPresence ⟨n, c.cls, s1.cru.lifetime⟩ (s1.presence r)) s1
  tellOwner r n c.cls (if duress then raiseDuress r n c.cls s2 else s2)

/-- R70 to R73: a BADGE record. -/
def takeBadge (r : Reader) (n : Nat) (p : PinResult) (s : State) : State :=
  match s.credential n with
  | none => notify .unknownBadge [fNamed (codeIn Reader.list r), fNum 3 n, fNamed (codeIn PinResult.list p)] s
  | some c =>
    if c.suspended then notifySuspended r n p 1 s
    else
      match p with
      | .fail => failPin r n c s
      | .ok => present r n c false s
      | .duress => present r n c true s

/-- BADGE (R70 to R73). -/
def execBadge (reader : Reader) (number : Nat) (pin : PinResult) (s : State) : Out :=
  unitRecord (decide (number ≤ 999999)) (takeBadge reader number pin) s

/-- R74: an entry whose time left is 0 expires. -/
def expirePresence (r : Reader) (n : Nat) (s : State) : State :=
  putPresence r ((s.presence r).filter (fun e => !(decide (e.number = n) && decide (e.left = 0)))) s

/-- PRESENCE_EXPIRY (R74). -/
def execPresenceExpiry (reader : Reader) (number : Nat) (s : State) : Out := event (expirePresence reader number) s

end Sys2Proof.Machine
end

