-- ==== Sys2Proof/Machine/Accounts.lean ====
section
/-!
DEFINITION. The Accounts Unit's requests (chapters 1 and 3): the denomination table, the band, the clock, the business
day, the office mode, TAKE_JOURNAL and QUERY_STOCK.  Movements (R47) are in Ops.
-/

namespace Sys2Proof.Machine

open Sys2Proof

/-! ## The denomination table and the band (R4, R5, R17) -/

/-- R4: a strap size clamped into 10 to 1000. -/
def clampStrap (k : Nat) : Nat := max 10 (min 1000 k)

/-- R4: what an entry, as clamped, makes of its slot. -/
def entryDenom (e : DenomEntry) : Denom :=
  match e.kind with
  | .note => .note e.face (clampStrap e.strap)
  | .coin => .coin e.face
  | .unused => .unused

/-- R4 check 4: work is in hand that reads the table. -/
def State.countsPending (s : State) : Bool :=
  laneNumbers.any (fun n => (s.lane n).batch.isSome) || !s.rcu.queue.isEmpty
  || s.bgr.bags.any (fun p => match p.2 with
      | none => false
      | some b => decide (b.state = .counting) || decide (b.state = .quarantined) || decide (b.state = .disputed)
          || decide (b.state = .confirmed))

/-- R4 check 5. -/
def denomEntryOk (e : DenomEntry) : Bool :=
  decide (e.slot ≤ 7) && (decide (e.kind = .unused) || (decide (1 ≤ e.face) && decide (e.face ≤ maxPieces)))

/-- R4 check 6: pieces of a slot are in open stock or in an INTACT FLOAT bag. -/
def State.slotHeld (s : State) (i : Nat) : Bool :=
  decide (s.slotStock i ≠ SlotStock.initial)
  || tillNumbers.any (fun n => decide ((s.till n).state = .floatReady) && (s.till n).floatLines.any (fun l => decide (l.slot = i)))

/-- R4 check 6: an entry leaves its slot as it is, or the slot holds nothing. -/
def rewriteOk (s : State) (e : DenomEntry) : Bool := decide (entryDenom e = s.denom e.slot) || !s.slotHeld e.slot

/-- R3: the number of a slot's kind. -/
def denomKindCode : Denom → Nat
  | .note _ _ => codeIn SlotKind.list .note
  | .coin _ => codeIn SlotKind.list .coin
  | .unused => codeIn SlotKind.list .unused

/-- R3: the face value of a slot in use. -/
def Denom.face? : Denom → Option Nat
  | .note f _ => some f
  | .coin f => some f
  | .unused => none

/-- R5: the whole table as a reply carries it: one list of all eight slots, each headed by its slot number, with the face value
and strap size behind presence bytes: the model's choice (log 13). -/
def denomFields (s : State) : List Field :=
  [.many (slotNumbers.map (fun i =>
    [.packed 1 i, .byte (denomKindCode (s.denom i))] ++ numOptAtoms 3 (s.denom i).face? ++ numOptAtoms 2 (s.denom i).strap?))]

/-- R4, R5. -/
def setDenominations (entries : List DenomEntry) (cred : Nat) (s : State) : Check Answered := do
  authority supervisorAtOffice [cred] s
  require (decide (s.acu.day ≠ .dayOpen)) .wrongState
  require (!s.csc.freeze) .frozen
  require (!s.countsPending) .busy
  require (!entries.isEmpty && decide (entries.length ≤ 8) && entries.all denomEntryOk
    && distinct (entries.map DenomEntry.slot)) .badField
  let held := firstFailing (rewriteOk s) entries
  require held.isNone .stockHeld [fNum 1 (held.getD 0)]
  let s1 := { s with acu.denoms := entries.foldl (fun t e => Table.set Denom.unused t e.slot (entryDenom e)) s.acu.denoms }
  answerOk s1 (denomFields s1)

/-- SET_DENOMINATIONS (R4, R5). -/
def execSetDenominations (tag : Nat) (entries : List DenomEntry) (cred : Nat) (s : State) : Out :=
  hostRequest (.setDenominations tag entries cred) tag .setDenominations (setDenominations entries cred) s

/-- R17. -/
def setBand (floor : AmountArg) (rate cred : Nat) (s : State) : Check Answered := do
  authority supervisorAtOffice [cred] s
  require (!s.csc.freeze) .frozen
  let v ← requireSome (amountArg floor) .badField
  require (decide (rate ≤ maxPieces)) .badField
  answerOk { s with acu.bandFloor := max 0 v, acu.bandRate := min 50 rate } [fAmount (max 0 v), fNum 1 (min 50 rate)]

/-- SET_BAND (R17). -/
def execSetBand (tag : Nat) (floor : AmountArg) (rate cred : Nat) (s : State) : Out :=
  hostRequest (.setBand tag floor rate cred) tag .setBand (setBand floor rate cred) s

/-! ## The clock (R57, R58) -/

/-- R58: the authority of SET_CLOCK, needed while the clock is set. -/
def clockAuthority (cred : Option Nat) (s : State) : Check Unit :=
  match s.acu.clock with
  | none => .ok ()
  | some _ => authority supervisorAtOffice cred.toList s

/-- R58. -/
def setClock (date : Date) (secs : Nat) (cred : Option Nat) (s : State) : Check Answered := do
  clockAuthority cred s
  require (validClock ⟨date, secs⟩) .badField
  answerOk { s with acu.clock := some ⟨date, secs⟩ } [.one (clockAtoms ⟨date, secs⟩)]

/-- SET_CLOCK (R58). -/
def execSetClock (tag : Nat) (date : Date) (secs : Nat) (cred : Option Nat) (s : State) : Out :=
  hostRequest (.setClock tag date secs cred) tag .setClock (setClock date secs cred) s

/-- R57: the day after a date. -/
def nextDate (d : Date) : Date :=
  if d.day < daysIn d.year d.month then { d with day := d.day + 1 }
  else if d.month < 12 then ⟨d.year, d.month + 1, 1⟩
  else ⟨d.year + 1, 1, 1⟩

/-- R57: the last second of 31 December 2099. -/
def lastSecond : ClockTime := ⟨⟨2099, 12, 31⟩, 86399⟩

/-- R57: the clock one tick on. -/
def nextSecond (c : ClockTime) : ClockTime :=
  if c = lastSecond then c
  else if c.secs + 1 < 86400 then { c with secs := c.secs + 1 }
  else ⟨nextDate c.date, 0⟩

/-! ## The business day (R60 to R62) -/

/-- R60: an opening stock line suits its slot. -/
def stockLineOk (s : State) (l : StockLine) : Bool :=
  match s.denom l.slot, l.strapped, l.loose, l.unfit, l.coin with
  | .note _ strap, some a, some b, some c, none =>
    decide (a ≤ maxPieces) && decide (b ≤ maxPieces) && decide (c ≤ maxPieces) && decide (a % strap = 0)
  | .coin _, none, none, none, some k => decide (k ≤ maxPieces)
  | _, _, _, _, _ => false

/-- R60 check 4. -/
def openDayFieldsOk (date : Date) (lines : List StockLine) (s : State) : Bool :=
  validDate date &&
  (match s.acu.day with
   | .dayClosed => decide ((s.acu.businessDate.map dateKey).getD 0 < dateKey date) && lines.isEmpty
   | _ => lines.all (fun l => decide (l.slot ≤ 7) && stockLineOk s l) && distinct (lines.map StockLine.slot))

/-- R60: what a line adds to stock. -/
def openingChange (l : StockLine) : StockChange :=
  ⟨l.slot, (l.strapped.getD 0 : Int), (l.loose.getD 0 : Int), (l.unfit.getD 0 : Int), (l.coin.getD 0 : Int)⟩

/-- R60: the value of the lines. -/
def openingValue (lines : List StockLine) (s : State) : Int :=
  (lines.map (fun l =>
    (((l.strapped.getD 0 + l.loose.getD 0 + l.unfit.getD 0 + l.coin.getD 0) * (s.denom l.slot).face : Nat) : Int))).sum

/-- R60: the opening movement. -/
def openingMovement (lines : List StockLine) (s : State) : Movement :=
  ⟨.host, lines.map openingChange, none, [], [⟨.dayOpen, none, none, openingValue lines s, openingValue lines s⟩]⟩

/-- R47, R60: the checks of the opening movement, of which the first, that the day is OPEN, is not made for OPEN_DAY. -/
def requireOpening (lines : List StockLine) (s : State) : Check Unit :=
  match checkMovement (openingMovement lines s) { s with acu.day := .dayOpen } with
  | none => .ok ()
  | some f => .error ⟨f.status, []⟩

/-- R60. -/
def openDay (date : Date) (lines : List StockLine) (cred : Nat) (s : State) : Check Answered := do
  authority supervisorAtOffice [cred] s
  require s.acu.clock.isSome .clockNotSet
  require (decide (s.acu.day ≠ .dayOpen)) .wrongState
  require (openDayFieldsOk date lines s) .badField
  require (amountInRange (openingValue lines s)) .amountRange
  requireOpening lines s
  let s1 := applyMovement (openingMovement lines s) s
  let s2 := { s1 with acu.day := .dayOpen, acu.businessDate := some date }
  answerOk s2 [.one (dateAtoms date), fAmount s2.stockValue, fAmount s2.acu.accountability]

/-- OPEN_DAY (R60). -/
def execOpenDay (tag : Nat) (date : Date) (lines : List StockLine) (cred : Nat) (s : State) : Out :=
  hostRequest (.openDay tag date lines cred) tag .openDay (openDay date lines cred) s

/-- R61 check 3. -/
def handOutsOk (lines : List SlotLine) (s : State) : Bool :=
  lines.all (fun l => decide (l.slot ≤ 7) && decide (l.count ≤ s.suspect l.slot)) && distinct (lines.map SlotLine.slot)

/-- R62: hand-outs taken from the suspect register. -/
def handOut (t : Table Nat) (l : SlotLine) : Table Nat := Table.set 0 t l.slot (Table.get 0 t l.slot - l.count)

/-- R62: a till over the close of a day. -/
def Till.closeDay (t : Till) : Till :=
  let t1 := { t with day := ⟨0, false⟩ }
  if t.state = .reconciled then { t1 with state := .idle, session := 1 } else t1

/-- R31, R33: every retired bag is freed, and the TABLE cause follows the available count. -/
def freeRetired (s : State) : State :=
  syncTable
    { s with bgr.bags := s.bgr.retired.foldl (fun t r => Table.set none t r none) s.bgr.bags, bgr.retired := [] }

/-- R61, R62. -/
def closeDay (handOuts : List SlotLine) (cred : Nat) (s : State) : Check Answered := do
  authority supervisorAtOffice [cred] s
  require (decide (s.acu.day = .dayOpen)) .wrongState
  require (handOutsOk handOuts s) .badField
  require (!laneNumbers.any (fun n => (s.lane n).batch.isSome)) .busy
  require s.inHandover.isNone .busy
  require (!s.liveAt .bench) .wrongState
  require (s.hasRoom .host 1) .journalFull
  let acu : Acu :=
    { s.acu with
      courier := ⟨0, false⟩, unattributed := ⟨0, false⟩, day := .dayClosed
      suspects := handOuts.foldl handOut s.acu.suspects }
  let tills := Table.update Till.initial Till.closeDay tillNumbers s.tau.tills
  let s1 := freeRetired { s with acu := acu, tau.tills := tills }
  let s2 := applyMovement (entriesOnly .host [⟨.dayClose, none, none, 0, 0⟩]) s1
  answerOk s2 [.one (dateAtoms (s.acu.businessDate.getD ⟨0, 0, 0⟩)), fAmount s2.stockValue, fAmount s2.acu.accountability,
    fNum 2 s.bgr.retired.length]

/-- CLOSE_DAY (R61, R62). -/
def execCloseDay (tag : Nat) (handOuts : List SlotLine) (cred : Nat) (s : State) : Out :=
  hostRequest (.closeDay tag handOuts cred) tag .closeDay (closeDay handOuts cred) s

/-! ## The office mode (R63, R64) -/

/-- R63. -/
def openOffice (cred : Nat) (s : State) : Check Answered := do
  authority custodianAtOffice [cred] s
  require (decide (s.acu.mode = .afterHours)) .wrongState
  require (!s.csc.latch) .lockdown
  answerOk (lanesOn { s with acu.mode := .opened }) []

/-- OPEN_OFFICE (R63). -/
def execOpenOffice (tag cred : Nat) (s : State) : Out :=
  hostRequest (.openOffice tag cred) tag .openOffice (openOffice cred) s

/-- R64. -/
def closeOffice (cred : Nat) (s : State) : Check Answered := do
  authority custodianAtOffice [cred] s
  require (decide (s.acu.mode = .opened)) .wrongState
  require (laneNumbers.all (fun n => decide ((s.lane n).state = .idle))) .busy
  require s.inHandover.isNone .busy
  require (!s.liveAt .bench) .wrongState
  require (allDoors.all (fun d => decide ((s.door d).state = .secure))) .doorOpen
  answerOk (lanesOff { s with acu.mode := .afterHours }) []

/-- CLOSE_OFFICE (R64). -/
def execCloseOffice (tag cred : Nat) (s : State) : Out :=
  hostRequest (.closeOffice tag cred) tag .closeOffice (closeOffice cred) s

/-! ## TAKE_JOURNAL and QUERY_STOCK (R56, R65) -/

/-- R56. -/
def takeJournal (k : Nat) (s : State) : Check Answered := do
  require (decide (1 ≤ k) && decide (k ≤ 8)) .badField
  answerOk (syncJournal { s with acu.journal := s.acu.journal.drop k })
    [.many ((s.acu.journal.take k).map (fun e => [.entry e]))]

/-- TAKE_JOURNAL (R56). -/
def execTakeJournal (tag k : Nat) (s : State) : Out := hostRequest (.takeJournal tag k) tag .takeJournal (takeJournal k) s

/-- R65: a slot as QUERY_STOCK reports it; a count its kind does not hold reads as 0 (R44).  One list holds all eight
slots, a slot not in use among them with the kind UNUSED: the model's choice (log 13). -/
def stockItem (s : State) (i : Nat) : List Atom :=
  let k := s.slotStock i
  [.packed 1 i, .byte (denomKindCode (s.denom i)), .packed 3 k.strapped, .packed 3 k.loose, .packed 3 k.unfit,
   .packed 3 k.coin, .packed 3 (s.suspect i)]

/-- R65: what QUERY_STOCK reports.  The four digits of the reserved count, whose range no rule states, are the model's
choice (log 13). -/
def stockFields (s : State) : List Field :=
  [.many (slotNumbers.map (stockItem s)), fAmount s.stockValue, fAmount s.bookSum, fAmount s.acu.accountability,
   fAmount s.acu.courier.amount, fFlag s.acu.courier.range, fAmount s.acu.unattributed.amount, fFlag s.acu.unattributed.range,
   fNamed (codeIn DayState.list s.acu.day), fOpt (s.acu.businessDate.map dateAtoms), fNamed (codeIn OfficeMode.list s.acu.mode),
   fClock s.acu.clock, fNum 2 s.acu.journal.length, fNum 2 s.acu.reserved, fNum 2 s.journalFree, fNum 4 s.acu.nextSeq]

/-- R65. -/
def queryStock (s : State) : Check Answered := answerOk s (stockFields s)

/-- QUERY_STOCK (R65). -/
def execQueryStock (tag : Nat) (s : State) : Out := hostRequest (.queryStock tag) tag .queryStock queryStock s

end Sys2Proof.Machine
end

