-- ==== Sys2Proof/Machine/Bags.lean ====
section
/-!
DEFINITION. The Bag Register's requests (chapter 2): SET_TAG_RANGE, MOVE_BAG and QUERY_BAG.  Allocation, retirement,
the tag check and the tag lookup are in Ops.
-/

namespace Sys2Proof.Machine

open Sys2Proof

/-! ## SET_TAG_RANGE (R35) -/

/-- R35: the whole map as a reply carries it, each item headed by its entry number: the model's choice (log 13). -/
def rangeFields (s : State) : List Field :=
  [.many (slotNumbers.map (fun i =>
    let e := s.tagRange i
    [.packed 1 i, .byte (flagByte e.enabled), .packed 4 e.first, .packed 4 e.last, .byte (codeIn RangePurpose.list e.purpose)]))]

/-- R35 check 4: the lowest-numbered other enabled entry that a range overlaps. -/
def overlappingEntry (entry first last : Nat) (s : State) : Option Nat :=
  slotNumbers.find? (fun i =>
    decide (i ≠ entry) && (s.tagRange i).enabled && decide ((s.tagRange i).first ≤ last) && decide (first ≤ (s.tagRange i).last))

/-- Writes an entry of the tag range map. -/
def putRange (i : Nat) (e : TagRange) (s : State) : State :=
  { s with bgr.ranges := Table.set TagRange.initial s.bgr.ranges i e }

/-- R35: an enabling SET_TAG_RANGE.  One that leaves out its first or its last tag is refused with BAD_FIELD at check 3: the
model's choice (log 58); for the purpose byte 0, log 55. -/
def enableRange (entry : Nat) (first last : Option Nat) (purpose : Option RangePurpose) (s : State) : Check Answered := do
  let a ← requireSome (first.filter validTagNo) .badField
  let b ← requireSome (last.filter validTagNo) .badField
  let p ← requireSome purpose .badField
  require (decide (a ≤ b)) .badField
  let other := overlappingEntry entry a b s
  require other.isNone .overlap [fNum 1 (other.getD 0)]
  let s1 := putRange entry ⟨true, a, b, p⟩ s
  answerOk s1 (rangeFields s1)

/-- R35. -/
def setTagRange (entry : Nat) (enable : Bool) (first last : Option Nat) (purpose : Option RangePurpose) (cred : Nat)
    (s : State) : Check Answered := do
  authority supervisorAtOffice [cred] s
  require (!s.csc.freeze) .frozen
  require (decide (entry ≤ 7)) .badField
  if enable then enableRange entry first last purpose s
  else
    let s1 := putRange entry { s.tagRange entry with enabled := false } s
    answerOk s1 (rangeFields s1)

/-- SET_TAG_RANGE (R35). -/
def execSetTagRange (tag entry : Nat) (enable : Bool) (first last : Option Nat) (purpose : Option RangePurpose)
    (cred : Nat) (s : State) : Out :=
  hostRequest (.setTagRange tag entry enable first last purpose cred) tag .setTagRange
    (setTagRange entry enable first last purpose cred) s

/-! ## MOVE_BAG (R40) -/

/-- R40: the custody place a destination names. -/
def destPlace : MoveDest → Place
  | .strongroom => .strongroom
  | .bench => .bench

/-- R40. -/
def moveBag (ref : Nat) (dest : Option MoveDest) (cred : Nat) (s : State) : Check Answered := do
  authority custodianAtOffice [cred] s
  require (validRef ref) .badField
  let d ← requireSome dest .badField
  let b ← requireSome (s.bag ref) .notFound
  require (decide (s.csc.strongroom.state = .opened)) .doorSecure
  require (b.state.live && decide (b.state ≠ .counting)) .wrongState
  require (decide (d ≠ .strongroom) || decide (b.custody = .bench)) .bagNotAtBench
  require (decide (d ≠ .bench) || decide (b.custody = .strongroom)) .wrongState
  answerOk (putBag ref { b with custody := destPlace d } s) [.one (placeAtoms (destPlace d))]

/-- MOVE_BAG (R40). -/
def execMoveBag (tag ref : Nat) (dest : Option MoveDest) (cred : Nat) (s : State) : Out :=
  hostRequest (.moveBag tag ref dest cred) tag .moveBag (moveBag ref dest cred) s

/-! ## QUERY_BAG (R42) -/

/-- R30: a retired bag's retirement order, counted from 1 at the oldest. -/
def retirementOrder (ref : Nat) (s : State) : Option Nat :=
  (s.bgr.retired.findIdx? (fun r => decide (r = ref))).map (· + 1)

/-- R23, R42: a record as QUERY_BAG reports it, its fields as R23 lists them; the custody place carries its lane. -/
def bagFields (ref : Nat) (b : Bag) (s : State) : List Field :=
  [fTag b.tagNo, fNamed (codeIn Purpose.list b.purpose)] ++ sourceFields b.source
  ++ [fNumOpt 3 b.declarer, .one (placeAtoms b.custody), fNamed (codeIn BagState.list b.state), fAmount b.book,
      fAmountOpt b.declared, fOpt (b.tally.map (fun t => [.tally t])), fOpt (b.previous.map (fun t => [.tally t])),
      fNum 1 b.recount, fSet b.flags.toList, fNumOpt 2 (retirementOrder ref s)]

/-- R42: a record as a query by tag lists it. -/
def bagItem (s : State) (ref : Nat) : List Atom :=
  match s.bag ref with
  | none => []
  | some b =>
    [.packed 2 ref, .byte (codeIn Purpose.list b.purpose), .byte (codeIn BagState.list b.state)] ++ placeAtoms b.custody
    ++ [.bits (bitsOf b.flags.toList)]

/-- R42: a query by bag reference. -/
def queryByRef (ref : Nat) (part : Option Nat) (s : State) : Check Answered := do
  let b ← requireBag ref s
  let fs ← requirePart part (bagFields ref b s)
  answerOk s fs

/-- R42: a query by tag number; the last field is the mark MORE. -/
def queryByTag (tagNo : Nat) (part : Option Nat) (s : State) : Check Answered := do
  require (validTagNo tagNo) .badField
  let refs := s.refsWhere (fun b => decide (b.tagNo = some tagNo))
  require (!refs.isEmpty) .notFound
  let fs ← requirePart part [.many ((refs.take 16).map (bagItem s)), fNamed (flagByte (decide (16 < refs.length)))]
  answerOk s fs

/-- R42: QUERY_BAG names either one bag reference or one tag number; a reference of 0 stands for its absence (11.7),
and one that names both or neither is BAD_FIELD (log 19). -/
def queryBag (ref : Nat) (tagNo part : Option Nat) (s : State) : Check Answered :=
  match tagNo with
  | none => queryByRef ref part s
  | some t => if ref = 0 then queryByTag t part s else .error ⟨.badField, []⟩

/-- QUERY_BAG (R42). -/
def execQueryBag (tag ref : Nat) (tagNo part : Option Nat) (s : State) : Out :=
  hostRequest (.queryBag tag ref tagNo part) tag .queryBag (queryBag ref tagNo part) s

end Sys2Proof.Machine
end

