-- ==== Sys2Proof/Machine/Recon.lean ====
section
/-!
DEFINITION. The Reconciliation Unit (chapter 7): the reconciliation queue and the Decimal Engine, the completion of a
valuation, confirmation and merge, RESOLVE_DISPUTE and MERGE_BAG.
-/

namespace Sys2Proof.Machine

open Sys2Proof

/-! ## COUNT_MANUAL and the beginning of a valuation (R131, R132) -/

/-- R105, R131: the purposes that are counted. -/
def countedPurpose (p : Purpose) : Bool := decide (p = .takings) || decide (p = .skim) || decide (p = .changeIn)

/-- R131. -/
def countManual (ref : Nat) (tally : Tally) (cred : Nat) (s : State) : Check Answered := do
  authority custodianAtOffice [cred] s
  require (validRef ref && tallyOk tally s) .badField
  let b ← requireSome (s.bag ref) .notFound
  require (countedPurpose b.purpose) .wrongState
  require (decide (b.state = .intact) || decide (b.state = .quarantined)) .wrongState
  require (decide (b.custody = .bench)) .bagNotAtBench
  require (decide (s.rcu.queue.length < 6)) .busy
  requireReservation s
  let s1 := putBag ref { b with state := .counting } { s with rcu.queue := s.rcu.queue ++ [.manual ref tally] }
  .ok ⟨makeReservation s1, .accepted, [fRef (some ref), fNum 1 (s.rcu.queue.length + 1)]⟩

/-- COUNT_MANUAL (R131). -/
def execCountManual (tag ref : Nat) (tally : Tally) (cred : Nat) (s : State) : Out :=
  hostRequest (.countManual tag ref tally cred) tag .countManual (countManual ref tally cred) s

/-- R130, R136: what an entry of the queue counts: the bag, the tally as it stands, and the late-notes flag. -/
structure QueuedCount where
  ref   : Nat
  tally : Tally
  late  : Bool
  lane  : Option Nat
  deriving DecidableEq, Repr

/-- R130: the count that a queue entry names; a LANE entry's stands in the lane record. -/
def queuedCount (e : QueueEntry) (s : State) : Option QueuedCount :=
  match e with
  | .manual ref tally => some ⟨ref, tally, false, none⟩
  | .lane n => (s.lane n).batch.map (fun b => ⟨b.ref, b.tally, b.lateNotes, some n⟩)

/-- R132: the free engine begins the valuation of the oldest entry. -/
def beginValuation (s : State) : State :=
  match s.rcu.engine, s.rcu.queue with
  | none, e :: _ =>
    match queuedCount e s with
    | none => s
    | some q => { s with rcu.engine := some ⟨q.tally, valueTally q.tally s⟩ }
  | _, _ => s

/-- VALUATION_BEGIN (R132). -/
def execValuationBegin (s : State) : Out := background beginValuation s

/-! ## Confirmation and merge (R21, R139, R140) -/

/-- R21: what a slot of a tally adds to stock. -/
def mergeChange (t : Tally) (s : State) (i : Nat) : StockChange :=
  let c := tallySlot t i
  match s.denom i with
  | .unused => noChange i
  | .coin _ => { noChange i with coin := (c.coin : Int) }
  | .note _ strap =>
    { noChange i with strapped := ((c.fit / strap * strap : Nat) : Int), loose := ((c.fit % strap : Nat) : Int), unfit := (c.unfit : Int) }

/-- R50: what a tally adds to the suspect register. -/
def mergeSuspects (t : Tally) : List (Nat × Nat) := slotNumbers.map (fun i => (i, (tallySlot t i).suspect))

/-- R139, R143: a confirmation: the bag as recorded (R138), the counted value and the variance. -/
structure Confirmation where
  ref      : Nat
  bag      : Bag
  tally    : Tally
  counted  : Int
  variance : Int
  origin   : Origin
  entry    : EntryKind
  deriving DecidableEq, Repr

/-- R139: the till and session that the till report names. -/
def reportedTill (b : Bag) : Option (Nat × Nat) :=
  match b.source with
  | .till n k => if b.purpose = .takings ∨ b.purpose = .skim then some (n, k) else none
  | .courier _ => none
  | .office => none
  | .unknown => none

/-- R96, R100: the till as a till report leaves it, its result made when one is due. -/
def reportedTillAfter (t : Till) (session : Nat) (v : Int) (s : State) : Till :=
  if t.resultDue session then (t.report session v).settle s.acu.bandFloor s.acu.bandRate else t.report session v

/-- R100: the TILL_RESULT entry of a confirmation, when its report makes a result. -/
def resultEntries (c : Confirmation) (s : State) : List EntrySpec :=
  match reportedTill c.bag with
  | none => []
  | some (n, k) =>
    if (s.till n).resultDue k then [resultEntry n (reportedTillAfter (s.till n) k c.counted s)] else []

/-- R139, R140, R143: the movement of a confirmation, with its merge or without it. -/
def confirmMovement (c : Confirmation) (merge : Bool) (s : State) : Movement :=
  let till := c.bag.source.till?
  let varianceEntry : List EntrySpec := if c.variance = 0 then [] else [⟨c.entry, some c.ref, till, c.variance, c.variance⟩]
  let mergeEntry : List EntrySpec := if merge then [⟨.bagToStock, some c.ref, till, c.counted, 0⟩] else []
  ⟨c.origin, if merge then slotNumbers.map (mergeChange c.tally s) else [],
   c.bag.source.account.map (fun a => (a, c.variance)), if merge then mergeSuspects c.tally else [],
   varianceEntry ++ mergeEntry ++ resultEntries c s⟩

/-- R139: the till report takes effect. -/
def applyReport (c : Confirmation) (s : State) : State :=
  match reportedTill c.bag with
  | none => s
  | some (n, k) => putTill n (reportedTillAfter (s.till n) k c.counted s) s

/-- R139, R140: a confirmation takes effect: its movement, the bag record and the till report. -/
def applyConfirmation (c : Confirmation) (merge : Bool) (s : State) : State :=
  let s1 := applyReport c (applyMovement (confirmMovement c merge s) s)
  let b := { c.bag with book := c.counted }
  if merge then retireBag c.ref { b with state := .emptied } s1 else putBag c.ref { b with state := .confirmed } s1

/-- R140: the first slot whose count the merge would take past its range. -/
def heldSlot (f : MoveFail) : Option Nat := f.slot

/-- R139, R140: a confirmation; when the merge fails its stock check the smaller movement stands in its place.  The
failure, if there was one, is handed back for STOCK_RANGE. -/
def confirm (c : Confirmation) (s : State) : State × Option MoveFail :=
  match checkMovement (confirmMovement c true s) s with
  | none => (applyConfirmation c true s, none)
  | some f => (applyConfirmation c false s, some f)

/-- R140: the notice STOCK_RANGE. -/
def notifyStockRange (ref : Nat) (f : Option MoveFail) (s : State) : State :=
  match f with
  | none => s
  | some f => notify .stockRange [fRef (some ref), fLane (heldSlot f)] s

/-- R100, R141: the till's own RESULT and offer, when the report made a till result; `was` is the state in which the
confirmation was made. -/
def announceReport (c : Confirmation) (was s : State) : State :=
  match reportedTill c.bag with
  | none => s
  | some (n, k) => if (was.till n).resultDue k then announceResult n s else s

/-! ## The completion of a valuation (R134 to R141) -/

/-- R134: a result whose variance would overflow the accountability becomes RANGE. -/
def testAccountability (v : ValuationResult) (s : State) : ValuationResult :=
  match v.variance with
  | none => v
  | some x => if amountInRange (s.acu.accountability + x) then v else { v with variance := none, band := none, cls := .range }

/-- R135: a BAG_RESULT. -/
def bagWatchResult (ref : Nat) (b : Bag) (v : ValuationResult) : WatchResult :=
  ⟨.bag, some ref, b.source.kind, b.source.number, b.declarer, some b.purpose, v.cls, v.variance⟩

/-- R136: whether a recount's tally is identical to the latest one; no comparison is made for a first count or RANGE. -/
def identicalRecount (b : Bag) (t : Tally) (cls : Classification) : Bool :=
  match b.tally with
  | none => false
  | some old => decide (cls ≠ .range) && identicalTallies old t

/-- R136: the recount number after a count. -/
def recountAfter (b : Bag) (t : Tally) (cls : Classification) : Nat :=
  if cls = .range ∨ b.tally = none ∨ identicalRecount b t cls then b.recount else min 2 (b.recount + 1)

/-- R137: the outcome of a completed valuation. -/
def outcomeOf (b : Bag) (t : Tally) (cls : Classification) (late recountFired : Bool) : BagState :=
  if cls = .range then .disputed
  else if late || recountFired then .quarantined
  else if b.tally = none then (if cls = .exact ∨ cls = .within then .confirmed else .quarantined)
  else if identicalRecount b t cls then .confirmed
  else if recountAfter b t cls = 2 then .disputed
  else .quarantined

/-- R138: the bag as a completion records it. -/
def recordCount (b : Bag) (t : Tally) (cls : Classification) (outcome : BagState) : Bag :=
  { b with
    previous := b.tally.or b.previous
    tally := some t
    recount := recountAfter b t cls
    state := outcome
    custody := .bench }

/-- R141: the marks LATE_NOTES, WATCH_RECOUNT, IDENTICAL and MERGE_HELD of a RESULT. -/
def resultMarks (b : Bag) (q : QueuedCount) (cls : Classification) (recountFired held : Bool) : List Bool :=
  [decide (cls ≠ .range) && q.late, decide (cls ≠ .range) && recountFired, identicalRecount b q.tally cls, held]

/-- R141: the bag's RESULT notice. -/
def notifyResult (b : Bag) (q : QueuedCount) (v : ValuationResult) (outcome : BagState) (recountFired held : Bool)
    (s : State) : State :=
  notify .result [fNamed (codeIn ResultKind.list .bag), fRef (some q.ref), fLane q.lane, fNamed (flagByte q.lane.isNone),
    fAmountOpt v.counted, fAmountOpt v.variance, fAmountOpt v.band, fNamed (codeIn Classification.list v.cls),
    fNamed (codeIn BagState.list outcome), fNum 1 (recountAfter b q.tally v.cls),
    fSet (resultMarks b q v.cls recountFired held)] s

/-- R138: the lane acts on the completion (R120), the entry leaves the queue and the engine is free. -/
def leaveQueue (q : QueuedCount) (s : State) : State :=
  let s1 := match q.lane with
    | none => s
    | some n => completeLane n s
  { s1 with rcu.queue := s1.rcu.queue.tail, rcu.engine := none }

/-- R134 to R141: the completion of the valuation of count `q` of bag `b`; `s` is the state after the snoop. -/
def completeCount (q : QueuedCount) (b : Bag) (counted : Option Int) (s : State) : State :=
  let v := testAccountability (valuationResult counted b.book s.acu.bandFloor s.acu.bandRate) s
  let offered := offer (bagWatchResult q.ref b v) s
  let fired := offered.2.contains .recount
  let outcome := outcomeOf b q.tally v.cls q.late fired
  let recorded := recordCount b q.tally v.cls outcome
  match outcome, v.counted, v.variance with
  | .confirmed, some value, some x =>
    let c : Confirmation := ⟨q.ref, recorded, q.tally, value, x, .reserved, .variance⟩
    let r := confirm c offered.1
    let s1 := notifyStockRange q.ref r.2 (leaveQueue q r.1)
    announceReport c offered.1 (notifyResult b q v outcome fired r.2.isSome s1)
  | _, _, _ => notifyResult b q v outcome fired false (leaveQueue q (endReservation (putBag q.ref recorded offered.1)))

/-- R100, R134 to R141: the completion of the valuation in flight. -/
def completeValuation (s : State) : State :=
  match s.rcu.engine, s.rcu.queue with
  | some v, e :: _ =>
    match queuedCount e s with
    | none => s
    | some q =>
      match s.bag q.ref with
      | none => s
      | some b => completeCount q b v.counted (snoopFor b s)
  | _, _ => s

/-- VALUATION_COMPLETION (R132 to R141). -/
def execValuationCompletion (s : State) : Out := background completeValuation s

/-! ## RESOLVE_DISPUTE (R142, R143) -/

/-- R142: the tally that a choice names. -/
def chosenTally (b : Bag) (choice : DisputeChoice) (tally : Option Tally) : Option Tally :=
  match choice with
  | .first => b.previous
  | .latest => b.tally
  | .manual => tally

/-- R142 check 2: a MANUAL choice carries a tally that passes R7; one that leaves its tally out fails here: the model's
choice (log 52).  A tally carried with FIRST or LATEST is disregarded, without the checks of R7: also its choice (log 42). -/
def manualTallyOk (choice : DisputeChoice) (tally : Option Tally) (s : State) : Bool :=
  match choice with
  | .first => true
  | .latest => true
  | .manual => (tally.map (fun t => tallyOk t s)).getD false

/-- R143: the bag as a resolution records its chosen tally. -/
def recordChoice (b : Bag) (t : Tally) : Bag := if b.tally = some t then b else { b with tally := some t, previous := b.tally }

/-- R142 checks 7 and 8, R143; `s` is the state after the snoop of R100, which stands whatever follows. -/
def settleDispute (ref : Nat) (b : Bag) (t : Tally) (s : State) : Answered :=
  match (valuationResult (valueTally t s) b.book s.acu.bandFloor s.acu.bandRate) with
  | ⟨some value, some x, _, _⟩ =>
    let c : Confirmation := ⟨ref, recordChoice b t, t, value, x, .host, .resolve⟩
    if !amountInRange (s.acu.accountability + x) then ⟨s, .amountRange, []⟩
    else if !s.hasRoom .host (confirmMovement c true s).entries.length then ⟨s, .journalFull, []⟩
    else
      let r := confirm c s
      let s1 := announceReport c s (notifyStockRange ref r.2 r.1)
      ⟨s1, .ok, [fAmount value, fAmount x, fNamed (codeOpt BagState.list ((s1.bag ref).map Bag.state)), fNamed (flagByte r.2.isSome)]⟩
  | _ => ⟨s, .amountRange, []⟩

/-- R142, R143. -/
def resolveDispute (ref : Nat) (choice : Option DisputeChoice) (tally : Option Tally) (cred1 cred2 : Nat) (s : State) :
    Check Answered := do
  authority twoSupervisors [cred1, cred2] s
  require (validRef ref) .badField
  let k ← requireSome choice .badField
  require (manualTallyOk k tally s) .badField
  let b ← requireSome (s.bag ref) .notFound
  require (decide (b.state = .disputed)) .wrongState
  let t ← requireSome (chosenTally b k tally) .notFound
  require (decide (s.acu.day = .dayOpen)) .wrongState
  .ok (settleDispute ref b t (snoopFor b s))

/-- RESOLVE_DISPUTE (R142, R143). -/
def execResolveDispute (tag ref : Nat) (choice : Option DisputeChoice) (tally : Option Tally) (cred1 cred2 : Nat)
    (s : State) : Out :=
  hostRequest (.resolveDispute tag ref choice tally cred1 cred2) tag .resolveDispute
    (resolveDispute ref choice tally cred1 cred2) s

/-! ## MERGE_BAG (R144) -/

/-- R144: the merge movement. -/
def mergeMovement (ref : Nat) (b : Bag) (s : State) : Movement :=
  let t := b.tally.getD Tally.initial
  ⟨.host, slotNumbers.map (mergeChange t s), none, mergeSuspects t, [⟨.bagToStock, some ref, b.source.till?, b.book, 0⟩]⟩

/-- R144. -/
def mergeBag (ref cred : Nat) (s : State) : Check Answered := do
  authority custodianAtOffice [cred] s
  let b ← requireBag ref s
  require (decide (b.state = .confirmed)) .wrongState
  match checkMovement (mergeMovement ref b s) s with
  | some f => .error ⟨f.status, []⟩
  | none =>
    answerOk (retireBag ref { b with state := .emptied } (applyMovement (mergeMovement ref b s) s))
      [fNamed (codeIn BagState.list .emptied)]

/-- MERGE_BAG (R144). -/
def execMergeBag (tag ref cred : Nat) (s : State) : Out :=
  hostRequest (.mergeBag tag ref cred) tag .mergeBag (mergeBag ref cred) s

end Sys2Proof.Machine
end

