-- ==== Sys2Proof/Machine/HostPort.lean ====
section
/-!
DEFINITION. The Host Port and the Unit Bus Controller (chapter 11): frames, SET_NOTICES, STATUS, RESTART, the transmit
path and discarded unit records; and the tick of the Time Base, which reaches every timer (log 5).
-/

namespace Sys2Proof.Machine

open Sys2Proof

/-! ## SET_NOTICES, STATUS, RESTART (R198 to R200) -/

/-- R198: the enables as a reply carries them. -/
def enableFields (g : Bool) (e : NoticeEnables) : List Field :=
  [fFlag g, fFlag e.start, fFlag e.custody, fFlag e.badges, fFlag e.lanes, fFlag e.results, fFlag e.tills, fFlag e.watch,
   fFlag e.handover]

/-- R198. -/
def setNotices (global : Bool) (classes : NoticeEnables) (s : State) : Check Answered :=
  answerOk { s with hpt.globalEnable := global, hpt.classEnables := classes } (enableFields global classes)

/-- SET_NOTICES (R198). -/
def execSetNotices (tag : Nat) (global : Bool) (classes : NoticeEnables) (s : State) : Out :=
  hostRequest (.setNotices tag global classes) tag .setNotices (setNotices global classes) s

/-- R199: a door as STATUS reports it: its state, its timer when running, its lock (ENGAGED 1, RELEASED 2) and its
contact (OPEN 1, CLOSED 2). -/
def doorStatus (d : DoorName) (s : State) : List Field :=
  let x := s.door d
  [fNamed (doorStateCode d x.state), fNumOpt 2 x.timer, fNamed (if x.lockReleased then 2 else 1),
   fNamed (if x.contactOpen then 1 else 2)]

/-- R199: a drop safe as STATUS reports it: its door, bag count, chute causes and chute (LOCKED 1, UNLOCKED 2). -/
def safeStatus (s : State) (n : Nat) : List Field :=
  doorStatus (.drop n) s
  ++ [fNum 2 (s.safe n).count, fSet (s.safe n).causes.toList, fNamed (if (s.safe n).chuteLocked then 1 else 2)]

/-- R203: the retention flag: VALID 1, INVALID 2. -/
def retentionCode (valid : Bool) : Nat := if valid then 1 else 2

/-- R199: what STATUS carries.  ALARM and the level of PANIC are flag bytes, 01 for driven and for high: the model's choice
(log 13). -/
def statusFields (s : State) : List Field :=
  [fNamed (codeIn StartCause.list s.sys.lastCause), fNamed (retentionCode s.sys.retentionValid), fFlag s.hpt.overflow,
   fNum 3 s.hpt.dropped, fNum 3 s.ubc.unitErrors, fFlag s.ubc.alarm, fNumOpt 2 s.ubc.alarmTimer, fFlag s.ubc.panicHigh,
   fNamed (codeIn EdgeSelect.list s.ubc.panicSel), fFlag s.csc.latch, fFlag s.csc.holdRunning, fNum 2 s.csc.holdTimer,
   fFlag s.csc.freeze, fFlag s.csc.maintenance, fFlag s.wcu.auditHold, fNamed (codeIn DayState.list s.acu.day),
   fNamed (codeIn OfficeMode.list s.acu.mode), fClock s.acu.clock]
  ++ doorStatus .strongroom s ++ safeNumbers.flatMap (safeStatus s)
  ++ laneNumbers.map (fun n => fNamed (codeIn LaneState.list (s.lane n).state))
  ++ [fNum 1 s.rcu.queue.length, fNum 1 s.tau.postings.length, fNum 1 s.tau.skimQueue.length, fNum 2 s.journalFree,
      fNumOpt 2 (s.inHandover.map (fun x => x.2.visit))]

/-- R198, R199, R201: STATUS reports and clears the overflow record and the unit error count. -/
def status (s : State) : Check Answered :=
  answerOk { s with hpt.overflow := false, hpt.dropped := 0, ubc.unitErrors := 0 } (statusFields s)

/-- STATUS (R199). -/
def execStatus (tag : Nat) (s : State) : Out := hostRequest (.status tag) tag .status status s

/-- R200: the start follows once the reply has been sent (RESTART_START). -/
def restart (cred : Nat) (s : State) : Check Answered := do
  authority supervisorAtOffice [cred] s
  answerOk { s with hpt.restartPending := true } []

/-- RESTART (R200). -/
def execRestart (tag cred : Nat) (s : State) : Out := hostRequest (.restart tag cred) tag .restart (restart cred) s

/-! ## Frames (R195, R196) -/

/-- R195: a frame that is not taken. -/
def badFrame (s : State) : State := answerFrame ⟨0, 0, .badFrame, []⟩ s

/-- R195, R196: a request whose frame is good: of an unknown kind, malformed, or received. -/
def receiveRequest (tag kind : Nat) (body : List Byte) (s : State) : State :=
  match (if kind = 0 then none else ReqKind.list[kind - 1]?) with
  | none => answerFrame ⟨tag, kind, .badKind, []⟩ s
  | some k =>
    match parseBody tag k body with
    | none => answerFrame ⟨tag, kind, .badField, []⟩ s
    | some i => arrive i tag kind s

/-- R195: a whole frame: its bytes after the lead byte. -/
def receiveFrame (bytes : List Byte) (s : State) : State :=
  let inner := bytes.dropLast.dropLast
  if checkBytes inner ≠ bytes.drop inner.length then badFrame s
  else
    match inner with
    | _ :: tag :: kind :: body => if tag = 0 then badFrame s else receiveRequest tag.toNat kind.toNat body s
    | _ => badFrame s

/-- Writes the frame in progress. -/
def putRx (r : Option RxFrame) (s : State) : State := { s with hpt.rx := r }

/-- R195: the number of bytes that follow the lead byte of a frame with this length byte. -/
def frameLength (len : Byte) : Nat := len.toNat + 5

/-- R195: the second tick after the lead byte abandons a frame. -/
def abandonStale (s : State) : State :=
  match s.hpt.rx with
  | none => s
  | some f => if 2 ≤ f.ticks then badFrame (putRx none s) else s

/-- R195: a byte that belongs to a frame in progress. -/
def feedFrame (f : RxFrame) (b : Byte) (s : State) : State :=
  let bytes := f.bytes ++ [b]
  match bytes with
  | [] => s
  | len :: _ =>
    if 240 < len.toNat then badFrame (putRx none s)
    else if bytes.length < frameLength len then putRx (some ⟨bytes, f.ticks⟩) s
    else receiveFrame bytes (putRx none s)

/-- R195: one byte received. -/
def feedByte (s : State) (b : Byte) : State :=
  let s := abandonStale s
  match s.hpt.rx with
  | none => if b = leadByte then putRx (some ⟨[], 0⟩) s else s
  | some f => feedFrame f b s

/-- FRAME_RECEIVED (R195, R196). -/
def execFrameReceived (bytes : List Byte) (s : State) : Out := event (fun s => bytes.foldl feedByte s) s

/-- FRAME_TIMEOUT (R195). -/
def execFrameTimeout (s : State) : Out := event abandonStale s

/-! ## The transmit path and discarded records (R197, R201) -/

/-- R197: the next message leaves: the oldest reply, or else the oldest notice.  R200: once the reply of a RESTART has
been sent the part makes its start, so no notice leaves before it. -/
def sendMessage (s : State) : State :=
  match s.hpt.replies, s.hpt.notices with
  | r :: rest, _ => { s with hpt.replies := rest, hpt.sent := s.hpt.sent ++ [.reply r] }
  | [], n :: rest =>
    if s.hpt.restartPending then s else { s with hpt.notices := rest, hpt.sent := s.hpt.sent ++ [.notice n] }
  | [], [] => s

/-- MESSAGE_SEND (R197). -/
def execMessageSend (s : State) : Out := event sendMessage s

/-- 11.4: the types of record that unit position `p` sends (0 to 20, as UnitPos.place numbers them). -/
def positionSends (p : Nat) (t : RecordType) : Bool :=
  match t with
  | .note => decide (p < 4)
  | .pocket => decide (p < 4)
  | .jam => decide (p < 4)
  | .badge => decide (4 ≤ p) && decide (p < 7)
  | .door => decide (7 ≤ p) && decide (p < 14)
  | .drop => decide (14 ≤ p) && decide (p < 20)
  | .hatchScan => decide (p = 20)
  | .unknown => false

/-- R201: a record from a known address, of a type its position sends, with its fields in their sets. -/
def recordTaken (addr : Nat) (t : RecordType) (fieldsOk : Bool) (s : State) : Bool :=
  fieldsOk && (List.range 21).any (fun p => decide (s.ubc.addrs[p]? = some addr) && positionSends p t)

/-- UNIT_RECORD_DISCARDED (R201, R202): a record that R201 does not discard is delivered as its own command, so it has
no effect here (log 10). -/
def execUnitRecordDiscarded (addr : Nat) (type : RecordType) (fieldsOk : Bool) (s : State) : Out :=
  unitRecord (recordTaken addr type fieldsOk s) id s

/-! ## The tick of the Time Base (R57, 4.4) -/

/-- R57: the clock ticks; one that is not set does not. -/
def tickClock (s : State) : State := { s with acu.clock := s.acu.clock.map nextSecond }

/-- A timer one tick on; at 0 it waits for its expiry (log 4). -/
def tickTimer (t : Option Nat) : Option Nat := t.map (· - 1)

/-- R74: a presence list one tick on. -/
def tickPresence (l : List Presence) : List Presence := l.map (fun e => { e with left := e.left - 1 })

/-- R159, R164: a door one tick on. -/
def tickDoor (d : Door) : Door :=
  { d with timer := tickTimer d.timer, openFor := if d.state = .opened ∧ d.timer.isSome then d.openFor + 1 else d.openFor }

/-- R167: a drop safe one tick on. -/
def tickSafe (d : DropSafe) : DropSafe := { d with door := tickDoor d.door }

/-- R186: a manifest one tick on. -/
def tickManifest (m : Option Manifest) : Option Manifest := m.map (fun m => { m with timer := tickTimer m.timer })

/-- Every timer one tick on: presences, doors, ALARM, the Lockdown Hold, the handover window and the frame in progress. -/
def tickTimers (s : State) : State :=
  { s with
    cru.office := tickPresence s.cru.office
    cru.strongroom := tickPresence s.cru.strongroom
    cru.hatch := tickPresence s.cru.hatch
    csc.strongroom := tickDoor s.csc.strongroom
    csc.safes := Table.update DropSafe.initial tickSafe safeNumbers s.csc.safes
    csc.holdTimer := if s.csc.holdRunning then s.csc.holdTimer - 1 else s.csc.holdTimer
    ubc.alarmTimer := tickTimer s.ubc.alarmTimer
    hoc.manifests := Table.update none tickManifest manifestNumbers s.hoc.manifests
    hpt.rx := s.hpt.rx.map (fun f => { f with ticks := f.ticks + 1 }) }

/-- CLOCK_TICK (R57, 4.4, R202): while RESET is asserted or the supply is lost only the clock goes on. -/
def execClockTick (s : State) : Out := .next (tickClock (if s.operating then tickTimers s else s))

end Sys2Proof.Machine
end

