-- ==== Sys2Proof/Machine/Starts.lean ====
section
/-!
DEFINITION. The starts of the part (R203 and the rules of each chapter for them), the RESET input and the loss of supply.
-/

namespace Sys2Proof.Machine

open Sys2Proof

/-! ## A COLD start -/

/-- R203: a COLD start: every record at its value after a COLD start.  The level of the PANIC input is the pin's own;
the waiting commands and the model's two logs are not records of the part (log 3). -/
def coldStart (s : State) : State :=
  { State.reset with
    hpt.sent := s.hpt.sent ++ [.notice coldStartNotice]
    ubc.panicHigh := s.ubc.panicHigh
    ubc.commands := s.ubc.commands ++ coldCommands
    pending := s.pending }

/-! ## A start that keeps the retained store -/

/-- R128, R145: the bags of the lanes' batches and of the MANUAL entries, each of which returns once. -/
def State.countingBags (s : State) : List Nat :=
  laneNumbers.flatMap (fun n =>
    ((s.lane n).batch.map Batch.ref).toList ++ (s.lane n).stack.map (fun x => x.batch.ref))
  ++ s.rcu.queue.filterMap (fun e => match e with
      | .manual ref _ => some ref
      | .lane _ => none)

/-- R27: each of the bags given returns to the BENCH. -/
def returnBags (l : List Nat) (s : State) : State := l.foldl (fun s r => returnBag r s) s

/-- R27, R128, R145: the batches and valuations are abandoned and their bags return to the BENCH. -/
def abandonCounts (s : State) : State :=
  let resolved : Lane := { Lane.initial with state := if s.acu.mode = .opened then .idle else .off }
  let s1 := returnBags s.countingBags s
  { s1 with
    clc.lanes := Table.update Lane.initial (fun _ => resolved) laneNumbers s1.clc.lanes
    rcu := ⟨[], none⟩
    acu.reserved := 0 }

/-- R178: a door at a start: OPEN where its contact is open, with the Open Limit in full; SECURE otherwise. -/
def resolveDoor (openLimit : Nat) (d : Door) : Door :=
  if d.contactOpen then ⟨.opened, none, some openLimit, false, true, false, 0⟩ else ⟨.secure, none, none, false, false, false, 0⟩

/-- R178: the chute causes derived afresh. -/
def derivedCauses (tableCause journalCause latch : Bool) (d : DropSafe) : ChuteCauses :=
  ⟨decide (40 ≤ d.count), tableCause, journalCause, latch, decide (d.door.state ≠ .secure)⟩

/-- R178: a drop safe at a start. -/
def resolveSafe (openLimit : Nat) (tableCause journalCause latch : Bool) (d : DropSafe) : DropSafe :=
  let d1 := { d with door := resolveDoor openLimit d.door }
  let causes := derivedCauses tableCause journalCause latch d1
  { d1 with causes := causes, chuteLocked := causes.any }

/-- R178, R179: doors, chutes and the latch at a start; `power` clears Settings Freeze. -/
def resolveCustody (power : Bool) (s : State) : State :=
  let safes := resolveSafe s.csc.policy.openLimit (decide (s.available ≤ 8)) (decide (s.journalFree ≤ 8)) s.csc.latch
  { s with
    csc.strongroom := resolveDoor s.csc.policy.openLimit s.csc.strongroom
    csc.safes := Table.update DropSafe.initial safes safeNumbers s.csc.safes
    csc.freeze := s.csc.freeze && !power
    csc.holdTimer := if s.csc.latch then s.csc.policy.lockdownHold else s.csc.holdTimer
    csc.holdRunning := s.csc.latch }

/-- R77: every presence list is empty. -/
def emptyPresence (s : State) : State := { s with cru.office := [], cru.strongroom := [], cru.hatch := [] }

/-- R193: a manifest in HANDOVER is ABORTED with cause START. -/
def abortAtStart (s : State) : State :=
  match s.inHandover with
  | none => s
  | some (n, m) => closeRecord n m .aborted .start s

/-- R198, R203: the Host Port at a start. -/
def resetHostPort (s : State) : State :=
  { s with hpt := { rx := none, buffer := [], replies := [], notices := [], globalEnable := true,
                    classEnables := NoticeEnables.all, overflow := false, dropped := 0, restartPending := false,
                    sent := s.hpt.sent } }

/-- R201, R202: the Unit Bus Controller at a start. -/
def resetUnitBus (s : State) : State :=
  { s with ubc.addrs := strapAddresses, ubc.unitErrors := 0, ubc.alarmTimer := none, ubc.alarm := s.csc.latch }

/-- R203: the unit commands of a start. -/
def startCommands (s : State) : List (UnitPos × UnitCmd) :=
  laneNumbers.map (fun n => (.lane n, .stop)) ++ allDoors.map (fun d => (.door d, .engage))
  ++ safeNumbers.map (fun n => (.chute n, if (s.safe n).chuteLocked then .lock else .unlock))

/-- R203: a notice of the start is sent at once: the part then takes frames and records (log 39). -/
def sendNotice (k : NoticeKind) (fields : List Field) (s : State) : State :=
  { s with hpt.sent := s.hpt.sent ++ [.notice ⟨k, fields⟩] }

/-- R203: the START notice of a start that keeps the store. -/
def sendStart (c : StartCause) (s : State) : State :=
  sendNotice .start [fNamed (codeIn StartCause.list c), fNamed (retentionCode true), fNamed (codeIn DayState.list s.acu.day),
    fNamed (codeIn OfficeMode.list s.acu.mode), fClock s.acu.clock, fFlag s.csc.latch] s

/-- R193, R203: MANIFEST_CLOSED of the manifest aborted at a start, after the START notice. -/
def sendAborted (was : Option (Nat × Manifest)) (s : State) : State :=
  match was with
  | none => s
  | some (n, m) => sendNotice .manifestClosed (closedFields n (m.close .aborted .start)) s

/-- R203: a start of cause POWER, LINE or RESTART. -/
def warmStart (c : StartCause) (s : State) : State :=
  let was := s.inHandover
  let s1 := resetUnitBus (resetHostPort (emptyPresence (abortAtStart (resolveCustody (decide (c = .power)) (abandonCounts s)))))
  let s2 := { s1 with
    sys := { s1.sys with powered := true, resetAsserted := false, lastCause := c, retentionValid := true }
    ubc.commands := s1.ubc.commands ++ s1.ubc.sends (startCommands s1) }
  sendAborted was (sendStart c s2)

/-- R203: a start that finds the store invalid is made as a COLD start. -/
def startWith (c : StartCause) (storeOk : Bool) (s : State) : State :=
  if s.sys.storeValid && storeOk then warmStart c s else coldStart s

/-! ## The commands -/

/-- COLD_START (R203). -/
def execColdStart (s : State) : Out := .next (coldStart s)

/-- POWER_START (R203). -/
def execPowerStart (s : State) : Out := .next (startWith .power true s)

/-- LINE_START (R202, R203): RESET is released; without the supply nothing starts. -/
def execLineStart (storeOk : Bool) (s : State) : Out := .next (if s.sys.powered then startWith .line storeOk s else s)

/-- RESTART_START (R200, R203): the start that a RESTART answered OK makes once its reply has been sent. -/
def execRestartStart (storeOk : Bool) (s : State) : Out :=
  if s.operating && s.hpt.restartPending then .next (startWith .restart storeOk (sendReplies s)) else .next s

/-- RESET_ASSERTED (R202). -/
def execResetAsserted (s : State) : Out := .next (if s.sys.powered then { s with sys.resetAsserted := true } else s)

/-- LOSS_OF_SUPPLY (R203): operation stops; the store is invalid once its backup has been lost. -/
def execLossOfSupply (backupLost : Bool) (s : State) : Out :=
  .next { s with sys.powered := false, sys.storeValid := s.sys.storeValid && !backupLost }

end Sys2Proof.Machine
end

