-- ==== Sys2Proof/Machine/Dispatch.lean ====
section
/-!
DEFINITION. The meaning of each command: one arm per constructor of Instr, each a direct call of its definition.
-/

namespace Sys2Proof.Machine

open Sys2Proof

def exec (i : Instr) (s : State) : Host.Outcome State Fault Refusal :=
  match i with
  | .setNotices tag allOn classes => Sys2Proof.Machine.execSetNotices tag allOn classes s
  | .status tag => Sys2Proof.Machine.execStatus tag s
  | .restart tag cred => Sys2Proof.Machine.execRestart tag cred s
  | .setClock tag date secs cred => Sys2Proof.Machine.execSetClock tag date secs cred s
  | .setDenominations tag entries cred => Sys2Proof.Machine.execSetDenominations tag entries cred s
  | .setBand tag floor rate cred => Sys2Proof.Machine.execSetBand tag floor rate cred s
  | .openDay tag date lines cred => Sys2Proof.Machine.execOpenDay tag date lines cred s
  | .closeDay tag handOuts cred => Sys2Proof.Machine.execCloseDay tag handOuts cred s
  | .openOffice tag cred => Sys2Proof.Machine.execOpenOffice tag cred s
  | .closeOffice tag cred => Sys2Proof.Machine.execCloseOffice tag cred s
  | .takeJournal tag k => Sys2Proof.Machine.execTakeJournal tag k s
  | .queryStock tag => Sys2Proof.Machine.execQueryStock tag s
  | .enrol tag number cls cred => Sys2Proof.Machine.execEnrol tag number cls cred s
  | .revoke tag number cred => Sys2Proof.Machine.execRevoke tag number cred s
  | .reinstate tag number cred => Sys2Proof.Machine.execReinstate tag number cred s
  | .setPresenceLifetime tag secs cred => Sys2Proof.Machine.execSetPresenceLifetime tag secs cred s
  | .setTagRange tag entry enable first last purpose cred => Sys2Proof.Machine.execSetTagRange tag entry enable first last purpose cred s
  | .moveBag tag ref dest cred => Sys2Proof.Machine.execMoveBag tag ref dest cred s
  | .queryBag tag ref tagNo part => Sys2Proof.Machine.execQueryBag tag ref tagNo part s
  | .setTill tag till limit cred => Sys2Proof.Machine.execSetTill tag till limit cred s
  | .setTemplate tag template lines cred => Sys2Proof.Machine.execSetTemplate tag template lines cred s
  | .makeFloat tag till template tagNo cred => Sys2Proof.Machine.execMakeFloat tag till template tagNo cred s
  | .unmakeFloat tag till cred => Sys2Proof.Machine.execUnmakeFloat tag till cred s
  | .issueFloat tag till cashier custodian => Sys2Proof.Machine.execIssueFloat tag till cashier custodian s
  | .receiveTakings tag till tagNo declared cashier custodian => Sys2Proof.Machine.execReceiveTakings tag till tagNo declared cashier custodian s
  | .post tag till kind amount skimTag => Sys2Proof.Machine.execPost tag till kind amount skimTag s
  | .releaseTill tag till cred => Sys2Proof.Machine.execReleaseTill tag till cred s
  | .queryTill tag till => Sys2Proof.Machine.execQueryTill tag till s
  | .loadLane tag lane ref urgent cred => Sys2Proof.Machine.execLoadLane tag lane ref urgent cred s
  | .start tag lane cred => Sys2Proof.Machine.execStart tag lane cred s
  | .stop tag lane => Sys2Proof.Machine.execStop tag lane s
  | .resume tag lane cred => Sys2Proof.Machine.execResume tag lane cred s
  | .closeBatch tag lane coins cred => Sys2Proof.Machine.execCloseBatch tag lane coins cred s
  | .abortBatch tag lane cred => Sys2Proof.Machine.execAbortBatch tag lane cred s
  | .clearFault tag lane cred => Sys2Proof.Machine.execClearFault tag lane cred s
  | .queryLane tag lane part => Sys2Proof.Machine.execQueryLane tag lane part s
  | .countManual tag ref tally cred => Sys2Proof.Machine.execCountManual tag ref tally cred s
  | .resolveDispute tag ref choice tally credA credB => Sys2Proof.Machine.execResolveDispute tag ref choice tally credA credB s
  | .mergeBag tag ref cred => Sys2Proof.Machine.execMergeBag tag ref cred s
  | .setWatch tag entry enable cred levelA levelB same action => Sys2Proof.Machine.execSetWatch tag entry enable cred levelA levelB same action s
  | .rearm tag entry cred => Sys2Proof.Machine.execRearm tag entry cred s
  | .auditHold tag cred => Sys2Proof.Machine.execAuditHold tag cred s
  | .auditRelease tag cred => Sys2Proof.Machine.execAuditRelease tag cred s
  | .queryWatch tag entry part => Sys2Proof.Machine.execQueryWatch tag entry part s
  | .requestDoor tag door creds => Sys2Proof.Machine.execRequestDoor tag door creds s
  | .cancelDoor tag door => Sys2Proof.Machine.execCancelDoor tag door s
  | .setDoorPolicy tag timings cred => Sys2Proof.Machine.execSetDoorPolicy tag timings cred s
  | .setMaintenance tag choice cred => Sys2Proof.Machine.execSetMaintenance tag choice cred s
  | .freezeSettings tag cred => Sys2Proof.Machine.execFreezeSettings tag cred s
  | .clearDropSafe tag safe cred => Sys2Proof.Machine.execClearDropSafe tag safe cred s
  | .lockdown tag => Sys2Proof.Machine.execLockdown tag s
  | .releaseLockdown tag credA credB => Sys2Proof.Machine.execReleaseLockdown tag credA credB s
  | .setPanicEdge tag choice cred => Sys2Proof.Machine.execSetPanicEdge tag choice cred s
  | .makeDeposit tag tagNo lines cred => Sys2Proof.Machine.execMakeDeposit tag tagNo lines cred s
  | .createManifest tag visit courier opens closes window outbound inbound cred => Sys2Proof.Machine.execCreateManifest tag visit courier opens closes window outbound inbound cred s
  | .cancelManifest tag visit cred => Sys2Proof.Machine.execCancelManifest tag visit cred s
  | .queryManifest tag entry part => Sys2Proof.Machine.execQueryManifest tag entry part s
  | .frameReceived bytes => Sys2Proof.Machine.execFrameReceived bytes s
  | .frameTimeout => Sys2Proof.Machine.execFrameTimeout s
  | .messageSend => Sys2Proof.Machine.execMessageSend s
  | .note lane slot fitness suspect => Sys2Proof.Machine.execNote lane slot fitness suspect s
  | .pocket lane which => Sys2Proof.Machine.execPocket lane which s
  | .jam lane => Sys2Proof.Machine.execJam lane s
  | .badge reader number pin => Sys2Proof.Machine.execBadge reader number pin s
  | .door door isOpen => Sys2Proof.Machine.execDoor door isOpen s
  | .drop safe tagNo => Sys2Proof.Machine.execDrop safe tagNo s
  | .hatchScan tagNo => Sys2Proof.Machine.execHatchScan tagNo s
  | .unitRecordDiscarded addr type fieldsOk => Sys2Proof.Machine.execUnitRecordDiscarded addr type fieldsOk s
  | .panicEdge edge => Sys2Proof.Machine.execPanicEdge edge s
  | .resetAsserted => Sys2Proof.Machine.execResetAsserted s
  | .lineStart storeOk => Sys2Proof.Machine.execLineStart storeOk s
  | .coldStart => Sys2Proof.Machine.execColdStart s
  | .powerStart => Sys2Proof.Machine.execPowerStart s
  | .restartStart storeOk => Sys2Proof.Machine.execRestartStart storeOk s
  | .clockTick => Sys2Proof.Machine.execClockTick s
  | .presenceExpiry reader number => Sys2Proof.Machine.execPresenceExpiry reader number s
  | .delayExpiry => Sys2Proof.Machine.execDelayExpiry s
  | .dropDelayExpiry safe => Sys2Proof.Machine.execDropDelayExpiry safe s
  | .confirmWindowExpiry => Sys2Proof.Machine.execConfirmWindowExpiry s
  | .releaseWindowExpiry door => Sys2Proof.Machine.execReleaseWindowExpiry door s
  | .openLimitExpiry door => Sys2Proof.Machine.execOpenLimitExpiry door s
  | .lockdownHoldExpiry => Sys2Proof.Machine.execLockdownHoldExpiry s
  | .handoverWindowExpiry => Sys2Proof.Machine.execHandoverWindowExpiry s
  | .alarmPeriodExpiry => Sys2Proof.Machine.execAlarmPeriodExpiry s
  | .postingApplication => Sys2Proof.Machine.execPostingApplication s
  | .valuationBegin => Sys2Proof.Machine.execValuationBegin s
  | .valuationCompletion => Sys2Proof.Machine.execValuationCompletion s
  | .lossOfSupply backupLost => Sys2Proof.Machine.execLossOfSupply backupLost s

end Sys2Proof.Machine
end

