-- ==== Sys2Proof/WellFormed.lean ====
section
/-!
DEFINITION. Well-formed commands: those whose operands the layouts of section 11.7, the fields of a unit record
(sections 4.2, 11.4) and the names of the rules can carry.  The model computes on the others as well (log 35).
-/

namespace Sys2Proof

/-- 11.7: a number that a packed decimal field of `n` bytes holds. -/
def WellFormed.packed (n v : Nat) : Bool := decide (v < 100 ^ n)

/-- A packed number that may be left out. -/
def WellFormed.packedOpt (n : Nat) (v : Option Nat) : Bool := (v.map (WellFormed.packed n)).getD true

/-- 11.7: a list behind its count byte. -/
def WellFormed.list {α : Type} (ok : α → Bool) (l : List α) : Bool := decide (l.length ≤ 255) && l.all ok

/-- R195: the tag of a request. -/
def WellFormed.tag (t : Nat) : Bool := decide (1 ≤ t) && decide (t ≤ 255)

/-- R1: an Amount field: malformed, or a magnitude of twelve digits. -/
def WellFormed.amount (a : AmountArg) : Bool := (a.map (fun v => decide (v.natAbs < 10 ^ 12))).getD true

/-- A date. -/
def WellFormed.date (d : Date) : Bool :=
  WellFormed.packed 2 d.year && WellFormed.packed 1 d.month && WellFormed.packed 1 d.day

/-- A clock reading. -/
def WellFormed.clock (c : ClockTime) : Bool := WellFormed.date c.date && WellFormed.packed 3 c.secs

/-- A slot and a count. -/
def WellFormed.slotLine (l : SlotLine) : Bool := WellFormed.packed 1 l.slot && WellFormed.packed 3 l.count

/-- R4: an entry of SET_DENOMINATIONS. -/
def WellFormed.denomEntry (e : DenomEntry) : Bool :=
  WellFormed.packed 1 e.slot && WellFormed.packed 3 e.face && WellFormed.packed 2 e.strap

/-- R60: an opening stock line. -/
def WellFormed.stockLine (l : StockLine) : Bool :=
  WellFormed.packed 1 l.slot && WellFormed.packedOpt 3 l.strapped && WellFormed.packedOpt 3 l.loose
  && WellFormed.packedOpt 3 l.unfit && WellFormed.packedOpt 3 l.coin

/-- R180: a deposit line. -/
def WellFormed.depositLine (l : DepositLine) : Bool :=
  WellFormed.packed 1 l.slot && WellFormed.packedOpt 3 l.strapped && WellFormed.packedOpt 3 l.unfit
  && WellFormed.packedOpt 3 l.coin

/-- R183: an inbound item. -/
def WellFormed.inbound (i : InboundArg) : Bool := WellFormed.packed 4 i.tagNo && WellFormed.amount i.declared

/-- The keys of a table of slots rise strictly and stay below 8, and its values pass a test. -/
def WellFormed.slotTable {α : Type} (ok : α → Bool) (t : Table α) : Bool :=
  decide ((t.map Prod.fst).Pairwise (· < ·)) && t.all (fun p => decide (p.1 < 8) && ok p.2)

/-- R6: one slot of a tally. -/
def WellFormed.slotCount (c : SlotCount) : Bool :=
  WellFormed.packed 3 c.fit && WellFormed.packed 3 c.unfit && WellFormed.packed 3 c.suspect && WellFormed.packed 3 c.coin

/-- R6: a tally. -/
def WellFormed.tally (t : Tally) : Bool := WellFormed.slotTable WellFormed.slotCount t.slots && WellFormed.packed 3 t.unreadable

/-- R147: a variance test. -/
def WellFormed.test : VarianceTest → Bool
  | .any => true
  | .equal v => WellFormed.amount v
  | .inside lo hi => WellFormed.amount lo && WellFormed.amount hi
  | .outside lo hi => WellFormed.amount lo && WellFormed.amount hi

/-- R147: a condition. -/
def WellFormed.condition (c : Condition) : Bool :=
  WellFormed.packedOpt 2 c.sourceNumber && WellFormed.packedOpt 3 c.declarer && WellFormed.test c.test

/-- A condition that may be left out. -/
def WellFormed.conditionOpt (c : Option Condition) : Bool := (c.map WellFormed.condition).getD true

/-- R160: the door a request names. -/
def WellFormed.doorArg : DoorName → Bool
  | .strongroom => true
  | .drop n => WellFormed.packed 1 n
  | .other => true

/-- 11.4: a door that exists. -/
def WellFormed.doorUnit : DoorName → Bool
  | .strongroom => true
  | .drop n => decide (1 ≤ n) && decide (n ≤ 6)
  | .other => false

/-- R172: the timings of SET_DOOR_POLICY. -/
def WellFormed.policy (t : PolicyArgs) : Bool :=
  [t.dayDelay, t.courierDelay, t.dropDelay, t.confirmWindow, t.releaseWindow, t.openLimit, t.lockdownHold].all
    (WellFormed.packedOpt 3)

/-- 4.2: the tag number of a record, or its absence. -/
def WellFormed.tagRead (t : Option Nat) : Bool := (t.map (fun t => decide (1 ≤ t) && decide (t ≤ 99999999))).getD true

/-- 11.4: a lane. -/
def WellFormed.lane (n : Nat) : Bool := decide (n ≤ 3)

/-- 11.4: a drop safe. -/
def WellFormed.safe (n : Nat) : Bool := decide (1 ≤ n) && decide (n ≤ 6)

/-- The commands whose operands the spec's fields can carry. -/
def wellFormed : Instr → Bool
  | .setNotices t _ _ => WellFormed.tag t
  | .status t => WellFormed.tag t
  | .restart t c => WellFormed.tag t && WellFormed.packed 3 c
  | .setClock t d x c => WellFormed.tag t && WellFormed.date d && WellFormed.packed 3 x && WellFormed.packedOpt 3 c
  | .setDenominations t l c => WellFormed.tag t && WellFormed.list WellFormed.denomEntry l && WellFormed.packed 3 c
  | .setBand t f r c => WellFormed.tag t && WellFormed.amount f && WellFormed.packed 3 r && WellFormed.packed 3 c
  | .openDay t d l c =>
    WellFormed.tag t && WellFormed.date d && WellFormed.list WellFormed.stockLine l && WellFormed.packed 3 c
  | .closeDay t l c => WellFormed.tag t && WellFormed.list WellFormed.slotLine l && WellFormed.packed 3 c
  | .openOffice t c => WellFormed.tag t && WellFormed.packed 3 c
  | .closeOffice t c => WellFormed.tag t && WellFormed.packed 3 c
  | .takeJournal t k => WellFormed.tag t && WellFormed.packed 1 k
  | .queryStock t => WellFormed.tag t
  | .enrol t n _ c => WellFormed.tag t && WellFormed.packed 3 n && WellFormed.packed 3 c
  | .revoke t n c => WellFormed.tag t && WellFormed.packed 3 n && WellFormed.packed 3 c
  | .reinstate t n c => WellFormed.tag t && WellFormed.packed 3 n && WellFormed.packed 3 c
  | .setPresenceLifetime t x c => WellFormed.tag t && WellFormed.packed 3 x && WellFormed.packed 3 c
  | .setTagRange t e _ a b _ c =>
    WellFormed.tag t && WellFormed.packed 1 e && WellFormed.packedOpt 4 a && WellFormed.packedOpt 4 b && WellFormed.packed 3 c
  | .moveBag t r _ c => WellFormed.tag t && WellFormed.packed 2 r && WellFormed.packed 3 c
  | .queryBag t r g p => WellFormed.tag t && WellFormed.packed 2 r && WellFormed.packedOpt 4 g && WellFormed.packedOpt 1 p
  | .setTill t n a c => WellFormed.tag t && WellFormed.packed 2 n && WellFormed.amount a && WellFormed.packed 3 c
  | .setTemplate t n l c =>
    WellFormed.tag t && WellFormed.packed 1 n && WellFormed.list WellFormed.slotLine l && WellFormed.packed 3 c
  | .makeFloat t n m g c =>
    WellFormed.tag t && WellFormed.packed 2 n && WellFormed.packed 1 m && WellFormed.packed 4 g && WellFormed.packed 3 c
  | .unmakeFloat t n c => WellFormed.tag t && WellFormed.packed 2 n && WellFormed.packed 3 c
  | .issueFloat t n a b => WellFormed.tag t && WellFormed.packed 2 n && WellFormed.packed 3 a && WellFormed.packed 3 b
  | .receiveTakings t n g d a b =>
    WellFormed.tag t && WellFormed.packed 2 n && WellFormed.packed 4 g && WellFormed.amount d && WellFormed.packed 3 a
    && WellFormed.packed 3 b
  | .post t n _ a g => WellFormed.tag t && WellFormed.packed 2 n && WellFormed.amount a && WellFormed.packedOpt 4 g
  | .releaseTill t n c => WellFormed.tag t && WellFormed.packed 2 n && WellFormed.packed 3 c
  | .queryTill t n => WellFormed.tag t && WellFormed.packed 2 n
  | .loadLane t n r _ c => WellFormed.tag t && WellFormed.packed 1 n && WellFormed.packed 2 r && WellFormed.packed 3 c
  | .start t n c => WellFormed.tag t && WellFormed.packed 1 n && WellFormed.packed 3 c
  | .stop t n => WellFormed.tag t && WellFormed.packed 1 n
  | .resume t n c => WellFormed.tag t && WellFormed.packed 1 n && WellFormed.packed 3 c
  | .closeBatch t n k c =>
    WellFormed.tag t && WellFormed.packed 1 n && ((k.map (WellFormed.slotTable (WellFormed.packed 3))).getD true)
    && WellFormed.packed 3 c
  | .abortBatch t n c => WellFormed.tag t && WellFormed.packed 1 n && WellFormed.packed 3 c
  | .clearFault t n c => WellFormed.tag t && WellFormed.packed 1 n && WellFormed.packed 3 c
  | .queryLane t n p => WellFormed.tag t && WellFormed.packed 1 n && WellFormed.packedOpt 1 p
  | .countManual t r y c => WellFormed.tag t && WellFormed.packed 2 r && WellFormed.tally y && WellFormed.packed 3 c
  | .resolveDispute t r _ y a b =>
    WellFormed.tag t && WellFormed.packed 2 r && ((y.map WellFormed.tally).getD true) && WellFormed.packed 3 a
    && WellFormed.packed 3 b
  | .mergeBag t r c => WellFormed.tag t && WellFormed.packed 2 r && WellFormed.packed 3 c
  | .setWatch t e _ c a b _ _ =>
    WellFormed.tag t && WellFormed.packed 1 e && WellFormed.packed 3 c && WellFormed.conditionOpt a && WellFormed.conditionOpt b
  | .rearm t e c => WellFormed.tag t && WellFormed.packed 1 e && WellFormed.packed 3 c
  | .auditHold t c => WellFormed.tag t && WellFormed.packed 3 c
  | .auditRelease t c => WellFormed.tag t && WellFormed.packed 3 c
  | .queryWatch t e p => WellFormed.tag t && WellFormed.packedOpt 1 e && WellFormed.packedOpt 1 p
  | .requestDoor t d l => WellFormed.tag t && WellFormed.doorArg d && WellFormed.list (WellFormed.packed 3) l
  | .cancelDoor t d => WellFormed.tag t && WellFormed.doorArg d
  | .setDoorPolicy t p c => WellFormed.tag t && WellFormed.policy p && WellFormed.packed 3 c
  | .setMaintenance t _ c => WellFormed.tag t && WellFormed.packed 3 c
  | .freezeSettings t c => WellFormed.tag t && WellFormed.packed 3 c
  | .clearDropSafe t n c => WellFormed.tag t && WellFormed.packed 1 n && WellFormed.packed 3 c
  | .lockdown t => WellFormed.tag t
  | .releaseLockdown t a b => WellFormed.tag t && WellFormed.packed 3 a && WellFormed.packed 3 b
  | .setPanicEdge t _ c => WellFormed.tag t && WellFormed.packed 3 c
  | .makeDeposit t g l c =>
    WellFormed.tag t && WellFormed.packed 4 g && WellFormed.list WellFormed.depositLine l && WellFormed.packed 3 c
  | .createManifest t v k a b w o i c =>
    WellFormed.tag t && WellFormed.packed 2 v && WellFormed.packed 3 k && WellFormed.clock a && WellFormed.clock b
    && WellFormed.packedOpt 3 w && WellFormed.list (WellFormed.packed 2) o && WellFormed.list WellFormed.inbound i
    && WellFormed.packed 3 c
  | .cancelManifest t v c => WellFormed.tag t && WellFormed.packed 2 v && WellFormed.packed 3 c
  | .queryManifest t e p => WellFormed.tag t && WellFormed.packedOpt 1 e && WellFormed.packedOpt 1 p
  | .frameReceived _ => true
  | .frameTimeout => true
  | .messageSend => true
  | .note n s _ _ => WellFormed.lane n && WellFormed.packedOpt 1 s
  | .pocket n _ => WellFormed.lane n
  | .jam n => WellFormed.lane n
  | .badge _ n _ => WellFormed.packed 3 n
  | .door d _ => WellFormed.doorUnit d
  | .drop n t => WellFormed.safe n && WellFormed.tagRead t
  | .hatchScan t => WellFormed.tagRead t
  | .unitRecordDiscarded _ _ _ => true
  | .panicEdge _ => true
  | .resetAsserted => true
  | .lineStart _ => true
  | .coldStart => true
  | .powerStart => true
  | .restartStart _ => true
  | .clockTick => true
  | .presenceExpiry _ n => WellFormed.packed 3 n
  | .delayExpiry => true
  | .dropDelayExpiry n => WellFormed.safe n
  | .confirmWindowExpiry => true
  | .releaseWindowExpiry d => WellFormed.doorUnit d
  | .openLimitExpiry d => WellFormed.doorUnit d
  | .lockdownHoldExpiry => true
  | .handoverWindowExpiry => true
  | .alarmPeriodExpiry => true
  | .postingApplication => true
  | .valuationBegin => true
  | .valuationCompletion => true
  | .lossOfSupply _ => true

end Sys2Proof
end

