-- ==== Sys2Proof/Machine/Step.lean ====
section
/-!
DEFINITION. One step of the FK480: the command at the front of the queue runs on the state with the queue's rest; on
an empty queue the part idles (log 28).
-/

namespace Sys2Proof.Machine

open Sys2Proof

/-- One step: three outcomes, next, fault and refusal. -/
def step (s : State) : Host.Outcome State Fault Refusal :=
  match s.pending with
  | [] => .next s
  | c :: rest => exec c { s with pending := rest }

/-- The state with the command that a word spells put at the front of the queue; unchanged where it spells none. -/
def State.withFetchWord (s : State) (nbits w : Nat) : State :=
  match decodeTableWord nbits w with
  | none => s
  | some c => { s with pending := c :: s.pending }

end Sys2Proof.Machine
end

