-- ==== Sys2Proof/Safety.lean ====
section
/-!
DEFINITION. The words of the statements: when a request is taken, who is present, what a journal entry says, and the
rules that every step keeps.
-/

namespace Sys2Proof.Machine

open Sys2Proof

/-! ## Requests -/

/-- R196, R200: a request command is taken now: the part operates, no RESTART waits for its start, and the request is
next. -/
def takes (i : Instr) (s : State) : Bool := s.operating && !s.hpt.restartPending && s.nextIs i

/-- R76: a credential is in a reader's list with one of the classes given. -/
def State.presentAs (s : State) (r : Reader) (cred : Nat) (classes : List CredClass) : Bool :=
  match s.presenceOf r cred with
  | none => false
  | some e => decide (e.cls ∈ classes)

/-- R197: the state with a request's reply formed. -/
def reply (tag : Nat) (k : ReqKind) (st : Status) (fields : List Field) (s : State) : State :=
  formReply ⟨tag, k.code, st, fields⟩ s

/-- R66: custodian class. -/
def custodianClass : List CredClass := [.custodian, .supervisor]

/-- R76: one role at OFFICE that a request needs: the request's tag and kind, the credential it carries for the role,
and the classes that the role takes. -/
structure OfficeRole where
  tag     : Nat
  kind    : ReqKind
  cred    : Nat
  classes : List CredClass
  deriving DecidableEq, Repr

/-- R76: the requests whose first check is one role at OFFICE, each with its role. -/
def officeRole : Instr → Option OfficeRole
  | .restart t c => some ⟨t, .restart, c, [.supervisor]⟩
  | .setDenominations t _ c => some ⟨t, .setDenominations, c, [.supervisor]⟩
  | .setBand t _ _ c => some ⟨t, .setBand, c, [.supervisor]⟩
  | .openDay t _ _ c => some ⟨t, .openDay, c, [.supervisor]⟩
  | .closeDay t _ c => some ⟨t, .closeDay, c, [.supervisor]⟩
  | .openOffice t c => some ⟨t, .openOffice, c, custodianClass⟩
  | .closeOffice t c => some ⟨t, .closeOffice, c, custodianClass⟩
  | .revoke t _ c => some ⟨t, .revoke, c, [.supervisor]⟩
  | .reinstate t _ c => some ⟨t, .reinstate, c, [.supervisor]⟩
  | .setPresenceLifetime t _ c => some ⟨t, .setPresenceLifetime, c, [.supervisor]⟩
  | .setTagRange t _ _ _ _ _ c => some ⟨t, .setTagRange, c, [.supervisor]⟩
  | .moveBag t _ _ c => some ⟨t, .moveBag, c, custodianClass⟩
  | .setTill t _ _ c => some ⟨t, .setTill, c, [.supervisor]⟩
  | .setTemplate t _ _ c => some ⟨t, .setTemplate, c, [.supervisor]⟩
  | .makeFloat t _ _ _ c => some ⟨t, .makeFloat, c, custodianClass⟩
  | .unmakeFloat t _ c => some ⟨t, .unmakeFloat, c, custodianClass⟩
  | .releaseTill t _ c => some ⟨t, .releaseTill, c, [.supervisor]⟩
  | .loadLane t _ _ _ c => some ⟨t, .loadLane, c, custodianClass⟩
  | .start t _ c => some ⟨t, .start, c, custodianClass⟩
  | .resume t _ c => some ⟨t, .resume, c, custodianClass⟩
  | .closeBatch t _ _ c => some ⟨t, .closeBatch, c, custodianClass⟩
  | .abortBatch t _ c => some ⟨t, .abortBatch, c, custodianClass⟩
  | .clearFault t _ c => some ⟨t, .clearFault, c, custodianClass⟩
  | .countManual t _ _ c => some ⟨t, .countManual, c, custodianClass⟩
  | .mergeBag t _ c => some ⟨t, .mergeBag, c, custodianClass⟩
  | .setWatch t _ _ c _ _ _ _ => some ⟨t, .setWatch, c, [.supervisor, .auditor]⟩
  | .rearm t _ c => some ⟨t, .rearm, c, [.supervisor, .auditor]⟩
  | .auditHold t c => some ⟨t, .auditHold, c, [.auditor]⟩
  | .auditRelease t c => some ⟨t, .auditRelease, c, [.auditor]⟩
  | .setDoorPolicy t _ c => some ⟨t, .setDoorPolicy, c, [.supervisor]⟩
  | .setMaintenance t _ c => some ⟨t, .setMaintenance, c, [.supervisor]⟩
  | .freezeSettings t c => some ⟨t, .freezeSettings, c, [.supervisor]⟩
  | .clearDropSafe t _ c => some ⟨t, .clearDropSafe, c, custodianClass⟩
  | .setPanicEdge t _ c => some ⟨t, .setPanicEdge, c, [.supervisor]⟩
  | .makeDeposit t _ _ c => some ⟨t, .makeDeposit, c, custodianClass⟩
  | .createManifest t _ _ _ _ _ _ _ c => some ⟨t, .createManifest, c, [.supervisor]⟩
  | .cancelManifest t _ c => some ⟨t, .cancelManifest, c, [.supervisor]⟩
  | _ => none

/-! ## Confirmations -/

/-- R140: stock and the suspect register can take a tally's pieces of one slot. -/
def slotFits (y : Tally) (s : State) (i : Nat) : Bool :=
  (stockFail s (mergeChange y s i)).isNone && (suspectFail s (i, (tallySlot y i).suspect)).isNone

/-- R140: the first slot, in slot order, that cannot. -/
def firstHeld (y : Tally) (s : State) : Option Nat := slotNumbers.find? (fun i => !slotFits y s i)

/-- R47, R140: stock and the suspect register can take a tally's pieces. -/
def mergeFits (y : Tally) (s : State) : Bool :=
  (stockCheck ⟨.reserved, slotNumbers.map (mergeChange y s), none, mergeSuspects y, []⟩ s).isNone

/-! ## The journal -/

/-- R51: the entry that is written next: its amount, and the change of the accountability it records. -/
def nextEntry (s : State) (k : EntryKind) (ref till : Option Nat) (amount delta : Int) : JournalEntry :=
  ⟨s.acu.nextSeq, s.acu.clock, k, ref, till, amount, s.acu.accountability + delta⟩

/-- R51, R139: the entries that a movement writes, from the first number, the clock and the accountability: consecutive
numbers, and each with the figure after it. -/
def writtenEntries : List EntrySpec → Nat → Option ClockTime → Int → List JournalEntry
  | [], _, _, _ => []
  | e :: rest, seq, time, held =>
    ⟨seq, time, e.kind, e.ref, e.till, e.amount, held + e.delta⟩ ::
      writtenEntries rest (seqAfter seq) time (held + e.delta)

/-! ## Rules that every step keeps -/

/-- R174: Maintenance Open is never in effect while Settings Freeze is set. -/
def freezeRule (s : State) : Bool := !(s.csc.freeze && s.csc.maintenance)

/-- R175: a door is SECURE or OPEN. -/
def State.atRest (s : State) (d : DoorName) : Bool :=
  decide ((s.door d).state = .secure) || decide ((s.door d).state = .opened)

/-- R182: whether an entry of the manifest table is in HANDOVER. -/
def State.handedOver (s : State) (n : Nat) : Bool := decide ((s.manifest n).map Manifest.state = some .handover)

/-- R186: at most one manifest is in HANDOVER. -/
def oneHandover (s : State) : Bool :=
  manifestNumbers.all (fun i => manifestNumbers.all (fun j => !(s.handedOver i && s.handedOver j) || decide (i = j)))

/-- R175, R186: while the latch is set no door is in DELAY, CONFIRM or RELEASED and no manifest is in HANDOVER; and at
most one manifest is ever in HANDOVER. -/
def lockdownRule (s : State) : Bool :=
  oneHandover s
  && (!s.csc.latch || (allDoors.all s.atRest && manifestNumbers.all (fun n => !s.handedOver n)))

/-- R159, R167: the named credentials of a door: a drop safe has none and is never in CONFIRM; the strongroom has none in
SECURE and two on its way to opening. -/
def namesRule (d : DoorName) (x : Door) : Bool :=
  match d with
  | .strongroom =>
    (decide (x.state ≠ .secure) || x.named.isNone) && (decide (x.state = .secure) || decide (x.state = .opened) || x.named.isSome)
  | .drop _ => x.named.isNone && decide (x.state ≠ .confirm)
  | .other => true

/-- R159, R163 to R168, R175, R178: a door's lock, timer, contact and ajar mark are as its state has them.  The lock is
RELEASED in RELEASED, and in OPEN alone may be so besides; a timer runs in every state but SECURE, in OPEN until DOOR_AJAR is
sent; ajar sent is set in OPEN alone; and the contact is OPEN exactly in OPEN. -/
def doorHeld (d : DoorName) (x : Door) : Bool :=
  (decide (x.state ≠ .released) || x.lockReleased)
  && (!x.lockReleased || decide (x.state = .released) || decide (x.state = .opened))
  && decide (x.timer.isSome = (decide (x.state ≠ .secure) && !x.ajarSent)) && (!x.ajarSent || decide (x.state = .opened))
  && decide (x.contactOpen = decide (x.state = .opened)) && namesRule d x

/-- R159, R167: every door is as its state has it, and R176: the Lockdown Hold runs only while the latch is set. -/
def doorRule (s : State) : Bool := allDoors.all (fun d => doorHeld d (s.door d)) && (!s.csc.holdRunning || s.csc.latch)

/-- R33, R55, R168, R169, R178: the causes of a drop safe follow from other records, and its chute is LOCKED exactly while
it has a cause. -/
def safeRule (s : State) (d : DropSafe) : Bool :=
  decide (d.chuteLocked = d.causes.any) && decide (d.causes.full = decide (40 ≤ d.count))
  && decide (d.causes.table = decide (s.available ≤ 8))
  && decide (d.causes.journal = decide (s.journalFree ≤ 8)) && decide (d.causes.lockdown = s.csc.latch)
  && decide (d.causes.opened = decide (d.door.state ≠ .secure))

/-- R169: every drop safe's causes and chute are as the other records have them. -/
def chuteRule (s : State) : Bool := safeNumbers.all (fun n => safeRule s (s.safe n))

/-- R202: ALARM is driven while the Alarm Period is running or the lockdown latch is set, and released otherwise. -/
def alarmRule (s : State) : Bool := decide (s.ubc.alarm = (s.ubc.alarmTimer.isSome || s.csc.latch))

/-- R52, R54: one reservation of 3 for each entry of the reconciliation queue, and entries held plus the reserved count
never pass 256. -/
def journalRule (s : State) : Bool :=
  decide (s.acu.reserved = 3 * s.rcu.queue.length) && decide (s.acu.journal.length + s.acu.reserved ≤ 256)

/-- R51: entries that carry consecutive sequence numbers in the order written, up to `next`. -/
def consecutive : List JournalEntry → Nat → Bool
  | [], _ => true
  | [e], next => decide (seqAfter e.seq = next)
  | e :: e' :: rest, next => decide (seqAfter e.seq = e'.seq) && consecutive (e' :: rest) next

/-- R51, R52: the entries held carry consecutive sequence numbers, and the newest carries the office accountability. -/
def ledgerRule (s : State) : Bool :=
  consecutive s.acu.journal s.acu.nextSeq
  && ((s.acu.journal.getLast?.map (fun e => decide (e.accountability = s.acu.accountability))).getD true)

/-! ### The books (R46)

The law of R46 is kept because the records that a movement reads are as they should be.  `booksRule` puts it together
with what each of those records owes it. -/

/-- A test holds of every bag record. -/
def State.bagsAll (s : State) (f : Bag → Bool) : Bool := s.bgr.bags.all (fun p => p.2.all f)

/-- A test holds of every till listed; a till not listed is IDLE. -/
def State.tillsAll (s : State) (f : Nat → Till → Bool) : Bool := s.tau.tills.all (fun p => f p.1 p.2)

/-- R46: the office accountability is the stock value plus the book values of the bags in office custody. -/
def balanceRule (s : State) : Bool := decide (s.acu.accountability = s.stockValue + s.bookSum)

/-- R25, R30: the bags of the retired list are not live, and none is in it twice. -/
def retiredRule (s : State) : Bool :=
  distinct s.bgr.retired && s.bgr.retired.all (fun r => (s.bag r).any (fun b => !b.state.live))

/-- R3, R44: the strapped count of a NOTE slot is a whole multiple of its strap size, which is not 0. -/
def strapRule (s : State) : Bool :=
  slotNumbers.all (fun i =>
    (s.denom i).strap?.all (fun k => decide (0 < k) && decide ((s.slotStock i).strapped % k = 0)))

/-- R80: the lines of a template name slots of the table, none twice. -/
def templateRule (s : State) : Bool :=
  s.tau.templates.all (fun p => p.2.all (fun l => decide (l.slot ≤ 7)) && distinct (p.2.map SlotLine.slot))

/-- R83, R84: the bag of a FLOAT_READY till is its own INTACT FLOAT bag, with the value of the float lines as its book
value, and the state before the make-up was another. -/
def holdsFloat (s : State) (n : Nat) (t : Till) : Bool :=
  decide (n ∈ tillNumbers) && decide (t.before ≠ some .floatReady) && t.floatLines.all (fun l => decide (l.slot ≤ 7))
  && (t.floatBag.bind s.bag).any (fun b =>
    decide (b.state = .intact) && decide (b.purpose = .float) && decide (b.source.till? = some n)
    && decide (b.book = linesValue t.floatLines s))

/-- R83, R84: every till in FLOAT_READY holds its float. -/
def floatRule (s : State) : Bool := s.tillsAll (fun n t => decide (t.state ≠ .floatReady) || holdsFloat s n t)

/-- R139: the book value of a CONFIRMED bag is the value of its latest tally. -/
def confirmedRule (s : State) : Bool :=
  s.bagsAll (fun b => decide (b.state ≠ .confirmed) || b.tally.any (fun t => decide (valueTally t s = some b.book)))

/-- R94, R95: a live bag still undeclared and not CONFIRMED has a book value of +0. -/
def undeclaredRule (s : State) : Bool :=
  s.bagsAll (fun b => !(b.flags.undeclared && b.state.live && decide (b.state ≠ .confirmed)) || decide (b.book = 0))

/-- R103: a lane in READY, RUNNING, HELD or CLOSING has a current batch. -/
def laneBatchRule (l : Lane) : Bool :=
  l.batch.isSome || !(decide (l.state = .ready) || decide (l.state = .running) || decide (l.state = .held)
    || decide (l.state = .closing))

/-- R118, R122, R130: a lane that waits in the reconciliation queue is CLOSING or has faulted, with its batch queued. -/
def laneQueuedRule (s : State) (n : Nat) : Bool :=
  decide (n ∈ laneNumbers) && (s.lane n).batch.any Batch.queued
  && (decide ((s.lane n).state = .closing) || decide ((s.lane n).state = .fault) || decide ((s.lane n).state = .faultLocked))

/-- R130: the lanes that wait in the reconciliation queue, in its order. -/
def State.queuedLanes (s : State) : List Nat :=
  s.rcu.queue.filterMap (fun e => match e with
    | .lane n => some n
    | .manual _ _ => none)

/-- R27, R103, R130: the bags of the lanes' batches and of the MANUAL entries are COUNTING, each counted once, and the
lanes and the queue agree. -/
def countingRule (s : State) : Bool :=
  distinct s.countingBags && s.countingBags.all (fun r => (s.bag r).any (fun b => decide (b.state = .counting)))
  && laneNumbers.all (fun n => laneBatchRule (s.lane n))
  && distinct s.queuedLanes && s.queuedLanes.all (laneQueuedRule s)

/-- R132, R133: the valuation in flight is of the oldest entry, and without late notes its value is that of the tally as it
stands. -/
def engineRule (s : State) : Bool :=
  match s.rcu.engine with
  | none => true
  | some v =>
    match s.rcu.queue with
    | [] => false
    | e :: _ => (queuedCount e s).all (fun q => q.late || decide (v.counted = valueTally q.tally s))

/-- R182, R183: the bags that the open manifests have still to send. -/
def State.unsentBags (s : State) : List Nat :=
  (s.manifestsWhere Manifest.isOpen).flatMap (fun x => (x.2.outbound.filter (fun o => !o.scanned)).map OutItem.ref)

/-- R183: they are INTACT DEPOSIT bags, and none is on two lists. -/
def outboundRule (s : State) : Bool :=
  distinct s.unsentBags
  && s.unsentBags.all (fun r => (s.bag r).any (fun b => decide (b.purpose = .deposit) && decide (b.state = .intact)))

/-- R46, and what the records that a movement reads owe it. -/
def booksRule (s : State) : Bool :=
  balanceRule s && retiredRule s && strapRule s && templateRule s && floatRule s && confirmedRule s && undeclaredRule s
  && countingRule s && engineRule s && outboundRule s

/-- Every table of the state is in its canonical form: keys rising, nothing listed that an unlisted key reads as. -/
def tablesRule (s : State) : Bool :=
  Table.wf none s.cru.creds && Table.wf .unused s.acu.denoms && Table.wf SlotStock.initial s.acu.stock
  && Table.wf 0 s.acu.suspects && Table.wf none s.bgr.bags && Table.wf TagRange.initial s.bgr.ranges
  && Table.wf Till.initial s.tau.tills && Table.wf [] s.tau.templates && Table.wf Lane.initial s.clc.lanes
  && Table.wf WatchEntry.initial s.wcu.entries && Table.wf DropSafe.initial s.csc.safes && Table.wf none s.hoc.manifests

/-- The sizes of the queues, lists and counters: R66, R72, R87, R98, R130, R196, R198, R201. -/
def boundsRule (s : State) : Bool :=
  decide (s.hpt.notices.length ≤ 32) && decide (s.hpt.buffer.length ≤ 4) && decide (s.hpt.dropped ≤ 65535)
  && decide (s.ubc.unitErrors ≤ 65535) && decide (s.tau.postings.length ≤ 64) && decide (s.tau.skimQueue.length ≤ 16)
  && decide s.tau.skimQueue.Nodup && decide (s.rcu.queue.length ≤ 6) && decide (s.cru.creds.length ≤ 96)
  && decide (s.cru.office.length ≤ 4) && decide (s.cru.strongroom.length ≤ 4) && decide (s.cru.hatch.length ≤ 4)

/-! ## Side effects that several statements share -/

/-- R33, R55, R198, R201: what a change of the journal's room or of the bag table may bring with it: chutes that lock or
unlock, their commands and notices.  Nothing else of these three blocks changes, nor any door, bag count, or cause
that is not TABLE or JOURNAL. -/
def onlyChutes (s t : State) : Prop :=
  t.hpt = { s.hpt with notices := t.hpt.notices, overflow := t.hpt.overflow, dropped := t.hpt.dropped } ∧
  t.ubc = { s.ubc with commands := t.ubc.commands } ∧
  t.csc = { s.csc with safes := t.csc.safes } ∧
  ∀ n, (t.safe n).door = (s.safe n).door ∧ (t.safe n).count = (s.safe n).count ∧
    (t.safe n).causes.full = (s.safe n).causes.full ∧ (t.safe n).causes.lockdown = (s.safe n).causes.lockdown ∧
    (t.safe n).causes.opened = (s.safe n).causes.opened

/-- R98: till `n` leaves the skim queue, if it is in it: the others keep their order, and the lowest-numbered other till that
waits, its over-limit flag set and not in the queue, joins at the newest end. -/
def leavesSkim (n : Nat) (s t : State) : Prop :=
  (n ∉ s.tau.skimQueue → t.tau.skimQueue = s.tau.skimQueue) ∧
  (n ∈ s.tau.skimQueue →
    (∀ m, m ∈ tillNumbers → m ≠ n → (s.till m).overLimit = true → m ∉ s.tau.skimQueue →
      (∀ k ∈ tillNumbers, k < m → k ≠ n → (s.till k).overLimit = true → k ∈ s.tau.skimQueue) →
      t.tau.skimQueue = s.tau.skimQueue.filter (fun k => decide (k ≠ n)) ++ [m]) ∧
    ((∀ m ∈ tillNumbers, m ≠ n → (s.till m).overLimit = true → m ∈ s.tau.skimQueue) →
      t.tau.skimQueue = s.tau.skimQueue.filter (fun k => decide (k ≠ n))))

/-- R122: lane `n` faults with a cause: it is in FAULT with its batch, stack, pocket counts and hold set kept, a running
transport is sent STOP, and FAULT names the lane, the cause, the state and the batch's bag; nothing else changes. -/
def faults (n : Nat) (c : FaultCause) (s t : State) : Prop :=
  t = { s with clc := t.clc, hpt := t.hpt, ubc := t.ubc } ∧
  t.lane n = { s.lane n with state := .fault, fault := some c } ∧ (∀ m, m ≠ n → t.lane m = s.lane m) ∧
  t.ubc = { s.ubc with commands :=
    if (s.lane n).state = .running then s.ubc.commands ++ s.ubc.sends [(.lane n, .stop)] else s.ubc.commands } ∧
  t.hpt = (notify .fault [fLane (some n), fNamed (codeIn FaultCause.list c), fNamed (codeIn LaneState.list .fault),
    fRef ((s.lane n).batch.map Batch.ref), fNamed (flagByte false)] s).hpt

/-- R109: what a hold cause added to a lane at work sends: nothing when the hold set holds it already, and otherwise STOP to
a running transport and HOLD with the lane, the cause, and its state and hold set after. -/
def holdSends (n : Nat) (c : HoldCause) (s t : State) : Prop :=
  t.ubc = { s.ubc with commands :=
    if (s.lane n).state = .running ∧ (s.lane n).holds.has c = false then s.ubc.commands ++ s.ubc.sends [(.lane n, .stop)]
    else s.ubc.commands } ∧
  t.hpt = if (s.lane n).holds.has c then s.hpt
    else (notify .hold [fLane (some n), fNamed (codeIn HoldCause.list c), fNamed (codeIn LaneState.list (t.lane n).state),
      fSet (t.lane n).holds.toList] s).hpt

/-- R168, R169: the command that the chute cause OPEN, set or cleared, brings with it at a door: LOCK for a drop safe that
had no cause, UNLOCK for one that keeps none, and none for the strongroom. -/
def openCauseCommands (d : DoorName) (on : Bool) (s : State) : List (UnitPos × UnitCmd) :=
  match d with
  | .drop n =>
    if (s.safe n).causes.any = ((s.safe n).causes.put .opened on).any then []
    else [(.chute n, if on then .lock else .unlock)]
  | .strongroom => []
  | .other => []

/-- R169: the state with the CHUTE_LOCKED that goes with that command raised. -/
def openCauseNotified (d : DoorName) (on : Bool) (s : State) : State :=
  match d with
  | .drop n =>
    if (s.safe n).causes.any = ((s.safe n).causes.put .opened on).any then s
    else notify .chuteLocked
      [fNum 1 n, fNamed (if on then 1 else 2), fSet ((s.safe n).causes.put .opened on).toList] s
  | .strongroom => s
  | .other => s

/-- R198: notices raised one after another. -/
def notifyAll (l : List Notice) (s : State) : State := l.foldl (fun s n => notify n.kind n.fields s) s

/-- R98: the notice that a join of the skim queue brings: SKIM_ALERT with the till that has joined at the newest end, its
position and the number of tills, when 4 or more are then in it; `q` is the queue before. -/
def skimAlerts (q after : List Nat) : List Notice :=
  match after.getLast? with
  | none => []
  | some n =>
    if n ∉ q ∧ 4 ≤ after.length then [⟨.skimAlert, [fTill (some n), fNum 1 after.length, fNum 1 after.length]⟩] else []

/-- R72, R73: the state in which the owner of a reader is told of an OK or DURESS presentation: the fail count is 0, the
credential the newest entry of the reader's list, and a DURESS one has driven ALARM and sent DURESS. -/
def presented (r : Reader) (n : Nat) (c : Credential) (p : PinResult) (s : State) : State :=
  let u := putPresence r (enterPresence ⟨n, c.cls, s.cru.lifetime⟩ (s.presence r)) (putCredential n (some { c with fails := 0 }) s)
  if p = .duress then
    notify .duress [fNamed (codeIn Reader.list r), fNum 3 n, fNamed (codeIn CredClass.list c.cls)]
      { u with ubc.alarm := true, ubc.alarmTimer := some 180 }
  else u

/-! ### The lockdown latch (R175, R176) -/

/-- R169, R175: the chutes that LOCKDOWN locks: those with no cause before. -/
def State.chutesToLock (s : State) : List Nat := safeNumbers.filter (fun n => !(s.safe n).causes.any)

/-- R169, R176: the chutes that the end of LOCKDOWN unlocks: those that have no other cause. -/
def State.chutesToUnlock (s : State) : List Nat :=
  safeNumbers.filter (fun n => (s.safe n).causes.any && !((s.safe n).causes.put .lockdown false).any)

/-- R125: the lanes that LOCKDOWN is added to. -/
def State.lanesToHold (s : State) : List Nat :=
  laneNumbers.filter (fun n => (decide ((s.lane n).state = .running) || decide ((s.lane n).state = .ready)
    || decide ((s.lane n).state = .held)) && !(s.lane n).holds.lockdown)

/-- R175: the unit commands of a setting of the latch from clear: ENGAGE to each RELEASED lock of the doors that drop to
SECURE, LOCK to each chute that had no cause, and STOP to each lane that was RUNNING. -/
def lockdownCommands (s : State) : List (UnitPos × UnitCmd) :=
  (s.movingDoors.filter (fun d => (s.door d).lockReleased)).map (fun d => (.door d, .engage))
  ++ s.chutesToLock.map (fun n => (.chute n, .lock))
  ++ (s.lanesToHold.filter (fun n => decide ((s.lane n).state = .running))).map (fun n => (.lane n, .stop))

/-- R175: the notices of a setting of the latch from clear, in their order: CHUTE_LOCKED, LOCKDOWN_SET with the cause and the
doors that dropped to SECURE, HOLD of each lane, and MANIFEST_CLOSED of the manifest that was in HANDOVER. -/
def lockdownNotices (c : LockdownCause) (s : State) : List Notice :=
  s.chutesToLock.map (fun n => ⟨.chuteLocked, [fNum 1 n, fNamed 1, fSet [false, false, false, true, false]]⟩)
  ++ [⟨.lockdownSet, [fNamed c.code, fNamed 0, .many (s.movingDoors.map doorAtoms)]⟩]
  ++ s.lanesToHold.map (fun n => ⟨.hold, [fLane (some n), fNamed (codeIn HoldCause.list .lockdown),
      fNamed (codeIn LaneState.list .held), fSet { (s.lane n).holds with lockdown := true }.toList]⟩)
  ++ (s.inHandover.map (fun x => (⟨.manifestClosed,
      closedFields x.1 { x.2 with state := .aborted, timer := none, cause := some .lockdown }⟩ : Notice))).toList

/-- R198: nothing of the Host Port changes but that a notice may have been queued or dropped. -/
def onlyNotices (s t : State) : Prop :=
  t.hpt = { s.hpt with notices := t.hpt.notices, overflow := t.hpt.overflow, dropped := t.hpt.dropped }

end Sys2Proof.Machine
end

