-- ==== Sys2Proof/Certificates/Slice0/Obligations.lean ====
section
/-!
DEFINITION. The statements about the FK480, for the provers.  A docstring that says "the model's choice" names a choice
of the assumption log.  `takeFrom s` is the state in which a request is taken (R196): `s` with the request out of the
input buffer and the replies before it sent.
-/

open Sys2Proof Sys2Proof.Machine

/-! ## The block and its queue -/

/-- A step runs the command at the front of the queue on the state with the queue's rest.

On an empty queue the part idles: the model's choice, log 28. -/
def Obligations.StepRunsFrontCommand : Prop :=
  (∀ (c : Instr) (s : State), step { s with pending := c :: s.pending } = exec c s) ∧
  (∀ s : State, s.pending = [] → step s = .next s)

/-- Every command answers a next state and leaves the queue alone. -/
def Obligations.EveryCommandAnswersNext : Prop :=
  ∀ (c : Instr) (s : State), ∃ t, exec c s = .next t ∧ t.pending = s.pending

/-- The values that the spec gives the part just after a COLD start: a free bag table and no tag range, no stock, no journal
entry, no clock and no business date, the Band Floor 1,000 and the Band Rate 5, every variance account +0, no credential, every
till IDLE in session 1 with cash limit 150,000 and every figure 0, no template, every lane OFF, every watch entry OFF, every
door SECURE with its lock ENGAGED and its contact CLOSED, no chute cause, the door policy's seven timings, the latch clear and no
manifest.  That the supply is there and RESET not asserted is the model's choice, log 6; the PANIC level, log 11; that no
reply waits, log 22; that START has been sent, log 39; and the count of the seconds that a door has stood open, log 24.

The part right after a COLD start meets every rule below. -/
def Obligations.ResetState : Prop :=
  ((∀ r, State.reset.bag r = none) ∧ State.reset.available = 1024 ∧ State.reset.bgr.retired = [] ∧
  (∀ i, State.reset.tagRange i = ⟨false, 1, 1, .void⟩) ∧
  (∀ i, State.reset.denom i = .unused) ∧ (∀ i, State.reset.slotStock i = ⟨0, 0, 0, 0⟩) ∧
  (∀ i, State.reset.suspect i = 0) ∧ State.reset.acu.accountability = 0 ∧ State.reset.acu.journal = [] ∧
  State.reset.journalFree = 256 ∧ State.reset.acu.nextSeq = 1 ∧ State.reset.acu.reserved = 0 ∧
  State.reset.acu.clock = none ∧ State.reset.acu.day = .noDay ∧ State.reset.acu.mode = .afterHours ∧
  State.reset.acu.businessDate = none ∧ State.reset.acu.bandFloor = 1000 ∧ State.reset.acu.bandRate = 5 ∧
  State.reset.acu.courier = ⟨0, false⟩ ∧ State.reset.acu.unattributed = ⟨0, false⟩ ∧
  (∀ n, State.reset.credential n = none) ∧ (∀ r, State.reset.presence r = []) ∧ State.reset.cru.lifetime = 60 ∧
  (∀ n, State.reset.till n =
    { state := .idle, session := 1, before := none, floatBag := none, floatLines := [], hold := false, overLimit := false
      limit := 150000, cashier := none, floatValue := 0, sales := 0, refunds := 0, paidOuts := 0, paidIns := 0, skims := 0
      expected := 0, counted := 0, countedRange := false, outstanding := 0, variance := none, classification := none, late := 0
      range := false, day := ⟨0, false⟩, pendingSkims := [] }) ∧
  (∀ n, State.reset.template n = []) ∧ State.reset.tau.postings = [] ∧ State.reset.tau.skimQueue = [] ∧
  (∀ n, State.reset.lane n =
    { state := .off, batch := none, stack := [], stacker := 0, reject := 0, holds := HoldSet.empty, fault := none
      locked := false }) ∧ State.reset.rcu.queue = [] ∧ State.reset.rcu.engine = none ∧
  (∀ n, State.reset.watchEntry n =
    { state := .off, level1 := none, level2 := none, same := false, action := none, captured := none, firedBy := none }) ∧
  State.reset.wcu.auditHold = false ∧
  (∀ d, State.reset.door d =
    { state := .secure, named := none, timer := none, lockReleased := false, contactOpen := false, ajarSent := false
      openFor := 0 }) ∧
  (∀ n, (State.reset.safe n).count = 0 ∧ (State.reset.safe n).causes = ⟨false, false, false, false, false⟩ ∧
    (State.reset.safe n).chuteLocked = false) ∧ State.reset.csc.holdRunning = false ∧
  State.reset.csc.policy = ⟨600, 120, 300, 120, 60, 900, 900⟩ ∧ State.reset.csc.latch = false ∧
  State.reset.csc.freeze = false ∧ State.reset.csc.maintenance = false ∧ State.reset.ubc.panicSel = .falling ∧
  State.reset.ubc.alarm = false ∧ State.reset.ubc.alarmTimer = none ∧ State.reset.ubc.unitErrors = 0 ∧
  (∀ n, State.reset.manifest n = none) ∧
  State.reset.sys.lastCause = .cold ∧ State.reset.sys.powered = true ∧ State.reset.sys.resetAsserted = false ∧
  State.reset.ubc.panicHigh = true ∧ State.reset.hpt.notices = [] ∧ State.reset.hpt.replies = [] ∧
  State.reset.hpt.buffer = [] ∧ State.reset.hpt.globalEnable = true ∧ State.reset.hpt.classEnables = NoticeEnables.all ∧
  State.reset.hpt.sent = [.notice ⟨.start, [fNamed 1, fNamed 2, fNamed 1, fNamed 2, fClock none, fFlag false]⟩]) ∧
  (freezeRule State.reset = true ∧ lockdownRule State.reset = true ∧ doorRule State.reset = true ∧ chuteRule State.reset = true ∧
  alarmRule State.reset = true ∧ journalRule State.reset = true ∧ ledgerRule State.reset = true ∧
  boundsRule State.reset = true ∧ tablesRule State.reset = true ∧ booksRule State.reset = true)

/-! ## Rules that every step keeps -/

/-- Maintenance Open is never in effect while Settings Freeze is set.

ALARM is driven exactly while the Alarm Period is running or the lockdown latch is set. -/
def Obligations.StepKeepsFreezeAndAlarm : Prop :=
  (∀ s t : State, freezeRule s = true → step s = .next t → freezeRule t = true) ∧
  (∀ s t : State, alarmRule s = true → step s = .next t → alarmRule t = true)

/-- No door is on its way to opening and no manifest is in HANDOVER while the latch is set, and at most one manifest is
ever in HANDOVER.

R159, R163 to R168, R175, R176: each door's record is as its state has it: its lock RELEASED in RELEASED and besides in OPEN
alone, its timer running in every state but SECURE and in OPEN until DOOR_AJAR is sent, ajar sent in OPEN alone, its contact OPEN
exactly in OPEN, and the strongroom's two named credentials there on its way to opening and gone in SECURE; and the Lockdown
Hold runs only while the latch is set. -/
def Obligations.StepKeepsLockdownRule : Prop :=
  (∀ s t : State, lockdownRule s = true → step s = .next t → lockdownRule t = true) ∧
  (∀ s t : State, doorRule s = true → step s = .next t → doorRule t = true)

/-- The causes of each drop safe follow the records they stand for, FULL, TABLE, JOURNAL, LOCKDOWN and OPEN each, and a chute
is LOCKED exactly while it has a cause.  The premise is the canonical form of the tables, which every step keeps (below). -/
def Obligations.StepKeepsChuteRule : Prop :=
  ∀ s t : State, chuteRule s = true → tablesRule s = true → step s = .next t → chuteRule t = true

/-- The journal.  One reservation of 3 for each queued valuation, and entries held plus reserved never pass 256; and the entries
carry consecutive sequence numbers, the newest of them the office accountability. -/
def Obligations.StepKeepsJournal : Prop :=
  (∀ s t : State, journalRule s = true → step s = .next t → journalRule t = true) ∧
  ∀ s t : State, ledgerRule s = true → step s = .next t → ledgerRule t = true

/-- R46: the office accountability equals the stock value plus the book values of the bags in office custody, and every step
keeps it so.

The law rests on the records that the movements read, so `booksRule` says with it what each of those owes it: retired bags
are not live; straps are whole; a FLOAT_READY till's float bag holds the value of its lines; a CONFIRMED bag's book value is
that of its tally; an undeclared bag's is +0; the bags being counted, the lanes and the reconciliation queue agree, and so
does the engine; and open manifests list INTACT deposits.  It is kept in the states whose tables are in canonical form. -/
def Obligations.StepKeepsBooks : Prop :=
  (∀ s : State, booksRule s = true → s.acu.accountability = s.stockValue + s.bookSum) ∧
  ∀ s t : State, booksRule s = true → tablesRule s = true → step s = .next t → booksRule t = true

/-- Every step keeps twelve sizes: at most 32 notices, 4 frames in the input buffer, 64 postings, 16 tills in the skim queue
and no till twice, 6 entries in the reconciliation queue, 96 credentials and 4 entries in each presence list, and a dropped count
and a unit error count of at most 65,535. -/
def Obligations.StepKeepsBounds : Prop :=
  ∀ s t : State, boundsRule s = true → step s = .next t → boundsRule t = true

/-- Every table keeps the canonical form.  The form is the model's own choice, log 32: keys strictly rising, and no entry equal
to what an unlisted key reads as. -/
def Obligations.StepKeepsTables : Prop :=
  ∀ s t : State, tablesRule s = true → step s = .next t → tablesRule t = true

/-! ## Amounts, valuation and the band -/

/-- R9: the digit procedure adds two twelve-digit magnitudes, and reports a carry out of d11 as an overflow.

R10: magnitudes compare from d11 downward, and the larger less the smaller is formed with borrows.

R11: signed addition by signs and magnitudes is the addition of the model, which overflows exactly out of range. -/
def Obligations.MagnitudesAndSignedAddition : Prop :=
  (∀ x y : Nat, x ≤ 999999999999 → y ≤ 999999999999 →
    addMagnitudes x y = if x + y ≤ 999999999999 then some (x + y) else none) ∧
  (∀ x y : Nat, x ≤ 999999999999 → y ≤ 999999999999 →
    compareMagnitudes x y = compare x y ∧ (y ≤ x → subMagnitudes x y = x - y)) ∧
  (∀ a b : Int, amountInRange a = true → amountInRange b = true →
    addAmountDigits a b = addAmount a b ∧
    addAmount a b = (if -999999999999 ≤ a + b ∧ a + b ≤ 999999999999 then some (a + b) else none))

/-- R13, R14: a product by shifted addition is the product; a counted value is the sum of the slot products, and there is
none exactly when a NOTE slot holds more than 999,999 fit and unfit notes or the sum passes 999,999,999,999. -/
def Obligations.ValuationIsSumOfProducts : Prop :=
  (∀ c f : Nat, c ≤ 999999 → shiftedProduct 6 c f 0 = c * f) ∧
  ∀ (t : Tally) (s : State) (sum : Int),
    sum = (slotNumbers.map (fun i => match s.denom i with
      | .unused => (0 : Int)
      | .note f _ => ((((tallySlot t i).fit + (tallySlot t i).unfit) * f : Nat) : Int)
      | .coin f => (((tallySlot t i).coin * f : Nat) : Int))).sum →
    ((∀ i ∈ slotNumbers, ∀ f k, s.denom i = .note f k → (tallySlot t i).fit + (tallySlot t i).unfit ≤ 999999) →
      sum ≤ 999999999999 → valueTally t s = some sum) ∧
    ((∃ i ∈ slotNumbers, ∃ f k, s.denom i = .note f k ∧ 999999 < (tallySlot t i).fit + (tallySlot t i).unfit) →
      valueTally t s = none) ∧
    (999999999999 < sum → valueTally t s = none)

/-- R18, R16: EXACT, WITHIN, OVER and SHORT by the variance and the band, RANGE kept where there is no variance, and the
band of a reference. -/
def Obligations.ClassificationAndBand : Prop :=
  (∀ v b : Int, 0 ≤ b →
    (classify v b = .exact ↔ v = 0) ∧ (classify v b = .within ↔ v ≠ 0 ∧ |v| ≤ b) ∧
    (classify v b = .over ↔ b < |v| ∧ 0 < v) ∧ (classify v b = .short ↔ b < |v| ∧ v < 0)) ∧
  (∀ (c book floor : Int) (rate : Nat),
    (valuationResult none book floor rate).cls = .range ∧
    (subAmount c book = none → (valuationResult (some c) book floor rate).cls = .range ∧
      (valuationResult (some c) book floor rate).variance = none) ∧
    ∀ v, subAmount c book = some v →
      (valuationResult (some c) book floor rate).cls = classify v (bandOf floor rate book)) ∧
  ∀ (floor ref : Int) (rate : Nat), 0 ≤ floor →
    bandOf floor rate ref = max floor (|ref| * rate / 1000)

/-- R20: a fit note keeps full straps × strap size + (strap size − counter) equal to the slot's fit count. -/
def Obligations.StrapLawKept : Prop :=
  ∀ (b : Batch) (i k : Nat), 10 ≤ k → 1 ≤ Table.get 0 b.straps i → Table.get 0 b.straps i ≤ k →
    Table.get 0 b.full i * k + (k - Table.get 0 b.straps i) = (tallySlot b.tally i).fit →
    ∀ b' : Batch,
      b' = ((b.putSlot i { tallySlot b.tally i with fit := (tallySlot b.tally i).fit + 1 }).countStrap i k) →
      (tallySlot b'.tally i).fit = (tallySlot b.tally i).fit + 1 ∧
      Table.get 0 b'.full i * k + (k - Table.get 0 b'.straps i) = (tallySlot b'.tally i).fit ∧
      1 ≤ Table.get 0 b'.straps i ∧ Table.get 0 b'.straps i ≤ k ∧
      ∀ j, j ≠ i → Table.get 0 b'.straps j = Table.get 0 b.straps j ∧ Table.get 0 b'.full j = Table.get 0 b.full j

/-- R8: identical tallies agree in the four counts of every slot, the unreadable counts are not compared, and under one
denomination table they have the same value. -/
def Obligations.IdenticalTallies : Prop :=
  ∀ a b : Tally,
    (identicalTallies a b = true ↔ ∀ i ≤ 7,
      (tallySlot a i).fit = (tallySlot b i).fit ∧ (tallySlot a i).unfit = (tallySlot b i).unfit ∧
      (tallySlot a i).suspect = (tallySlot b i).suspect ∧ (tallySlot a i).coin = (tallySlot b i).coin) ∧
    (identicalTallies a b = true → ∀ s, valueTally a s = valueTally b s)

/-! ## The bag table -/

/-- R36: the results of the tag check, the first that applies. -/
def Obligations.TagCheckOrder : Prop :=
  ∀ (g : Nat) (p : Purpose) (s : State),
    (s.rangeOf g = none → tagCheck g p s = .unlisted) ∧
    (s.rangeOf g = none ↔ ∀ i ∈ slotNumbers, ¬((s.tagRange i).enabled = true ∧ (s.tagRange i).first ≤ g ∧
      g ≤ (s.tagRange i).last)) ∧
    (tablesRule s = true → (s.tagInUse g = true ↔ ∃ r b, s.bag r = some b ∧ b.tagNo = some g)) ∧
    ∀ e, s.rangeOf g = some e →
      e.enabled = true ∧ e.first ≤ g ∧ g ≤ e.last ∧
      (e.purpose = .void → tagCheck g p s = .void) ∧
      (e.purpose ≠ .void → purposeOfRange e.purpose ≠ some p → tagCheck g p s = .wrongPurpose) ∧
      (purposeOfRange e.purpose = some p → s.tagInUse g = true → tagCheck g p s = .duplicate) ∧
      (purposeOfRange e.purpose = some p → s.tagInUse g = false → tagCheck g p s = .ok)

/-- R29, R30, R32: an allocation takes the lowest-numbered free slot, or with none free reclaims the head of the
retired list. -/
def Obligations.AllocationOrder : Prop :=
  ∀ s : State,
    (∀ r, s.lowestFree = some r → s.bag r = none ∧ (∀ q, 1 ≤ q → q < r → s.bag q ≠ none) ∧ allocate s = some (r, s)) ∧
    (∀ r rest, s.lowestFree = none → s.bgr.retired = r :: rest →
      ∃ t, allocate s = some (r, t) ∧ t.bgr.retired = rest ∧ (∀ q, t.bag q = if q = r then none else s.bag q) ∧
        t = { s with bgr.bags := t.bgr.bags, bgr.retired := rest }) ∧
    (s.lowestFree = none → s.bgr.retired = [] → allocate s = none)

/-! ## The Host Port -/

/-- A refused request changes nothing but the Host Port: its reply carries the refusal.  That the replies before it leave
first is the model's choice, log 2.

A request command that is not next, or that comes after a RESTART answered OK, only joins the input buffer, or is
answered BUSY when the buffer holds 4; with RESET asserted or the supply lost it has no effect, and after that RESTART no
answer is formed: the model's choice, log 1, log 6, log 7 and log 8. -/
def Obligations.RefusedAndWaitingRequests : Prop :=
  (∀ (i : Instr) (tag : Nat) (k : ReqKind) (body : State → Check Answered) (r : Refused) (s : State),
    takes i s = true → body (takeFrom s) = .error r →
    ∃ t, hostRequest i tag k body s = .next t ∧ t = { s with hpt := t.hpt } ∧
      t.hpt.replies = [⟨tag, k.code, r.status, r.fields⟩] ∧ t.hpt.notices = s.hpt.notices) ∧
  (∀ (i : Instr) (tag : Nat) (k : ReqKind) (body : State → Check Answered) (s : State), takes i s = false →
    hostRequest i tag k body s = .next (
      if s.operating = false then s
      else if s.hpt.buffer.length < 4 then { s with hpt.buffer := s.hpt.buffer ++ [i] }
      else if s.hpt.restartPending = true then s
      else { s with hpt.replies := s.hpt.replies ++ [⟨tag, k.code, .busy, []⟩] }))

/-- R76, R197: a request that needs one role at OFFICE is refused with NO_AUTHORITY, naming role 1 and NOT_PRESENT when its
credential is not in the OFFICE list and WRONG_CLASS when it is there with a class outside the role's set, and nothing
else changes.  So are SET_CLOCK while the clock is set, ENROL but for a SUPERVISOR while none is ACTIVE, and REQUEST_DOOR of
a drop safe whose door is SECURE while the latch is clear. -/
def Obligations.AbsentCredentialIsRefused : Prop :=
  (∀ (i : Instr) (o : OfficeRole) (s : State), takes i s = true → officeRole i = some o →
    (s.presenceOf .office o.cred = none →
      exec i s = .next (reply o.tag o.kind .noAuthority [fNum 1 1, fNamed 1] (takeFrom s))) ∧
    (∀ p, s.presenceOf .office o.cred = some p → p.cls ∉ o.classes →
      exec i s = .next (reply o.tag o.kind .noAuthority [fNum 1 1, fNamed 2] (takeFrom s)))) ∧
  ∀ (s : State) (tag cred : Nat),
    (∀ (d : Date) (x : Nat), takes (.setClock tag d x (some cred)) s = true → s.acu.clock ≠ none →
      (s.presenceOf .office cred = none → exec (.setClock tag d x (some cred)) s =
        .next (reply tag .setClock .noAuthority [fNum 1 1, fNamed 1] (takeFrom s))) ∧
      (∀ p, s.presenceOf .office cred = some p → p.cls ≠ .supervisor → exec (.setClock tag d x (some cred)) s =
        .next (reply tag .setClock .noAuthority [fNum 1 1, fNamed 2] (takeFrom s)))) ∧
    (∀ (n : Nat) (k : Option CredClass), takes (.enrol tag n k cred) s = true →
      (k ≠ some .supervisor ∨ s.activeSupervisor = true) →
      (s.presenceOf .office cred = none → exec (.enrol tag n k cred) s =
        .next (reply tag .enrol .noAuthority [fNum 1 1, fNamed 1] (takeFrom s))) ∧
      (∀ p, s.presenceOf .office cred = some p → p.cls ≠ .supervisor → exec (.enrol tag n k cred) s =
        .next (reply tag .enrol .noAuthority [fNum 1 1, fNamed 2] (takeFrom s)))) ∧
    ∀ n : Nat, takes (.requestDoor tag (.drop n) [cred]) s = true → 1 ≤ n → n ≤ 6 → s.csc.latch = false →
      (s.safe n).door.state = .secure →
      (s.presenceOf .office cred = none → exec (.requestDoor tag (.drop n) [cred]) s =
        .next (reply tag .requestDoor .noAuthority [fNum 1 1, fNamed 1] (takeFrom s))) ∧
      (∀ p, s.presenceOf .office cred = some p → p.cls ∉ custodianClass → exec (.requestDoor tag (.drop n) [cred]) s =
        .next (reply tag .requestDoor .noAuthority [fNum 1 1, fNamed 2] (takeFrom s)))

/-- SET_NOTICES and STATUS: the enables are written; the overflow record and the unit error count are reported and
cleared; nothing else changes.

RESTART by a SUPERVISOR at OFFICE is answered OK, and no request is taken after it: the model's choice, log 8. -/
def Obligations.HostPortRequests : Prop :=
  (∀ (s : State) (tag : Nat) (g : Bool) (e : NoticeEnables),
    (takes (.setNotices tag g e) s = true →
      exec (.setNotices tag g e) s =
        .next (reply tag .setNotices .ok (enableFields g e)
          { takeFrom s with hpt.globalEnable := g, hpt.classEnables := e })) ∧
    (takes (.status tag) s = true →
      exec (.status tag) s =
        .next (reply tag .status .ok (statusFields (takeFrom s))
          { takeFrom s with hpt.overflow := false, hpt.dropped := 0, ubc.unitErrors := 0 }))) ∧
  (∀ (s : State) (tag cred : Nat), takes (.restart tag cred) s = true →
    s.presentAs .office cred [.supervisor] = true →
    ∃ t, exec (.restart tag cred) s = .next (reply tag .restart .ok [] t) ∧
      t = { takeFrom s with hpt.restartPending := true } ∧ ∀ i, takes i (reply tag .restart .ok [] t) = false)

/-- The queries that need no credential answer OK and change nothing. -/
def Obligations.QueriesChangeNothing : Prop :=
  ∀ (s : State) (tag : Nat),
    (takes (.queryStock tag) s = true →
      exec (.queryStock tag) s = .next (reply tag .queryStock .ok (stockFields (takeFrom s)) (takeFrom s))) ∧
    ∀ (part : Option Nat) (fs : List Field),
    (∀ (n : Nat), takes (.queryLane tag n part) s = true → n ≤ 3 → requirePart part (laneFields (s.lane n) s) = .ok fs →
      exec (.queryLane tag n part) s = .next (reply tag .queryLane .ok fs (takeFrom s))) ∧
    (∀ (r : Nat) (b : Bag), takes (.queryBag tag r none part) s = true → 1 ≤ r → r ≤ 1024 → s.bag r = some b →
      requirePart part (bagFields r b s) = .ok fs →
      exec (.queryBag tag r none part) s = .next (reply tag .queryBag .ok fs (takeFrom s))) ∧
    (∀ (g : Nat), takes (.queryBag tag 0 (some g) part) s = true → 1 ≤ g → g ≤ 99999999 →
      s.refsWhere (fun b => decide (b.tagNo = some g)) ≠ [] →
      requirePart part
        [.many (((s.refsWhere (fun b => decide (b.tagNo = some g))).take 16).map (bagItem s)),
         fNamed (flagByte (decide (16 < (s.refsWhere (fun b => decide (b.tagNo = some g))).length)))] = .ok fs →
      exec (.queryBag tag 0 (some g) part) s = .next (reply tag .queryBag .ok fs (takeFrom s))) ∧
    (∀ (e : Option Nat), takes (.queryWatch tag e part) s = true → (∀ n, e = some n → n ≤ 7) →
      requirePart part [fFlag s.wcu.auditHold,
        .many ((match e with | some n => [n] | none => slotNumbers).map (fun n => entryAtoms n (s.watchEntry n)))] = .ok fs →
      exec (.queryWatch tag e part) s = .next (reply tag .queryWatch .ok fs (takeFrom s))) ∧
    (∀ (e : Option Nat), takes (.queryManifest tag e part) s = true → (∀ n, e = some n → n ≤ 3) →
      requirePart part ((match e with | some n => [n] | none => manifestNumbers).flatMap (manifestFields s)) = .ok fs →
      exec (.queryManifest tag e part) s = .next (reply tag .queryManifest .ok fs (takeFrom s)))

/-- R195, R196, 11.7: a whole good frame that spells a request puts that request at the end of the input buffer, and
nothing else changes: no byte of the frame is dropped. -/
def Obligations.GoodFrameIsBuffered : Prop :=
  ∀ (s : State) (tag : Nat) (k : ReqKind) (body : List Byte) (i : Instr),
    s.operating = true → s.hpt.rx = none → s.hpt.buffer.length < 4 → 1 ≤ tag → tag ≤ 255 → body.length ≤ 240 →
    parseBody tag k body = some i →
    exec (.frameReceived (frameBytes tag k.code body)) s = .next { s with hpt.buffer := s.hpt.buffer ++ [i] }

/-- R195: between frames a byte that is not the lead byte is discarded; a lead byte begins a frame; and a frame with a
length above 240, a check that does not agree or tag 0, or that stands at the second tick, is answered BAD_FRAME with
tag 0 and kind 0.  A good frame of an unknown kind is answered BAD_KIND, and one whose body does not fit its kind
BAD_FIELD, and nothing else changes.  That these two come whatever the input buffer holds is the model's reading, log 37;
that FRAME_TIMEOUT has no effect before the second tick, its choice, log 4; and that a frame is abandoned with no answer
after a RESTART answered OK, its choice, log 8. -/
def Obligations.BadFramesAreAnswered : Prop :=
  (∀ s : State, s.operating = true → s.hpt.restartPending = false →
    (∀ b, s.hpt.rx = none → b ≠ leadByte → exec (.frameReceived [b]) s = .next s) ∧
    (s.hpt.rx = none → exec (.frameReceived [leadByte]) s = .next { s with hpt.rx := some ⟨[], 0⟩ }) ∧
    (∀ len : Byte, s.hpt.rx = none → 240 < len.toNat →
      exec (.frameReceived [leadByte, len]) s =
        .next { s with hpt.replies := s.hpt.replies ++ [⟨0, 0, .badFrame, []⟩] }) ∧
    (∀ (len tag kind x y : Byte) (body : List Byte), s.hpt.rx = none → len.toNat ≤ 240 → body.length = len.toNat →
      ([x, y] ≠ checkBytes (len :: tag :: kind :: body) ∨ tag = 0#8) →
      exec (.frameReceived (leadByte :: len :: tag :: kind :: (body ++ [x, y]))) s =
        .next { s with hpt.replies := s.hpt.replies ++ [⟨0, 0, .badFrame, []⟩] }) ∧
    (∀ f, s.hpt.rx = some f → 2 ≤ f.ticks →
      exec .frameTimeout s =
        .next { s with hpt.rx := none, hpt.replies := s.hpt.replies ++ [⟨0, 0, .badFrame, []⟩] }) ∧
    ((∀ f, s.hpt.rx = some f → f.ticks < 2) → exec .frameTimeout s = .next s) ∧
    (∀ (tag kind : Nat) (body : List Byte), s.hpt.rx = none → 1 ≤ tag → tag ≤ 255 → kind ≤ 255 → body.length ≤ 240 →
      (kind = 0 ∨ 57 < kind) →
      exec (.frameReceived (frameBytes tag kind body)) s =
        .next { s with hpt.replies := s.hpt.replies ++ [⟨tag, kind, .badKind, []⟩] }) ∧
    ∀ (tag : Nat) (k : ReqKind) (body : List Byte), s.hpt.rx = none → 1 ≤ tag → tag ≤ 255 → body.length ≤ 240 →
      parseBody tag k body = none →
      exec (.frameReceived (frameBytes tag k.code body)) s =
        .next { s with hpt.replies := s.hpt.replies ++ [⟨tag, k.code, .badField, []⟩] }) ∧
  ∀ (s : State) (f : RxFrame), s.operating = true → s.hpt.restartPending = true → s.hpt.rx = some f → 2 ≤ f.ticks →
    exec .frameTimeout s = .next { s with hpt.rx := none }

/-- R197: replies leave in the order formed and before notices, notices oldest first, and a notice leaves the queue as
its sending begins.  R200: after a RESTART answered OK the waiting notices are discarded by the start; that none leaves
before it is the model's choice, log 8, and so is that MESSAGE_SEND with nothing to send has no effect, log 29.

R198: a notice enters the newest end when its class and the global enable are on and fewer than 32 are queued; with
32 it is dropped, the overflow flag set and the dropped count raised, stopping at 65,535; otherwise it is discarded. -/
def Obligations.MessagesAndNotices : Prop :=
  (∀ s : State, s.operating = true →
    (∀ r rest, s.hpt.replies = r :: rest →
      exec .messageSend s = .next { s with hpt.replies := rest, hpt.sent := s.hpt.sent ++ [.reply r] }) ∧
    (∀ n rest, s.hpt.replies = [] → s.hpt.notices = n :: rest → s.hpt.restartPending = false →
      exec .messageSend s = .next { s with hpt.notices := rest, hpt.sent := s.hpt.sent ++ [.notice n] }) ∧
    (s.hpt.replies = [] → (s.hpt.notices = [] ∨ s.hpt.restartPending = true) → exec .messageSend s = .next s)) ∧
  (∀ (k : NoticeKind) (l : List Field) (s : State),
    (s.hpt.globalEnable = true → classEnabled s.hpt.classEnables k = true → s.hpt.notices.length < 32 →
      notify k l s = { s with hpt.notices := s.hpt.notices ++ [⟨k, l⟩] }) ∧
    (s.hpt.globalEnable = true → classEnabled s.hpt.classEnables k = true → 32 ≤ s.hpt.notices.length →
      notify k l s = { s with hpt.overflow := true, hpt.dropped := min 65535 (s.hpt.dropped + 1) }) ∧
    (s.hpt.globalEnable = false ∨ classEnabled s.hpt.classEnables k = false → notify k l s = s))

/-! ## Settings and the Accounts Unit -/

/-- SET_CLOCK, SET_BAND: what they write, clamped as the rule says, and nothing else.

SET_DENOMINATIONS: every slot named holds its entry as clamped, every other slot keeps its contents, and nothing
else of the part changes. -/
def Obligations.ClockBandAndDenominations : Prop :=
  (∀ (s : State) (tag : Nat),
    (∀ (d : Date) (x : Nat) (cred : Option Nat), takes (.setClock tag d x cred) s = true → validClock ⟨d, x⟩ = true →
      (s.acu.clock = none ∨ ∃ c, cred = some c ∧ s.presentAs .office c [.supervisor] = true) →
      exec (.setClock tag d x cred) s =
        .next (reply tag .setClock .ok [.one (clockAtoms ⟨d, x⟩)] { takeFrom s with acu.clock := some ⟨d, x⟩ })) ∧
    (∀ (v : Int) (rate cred : Nat), takes (.setBand tag (some v) rate cred) s = true →
      s.presentAs .office cred [.supervisor] = true → s.csc.freeze = false → amountInRange v = true → rate ≤ 999999 →
      exec (.setBand tag (some v) rate cred) s =
        .next (reply tag .setBand .ok [fAmount (max 0 v), fNum 1 (min 50 rate)]
          { takeFrom s with acu.bandFloor := max 0 v, acu.bandRate := min 50 rate }))) ∧
  (∀ (s : State) (tag cred : Nat) (l : List DenomEntry), takes (.setDenominations tag l cred) s = true →
    s.presentAs .office cred [.supervisor] = true → s.acu.day ≠ .dayOpen → s.csc.freeze = false →
    s.countsPending = false → l ≠ [] → l.length ≤ 8 → (∀ e ∈ l, denomEntryOk e = true) →
    (l.map DenomEntry.slot).Nodup → (∀ e ∈ l, rewriteOk s e = true) →
    ∃ t, exec (.setDenominations tag l cred) s = .next (reply tag .setDenominations .ok (denomFields t) t) ∧
      t = { takeFrom s with acu.denoms := t.acu.denoms } ∧
      (∀ e ∈ l, t.denom e.slot = entryDenom e) ∧ ∀ i, i ∉ l.map DenomEntry.slot → t.denom i = s.denom i)

/-- R57: a tick of the clock: the next second, the next day at 86,400 with leap years every fourth year, and the last
second of 2099 stays.

A tick while the part operates: every running timer falls by 1 and stops at 0 (the model's choice, log 4 and log 5), the
seconds that a door has stood open rise by 1 while its Open Limit runs (log 24), the ticks of a frame in progress rise by
1, and no other record changes but the clock; with RESET asserted only the clock goes on, and so it does without the
supply (the model's choice, log 6 and log 7). -/
def Obligations.ClockAndTimersTick : Prop :=
  ((∀ s : State, ∃ t, exec .clockTick s = .next t ∧ t.acu.clock = s.acu.clock.map nextSecond ∧
    t.acu = { s.acu with clock := t.acu.clock }) ∧
  (∀ c : ClockTime, validClock c = true →
    validClock (nextSecond c) = true ∧
    (c = ⟨⟨2099, 12, 31⟩, 86399⟩ → nextSecond c = c) ∧
    (c ≠ ⟨⟨2099, 12, 31⟩, 86399⟩ → c.secs < 86399 → nextSecond c = ⟨c.date, c.secs + 1⟩) ∧
    (c ≠ ⟨⟨2099, 12, 31⟩, 86399⟩ → c.secs = 86399 →
      nextSecond c = ⟨nextDate c.date, 0⟩ ∧ dateKey c.date < dateKey (nextDate c.date))) ∧
  (∀ y, daysIn y 2 = if y % 4 = 0 then 29 else 28)) ∧
  (∀ s : State,
    (s.operating = false → exec .clockTick s = .next (tickClock s)) ∧
    (s.operating = true → ∃ t, exec .clockTick s = .next t ∧
      (∀ r, t.presence r = (s.presence r).map (fun e => { e with left := e.left - 1 })) ∧
      (∀ n ∈ safeNumbers, t.safe n = { s.safe n with door := { (s.safe n).door with
        timer := (s.safe n).door.timer.map (· - 1)
        openFor := if (s.safe n).door.state = .opened ∧ (s.safe n).door.timer.isSome then (s.safe n).door.openFor + 1
          else (s.safe n).door.openFor } }) ∧
      t.csc.strongroom = { s.csc.strongroom with
        timer := s.csc.strongroom.timer.map (· - 1)
        openFor := if s.csc.strongroom.state = .opened ∧ s.csc.strongroom.timer.isSome then s.csc.strongroom.openFor + 1
          else s.csc.strongroom.openFor } ∧
      t.csc.holdTimer = (if s.csc.holdRunning then s.csc.holdTimer - 1 else s.csc.holdTimer) ∧
      t.ubc = { s.ubc with alarmTimer := s.ubc.alarmTimer.map (· - 1) } ∧
      (∀ n ∈ manifestNumbers, t.manifest n =
        (s.manifest n).map (fun m => { m with timer := m.timer.map (· - 1) })) ∧
      t.bgr = s.bgr ∧ t.tau = s.tau ∧ t.clc = s.clc ∧ t.rcu = s.rcu ∧ t.wcu = s.wcu ∧ t.sys = s.sys ∧
      t.cru.creds = s.cru.creds ∧ t.cru.lifetime = s.cru.lifetime ∧
      t.hpt = { s.hpt with rx := s.hpt.rx.map (fun f => { f with ticks := f.ticks + 1 }) } ∧
      t.hoc.closedOrder = s.hoc.closedOrder ∧
      t.csc = { s.csc with strongroom := t.csc.strongroom, safes := t.csc.safes, holdTimer := t.csc.holdTimer }))

/-- OPEN_DAY: the day opens with its business date, the lines join the stock, and the accountability rises by their
value with one DAY_OPEN entry; it is refused with AMOUNT_RANGE when the accountability would overflow.

CLOSE_DAY: one DAY_CLOSE entry, the variance accounts at +0, the hand-outs out of the suspect register, every
RECONCILED till IDLE with session 1, and the retired bags freed; the rest of each till carries over. -/
def Obligations.OpenAndCloseDay : Prop :=
  (∀ (s : State) (tag cred : Nat) (d : Date) (l : List StockLine), takes (.openDay tag d l cred) s = true →
    s.presentAs .office cred [.supervisor] = true → s.acu.clock.isSome = true → s.acu.day ≠ .dayOpen →
    openDayFieldsOk d l s = true → amountInRange (openingValue l s) = true → 9 ≤ s.journalFree →
    stockCheck (openingMovement l s) s = none →
    (amountInRange (s.acu.accountability + openingValue l s) = false →
      exec (.openDay tag d l cred) s = .next (reply tag .openDay .amountRange [] (takeFrom s))) ∧
    (amountInRange (s.acu.accountability + openingValue l s) = true → ∃ t, exec (.openDay tag d l cred) s =
        .next (reply tag .openDay .ok [.one (dateAtoms d), fAmount t.stockValue, fAmount t.acu.accountability] t) ∧
      t.acu.day = .dayOpen ∧ t.acu.businessDate = some d ∧
      t.acu.accountability = s.acu.accountability + openingValue l s ∧
      t.acu.journal = s.acu.journal ++ [nextEntry s .dayOpen none none (openingValue l s) (openingValue l s)] ∧
      t.acu.nextSeq = seqAfter s.acu.nextSeq ∧
      t.acu.stock = (l.map openingChange).foldl applyStock s.acu.stock ∧
      (s.acu.day = .noDay → ∀ x ∈ l, t.slotStock x.slot =
        ⟨(s.slotStock x.slot).strapped + x.strapped.getD 0, (s.slotStock x.slot).loose + x.loose.getD 0,
         (s.slotStock x.slot).unfit + x.unfit.getD 0, (s.slotStock x.slot).coin + x.coin.getD 0⟩) ∧
      (∀ i, i ∉ l.map StockLine.slot → t.slotStock i = s.slotStock i) ∧
      t.acu = { s.acu with
        day := t.acu.day, businessDate := t.acu.businessDate, accountability := t.acu.accountability
        journal := t.acu.journal, nextSeq := t.acu.nextSeq, stock := t.acu.stock } ∧
      onlyChutes (takeFrom s) t ∧ t.sys = s.sys ∧ t.cru = s.cru ∧ t.bgr = s.bgr ∧ t.tau = s.tau ∧ t.clc = s.clc ∧
      t.rcu = s.rcu ∧ t.wcu = s.wcu ∧ t.hoc = s.hoc)) ∧
  (∀ (s : State) (tag cred : Nat) (l : List SlotLine), takes (.closeDay tag l cred) s = true →
    s.presentAs .office cred [.supervisor] = true → s.acu.day = .dayOpen → handOutsOk l s = true →
    (∀ n ∈ laneNumbers, (s.lane n).batch = none) → s.inHandover = none → s.liveAt .bench = false → 9 ≤ s.journalFree →
    ∃ t f, exec (.closeDay tag l cred) s = .next (reply tag .closeDay .ok f t) ∧
      t.acu.day = .dayClosed ∧ t.acu.courier = ⟨0, false⟩ ∧ t.acu.unattributed = ⟨0, false⟩ ∧
      t.acu.accountability = s.acu.accountability ∧ t.acu.stock = s.acu.stock ∧
      t.acu.journal = s.acu.journal ++ [nextEntry s .dayClose none none 0 0] ∧
      (∀ x ∈ l, t.suspect x.slot = s.suspect x.slot - x.count) ∧
      (∀ i, i ∉ l.map SlotLine.slot → t.suspect i = s.suspect i) ∧
      (∀ n ∈ tillNumbers, t.till n = { s.till n with
        day := ⟨0, false⟩
        state := if (s.till n).state = .reconciled then .idle else (s.till n).state
        session := if (s.till n).state = .reconciled then 1 else (s.till n).session }) ∧
      (∀ n, n ∉ tillNumbers → t.till n = s.till n) ∧
      t.bgr.retired = [] ∧ (∀ r, t.bag r = if r ∈ s.bgr.retired then none else s.bag r) ∧
      t.bgr.ranges = s.bgr.ranges ∧ t.tau = { s.tau with tills := t.tau.tills } ∧
      t.acu = { s.acu with
        day := t.acu.day, courier := t.acu.courier, unattributed := t.acu.unattributed, journal := t.acu.journal
        nextSeq := seqAfter s.acu.nextSeq, suspects := t.acu.suspects } ∧
      onlyChutes (takeFrom s) t ∧ t.sys = s.sys ∧ t.cru = s.cru ∧ t.clc = s.clc ∧ t.rcu = s.rcu ∧ t.wcu = s.wcu ∧
      t.hoc = s.hoc)

/-- OPEN_OFFICE and CLOSE_OFFICE: the mode, and every lane from OFF to IDLE or from IDLE to OFF; nothing else.

R56: TAKE_JOURNAL gives the oldest entries, up to k, and removes them; nothing else changes but what the journal's
room does to the chutes. -/
def Obligations.OfficeModeAndJournal : Prop :=
  (∀ (s : State) (tag cred : Nat), s.presentAs .office cred custodianClass = true →
    (takes (.openOffice tag cred) s = true → s.acu.mode = .afterHours → s.csc.latch = false →
      ∃ t, exec (.openOffice tag cred) s = .next (reply tag .openOffice .ok [] t) ∧
        t = { takeFrom s with acu.mode := .opened, clc := t.clc } ∧
        (∀ n ∈ laneNumbers, t.lane n =
          { s.lane n with state := if (s.lane n).state = .off then .idle else (s.lane n).state }) ∧
        ∀ n, n ∉ laneNumbers → t.lane n = s.lane n) ∧
    (takes (.closeOffice tag cred) s = true → s.acu.mode = .opened →
      (∀ n ∈ laneNumbers, (s.lane n).state = .idle) → s.inHandover = none → s.liveAt .bench = false →
      (∀ d ∈ allDoors, (s.door d).state = .secure) →
      ∃ t, exec (.closeOffice tag cred) s = .next (reply tag .closeOffice .ok [] t) ∧
        t = { takeFrom s with acu.mode := .afterHours, clc := t.clc } ∧
        (∀ n ∈ laneNumbers, t.lane n = { s.lane n with state := .off }) ∧
        ∀ n, n ∉ laneNumbers → t.lane n = s.lane n)) ∧
  (∀ (s : State) (tag k : Nat), takes (.takeJournal tag k) s = true →
    (1 ≤ k → k ≤ 8 →
      ∃ t, exec (.takeJournal tag k) s =
          .next (reply tag .takeJournal .ok [.many ((s.acu.journal.take k).map (fun e => [.entry e]))] t) ∧
        t.acu = { s.acu with journal := s.acu.journal.drop k } ∧ onlyChutes (takeFrom s) t ∧
        (∀ n ∈ safeNumbers, (t.safe n).causes.journal = decide (t.journalFree ≤ 8)) ∧
        t.sys = s.sys ∧ t.cru = s.cru ∧ t.bgr = s.bgr ∧ t.tau = s.tau ∧ t.clc = s.clc ∧ t.rcu = s.rcu ∧ t.wcu = s.wcu ∧
        t.hoc = s.hoc) ∧
    (k = 0 ∨ 8 < k → exec (.takeJournal tag k) s = .next (reply tag .takeJournal .badField [] (takeFrom s))))

/-- R47, R49 to R52, R54: a movement applied whole: its entries, up to three, are written at the newest end with consecutive
numbers and the figure after each; its stock changes and its suspect counts are added slot by slot; it charges its account;
and a RESERVED one ends a reservation. -/
def Obligations.MovementIsAppliedWhole : Prop :=
  (∀ (x : Table SlotStock) (c : StockChange) (i : Nat), Table.get SlotStock.initial (applyStock x c) i =
    if i = c.slot then
      ⟨(((Table.get SlotStock.initial x i).strapped : Int) + c.strapped).toNat,
       (((Table.get SlotStock.initial x i).loose : Int) + c.loose).toNat,
       (((Table.get SlotStock.initial x i).unfit : Int) + c.unfit).toNat,
       (((Table.get SlotStock.initial x i).coin : Int) + c.coin).toNat⟩
    else Table.get SlotStock.initial x i) ∧
  (∀ (x : Table Nat) (c : Nat × Nat) (i : Nat),
    Table.get 0 (applySuspect x c) i = if i = c.1 then Table.get 0 x i + c.2 else Table.get 0 x i) ∧
  ∀ (m : Movement) (s : State), ∃ t, applyMovement m s = t ∧
    t.acu.accountability = s.acu.accountability + (m.entries.map EntrySpec.delta).sum ∧
    (m.entries = [] → t.acu.journal = s.acu.journal ∧ t.acu.nextSeq = s.acu.nextSeq) ∧
    (∀ e, m.entries = [e] →
      t.acu.journal = s.acu.journal ++ [nextEntry s e.kind e.ref e.till e.amount e.delta] ∧
      t.acu.nextSeq = seqAfter s.acu.nextSeq) ∧
    (∀ e f, m.entries = [e, f] →
      t.acu.journal = s.acu.journal ++ [nextEntry s e.kind e.ref e.till e.amount e.delta,
        ⟨seqAfter s.acu.nextSeq, s.acu.clock, f.kind, f.ref, f.till, f.amount, s.acu.accountability + e.delta + f.delta⟩] ∧
      t.acu.nextSeq = seqAfter (seqAfter s.acu.nextSeq)) ∧
    (∀ e f g, m.entries = [e, f, g] →
      t.acu.journal = s.acu.journal ++ [nextEntry s e.kind e.ref e.till e.amount e.delta,
        ⟨seqAfter s.acu.nextSeq, s.acu.clock, f.kind, f.ref, f.till, f.amount, s.acu.accountability + e.delta + f.delta⟩,
        ⟨seqAfter (seqAfter s.acu.nextSeq), s.acu.clock, g.kind, g.ref, g.till, g.amount,
          s.acu.accountability + e.delta + f.delta + g.delta⟩] ∧
      t.acu.nextSeq = seqAfter (seqAfter (seqAfter s.acu.nextSeq))) ∧
    t.acu.stock = m.stock.foldl applyStock s.acu.stock ∧ t.acu.suspects = m.suspects.foldl applySuspect s.acu.suspects ∧
    t.acu = { s.acu with
      accountability := t.acu.accountability, journal := t.acu.journal, nextSeq := t.acu.nextSeq, stock := t.acu.stock
      suspects := t.acu.suspects, reserved := t.acu.reserved, courier := t.acu.courier
      unattributed := t.acu.unattributed } ∧
    t.acu.reserved = (if m.origin = .reserved then s.acu.reserved - 3 else s.acu.reserved) ∧
    (m.charge = none → t.acu.courier = s.acu.courier ∧ t.acu.unattributed = s.acu.unattributed ∧ t.tau = s.tau) ∧
    (∀ v, m.charge = some (.courier, v) → t.acu.courier = s.acu.courier.charge v ∧ t.tau = s.tau) ∧
    (∀ v, m.charge = some (.unattributed, v) → t.acu.unattributed = s.acu.unattributed.charge v ∧ t.tau = s.tau) ∧
    (∀ n v, m.charge = some (.till n, v) → t.till n = { s.till n with day := (s.till n).day.charge v } ∧
      (∀ k, k ≠ n → t.till k = s.till k) ∧ t.tau = { s.tau with tills := t.tau.tills }) ∧
    (∀ n, (t.safe n).door = (s.safe n).door) ∧
    (∀ n ∈ safeNumbers, (t.safe n).causes.journal = decide (t.journalFree ≤ 8)) ∧
    onlyChutes s t ∧ t.sys = s.sys ∧ t.cru = s.cru ∧ t.bgr = s.bgr ∧ t.clc = s.clc ∧ t.rcu = s.rcu ∧ t.wcu = s.wcu ∧
    t.hoc = s.hoc

/-! ## Credentials and readers -/

/-- ENROL, REVOKE, REINSTATE and SET_PRESENCE_LIFETIME: what each writes, and nothing else. -/
def Obligations.CredentialRequests : Prop :=
  ∀ (s : State) (tag n cred : Nat),
    (∀ k : CredClass, takes (.enrol tag n (some k) cred) s = true → 1 ≤ n → n ≤ 999999 → s.credential n = none →
      s.credentialCount < 96 →
      (s.presentAs .office cred [.supervisor] = true ∨ k = .supervisor ∧ s.activeSupervisor = false) →
      ∃ t, exec (.enrol tag n (some k) cred) s =
          .next (reply tag .enrol .ok (credentialFields n ⟨k, false, 0⟩ ++ [fNum 1 t.credentialCount]) t) ∧
        t = { takeFrom s with cru.creds := t.cru.creds } ∧
        ∀ m, t.credential m = if m = n then some ⟨k, false, 0⟩ else s.credential m) ∧
    (∀ c : Credential, takes (.revoke tag n cred) s = true → s.presentAs .office cred [.supervisor] = true →
      1 ≤ n → n ≤ 999999 → s.credential n = some c →
      ∃ t, exec (.revoke tag n cred) s = .next (reply tag .revoke .ok [fNum 1 t.credentialCount] t) ∧
        t = { takeFrom s with cru := t.cru } ∧ t.cru.lifetime = s.cru.lifetime ∧
        (∀ m, t.credential m = if m = n then none else s.credential m) ∧
        ∀ r, t.presence r = (s.presence r).filter (fun e => decide (e.number ≠ n))) ∧
    (∀ c : Credential, takes (.reinstate tag n cred) s = true → s.presentAs .office cred [.supervisor] = true →
      1 ≤ n → n ≤ 999999 → s.credential n = some c → c.suspended = true →
      ∃ t, exec (.reinstate tag n cred) s = .next (reply tag .reinstate .ok [] t) ∧
        t = { takeFrom s with cru.creds := t.cru.creds } ∧
        ∀ m, t.credential m = if m = n then some ⟨c.cls, false, 0⟩ else s.credential m) ∧
    (takes (.setPresenceLifetime tag n cred) s = true → s.presentAs .office cred [.supervisor] = true → n ≤ 65535 →
      exec (.setPresenceLifetime tag n cred) s =
        .next (reply tag .setPresenceLifetime .ok [fNum 2 (max 10 (min 300 n))]
          { takeFrom s with cru.lifetime := max 10 (min 300 n) }))

/-- Unknown and suspended badges only raise a notice of class BADGES; a failed PIN counts, and the third suspends the
credential and removes it from every reader's list.  R70 and R71 give what is sent; the numbers of the marks HELD (1) and
LIMIT (2) are the model's choice, log 13, and those of the reader and the PIN result its reading, log 14. -/
def Obligations.BadgeFailures : Prop :=
  (∀ e, classEnabled e .unknownBadge = e.badges ∧ classEnabled e .suspended = e.badges) ∧
  ∀ (s : State) (r : Reader) (n : Nat), s.operating = true → n ≤ 999999 →
    (∀ p, s.credential n = none →
      exec (.badge r n p) s =
        .next (notify .unknownBadge [fNamed (codeIn Reader.list r), fNum 3 n, fNamed (codeIn PinResult.list p)] s)) ∧
    (∀ p c, s.credential n = some c → c.suspended = true →
      exec (.badge r n p) s =
        .next (notify .suspended
          [fNamed (codeIn Reader.list r), fNum 3 n, fNamed (codeIn PinResult.list p), fNamed 1] s)) ∧
    (∀ c, s.credential n = some c → c.suspended = false → c.fails + 1 < 3 →
      ∃ t, exec (.badge r n .fail) s = .next t ∧ t = { s with cru.creds := t.cru.creds } ∧
        ∀ m, t.credential m = if m = n then some { c with fails := c.fails + 1 } else s.credential m) ∧
    (∀ c, s.credential n = some c → c.suspended = false → 3 ≤ c.fails + 1 →
      ∃ t, exec (.badge r n .fail) s = .next (notify .suspended
          [fNamed (codeIn Reader.list r), fNum 3 n, fNamed (codeIn PinResult.list .fail), fNamed 2] t) ∧
        t = { s with cru := t.cru } ∧
        (∀ m, t.credential m = if m = n then some { c with suspended := true, fails := 3 } else s.credential m) ∧
        ∀ q, t.presence q = (s.presence q).filter (fun e => decide (e.number ≠ n)))

/-- R72, R73: a presentation clears the fail count and enters the reader's list as its newest entry with a full time left: in
place of the credential's own entry, or of the oldest of 4; a DURESS one also drives ALARM for a full Alarm Period and
sends DURESS, before the owner of the reader is told (the model's choice, log 17).  At OFFICE nothing else changes.

R74: an entry whose time left is 0 leaves its list and the others keep their order; an entry with time left stays: the
model's choice, log 4. -/
def Obligations.PresentationsAndExpiry : Prop :=
  (∀ (s : State) (r : Reader) (n : Nat) (c : Credential) (p : PinResult), s.operating = true → n ≤ 999999 →
    s.credential n = some c → c.suspended = false → p ≠ .fail →
    ∃ t, exec (.badge r n p) s = .next t ∧
      (∀ m, t.credential m = if m = n then some { c with fails := 0 } else s.credential m) ∧
      ((∃ e ∈ s.presence r, e.number = n) → t.presence r =
        (s.presence r).filter (fun e => decide (e.number ≠ n)) ++ [⟨n, c.cls, s.cru.lifetime⟩]) ∧
      ((∀ e ∈ s.presence r, e.number ≠ n) → (s.presence r).length < 4 →
        t.presence r = s.presence r ++ [⟨n, c.cls, s.cru.lifetime⟩]) ∧
      ((∀ e ∈ s.presence r, e.number ≠ n) → 4 ≤ (s.presence r).length →
        t.presence r = (s.presence r).tail ++ [⟨n, c.cls, s.cru.lifetime⟩]) ∧
      (∀ q, q ≠ r → t.presence q = s.presence q) ∧ t.cru.lifetime = s.cru.lifetime ∧
      (p = .duress → t.ubc.alarm = true ∧ t.ubc.alarmTimer = some 180) ∧
      (p = .duress → s.hpt.globalEnable = true → s.hpt.classEnables.custody = true → s.hpt.notices.length < 32 →
        t.hpt.notices[s.hpt.notices.length]? = some
          ⟨.duress, [fNamed (codeIn Reader.list r), fNum 3 n, fNamed (codeIn CredClass.list c.cls)]⟩) ∧
      (p = .ok → t.ubc.alarm = s.ubc.alarm ∧ t.ubc.alarmTimer = s.ubc.alarmTimer) ∧ t.csc.latch = s.csc.latch ∧
      (r = .office → t.ubc.commands = s.ubc.commands ∧ t.csc = s.csc ∧ t.hoc = s.hoc) ∧
      (r = .office → p = .ok → t = { s with cru := t.cru }) ∧
      (r = .office → p = .duress → t = notify .duress
          [fNamed (codeIn Reader.list r), fNum 3 n, fNamed (codeIn CredClass.list c.cls)]
          { s with cru := t.cru, ubc.alarm := true, ubc.alarmTimer := some 180 }) ∧
      t.acu = s.acu ∧ t.bgr = s.bgr ∧ t.tau = s.tau ∧ t.clc = s.clc ∧ t.rcu = s.rcu ∧ t.wcu = s.wcu ∧ t.sys = s.sys) ∧
  (∀ (s : State) (r : Reader) (n : Nat), s.operating = true →
    ∃ t, exec (.presenceExpiry r n) s = .next t ∧
      t.presence r = (s.presence r).filter (fun e => decide (¬(e.number = n ∧ e.left = 0))) ∧
      (∀ q, q ≠ r → t.presence q = s.presence q) ∧ t = { s with cru := t.cru } ∧ t.cru.creds = s.cru.creds ∧
      t.cru.lifetime = s.cru.lifetime)

/-! ## Bags, tills, floats, takings and postings -/

/-- SET_TAG_RANGE enables or disables the entry it names and MOVE_BAG changes the bag's custody place; nothing else. -/
def Obligations.TagRangesAndMoves : Prop :=
  ∀ (s : State) (tag cred : Nat),
    (∀ (i a b : Nat) (p : RangePurpose), takes (.setTagRange tag i true (some a) (some b) (some p) cred) s = true →
      s.presentAs .office cred [.supervisor] = true → s.csc.freeze = false → i ≤ 7 → 1 ≤ a → a ≤ b → b ≤ 99999999 →
      (∀ j ∈ slotNumbers, j ≠ i → (s.tagRange j).enabled = true → b < (s.tagRange j).first ∨ (s.tagRange j).last < a) →
      ∃ t, exec (.setTagRange tag i true (some a) (some b) (some p) cred) s =
          .next (reply tag .setTagRange .ok (rangeFields t) t) ∧
        t = { takeFrom s with bgr.ranges := t.bgr.ranges } ∧
        ∀ j, t.tagRange j = if j = i then ⟨true, a, b, p⟩ else s.tagRange j) ∧
    (∀ (i : Nat) (a b : Option Nat) (p : Option RangePurpose), takes (.setTagRange tag i false a b p cred) s = true →
      s.presentAs .office cred [.supervisor] = true → s.csc.freeze = false → i ≤ 7 →
      ∃ t, exec (.setTagRange tag i false a b p cred) s = .next (reply tag .setTagRange .ok (rangeFields t) t) ∧
        t = { takeFrom s with bgr.ranges := t.bgr.ranges } ∧
        ∀ j, t.tagRange j = if j = i then { s.tagRange i with enabled := false } else s.tagRange j) ∧
    (∀ (r : Nat) (d : MoveDest) (b : Bag), takes (.moveBag tag r (some d) cred) s = true →
      s.presentAs .office cred custodianClass = true → 1 ≤ r → r ≤ 1024 → s.bag r = some b →
      s.csc.strongroom.state = .opened → b.state.live = true → b.state ≠ .counting →
      (d = .strongroom ∧ b.custody = .bench ∨ d = .bench ∧ b.custody = .strongroom) →
      ∃ t, exec (.moveBag tag r (some d) cred) s =
          .next (reply tag .moveBag .ok [.one (placeAtoms (destPlace d))] t) ∧
        t = { takeFrom s with bgr.bags := t.bgr.bags } ∧
        ∀ q, t.bag q = if q = r then some { b with custody := destPlace d } else s.bag q)

/-- SET_TEMPLATE, SET_TILL and RELEASE_TILL: what each writes.  The reply of SET_TEMPLATE carries the value of the lines, and past
the range of an Amount an open value within it: the model's choice, log 38 (and log 13 for the template's number, which is
not sent).

R97 to R99: SET_TILL makes the over-limit test of an ISSUED till: over its limit it joins the skim queue at the newest end,
with SKIM_ALERT when 4 or more are then in it, or waits when it is full; and else it leaves the queue, the others keeping their
order, and the lowest-numbered other till that waits joins. -/
def Obligations.TillSettings : Prop :=
  ∀ (s : State) (tag n cred : Nat), s.presentAs .office cred [.supervisor] = true →
    (∀ l : List SlotLine, takes (.setTemplate tag n l cred) s = true → n ≤ 7 → l.length ≤ 8 →
      (∀ x ∈ l, x.slot ≤ 7 ∧ 1 ≤ x.count ∧ x.count ≤ 999999 ∧ s.denom x.slot ≠ .unused) → (l.map SlotLine.slot).Nodup →
      ∃ t, exec (.setTemplate tag n l cred) s =
          .next (reply tag .setTemplate .ok [.many (lineItems l), fAmount (templateValue l s)] t) ∧
        linesValue l s = (l.map (fun x => ((x.count * (s.denom x.slot).face : Nat) : Int))).sum ∧
        (amountInRange (linesValue l s) = true → templateValue l s = linesValue l s) ∧
        amountInRange (templateValue l s) = true ∧
        t = { takeFrom s with tau.templates := t.tau.templates } ∧
        ∀ m, t.template m = if m = n then l else s.template m) ∧
    (∀ v : Int, takes (.setTill tag n (some v) cred) s = true → 1 ≤ n → n ≤ 128 → 0 ≤ v → v ≤ 999999999999 →
      ∃ t, exec (.setTill tag n (some v) cred) s =
          .next (reply tag .setTill .ok [fAmount v, fFlag (t.till n).overLimit] t) ∧
        ((s.till n).state ≠ .issued → t.till n = { s.till n with limit := v } ∧ t.tau.skimQueue = s.tau.skimQueue) ∧
        ((s.till n).state = .issued →
          t.till n = { s.till n with limit := v, overLimit := ({ s.till n with limit := v } : Till).isOver } ∧
          (({ s.till n with limit := v } : Till).isOver = true → n ∉ s.tau.skimQueue → s.tau.skimQueue.length < 16 →
            t.tau.skimQueue = s.tau.skimQueue ++ [n] ∧
            t.hpt = (if s.tau.skimQueue.length < 3 then takeFrom s
              else notify .skimAlert
                [fTill (some n), fNum 1 (s.tau.skimQueue.length + 1), fNum 1 (s.tau.skimQueue.length + 1)]
                (takeFrom s)).hpt) ∧
          (({ s.till n with limit := v } : Till).isOver = true → (n ∈ s.tau.skimQueue ∨ 16 ≤ s.tau.skimQueue.length) →
            t.tau.skimQueue = s.tau.skimQueue) ∧
          (({ s.till n with limit := v } : Till).isOver = false → n ∉ t.tau.skimQueue ∧
            (s.tau.skimQueue.length ≤ 16 → leavesSkim n s t))) ∧
        (∀ m, m ≠ n → t.till m = s.till m) ∧
        t = { takeFrom s with tau := t.tau, hpt := t.hpt } ∧ onlyNotices (takeFrom s) t ∧
        t.tau.templates = s.tau.templates ∧ t.tau.postings = s.tau.postings) ∧
    (takes (.releaseTill tag n cred) s = true → 1 ≤ n → n ≤ 128 → (s.till n).hold = true →
      ∃ t, exec (.releaseTill tag n cred) s = .next (reply tag .releaseTill .ok [] t) ∧
        t = { takeFrom s with tau.tills := t.tau.tills } ∧
        ∀ m, t.till m = if m = n then { s.till n with hold := false } else s.till m)

/-- MAKE_FLOAT: a FLOAT bag at the BENCH for the template's value, the lines out of stock with straps broken as needed,
the till FLOAT_READY, one STOCK_TO_BAG entry, and the accountability as it was.

R82: what one line of a float takes: coins from coin; notes from loose, breaking the fewest straps that cover the
rest, so that the strapped and loose counts together fall by the line's count. -/
def Obligations.MakeFloat : Prop :=
  (∀ (s u : State) (tag n m g cred r : Nat) (taken : List (StockChange × Nat)),
    takes (.makeFloat tag n m g cred) s = true → s.presentAs .office cred custodianClass = true →
    1 ≤ n → n ≤ 128 → m ≤ 7 → 1 ≤ g → g ≤ 99999999 → s.template m ≠ [] → s.acu.day = .dayOpen →
    ((s.till n).state = .idle ∨ (s.till n).state = .reconciled ∧ (s.till n).session < 9) → (s.till n).hold = false →
    (∀ l ∈ s.template m, s.denom l.slot ≠ .unused) → tagCheck g .float s = .ok → 9 ≤ s.journalFree →
    takeLines (s.template m) s = .ok taken → 8 < s.available → allocate (takeFrom s) = some (r, u) →
    ∃ t f, exec (.makeFloat tag n m g cred) s = .next (reply tag .makeFloat .ok f t) ∧
      t.bag r = some (newBag g .float
        (.till n (if (s.till n).state = .reconciled then (s.till n).session + 1 else (s.till n).session)) none
        (linesValue (s.template m) s) none) ∧
      (∀ q, q ≠ r → t.bag q = u.bag q) ∧ t.bgr = { u.bgr with bags := t.bgr.bags } ∧
      t.till n = { s.till n with
        state := .floatReady, before := some (s.till n).state, floatBag := some r, floatLines := s.template m
        session := if (s.till n).state = .reconciled then (s.till n).session + 1 else (s.till n).session } ∧
      (∀ k, k ≠ n → t.till k = s.till k) ∧ t.tau = { s.tau with tills := t.tau.tills } ∧
      t.acu = { s.acu with
        stock := (taken.map Prod.fst).foldl applyStock s.acu.stock
        journal := s.acu.journal ++
          [nextEntry s .stockToBag (some r) (some n) (linesValue (s.template m) s) 0]
        nextSeq := seqAfter s.acu.nextSeq } ∧
      onlyChutes (takeFrom s) t ∧ t.sys = s.sys ∧ t.cru = s.cru ∧ t.clc = s.clc ∧ t.rcu = s.rcu ∧ t.wcu = s.wcu ∧
      t.hoc = s.hoc) ∧
  (∀ (l : SlotLine) (s : State) (c : StockChange) (b : Nat), takeLine l s = some (c, b) →
    c.slot = l.slot ∧ c.unfit = 0 ∧
    (∀ f, s.denom l.slot = .coin f → c = ⟨l.slot, 0, 0, 0, -(l.count : Int)⟩ ∧ b = 0 ∧ l.count ≤ (s.slotStock l.slot).coin) ∧
    (∀ f k, s.denom l.slot = .note f k → 10 ≤ k → c.coin = 0 ∧ c.strapped = -((b * k : Nat) : Int) ∧
      c.strapped + c.loose = -(l.count : Int) ∧ 0 ≤ ((s.slotStock l.slot).loose : Int) + c.loose ∧
      (l.count ≤ (s.slotStock l.slot).loose → b = 0) ∧
      ((s.slotStock l.slot).loose < l.count → (b - 1) * k + (s.slotStock l.slot).loose < l.count)))

/-- UNMAKE_FLOAT: the float's pieces back to stock, the bag EMPTIED and retired, the till as it was before the make-up,
and one UNMAKE entry with the accountability as it was.

ISSUE_FLOAT: the bag ISSUED at its till and retired, the till ISSUED to its cashier with the session's figures set
afresh and the over-limit test made, and the accountability less the bag's book value with one BAG_OUT entry.  R97, R98: over
its limit the till joins the skim queue at the newest end, or waits when it is full; and else it leaves the queue, the others
keeping their order, and the lowest-numbered other till that waits joins.  A join with 4 or more tills then in the queue sends
SKIM_ALERT, after the CHUTE_LOCKED of any chute that changes: the model's choice, log 57. -/
def Obligations.UnmakeAndIssueFloat : Prop :=
  (∀ (s : State) (tag n cred r : Nat) (b : Bag), takes (.unmakeFloat tag n cred) s = true →
    s.presentAs .office cred custodianClass = true → 1 ≤ n → n ≤ 128 → s.acu.day = .dayOpen →
    (s.till n).state = .floatReady → (s.till n).floatBag = some r → s.bag r = some b → b.custody = .bench →
    9 ≤ s.journalFree →
    stockCheck ⟨.host, (s.till n).floatLines.map (giveLine s), none, [], [⟨.unmake, some r, some n, b.book, 0⟩]⟩ s = none →
    ∃ t f, exec (.unmakeFloat tag n cred) s = .next (reply tag .unmakeFloat .ok f t) ∧
      (∀ q, t.bag q = if q = r then some { b with state := .emptied } else s.bag q) ∧
      t.bgr.retired = s.bgr.retired ++ [r] ∧ t.bgr.ranges = s.bgr.ranges ∧
      t.till n = { s.till n with
        state := (s.till n).before.getD .idle, before := none, floatBag := none, floatLines := []
        session := if (s.till n).before = some .reconciled then (s.till n).session - 1 else (s.till n).session } ∧
      (∀ k, k ≠ n → t.till k = s.till k) ∧ t.tau = { s.tau with tills := t.tau.tills } ∧
      t.acu = { s.acu with
        stock := ((s.till n).floatLines.map (giveLine s)).foldl applyStock s.acu.stock
        journal := s.acu.journal ++ [nextEntry s .unmake (some r) (some n) b.book 0]
        nextSeq := seqAfter s.acu.nextSeq } ∧
      onlyChutes (takeFrom s) t ∧ t.sys = s.sys ∧ t.cru = s.cru ∧ t.clc = s.clc ∧ t.rcu = s.rcu ∧ t.wcu = s.wcu ∧
      t.hoc = s.hoc) ∧
  (∀ (s : State) (tag n cashier custodian r : Nat) (b : Bag), takes (.issueFloat tag n cashier custodian) s = true →
    s.presentAs .office cashier [.cashier] = true → s.presentAs .office custodian custodianClass = true →
    cashier ≠ custodian → 1 ≤ n → n ≤ 128 → s.acu.day = .dayOpen → (s.till n).state = .floatReady →
    (s.till n).hold = false → (s.till n).floatBag = some r → s.bag r = some b → b.custody = .bench → 9 ≤ s.journalFree →
    ∃ t, exec (.issueFloat tag n cashier custodian) s = .next (reply tag .issueFloat .ok [fAmount b.book] t) ∧
      (∀ q, t.bag q = if q = r then some { b with state := .issued, custody := .till n } else s.bag q) ∧
      t.bgr.retired = s.bgr.retired ++ [r] ∧ t.bgr.ranges = s.bgr.ranges ∧
      t.till n = { (s.till n).issue cashier b.book with overLimit := ((s.till n).issue cashier b.book).isOver } ∧
      (t.till n).expected = b.book ∧ (t.till n).floatValue = b.book ∧ (t.till n).counted = 0 ∧ (t.till n).sales = 0 ∧
      (t.till n).skims = 0 ∧ (t.till n).outstanding = 0 ∧ (t.till n).state = .issued ∧
      (∀ k, k ≠ n → t.till k = s.till k) ∧ t.tau.templates = s.tau.templates ∧ t.tau.postings = s.tau.postings ∧
      (((s.till n).issue cashier b.book).isOver = true → n ∉ s.tau.skimQueue → s.tau.skimQueue.length < 16 →
        t.tau.skimQueue = s.tau.skimQueue ++ [n]) ∧
      (((s.till n).issue cashier b.book).isOver = true → (n ∈ s.tau.skimQueue ∨ 16 ≤ s.tau.skimQueue.length) →
        t.tau.skimQueue = s.tau.skimQueue) ∧
      (((s.till n).issue cashier b.book).isOver = false → n ∉ t.tau.skimQueue ∧
        (s.tau.skimQueue.length ≤ 16 → leavesSkim n s t)) ∧
      (∃ chutes : List Notice, (∀ x ∈ chutes, x.kind = .chuteLocked) ∧
        t.hpt = (notifyAll (chutes ++ skimAlerts s.tau.skimQueue t.tau.skimQueue) (takeFrom s)).hpt) ∧
      t.acu = { s.acu with
        accountability := s.acu.accountability - b.book
        journal := s.acu.journal ++ [nextEntry s .bagOut (some r) (some n) (-b.book) (-b.book)]
        nextSeq := seqAfter s.acu.nextSeq } ∧
      onlyChutes (takeFrom s) t ∧ t.sys = s.sys ∧ t.cru = s.cru ∧ t.clc = s.clc ∧ t.rcu = s.rcu ∧ t.wcu = s.wcu ∧
      t.hoc = s.hoc)

/-- RECEIVE_TAKINGS: a TAKINGS bag at the BENCH with the declared value as its book value, the till TAKINGS_IN with one
more bag outstanding, and the accountability raised with one BAG_IN entry.  The till leaves the skim queue, the others keep
their order, and the lowest-numbered other till that waits joins (R98).

POST puts one entry at the newest end of the posting queue, and a QUERY_TILL of a till with none waiting answers
its record; nothing else changes. -/
def Obligations.TakingsAndPosts : Prop :=
  (∀ (s u : State) (tag n g cashier custodian r : Nat) (v : Int),
    takes (.receiveTakings tag n g (some v) cashier custodian) s = true →
    s.presentAs .office cashier [.cashier] = true → s.presentAs .office custodian custodianClass = true →
    cashier ≠ custodian → 1 ≤ n → n ≤ 128 → 1 ≤ g → g ≤ 99999999 → 0 ≤ v → v ≤ 999999999999 → s.acu.day = .dayOpen →
    (s.till n).state = .issued → tagCheck g .takings s = .ok → 9 ≤ s.journalFree →
    amountInRange (s.acu.accountability + v) = true → 8 < s.available → allocate (takeFrom s) = some (r, u) →
    ∃ t, exec (.receiveTakings tag n g (some v) cashier custodian) s =
        .next (reply tag .receiveTakings .ok [fRef (some r)] t) ∧
      t.bag r = some (newBag g .takings (.till n (s.till n).session) (some cashier) v (some v)) ∧
      (∀ q, q ≠ r → t.bag q = u.bag q) ∧ t.bgr = { u.bgr with bags := t.bgr.bags } ∧
      t.till n = { s.till n with
        state := .takingsIn, outstanding := (s.till n).outstanding + 1, overLimit := false } ∧
      n ∉ t.tau.skimQueue ∧ (s.tau.skimQueue.length ≤ 16 → leavesSkim n s t) ∧ (∀ k, k ≠ n → t.till k = s.till k) ∧ t.tau.templates = s.tau.templates ∧
      t.tau.postings = s.tau.postings ∧
      t.acu = { s.acu with
        accountability := s.acu.accountability + v
        journal := s.acu.journal ++ [nextEntry s .bagIn (some r) (some n) v v]
        nextSeq := seqAfter s.acu.nextSeq } ∧
      onlyChutes (takeFrom s) t ∧ t.sys = s.sys ∧ t.cru = s.cru ∧ t.clc = s.clc ∧ t.rcu = s.rcu ∧ t.wcu = s.wcu ∧
      t.hoc = s.hoc) ∧
  (∀ (s : State) (tag n : Nat), 1 ≤ n → n ≤ 128 →
    (∀ (k : PostingKind) (v : Int) (g : Option Nat), takes (.post tag n (some k) (some v) g) s = true → 0 < v →
      v ≤ 999999999999 → (k = .skim → ∃ x, g = some x ∧ 1 ≤ x ∧ x ≤ 99999999) → s.tau.postings.length < 64 →
      exec (.post tag n (some k) (some v) g) s =
        .next (reply tag .post .ok [fNum 1 (s.tau.postings.length + 1)]
          { takeFrom s with tau.postings := s.tau.postings ++ [⟨n, k, v, if k = .skim then g else none⟩] })) ∧
    (takes (.queryTill tag n) s = true → (∀ p ∈ s.tau.postings, p.till ≠ n) →
      exec (.queryTill tag n) s = .next (reply tag .queryTill .ok (tillFields n s) (takeFrom s))) ∧
    (takes (.queryTill tag n) s = true →
      ∃ t, exec (.queryTill tag n) s = .next (reply tag .queryTill .ok (tillFields n t) t) ∧
        t.tau.postings = s.tau.postings.filter (fun p => decide (p.till ≠ n))))

/-- R90 to R93: the oldest posting is applied: to a till in session it moves its accumulator and the expected total, and a
SKIM whose tag no bag can attach joins the till's pending skims, or with 4 held is ORPHAN; to a RECONCILED till it is LATE;
and to one in IDLE or FLOAT_READY it is charged to UNATTRIBUTED.  It is applied while RESET is asserted too: the model's
choice, log 6.

R95: a SKIM posting whose tag an undeclared SKIM bag carries attaches that bag to its till: with its Amount as book and
declared value, one BAG_ATTACH entry and one more bag outstanding, or, for a CONFIRMED bag, with its book value kept and
added to the counted total; and with no room in the journal or an overflow it is ORPHAN.

R90, R12: each accumulator and the expected total, which overflows exactly when one of its partial sums does, to
+999,999,999,999 with the range flag; R97: the test of the estimate; R91, R49: the signed effect of each kind, a late posting's
figures and a charge to a variance account, which overflow with the sign of the true result.

R96, R100: a till report adds the counted value and takes one bag off the count outstanding; the report that brings
a TAKINGS_IN till to 0 makes its result.  That a report to an ISSUED till with no bag outstanding leaves the count at 0 is the
model's choice, log 43. -/
def Obligations.PostingsAndTillReports : Prop :=
  (∀ (s : State) (p : Posting) (rest : List Posting), s.sys.powered = true → s.tau.postings = p :: rest →
    (p.kind ≠ .skim → (s.till p.till).state.inSession = true →
      ∃ t, exec .postingApplication s = .next t ∧ t.tau.postings = rest ∧
        t.till p.till = { ((s.till p.till).accumulate p.kind p.amount).reckon with overLimit := (t.till p.till).overLimit } ∧
        ((s.till p.till).state = .issued →
          (t.till p.till).overLimit = ((s.till p.till).accumulate p.kind p.amount).reckon.isOver) ∧
        ((s.till p.till).state = .takingsIn → (t.till p.till).overLimit = (s.till p.till).overLimit ∧
          t.tau.skimQueue = s.tau.skimQueue) ∧
        ((s.till p.till).state = .issued → (t.till p.till).overLimit = false → s.tau.skimQueue.length ≤ 16 →
          leavesSkim p.till s t) ∧
        ((s.till p.till).state = .issued → (t.till p.till).overLimit = true →
          t.tau.skimQueue = if p.till ∈ s.tau.skimQueue ∨ 16 ≤ s.tau.skimQueue.length then s.tau.skimQueue
            else s.tau.skimQueue ++ [p.till]) ∧
        (∀ m, m ≠ p.till → t.till m = s.till m) ∧ t = { s with tau := t.tau, hpt := t.hpt } ∧ onlyNotices s t ∧
        t.tau.templates = s.tau.templates) ∧
    ((s.till p.till).state = .reconciled →
      ∃ t, exec .postingApplication s = .next t ∧ t.tau.postings = rest ∧
        t.till p.till = (s.till p.till).addLate (signedEffect p.kind p.amount) ∧ (∀ m, m ≠ p.till → t.till m = s.till m) ∧
        t = { s with tau := t.tau, hpt := t.hpt } ∧ onlyNotices s t ∧ t.tau.skimQueue = s.tau.skimQueue ∧
        t.tau.templates = s.tau.templates) ∧
    ((s.till p.till).state = .idle ∨ (s.till p.till).state = .floatReady →
      ∃ t, exec .postingApplication s = .next t ∧ t.tau = { s.tau with postings := rest } ∧
        t.acu = { s.acu with unattributed := s.acu.unattributed.charge (signedEffect p.kind p.amount) } ∧
        t = { s with tau := t.tau, hpt := t.hpt, acu := t.acu } ∧ onlyNotices s t) ∧
    (∀ g, p.kind = .skim → p.tagNo = some g → (s.till p.till).state.inSession = true → s.attachable g = none →
      (s.till p.till).pendingSkims.length < 4 →
      ∃ t, exec .postingApplication s = .next t ∧ t.tau.postings = rest ∧
        t.till p.till = { ((s.till p.till).accumulate .skim p.amount).reckon with
          overLimit := (t.till p.till).overLimit
          pendingSkims := (s.till p.till).pendingSkims ++ [⟨g, p.amount, (s.till p.till).session⟩] } ∧
        (∀ m, m ≠ p.till → t.till m = s.till m) ∧ t = { s with tau := t.tau, hpt := t.hpt } ∧ onlyNotices s t ∧
        t.tau.templates = s.tau.templates) ∧
    (∀ g, p.kind = .skim → p.tagNo = some g → (s.till p.till).state.inSession = true → s.attachable g = none →
      4 ≤ (s.till p.till).pendingSkims.length →
      ∃ t, exec .postingApplication s = .next t ∧ t.tau.postings = rest ∧
        t.till p.till = { ((s.till p.till).accumulate .skim p.amount).reckon with overLimit := (t.till p.till).overLimit } ∧
        (∀ m, m ≠ p.till → t.till m = s.till m) ∧ t = { s with tau := t.tau, hpt := t.hpt } ∧ onlyNotices s t ∧
        (s.hpt.globalEnable = true → s.hpt.classEnables.tills = true → s.hpt.notices.length < 32 →
          t.hpt.notices[s.hpt.notices.length]? = some ⟨.orphanPosting, [fTill (some p.till),
            fNamed (codeIn PostingKind.list .skim), fAmount p.amount, fTag (some g), fNamed 2]⟩))) ∧
  (∀ (g r : Nat) (s : State), s.attachable g = some r → ∃ b, s.bag r = some b ∧ b.tagNo = some g ∧ b.state.live = true ∧
    b.purpose = .skim ∧ b.flags.undeclared = true ∧ b.source = .unknown) ∧
  (∀ (s : State) (p : Posting) (rest : List Posting) (g r : Nat) (b : Bag) (u : Till), s.sys.powered = true →
    s.tau.postings = p :: rest → p.kind = .skim → p.tagNo = some g → (s.till p.till).state.inSession = true →
    s.attachable g = some r → s.bag r = some b → u = ((s.till p.till).accumulate .skim p.amount).reckon →
    ∃ t, exec .postingApplication s = .next t ∧ t.tau.postings = rest ∧ t.tau.templates = s.tau.templates ∧
      (∀ m, m ≠ p.till → t.till m = s.till m) ∧ (∀ q, q ≠ r → t.bag q = s.bag q) ∧
      t.bgr = { s.bgr with bags := t.bgr.bags } ∧ onlyChutes s t ∧
      t.sys = s.sys ∧ t.cru = s.cru ∧ t.clc = s.clc ∧ t.rcu = s.rcu ∧ t.wcu = s.wcu ∧ t.hoc = s.hoc ∧
      ((s.till p.till).state = .issued → (t.till p.till).overLimit = u.isOver) ∧
      (b.state ≠ .confirmed → 1 ≤ s.journalFree → amountInRange (s.acu.accountability + p.amount) = true →
        t.bag r = some { b with
          source := .till p.till (s.till p.till).session, declared := some p.amount, book := p.amount
          flags := { b.flags with undeclared := false } } ∧
        t.till p.till = { u with outstanding := u.outstanding + 1, overLimit := (t.till p.till).overLimit } ∧
        ((s.till p.till).state = .takingsIn → (t.till p.till).overLimit = false ∧
          (s.tau.skimQueue.length ≤ 16 → leavesSkim p.till s t)) ∧
        t.acu = { s.acu with
          accountability := s.acu.accountability + p.amount
          journal := s.acu.journal ++ [nextEntry s .bagAttach (some r) (some p.till) p.amount p.amount]
          nextSeq := seqAfter s.acu.nextSeq }) ∧
      (b.state = .confirmed →
        t.bag r = some { b with
          source := .till p.till (s.till p.till).session, declared := some p.amount
          flags := { b.flags with undeclared := false } } ∧
        t.till p.till = { u.count b.book with overLimit := (t.till p.till).overLimit } ∧
        ((s.till p.till).state = .takingsIn → (t.till p.till).overLimit = false ∧
          (s.tau.skimQueue.length ≤ 16 → leavesSkim p.till s t)) ∧ t.acu = s.acu) ∧
      (b.state ≠ .confirmed → (s.journalFree = 0 ∨ amountInRange (s.acu.accountability + p.amount) = false) →
        t.bgr = s.bgr ∧ t.acu = s.acu ∧ t.till p.till = { u with overLimit := (t.till p.till).overLimit } ∧
        (s.hpt.globalEnable = true → s.hpt.classEnables.tills = true → s.hpt.notices.length < 32 →
          t.hpt.notices[s.hpt.notices.length]? = some ⟨.orphanPosting, [fTill (some p.till),
            fNamed (codeIn PostingKind.list .skim), fAmount p.amount, fTag (some g), fNamed 3]⟩))) ∧
  (∀ (t : Till) (a : Int),
    (t.expectedTotal =
      if amountInRange t.floatValue && amountInRange (t.floatValue + t.sales) &&
          amountInRange (t.floatValue + t.sales - t.refunds) &&
          amountInRange (t.floatValue + t.sales - t.refunds - t.paidOuts) &&
          amountInRange (t.floatValue + t.sales - t.refunds - t.paidOuts + t.paidIns) then
        some (t.floatValue + t.sales - t.refunds - t.paidOuts + t.paidIns)
      else none) ∧
    (∀ e, t.expectedTotal = some e → t.reckon = { t with expected := e }) ∧
    (t.expectedTotal = none → t.reckon = { t with expected := 999999999999, range := true }) ∧
    (amountInRange (t.sales + a) = true → t.accumulate .sale a = { t with sales := t.sales + a }) ∧
    (amountInRange (t.refunds + a) = true → t.accumulate .refund a = { t with refunds := t.refunds + a }) ∧
    (amountInRange (t.paidOuts + a) = true → t.accumulate .paidOut a = { t with paidOuts := t.paidOuts + a }) ∧
    (amountInRange (t.paidIns + a) = true → t.accumulate .paidIn a = { t with paidIns := t.paidIns + a }) ∧
    (amountInRange (t.skims + a) = true → t.accumulate .skim a = { t with skims := t.skims + a }) ∧
    (amountInRange (t.sales + a) = false → t.accumulate .sale a = { t with sales := 999999999999, range := true }) ∧
    (amountInRange (t.refunds + a) = false → t.accumulate .refund a = { t with refunds := 999999999999, range := true }) ∧
    (amountInRange (t.paidOuts + a) = false →
      t.accumulate .paidOut a = { t with paidOuts := 999999999999, range := true }) ∧
    (amountInRange (t.paidIns + a) = false → t.accumulate .paidIn a = { t with paidIns := 999999999999, range := true }) ∧
    (amountInRange (t.skims + a) = false → t.accumulate .skim a = { t with skims := 999999999999, range := true }) ∧
    (t.isOver = true ↔ amountInRange (t.expected - t.skims) = true ∧ t.limit < t.expected - t.skims) ∧
    (amountInRange (t.counted + a) = true → t.count a = { t with counted := t.counted + a }) ∧
    (amountInRange (t.counted + a) = false → t.count a = { t with countedRange := true })) ∧
  (∀ a : Int, signedEffect .sale a = a ∧ signedEffect .paidIn a = a ∧ signedEffect .refund a = -a ∧
    signedEffect .paidOut a = -a ∧ signedEffect .skim a = 0) ∧
  (∀ (t : Till) (e : Int),
    (t.addLate e = { t with
      late := (t.addLate e).late, variance := (t.addLate e).variance, day := t.day.charge e }) ∧
    (amountInRange (t.late + e) = true → (t.addLate e).late = t.late + e) ∧
    (amountInRange (t.late + e) = false →
      (t.addLate e).late = if t.late + e < 0 then -999999999999 else 999999999999) ∧
    (t.variance = none → (t.addLate e).variance = none) ∧
    ∀ v, t.variance = some v →
      (amountInRange (v + e) = true → (t.addLate e).variance = some (v + e)) ∧
      (amountInRange (v + e) = false →
        (t.addLate e).variance = some (if v + e < 0 then -999999999999 else 999999999999))) ∧
  (∀ (x : VarAccount) (e : Int),
    (amountInRange (x.amount + e) = true → x.charge e = ⟨x.amount + e, x.range⟩) ∧
    (amountInRange (x.amount + e) = false →
      x.charge e = ⟨if x.amount + e < 0 then -999999999999 else 999999999999, true⟩)) ∧
  (∀ (t : Till) (k : Nat) (v : Int) (s : State),
    ((t.session ≠ k ∨ t.state.inSession = false) → reportedTillAfter t k v s = t) ∧
    (t.session = k → t.state.inSession = true → amountInRange (t.counted + v) = true →
      (t.state = .issued ∨ 2 ≤ t.outstanding) →
      reportedTillAfter t k v s = { t with counted := t.counted + v, outstanding := t.outstanding - 1 }) ∧
    (t.session = k → t.state = .takingsIn → t.outstanding = 1 → t.range = false → t.countedRange = false →
      amountInRange (t.counted + v) = true → amountInRange (t.counted + v - t.expected) = true →
      reportedTillAfter t k v s = { t with
        counted := t.counted + v, outstanding := 0, state := .reconciled, variance := some (t.counted + v - t.expected)
        classification :=
          some (classify (t.counted + v - t.expected) (bandOf s.acu.bandFloor s.acu.bandRate t.expected)) }) ∧
    (t.session = k → t.state = .takingsIn → t.outstanding = 1 → t.range = true →
      (reportedTillAfter t k v s).classification = some .range ∧ (reportedTillAfter t k v s).variance = none ∧
      (reportedTillAfter t k v s).state = .reconciled))

/-! ## Counting lanes -/

/-- LOAD_LANE on an IDLE lane: the bag COUNTING at the lane, and the lane READY with an empty hold set and a new batch:
tally 0, each NOTE slot's strap counter at its strap size.  An URGENT one on a READY or HELD lane pushes the current
batch on the suspend stack with its hold set.

START, STOP and RESUME: the lane's state, its hold set and the commands RUN and STOP. -/
def Obligations.LaneLoadStartStop : Prop :=
  (∀ (s : State) (tag n r cred : Nat) (u : Bool) (b : Bag), takes (.loadLane tag n r u cred) s = true →
    s.presentAs .office cred custodianClass = true → n ≤ 3 → 1 ≤ r → r ≤ 1024 → s.bag r = some b →
    s.acu.day = .dayOpen → (s.lane n).stacker = 0 → (s.lane n).reject = 0 →
    (b.purpose = .takings ∨ b.purpose = .skim ∨ b.purpose = .changeIn) →
    (b.state = .intact ∨ b.state = .quarantined) → b.custody = .bench →
    ((s.lane n).state = .idle →
      ∃ t f, exec (.loadLane tag n r u cred) s = .next (reply tag .loadLane .ok f t) ∧
        t = { takeFrom s with clc := t.clc, bgr.bags := t.bgr.bags } ∧
        (∀ q, t.bag q = if q = r then some { b with state := .counting, custody := .lane n } else s.bag q) ∧
        t.lane n = { s.lane n with
          state := .ready, batch := some ⟨r, Tally.initial, loadedStraps s, [], false, u, false⟩, holds := HoldSet.empty } ∧
        (∀ i ∈ slotNumbers, ∀ f k, s.denom i = .note f k → Table.get 0 (loadedStraps s) i = k) ∧
        ∀ m, m ≠ n → t.lane m = s.lane m) ∧
    (∀ cur, ((s.lane n).state = .ready ∨ (s.lane n).state = .held) → u = true → (s.lane n).batch = some cur →
      (s.lane n).stack.length < 3 →
      ∃ t f, exec (.loadLane tag n r u cred) s = .next (reply tag .loadLane .ok f t) ∧
        t = { takeFrom s with clc := t.clc, bgr.bags := t.bgr.bags } ∧
        (∀ q, t.bag q = if q = r then some { b with state := .counting, custody := .lane n } else s.bag q) ∧
        t.lane n = { s.lane n with
          state := .ready, batch := some ⟨r, Tally.initial, loadedStraps s, [], false, true, false⟩
          stack := ⟨cur, (s.lane n).holds⟩ :: (s.lane n).stack, holds := HoldSet.empty } ∧
        ∀ m, m ≠ n → t.lane m = s.lane m)) ∧
  (∀ (s : State) (tag n cred : Nat), n ≤ 3 →
    (takes (.start tag n cred) s = true → s.presentAs .office cred custodianClass = true → (s.lane n).state = .ready →
      s.csc.latch = false →
      ∃ t, exec (.start tag n cred) s = .next (reply tag .start .ok [] t) ∧
        t = { takeFrom s with clc := t.clc, ubc.commands := s.ubc.commands ++ s.ubc.sends [(.lane n, .run)] } ∧
        ∀ m, t.lane m = if m = n then { s.lane n with state := .running } else s.lane m) ∧
    (takes (.stop tag n) s = true → ((s.lane n).state = .running ∧ (s.lane n).holds.operator = false ∨ (s.lane n).state = .held) →
      ∃ t f, exec (.stop tag n) s = .next (reply tag .stop .ok f t) ∧
        t = { takeFrom s with clc := t.clc, hpt := t.hpt, ubc := t.ubc } ∧ onlyNotices (takeFrom s) t ∧
        t.ubc = { s.ubc with commands :=
          if (s.lane n).state = .running then s.ubc.commands ++ s.ubc.sends [(.lane n, .stop)] else s.ubc.commands } ∧
        ∀ m, t.lane m =
          if m = n then { s.lane n with state := .held, holds := { (s.lane n).holds with operator := true } }
          else s.lane m) ∧
    (takes (.resume tag n cred) s = true → s.presentAs .office cred custodianClass = true → (s.lane n).state = .held →
      ∃ t f h, exec (.resume tag n cred) s = .next (reply tag .resume .ok f t) ∧ t = { takeFrom s with clc := t.clc } ∧
        h = { (s.lane n).holds with
          operator := false, watch := false, lockdown := (s.lane n).holds.lockdown && s.csc.latch } ∧
        ∀ m, t.lane m =
          if m = n then { s.lane n with state := if h = HoldSet.empty then .ready else .held, holds := h } else s.lane m))

/-- R112 to R116, R20: a NOTE of a lane with a batch is tallied by its slot, fitness and suspect mark, and a fit note moves its
slot's strap counter; the 200th stacker note and the 50th reject note hold the lane; one at 220 or 50, or that would take a
count past 999,999, faults it and is not tallied; a hold or a fault sends STOP to a running transport and its notice; a lane with no batch, or READY or in FAULT, only reports it.
That STRAY_NOTE sends UNREADABLE as the absent slot alone is the model's choice, log 13. -/
def Obligations.NotesAreTallied : Prop :=
  ∀ (s : State) (n : Nat) (slot : Option Nat) (g : Fitness) (x : Bool), s.operating = true → n ≤ 3 →
    (∀ (b : Batch) (i f k : Nat), (s.lane n).batch = some b →
      ((s.lane n).state = .running ∨ (s.lane n).state = .held ∨ (s.lane n).state = .closing) → i ≤ 7 →
      s.denom i = .note f k →
      ((s.lane n).stacker < 220 → (g = .fit → (tallySlot b.tally i).fit < 999999) →
        (g = .unfit → (tallySlot b.tally i).unfit < 999999) →
        ∃ t b', exec (.note n (some i) g false) s = .next t ∧
          ((s.lane n).stacker ≠ 199 → t = { s with clc := t.clc } ∧
            t.lane n = { s.lane n with batch := some b', stacker := (s.lane n).stacker + 1 }) ∧
          ((s.lane n).stacker = 199 → t = { s with clc := t.clc, hpt := t.hpt, ubc := t.ubc } ∧ holdSends n .stackerFull s t ∧
            t.lane n = { s.lane n with
              batch := some b', stacker := 200, holds := { (s.lane n).holds with stackerFull := true }
              state := if (s.lane n).state = .running ∧ (s.lane n).holds.stackerFull = false then .held
                else (s.lane n).state }) ∧
          tallySlot b'.tally i = (match g with
            | .fit => { tallySlot b.tally i with fit := (tallySlot b.tally i).fit + 1 }
            | .unfit => { tallySlot b.tally i with unfit := (tallySlot b.tally i).unfit + 1 }) ∧
          (∀ j, j ≠ i → tallySlot b'.tally j = tallySlot b.tally j) ∧ b'.tally.unreadable = b.tally.unreadable ∧
          (g = .unfit → b'.straps = b.straps ∧ b'.full = b.full) ∧
          (g = .fit → 2 ≤ Table.get 0 b.straps i → Table.get 0 b'.straps i = Table.get 0 b.straps i - 1 ∧
            b'.full = b.full) ∧
          (g = .fit → Table.get 0 b.straps i = 1 → Table.get 0 b'.straps i = k ∧
            Table.get 0 b'.full i = Table.get 0 b.full i + 1) ∧
          (∀ j, j ≠ i → Table.get 0 b'.straps j = Table.get 0 b.straps j ∧
            Table.get 0 b'.full j = Table.get 0 b.full j) ∧
          b' = { b with
            tally := b'.tally, straps := b'.straps, full := b'.full
            lateNotes := b.lateNotes || decide ((s.lane n).state = .closing) } ∧
          ∀ m, m ≠ n → t.lane m = s.lane m) ∧
      ((s.lane n).reject < 50 → (tallySlot b.tally i).suspect < 999999 →
        ∃ t b', exec (.note n (some i) g true) s = .next t ∧
          ((s.lane n).reject ≠ 49 → t = { s with clc := t.clc } ∧
            t.lane n = { s.lane n with batch := some b', reject := (s.lane n).reject + 1 }) ∧
          ((s.lane n).reject = 49 → t = { s with clc := t.clc, hpt := t.hpt, ubc := t.ubc } ∧ holdSends n .rejectFull s t ∧
            t.lane n = { s.lane n with
              batch := some b', reject := 50, holds := { (s.lane n).holds with rejectFull := true }
              state := if (s.lane n).state = .running ∧ (s.lane n).holds.rejectFull = false then .held
                else (s.lane n).state }) ∧
          tallySlot b'.tally i = { tallySlot b.tally i with suspect := (tallySlot b.tally i).suspect + 1 } ∧
          (∀ j, j ≠ i → tallySlot b'.tally j = tallySlot b.tally j) ∧
          b' = { b with
            tally := { b.tally with slots := b'.tally.slots }
            lateNotes := b.lateNotes || decide ((s.lane n).state = .closing) } ∧
          ∀ m, m ≠ n → t.lane m = s.lane m) ∧
      (220 ≤ (s.lane n).stacker →
        ∃ t, exec (.note n (some i) g false) s = .next t ∧ faults n .overflow s t) ∧
      ((s.lane n).stacker < 220 → (g = .fit ∧ 999999 ≤ (tallySlot b.tally i).fit ∨
          g = .unfit ∧ 999999 ≤ (tallySlot b.tally i).unfit) →
        ∃ t, exec (.note n (some i) g false) s = .next t ∧ faults n .countRange s t) ∧
      (50 ≤ (s.lane n).reject ∨ 999999 ≤ (tallySlot b.tally i).suspect →
        ∃ t, exec (.note n (some i) g true) s = .next t ∧ faults n (if 50 ≤ (s.lane n).reject then .overflow else .countRange) s t)) ∧
    (∀ b, (slot = none ∨ ∃ i, slot = some i ∧ (7 < i ∨ (s.denom i).strap? = none)) → (s.lane n).batch = some b →
      ((s.lane n).state = .running ∨ (s.lane n).state = .held ∨ (s.lane n).state = .closing) →
      ((s.lane n).reject < 50 → b.tally.unreadable < 999999 →
        ∃ t b', exec (.note n slot g x) s = .next t ∧
          ((s.lane n).reject ≠ 49 → t = { s with clc := t.clc } ∧
            t.lane n = { s.lane n with batch := some b', reject := (s.lane n).reject + 1 }) ∧
          ((s.lane n).reject = 49 → t = { s with clc := t.clc, hpt := t.hpt, ubc := t.ubc } ∧ holdSends n .rejectFull s t ∧
            t.lane n = { s.lane n with
              batch := some b', reject := 50, holds := { (s.lane n).holds with rejectFull := true }
              state := if (s.lane n).state = .running ∧ (s.lane n).holds.rejectFull = false then .held
                else (s.lane n).state }) ∧
          b' = { b with
            tally := { b.tally with unreadable := b.tally.unreadable + 1 }
            lateNotes := b.lateNotes || decide ((s.lane n).state = .closing) } ∧
          ∀ m, m ≠ n → t.lane m = s.lane m) ∧
      (50 ≤ (s.lane n).reject ∨ 999999 ≤ b.tally.unreadable →
        ∃ t, exec (.note n slot g x) s = .next t ∧ faults n (if 50 ≤ (s.lane n).reject then .overflow else .countRange) s t)) ∧
    ((s.lane n).batch = none ∨ (s.lane n).state = .ready ∨ (s.lane n).state = .fault ∨ (s.lane n).state = .faultLocked →
      exec (.note n slot g x) s = .next (notify .strayNote [fLane (some n), fNamed (codeIn LaneState.list (s.lane n).state),
        fLane (slot.filter (fun i => decide (i ≤ 7))), fNamed (codeIn Fitness.list g), fFlag x] s))

/-- POCKET and JAM: a pocket's count and its hold cause clear, and a HELD lane with no cause left is READY; a jam faults a
working lane, sending STOP to a running one, locks a FAULT, and is only reported by an IDLE or OFF lane.  That FAULT from a lane
in FAULT or FAULT_LOCKED with no batch carries the reference 0 and not the mark NO_BATCH is the model's choice, log 46, and the
number of that mark, log 13. -/
def Obligations.PocketsAndJams : Prop :=
  ∀ (s : State) (n : Nat), s.operating = true → n ≤ 3 →
    (∃ t, exec (.pocket n .stacker) s = .next t ∧ t = { s with clc := t.clc } ∧
      t.lane n = { s.lane n with
        stacker := 0, holds := { (s.lane n).holds with stackerFull := false }
        state := if (s.lane n).state = .held ∧ { (s.lane n).holds with stackerFull := false } = HoldSet.empty then .ready
          else (s.lane n).state } ∧ ∀ m, m ≠ n → t.lane m = s.lane m) ∧
    (∃ t, exec (.pocket n .reject) s = .next t ∧ t = { s with clc := t.clc } ∧
      t.lane n = { s.lane n with
        reject := 0, holds := { (s.lane n).holds with rejectFull := false }
        state := if (s.lane n).state = .held ∧ { (s.lane n).holds with rejectFull := false } = HoldSet.empty then .ready
          else (s.lane n).state } ∧ ∀ m, m ≠ n → t.lane m = s.lane m) ∧
    ∃ t, exec (.jam n) s = .next t ∧ t = { s with clc := t.clc, hpt := t.hpt, ubc := t.ubc } ∧
      t.hpt = (notify .fault [fLane (some n), fNamed (codeIn FaultCause.list .jam),
        fNamed (codeIn LaneState.list (t.lane n).state),
        fRef (if (s.lane n).state = .idle ∨ (s.lane n).state = .off then none else (s.lane n).batch.map Batch.ref),
        fFlag (decide ((s.lane n).state = .idle ∨ (s.lane n).state = .off))] s).hpt ∧
      t.ubc = { s.ubc with commands :=
        if (s.lane n).state = .running then s.ubc.commands ++ s.ubc.sends [(.lane n, .stop)] else s.ubc.commands } ∧
      t.lane n = (match (s.lane n).state with
        | .idle => s.lane n
        | .off => s.lane n
        | .faultLocked => s.lane n
        | .fault => { s.lane n with state := .faultLocked, locked := true }
        | _ => { s.lane n with state := .fault, fault := some .jam }) ∧
      ∀ m, m ≠ n → t.lane m = s.lane m

/-- CLOSE_BATCH: the lane CLOSING with the coin part in its batch and queued for valuation, the OPERATOR, WATCH and
LOCKDOWN causes gone, and a reservation of 3 journal entries made; the reply is ACCEPTED.

ABORT_BATCH and CLEAR_FAULT: the aborted bag back at the BENCH in its state before counting and the lane's next
batch READY or the lane IDLE; a cleared lane HELD with OPERATOR, or IDLE without a batch; nothing else.  That a cleared lane with
a batch keeps its other hold causes is the model's reading, log 30. -/
def Obligations.BatchEndsAndFaultClears : Prop :=
  (∀ (s : State) (tag n cred : Nat) (coins : Option (Table Nat)) (b : Batch), takes (.closeBatch tag n coins cred) s = true →
    s.presentAs .office cred custodianClass = true → n ≤ 3 → coinsOk (coins.getD []) s = true →
    ((s.lane n).state = .ready ∨ (s.lane n).state = .held) → (s.lane n).batch = some b → s.rcu.queue.length < 6 →
    s.acu.day = .dayOpen → 11 ≤ s.journalFree →
    ∃ t b', exec (.closeBatch tag n coins cred) s =
        .next (reply tag .closeBatch .accepted [fLane (some n), fRef (some b.ref)] t) ∧
      t.lane n = { s.lane n with
        state := .closing, batch := some b'
        holds := { (s.lane n).holds with operator := false, watch := false, lockdown := false } } ∧
      b'.queued = true ∧ b'.ref = b.ref ∧ b'.tally.unreadable = b.tally.unreadable ∧
      (∀ i ∈ slotNumbers, tallySlot b'.tally i =
        { tallySlot b.tally i with coin := Table.get 0 (coins.getD []) i }) ∧
      (∀ m, m ≠ n → t.lane m = s.lane m) ∧ t.rcu = { s.rcu with queue := s.rcu.queue ++ [.lane n] } ∧
      t.acu = { s.acu with reserved := s.acu.reserved + 3 } ∧ onlyChutes (takeFrom s) t ∧
      t.sys = s.sys ∧ t.cru = s.cru ∧ t.bgr = s.bgr ∧ t.tau = s.tau ∧ t.wcu = s.wcu ∧ t.hoc = s.hoc) ∧
  (∀ (s : State) (tag n cred : Nat), n ≤ 3 → s.presentAs .office cred custodianClass = true →
    (∀ (x : Batch) (b : Bag), takes (.abortBatch tag n cred) s = true →
      ((s.lane n).state = .ready ∨ (s.lane n).state = .held) → (s.lane n).batch = some x → s.bag x.ref = some b →
      ∃ t f, exec (.abortBatch tag n cred) s = .next (reply tag .abortBatch .ok f t) ∧
        t = { takeFrom s with clc := t.clc, bgr.bags := t.bgr.bags } ∧
        (∀ q, t.bag q = if q = x.ref then
          some { b with state := if b.tally.isSome then .quarantined else .intact, custody := .bench } else s.bag q) ∧
        t.lane n = { s.lane n with
          state := if (s.lane n).stack = [] then .idle else .ready
          batch := (s.lane n).stack.head?.map Suspended.batch, stack := (s.lane n).stack.tail
          stacker := 0, reject := 0, holds := HoldSet.empty } ∧
        ∀ m, m ≠ n → t.lane m = s.lane m) ∧
    (takes (.clearFault tag n cred) s = true →
      ((s.lane n).state = .fault ∨ (s.lane n).state = .faultLocked ∧ s.presentAs .office cred [.supervisor] = true) →
      (∀ x, (s.lane n).batch = some x → x.queued = false) →
      ∃ t f, exec (.clearFault tag n cred) s = .next (reply tag .clearFault .ok f t) ∧
        t = { takeFrom s with clc := t.clc } ∧
        (∀ x, (s.lane n).batch = some x → t.lane n = { s.lane n with
          state := .held, fault := none, locked := false, holds := { (s.lane n).holds with operator := true } }) ∧
        ((s.lane n).batch = none → t.lane n = { s.lane n with
          state := .idle, fault := none, locked := false, holds := HoldSet.empty }) ∧
        ∀ m, m ≠ n → t.lane m = s.lane m))

/-! ## Reconciliation and the Watch Unit -/

/-- COUNT_MANUAL queues the tally with the bag COUNTING and a reservation of 3 entries; the free engine begins the
oldest entry's valuation with its counted value and touches no account, while RESET is asserted too: the model's choice,
log 6. -/
def Obligations.CountManualAndBegin : Prop :=
  (∀ (s : State) (tag r cred : Nat) (y : Tally) (b : Bag), takes (.countManual tag r y cred) s = true →
    s.presentAs .office cred custodianClass = true → 1 ≤ r → r ≤ 1024 → tallyOk y s = true → s.bag r = some b →
    (b.purpose = .takings ∨ b.purpose = .skim ∨ b.purpose = .changeIn) → (b.state = .intact ∨ b.state = .quarantined) →
    b.custody = .bench → s.rcu.queue.length < 6 → s.acu.day = .dayOpen → 11 ≤ s.journalFree →
    ∃ t, exec (.countManual tag r y cred) s =
        .next (reply tag .countManual .accepted [fRef (some r), fNum 1 (s.rcu.queue.length + 1)] t) ∧
      (∀ q, t.bag q = if q = r then some { b with state := .counting } else s.bag q) ∧
      t.bgr = { s.bgr with bags := t.bgr.bags } ∧ t.rcu = { s.rcu with queue := s.rcu.queue ++ [.manual r y] } ∧
      t.acu = { s.acu with reserved := s.acu.reserved + 3 } ∧ onlyChutes (takeFrom s) t ∧
      t.sys = s.sys ∧ t.cru = s.cru ∧ t.tau = s.tau ∧ t.clc = s.clc ∧ t.wcu = s.wcu ∧ t.hoc = s.hoc) ∧
  (∀ (s : State) (r : Nat) (y : Tally) (rest : List QueueEntry), s.sys.powered = true → s.rcu.engine = none →
    s.rcu.queue = .manual r y :: rest →
    exec .valuationBegin s = .next { s with rcu.engine := some ⟨y, valueTally y s⟩ }) ∧
  (∀ (s : State) (n : Nat) (x : Batch) (rest : List QueueEntry), s.sys.powered = true → s.rcu.engine = none →
    s.rcu.queue = .lane n :: rest → (s.lane n).batch = some x →
    exec .valuationBegin s = .next { s with rcu.engine := some ⟨x.tally, valueTally x.tally s⟩ })

/-- R137: the outcome of a completed valuation. -/
def Obligations.OutcomeTable : Prop :=
  ∀ (b : Bag) (y : Tally) (c : Classification) (late fired : Bool),
    (c = .range → outcomeOf b y c late fired = .disputed) ∧
    (c ≠ .range → (late = true ∨ fired = true) → outcomeOf b y c late fired = .quarantined) ∧
    (c ≠ .range → late = false → fired = false → b.tally = none →
      outcomeOf b y c late fired = if c = .exact ∨ c = .within then .confirmed else .quarantined) ∧
    (c ≠ .range → late = false → fired = false → ∀ old, b.tally = some old →
      (identicalTallies old y = true → outcomeOf b y c late fired = .confirmed) ∧
      (identicalTallies old y = false → b.recount = 0 → outcomeOf b y c late fired = .quarantined) ∧
      (identicalTallies old y = false → 1 ≤ b.recount → outcomeOf b y c late fired = .disputed))

/-- VALUATION_COMPLETION of the oldest entry, MANUAL or LANE: `u` is the state after the snoop of R100 and `w` that after the
offer to the Watch Unit.  The entry leaves the queue, the engine is free, the reservation ends, and the bag holds its new
tally at the BENCH in its outcome, which late notes and a fired RECOUNT make QUARANTINED; a CONFIRMED one has its variance
charged and reported, and is merged when stock can take it and stays CONFIRMED when it cannot.  A lane batch leaves its
lane (R120).  It completes while RESET is asserted too: the model's choice, log 6.

R139: a CONFIRMED outcome writes VARIANCE when the variance is not 0, BAG_TO_STOCK when the tally is merged and TILL_RESULT
when the till report makes a till result, in that order, each with the accountability after it; another outcome writes none.

R141: after the WATCH notices of the offer come STOCK_RANGE with the first slot that cannot take the tally, when the merge is
held, and the bag's RESULT with its marks; and then, when a till result was made, the till's RESULT and its own offer.  `x` is
the state before these last two.  The CHUTE_LOCKED of a chute that changes comes after the WATCH notices: the model's
choice, log 57. -/
def Obligations.ValuationCompletes : Prop :=
  ∀ (s u w : State) (e : QueueEntry) (rest : List QueueEntry) (v : Valuation) (c : QueuedCount) (b : Bag)
    (res : ValuationResult) (fired : Bool) (outcome : BagState),
    s.sys.powered = true → s.rcu.engine = some v → s.rcu.queue = e :: rest →
    (e = .manual c.ref c.tally ∧ c.late = false ∧ c.lane = none ∨
      ∃ n x, e = .lane n ∧ (s.lane n).batch = some x ∧ c = ⟨x.ref, x.tally, x.lateNotes, some n⟩) →
    s.bag c.ref = some b → u = snoopFor b s →
    res = testAccountability (valuationResult v.counted b.book s.acu.bandFloor s.acu.bandRate) u →
    w = (offer (bagWatchResult c.ref b res) u).1 → fired = (offer (bagWatchResult c.ref b res) u).2.contains .recount →
    outcome = outcomeOf b c.tally res.cls c.late fired →
    ((∀ n k, b.source ≠ .till n k) → u = s) ∧
    ∃ t b', exec .valuationCompletion s = .next t ∧
      t.rcu = ⟨rest, none⟩ ∧ t.acu.reserved = s.acu.reserved - 3 ∧ t.bag c.ref = some b' ∧ b'.tally = some c.tally ∧
      b'.custody = .bench ∧ b'.previous = b.tally.or b.previous ∧ b'.recount = recountAfter b c.tally res.cls ∧
      b' = { recordCount b c.tally res.cls outcome with state := b'.state, book := b'.book } ∧
      (∀ q, q ≠ c.ref → t.bag q = u.bag q) ∧
      (outcome ≠ .confirmed →
        b'.state = outcome ∧ b'.book = b.book ∧ t.acu = { u.acu with reserved := s.acu.reserved - 3 } ∧ t.tau = w.tau ∧
        t.wcu = w.wcu ∧ t.bgr.retired = s.bgr.retired) ∧
      (∀ value x, outcome = .confirmed → res.counted = some value → res.variance = some x →
        b'.book = value ∧ t.acu.accountability = u.acu.accountability + x ∧
        (∃ made : List EntrySpec,
          t.acu.journal = u.acu.journal ++ writtenEntries
            ((if x = 0 then [] else [⟨.variance, some c.ref, b.source.till?, x, x⟩]) ++
              (if mergeFits c.tally u then [⟨.bagToStock, some c.ref, b.source.till?, value, 0⟩] else []) ++ made)
            u.acu.nextSeq u.acu.clock u.acu.accountability ∧
          (∀ n k, b.source = .till n k → (b.purpose = .takings ∨ b.purpose = .skim) → (w.till n).resultDue k = true →
            made = [⟨.tillResult, none, some n, (t.till n).variance.getD 0, 0⟩]) ∧
          ((∀ n k, b.source = .till n k → (b.purpose = .takings ∨ b.purpose = .skim) →
              (w.till n).resultDue k = false) → made = [])) ∧
        (mergeFits c.tally u = true →
          (∀ i ∈ slotNumbers, ∀ f k, s.denom i = .note f k → t.slotStock i =
            { s.slotStock i with
              strapped := (s.slotStock i).strapped + (tallySlot c.tally i).fit / k * k
              loose := (s.slotStock i).loose + (tallySlot c.tally i).fit % k
              unfit := (s.slotStock i).unfit + (tallySlot c.tally i).unfit }) ∧
          (∀ i ∈ slotNumbers, ∀ f, s.denom i = .coin f → t.slotStock i =
            { s.slotStock i with coin := (s.slotStock i).coin + (tallySlot c.tally i).coin }) ∧
          ∀ i ∈ slotNumbers, t.suspect i = s.suspect i + (tallySlot c.tally i).suspect) ∧
        t.acu = (applyMovement (confirmMovement ⟨c.ref, recordCount b c.tally res.cls .confirmed, c.tally, value, x,
          .reserved, .variance⟩ (mergeFits c.tally u) w) w).acu ∧
        (mergeFits c.tally u = true → b'.state = .emptied ∧ t.bgr.retired = s.bgr.retired ++ [c.ref]) ∧
        (mergeFits c.tally u = false → b'.state = .confirmed ∧ t.bgr.retired = s.bgr.retired ∧
          t.acu.stock = s.acu.stock ∧ t.acu.suspects = s.acu.suspects) ∧
        (∀ n k, b.source = .till n k → (b.purpose = .takings ∨ b.purpose = .skim) →
          t.till n = { reportedTillAfter { w.till n with day := (w.till n).day.charge x } k value u with
            hold := (t.till n).hold } ∧
          ((w.till n).hold = true → (t.till n).hold = true) ∧ ∀ m, m ≠ n → t.till m = w.till m) ∧
        (∀ visit, b.source = .courier visit → t.acu.courier = u.acu.courier.charge x ∧ t.tau = w.tau) ∧
        (b.source = .unknown → t.acu.unattributed = u.acu.unattributed.charge x ∧ t.tau = w.tau)) ∧
      ((∀ n k, b.source ≠ .till n k) ∨
          (∀ n ∈ slotNumbers, (w.watchEntry n).state = .off ∨ (w.watchEntry n).state = .fired) →
        t.wcu = w.wcu ∧ (∀ m, (t.till m).hold = (w.till m).hold) ∧ ∀ m, c.lane ≠ some m → t.lane m = w.lane m) ∧
      (∀ n, c.lane = some n → t.lane n =
        if (w.lane n).state = .fault ∨ (w.lane n).state = .faultLocked then
          { w.lane n with batch := (w.lane n).stack.head?.map Suspended.batch, stack := (w.lane n).stack.tail }
        else
          { w.lane n with
            state := if (w.lane n).stack = [] then .idle else .ready
            batch := (w.lane n).stack.head?.map Suspended.batch, stack := (w.lane n).stack.tail
            stacker := 0, reject := 0, holds := HoldSet.empty }) ∧
      (∃ (x : State) (chutes : List Notice), (∀ y ∈ chutes, y.kind = .chuteLocked) ∧
        x.hpt = (notifyAll (chutes ++
          (if outcome = .confirmed ∧ mergeFits c.tally u = false then
            [⟨.stockRange, [fRef (some c.ref), fLane (firstHeld c.tally u)]⟩] else []) ++
          [⟨.result, [fNamed 1, fRef (some c.ref), fLane c.lane, fNamed (flagByte c.lane.isNone), fAmountOpt res.counted,
            fAmountOpt res.variance, fAmountOpt res.band, fNamed (codeIn Classification.list res.cls),
            fNamed (codeIn BagState.list outcome), fNum 1 (recountAfter b c.tally res.cls),
            fSet [decide (res.cls ≠ .range) && c.late, decide (res.cls ≠ .range) && fired,
              identicalRecount b c.tally res.cls, decide (outcome = .confirmed) && !mergeFits c.tally u]]⟩]) w).hpt ∧
        (∀ n k, outcome = .confirmed → b.source = .till n k → (b.purpose = .takings ∨ b.purpose = .skim) →
          (w.till n).resultDue k = true →
          t = (offer (tillWatchResult n (x.till n)) (notify .result [fNamed 2, fTill (some n), fNum 1 (x.till n).session,
            fAmount (x.till n).counted, fAmount (x.till n).expected, fAmountOpt (x.till n).variance,
            fNamed (codeOpt Classification.list (x.till n).classification)] x)).1 ∧
          (x.till n).state = .reconciled ∧ (x.till n).session = k) ∧
        ((outcome = .confirmed → ∀ n k, b.source = .till n k → (b.purpose = .takings ∨ b.purpose = .skim) →
          (w.till n).resultDue k = false) → t = x)) ∧
      t.sys = s.sys ∧ t.cru = s.cru ∧ t.csc.latch = s.csc.latch ∧ t.hoc = s.hoc

/-- MERGE_BAG: the tally into stock and the suspect register, the bag EMPTIED and retired, one BAG_TO_STOCK entry, and
the accountability as it was.

RESOLVE_DISPUTE by two SUPERVISORs with no watch entry armed, `u` being the state after the snoop of R100: the
chosen tally is valued and confirmed, the accountability changes by its variance, and the bag is EMPTIED when stock can
take it and CONFIRMED when it cannot.  That a tally carried with FIRST or LATEST is disregarded unchecked is the model's
choice, log 42.

R44, R50: in a state whose counts are in range and whose strapped counts are whole multiples, stock can take a tally exactly
when no count would pass 999,999. -/
def Obligations.MergeAndResolve : Prop :=
  (∀ (s : State) (tag r cred : Nat) (b : Bag) (y : Tally), takes (.mergeBag tag r cred) s = true →
    s.presentAs .office cred custodianClass = true → 1 ≤ r → r ≤ 1024 → s.bag r = some b → b.state = .confirmed →
    b.tally = some y → checkMovement (mergeMovement r b s) s = none →
    ∃ t f, exec (.mergeBag tag r cred) s = .next (reply tag .mergeBag .ok f t) ∧
      (∀ q, t.bag q = if q = r then some { b with state := .emptied } else s.bag q) ∧
      t.bgr.retired = s.bgr.retired ++ [r] ∧ t.bgr.ranges = s.bgr.ranges ∧
      (∀ i ∈ slotNumbers, ∀ f k, s.denom i = .note f k → t.slotStock i =
        { s.slotStock i with
          strapped := (s.slotStock i).strapped + (tallySlot y i).fit / k * k
          loose := (s.slotStock i).loose + (tallySlot y i).fit % k
          unfit := (s.slotStock i).unfit + (tallySlot y i).unfit }) ∧
      (∀ i ∈ slotNumbers, ∀ f, s.denom i = .coin f → t.slotStock i =
        { s.slotStock i with coin := (s.slotStock i).coin + (tallySlot y i).coin }) ∧
      (∀ i ∈ slotNumbers, t.suspect i = s.suspect i + (tallySlot y i).suspect) ∧
      t.acu.accountability = s.acu.accountability ∧
      t.acu.journal = s.acu.journal ++ [nextEntry s .bagToStock (some r) b.source.till? b.book 0] ∧
      t.acu.reserved = s.acu.reserved ∧ t.acu.denoms = s.acu.denoms ∧ t.tau = s.tau ∧ onlyChutes (takeFrom s) t ∧
      t.sys = s.sys ∧ t.cru = s.cru ∧ t.clc = s.clc ∧ t.rcu = s.rcu ∧ t.wcu = s.wcu ∧ t.hoc = s.hoc) ∧
  (∀ (s u : State) (tag r a c : Nat) (choice : DisputeChoice) (m : Option Tally) (b : Bag) (y : Tally) (value x : Int),
    takes (.resolveDispute tag r (some choice) m a c) s = true → s.presentAs .office a [.supervisor] = true →
    s.presentAs .office c [.supervisor] = true → a ≠ c → 1 ≤ r → r ≤ 1024 → manualTallyOk choice m s = true →
    s.bag r = some b → b.state = .disputed → chosenTally b choice m = some y → s.acu.day = .dayOpen →
    (∀ n ∈ slotNumbers, (s.watchEntry n).state = .off ∨ (s.watchEntry n).state = .fired) → u = snoopFor b (takeFrom s) →
    valueTally y s = some value → subAmount value b.book = some x →
    amountInRange (u.acu.accountability + x) = true → 11 ≤ u.journalFree →
    ((∀ n k, b.source ≠ .till n k) → u = takeFrom s) ∧
    ∃ t f b', exec (.resolveDispute tag r (some choice) m a c) s = .next (reply tag .resolveDispute .ok f t) ∧
      t.bag r = some b' ∧ b'.book = value ∧ b'.tally = some y ∧ b'.source = b.source ∧ b'.custody = b.custody ∧
      (∀ q, q ≠ r → t.bag q = u.bag q) ∧
      (mergeFits y u = true → b'.state = .emptied ∧ t.bgr.retired = s.bgr.retired ++ [r]) ∧
      (mergeFits y u = false → b'.state = .confirmed ∧ t.bgr.retired = s.bgr.retired ∧ t.acu.stock = s.acu.stock ∧
        t.acu.suspects = s.acu.suspects) ∧
      t.acu = (applyMovement (confirmMovement ⟨r, recordChoice b y, y, value, x, .host, .resolve⟩ (mergeFits y u) u) u).acu ∧
      t.acu.accountability = u.acu.accountability + x ∧ t.acu.reserved = s.acu.reserved ∧
      (∀ n k, b.source = .till n k → (b.purpose = .takings ∨ b.purpose = .skim) →
        t.till n = reportedTillAfter { u.till n with day := (u.till n).day.charge x } k value u ∧
        ∀ q, q ≠ n → t.till q = u.till q) ∧
      ((∀ n k, b.source ≠ .till n k) → t.tau = s.tau) ∧ t.csc.latch = s.csc.latch ∧
      t.sys = s.sys ∧ t.cru = s.cru ∧ t.clc = s.clc ∧ t.rcu = s.rcu ∧ t.hoc = s.hoc) ∧
  (∀ (y : Tally) (s : State),
    (∀ i ∈ slotNumbers, (s.slotStock i).strapped ≤ 999999 ∧ (s.slotStock i).loose ≤ 999999 ∧
      (s.slotStock i).unfit ≤ 999999 ∧ (s.slotStock i).coin ≤ 999999 ∧
      ∀ f k, s.denom i = .note f k → (s.slotStock i).strapped % k = 0) →
    (mergeFits y s = true ↔ ∀ i ∈ slotNumbers,
      (∀ f k, s.denom i = .note f k → (s.slotStock i).strapped + (tallySlot y i).fit / k * k ≤ 999999 ∧
        (s.slotStock i).loose + (tallySlot y i).fit % k ≤ 999999 ∧
        (s.slotStock i).unfit + (tallySlot y i).unfit ≤ 999999) ∧
      (∀ f, s.denom i = .coin f → (s.slotStock i).coin + (tallySlot y i).coin ≤ 999999) ∧
      s.suspect i + (tallySlot y i).suspect ≤ 999999))

/-- SET_WATCH, REARM, AUDIT_HOLD and AUDIT_RELEASE: what each writes, and nothing else; while the Audit Hold is set a
SUPERVISOR's SET_WATCH or REARM is refused with AUDIT_HOLD.  That the conditions, flag and action carried by a SET_WATCH that
disables are disregarded, whatever they are, is the model's choice, log 54. -/
def Obligations.WatchRequests : Prop :=
  ∀ (s : State) (tag e cred : Nat),
    (∀ (l m : Option Condition) (same : Bool) (a : Option WatchAction) (en : Bool),
      takes (.setWatch tag e en cred l m same a) s = true → s.presentAs .office cred [.supervisor, .auditor] = true →
      (s.wcu.auditHold = false ∨ s.presentAs .office cred [.auditor] = true) → e ≤ 7 →
      (en = true → a.isSome = true ∧ (same = true → m.isSome = true) ∧
        (∃ c, l = some c ∧ conditionOk c = true) ∧ ∀ c, m = some c → conditionOk c = true) →
      ∃ t f, exec (.setWatch tag e en cred l m same a) s = .next (reply tag .setWatch .ok f t) ∧
        t = { takeFrom s with wcu.entries := t.wcu.entries } ∧
        ∀ n, t.watchEntry n =
          if n = e then
            (if en then ⟨.armed1, l, m, same, a, none, none⟩
             else { s.watchEntry e with state := .off, captured := none, firedBy := none })
          else s.watchEntry n) ∧
    (takes (.rearm tag e cred) s = true → s.presentAs .office cred [.supervisor, .auditor] = true →
      (s.wcu.auditHold = false ∨ s.presentAs .office cred [.auditor] = true) → e ≤ 7 → (s.watchEntry e).state ≠ .off →
      ∃ t f, exec (.rearm tag e cred) s = .next (reply tag .rearm .ok f t) ∧
        t = { takeFrom s with wcu.entries := t.wcu.entries } ∧
        ∀ n, t.watchEntry n =
          if n = e then { s.watchEntry e with state := .armed1, captured := none, firedBy := none } else s.watchEntry n) ∧
    (s.presentAs .office cred [.supervisor] = true → s.wcu.auditHold = true →
      (takes (.rearm tag e cred) s = true →
        exec (.rearm tag e cred) s = .next (reply tag .rearm .auditHold [] (takeFrom s))) ∧
      ∀ en l m same a, takes (.setWatch tag e en cred l m same a) s = true →
        exec (.setWatch tag e en cred l m same a) s = .next (reply tag .setWatch .auditHold [] (takeFrom s))) ∧
    (takes (.auditHold tag cred) s = true → s.presentAs .office cred [.auditor] = true → s.wcu.auditHold = false →
      exec (.auditHold tag cred) s =
        .next (reply tag .auditHold .ok [] { takeFrom s with wcu.auditHold := true })) ∧
    (takes (.auditRelease tag cred) s = true → s.presentAs .office cred [.auditor] = true → s.wcu.auditHold = true →
      exec (.auditRelease tag cred) s =
        .next (reply tag .auditRelease .ok [] { takeFrom s with wcu.auditHold := false }))

/-- R147: a condition matches a result of its kind whose fields equal every one it does not mask, whose classification is in its
set, and whose variance passes its test; a result with no variance passes ANY alone.

R148, R149: each entry is checked once against an offered result, on the state it held before the offer: level 1
fires or arms level 2 with the source captured, and level 2 fires unless a SAME SOURCE entry captured another source.

R150 to R153: each entry that fires, in entry order, sends a WATCH notice with the effect of its action: HOLD_TILL holds
the till that the result names, RECOUNT is handed back for a bag result, and HALT_LANES holds every RUNNING lane with
WATCH and stops it; nothing else changes.  Where the marks of the notice stand is the model's choice,
log 13, and so is the order of the lanes, log 51. -/
def Obligations.OffersMoveEntries : Prop :=
  (∀ r : WatchResult, levelMatches none r = false) ∧
  (∀ (c : Condition) (r : WatchResult), levelMatches (some c) r = true ↔
    c.result = some r.kind ∧ (∀ x, c.sourceKind = some x → r.sourceKind = x) ∧
    (∀ x, c.sourceNumber = some x → r.sourceNumber = some x) ∧ (∀ x, c.declarer = some x → r.declarer = some x) ∧
    (∀ x, c.purpose = some x → r.purpose = some x) ∧ classSetHas c.classes r.cls = true ∧
    testPasses c.test r.variance = true) ∧
  (∀ c : ClassSet, classSetHas c .exact = c.hasExact ∧ classSetHas c .within = c.hasWithin ∧
    classSetHas c .over = c.hasOver ∧ classSetHas c .short = c.hasShort ∧ classSetHas c .range = c.hasRange) ∧
  (∀ (x : VarianceTest) (lo hi v : Int), testPasses .any none = true ∧ testPasses .any (some v) = true ∧
    (x ≠ .any → testPasses x none = false) ∧ (testPasses (.equal (some lo)) (some v) = true ↔ v = lo) ∧
    (testPasses (.inside (some lo) (some hi)) (some v) = true ↔ lo ≤ v ∧ v ≤ hi) ∧
    (testPasses (.outside (some lo) (some hi)) (some v) = true ↔ v < lo ∨ hi < v)) ∧
  ∀ (r : WatchResult) (s : State), ∃ t, (offer r s).1 = t ∧
    (∀ n ∈ slotNumbers,
      ((s.watchEntry n).state = .off ∨ (s.watchEntry n).state = .fired → t.watchEntry n = s.watchEntry n) ∧
      ((s.watchEntry n).state = .armed1 → levelMatches (s.watchEntry n).level1 r = true →
        ((s.watchEntry n).level2 = none → t.watchEntry n =
          { s.watchEntry n with state := .fired, captured := none, firedBy := some ⟨r, 1, s.acu.clock⟩ }) ∧
        ((s.watchEntry n).level2 ≠ none → t.watchEntry n =
          { s.watchEntry n with
            state := .armed2
            captured := if (s.watchEntry n).same then some ⟨r.sourceKind, r.sourceNumber⟩ else none })) ∧
      ((s.watchEntry n).state = .armed2 → levelMatches (s.watchEntry n).level2 r = true →
        ((s.watchEntry n).same = false ∨ (s.watchEntry n).captured = some ⟨r.sourceKind, r.sourceNumber⟩) →
        t.watchEntry n =
          { s.watchEntry n with state := .fired, captured := none, firedBy := some ⟨r, 2, s.acu.clock⟩ }) ∧
      ((s.watchEntry n).state = .armed1 → levelMatches (s.watchEntry n).level1 r = false →
        t.watchEntry n = s.watchEntry n) ∧
      ((s.watchEntry n).state = .armed2 → levelMatches (s.watchEntry n).level2 r = false →
        t.watchEntry n = s.watchEntry n) ∧
      ((s.watchEntry n).state = .armed2 → (s.watchEntry n).same = true →
        (s.watchEntry n).captured ≠ some ⟨r.sourceKind, r.sourceNumber⟩ → t.watchEntry n = s.watchEntry n)) ∧
    (offer r s).2 = (firings r s).map Firing.action ∧ ((firings r s).map Firing.entry).Pairwise (· < ·) ∧
    (∀ f ∈ firings r s, f.entry ∈ slotNumbers ∧ (s.watchEntry f.entry).state ≠ .fired ∧
      (t.watchEntry f.entry).firedBy = some ⟨r, f.level, s.acu.clock⟩ ∧
      f.action = (s.watchEntry f.entry).action.getD .notice) ∧
    (∀ n ∈ slotNumbers, (s.watchEntry n).state ≠ .fired → (t.watchEntry n).state = .fired →
      ∃ f ∈ firings r s, f.entry = n) ∧
    (∀ m, t.till m =
      if (∃ f ∈ firings r s, f.action = .holdTill) ∧ r.sourceKind = .till ∧ r.sourceNumber = some m then
        { s.till m with hold := true }
      else s.till m) ∧
    ((∀ f ∈ firings r s, f.action ≠ .haltLanes) → t.clc = s.clc ∧ t.ubc = s.ubc) ∧
    ((∀ m ∈ laneNumbers, (s.lane m).state = .running → (s.lane m).holds.watch = false) →
      (∃ f ∈ firings r s, f.action = .haltLanes) →
      (∀ m, t.lane m =
        if m ∈ laneNumbers ∧ (s.lane m).state = .running then
          { s.lane m with state := .held, holds := { (s.lane m).holds with watch := true } }
        else s.lane m) ∧
      t.ubc = { s.ubc with
        commands := s.ubc.commands ++ s.ubc.sends (s.runningLanes.map (fun m => (.lane m, .stop))) }) ∧
    (∀ m, m ∈ s.runningLanes ↔ m ∈ laneNumbers ∧ (s.lane m).state = .running) ∧
    (s.hpt.globalEnable = true → s.hpt.classEnables.watch = true → s.hpt.notices.length ≤ 20 → ∀ f ∈ firings r s,
      ∃ effect, (⟨.watch, [fNum 1 f.entry, fNamed (codeIn WatchAction.list f.action), fNum 1 f.level] ++ resultFields r ++
          effect⟩ : Notice) ∈ t.hpt.notices ∧
        (f.action = .notice → effect = []) ∧
        (f.action = .recount → effect = [fNamed (if r.kind = .bag then 1 else 2)]) ∧
        (f.action = .holdTill → effect =
          if r.sourceKind = .till ∧ r.sourceNumber.isSome then [fTill r.sourceNumber, fNamed 0]
          else [fTill none, fNamed 1]) ∧
        (f.action = .haltLanes → (∀ h ∈ firings r s, h.action = .haltLanes → f.entry ≤ h.entry) → effect =
          [.many (s.runningLanes.map (fun m => [.packed 1 m])), fNamed (flagByte s.runningLanes.isEmpty)])) ∧
    onlyNotices s t ∧ t.wcu.auditHold = s.wcu.auditHold ∧ t.sys = s.sys ∧ t.cru = s.cru ∧ t.acu = s.acu ∧ t.bgr = s.bgr ∧
    t.rcu = s.rcu ∧ t.csc = s.csc ∧ t.hoc = s.hoc ∧ t.tau = { s.tau with tills := t.tau.tills }

/-! ## Doors, safes and lockdown -/

/-- REQUEST_DOOR for the strongroom: OFFICE open grants the Day Delay, a visit after hours the Courier Delay, and
Maintenance Open the release at once; no grant leaves the door as it is.

REQUEST_DOOR and CANCEL_DOOR: a drop safe's Drop Delay, or release at its end or in Maintenance Open, with the LOCK of a chute
that had no cause; and a cancelled door SECURE with its timer and names gone, its lock engaged and a chute left with no cause
unlocked.  That the lock's command goes before the chute's is the model's choice, log 49, and so is the count of the seconds
open, which a cancel sets to 0, log 24.  That the reply to a request with a delay of 0 reports the state the door ends in,
CONFIRM or RELEASED, is the model's reading, log 37. -/
def Obligations.DoorRequests : Prop :=
  (∀ (s : State) (tag a b : Nat), takes (.requestDoor tag .strongroom [a, b]) s = true →
    (s.csc.latch = true →
      exec (.requestDoor tag .strongroom [a, b]) s = .next (reply tag .requestDoor .lockdown [] (takeFrom s))) ∧
    (s.csc.latch = false → s.csc.strongroom.state = .secure →
      s.presentAs .strongroom a custodianClass = true → s.presentAs .strongroom b custodianClass = true → a ≠ b →
      (s.csc.maintenance = true →
        ∃ t, exec (.requestDoor tag .strongroom [a, b]) s =
            .next (reply tag .requestDoor .ok (doorFields .strongroom t) t) ∧
          t = { takeFrom s with
            csc.strongroom := { s.csc.strongroom with
              state := .released, named := some (a, b), timer := some s.csc.policy.releaseWindow, lockReleased := true }
            ubc.commands := s.ubc.commands ++ s.ubc.sends [(.door .strongroom, .release)] }) ∧
      (s.csc.maintenance = false →
        ∀ d, (s.acu.mode = .opened ∧ d = s.csc.policy.dayDelay ∨
          s.acu.mode = .afterHours ∧ s.visitDue = true ∧ d = s.csc.policy.courierDelay) →
        ∃ t, exec (.requestDoor tag .strongroom [a, b]) s =
            .next (reply tag .requestDoor .ok (doorFields .strongroom t) t) ∧
          t = { takeFrom s with csc.strongroom :=
            if d = 0 then { s.csc.strongroom with
              state := .confirm, named := some (a, b), timer := some s.csc.policy.confirmWindow }
            else { s.csc.strongroom with state := .delay, named := some (a, b), timer := some d } }) ∧
      (s.csc.maintenance = false → s.acu.mode = .afterHours → s.visitDue = false →
        exec (.requestDoor tag .strongroom [a, b]) s = .next (reply tag .requestDoor .hours [] (takeFrom s))))) ∧
  (∀ (s : State) (tag : Nat),
    (∀ n a : Nat, takes (.requestDoor tag (.drop n) [a]) s = true → 1 ≤ n → n ≤ 6 → s.csc.latch = false →
      (s.safe n).door.state = .secure → s.presentAs .office a custodianClass = true →
      (s.csc.maintenance = true ∨ s.acu.mode = .opened) →
      ∃ t, exec (.requestDoor tag (.drop n) [a]) s = .next (reply tag .requestDoor .ok (doorFields (.drop n) t) t) ∧
        (t.safe n).door = (if s.csc.maintenance = true ∨ s.csc.policy.dropDelay = 0 then
            { (s.safe n).door with
              state := .released, named := none, timer := some s.csc.policy.releaseWindow, lockReleased := true }
          else { (s.safe n).door with state := .delay, named := none, timer := some s.csc.policy.dropDelay }) ∧
        (t.safe n).causes.opened = true ∧ (t.safe n).count = (s.safe n).count ∧ (∀ m, m ≠ n → t.safe m = s.safe m) ∧
        t.csc = { s.csc with safes := t.csc.safes } ∧ t = { takeFrom s with csc := t.csc, hpt := t.hpt, ubc := t.ubc } ∧
        onlyNotices (takeFrom s) t ∧ t.ubc = { s.ubc with commands := t.ubc.commands } ∧
        (chuteRule s = true →
          (t.safe n).causes = (s.safe n).causes.put .opened true ∧ (t.safe n).chuteLocked = true ∧
          t.hpt = (openCauseNotified (.drop n) true (takeFrom s)).hpt ∧
          t.ubc.commands = s.ubc.commands ++ s.ubc.sends (
            (if s.csc.maintenance = true ∨ s.csc.policy.dropDelay = 0 then [(.door (.drop n), .release)] else []) ++
              openCauseCommands (.drop n) true s))) ∧
    (∀ d : DoorName, takes (.cancelDoor tag d) s = true → validDoor d = true →
      ((s.door d).state = .delay ∨ (s.door d).state = .confirm ∨ (s.door d).state = .released) →
      ∃ t, exec (.cancelDoor tag d) s =
          .next (reply tag .cancelDoor .ok [fNamed (doorStateCode d (s.door d).state)] t) ∧
        t.door d = { s.door d with
          state := .secure, named := none, timer := none, lockReleased := false, ajarSent := false, openFor := 0 } ∧
        (∀ e, e ≠ d → t.door e = s.door e) ∧
        t.ubc = { s.ubc with
          commands := s.ubc.commands ++ s.ubc.sends ((if (s.door d).lockReleased then [(.door d, .engage)] else []) ++
            openCauseCommands d false s) } ∧
        t.hpt = (openCauseNotified d false (takeFrom s)).hpt ∧
        (∀ n, d = .drop n → (t.safe n).causes = (s.safe n).causes.put .opened false ∧
          (t.safe n).count = (s.safe n).count) ∧
        t.csc = { s.csc with strongroom := t.csc.strongroom, safes := t.csc.safes } ∧
        t = { takeFrom s with csc := t.csc, hpt := t.hpt, ubc := t.ubc } ∧ onlyNotices (takeFrom s) t))

/-- R161 to R164, R168: the expiries of a door: DELAY to CONFIRM or RELEASED, CONFIRM and RELEASED to SECURE, and OPEN
with DOOR_AJAR sent once; the RELEASE or ENGAGE of the lock, and the LOCK of a drop safe that had no chute cause and the
UNLOCK of one left with none.

The model's choices: that an expiry whose timer does not stand at 0 has no effect, log 4; the seconds that DOOR_AJAR carries
and their six digits, logs 24 and 13; and the lock's command before the chute's, log 49. -/
def Obligations.DoorTimersExpire : Prop :=
  ∀ s : State, s.operating = true →
    (s.csc.strongroom.state = .delay → s.csc.strongroom.timer = some 0 →
      exec .delayExpiry s = .next { s with csc.strongroom :=
        { s.csc.strongroom with state := .confirm, timer := some s.csc.policy.confirmWindow } }) ∧
    (∀ n, 1 ≤ n → n ≤ 6 → (s.safe n).door.state = .delay → (s.safe n).door.timer = some 0 →
      ∃ t, exec (.dropDelayExpiry n) s = .next t ∧
        (t.safe n).door = { (s.safe n).door with
          state := .released, lockReleased := true, timer := some s.csc.policy.releaseWindow } ∧
        (∀ m, m ≠ n → t.safe m = s.safe m) ∧ t.csc = { s.csc with safes := t.csc.safes } ∧
        t.ubc = { s.ubc with
          commands := s.ubc.commands ++
            s.ubc.sends ((.door (.drop n), .release) :: if (s.safe n).causes.any then [] else [(.chute n, .lock)]) } ∧
        t = { s with csc := t.csc, hpt := t.hpt, ubc := t.ubc } ∧ onlyNotices s t) ∧
    (s.csc.strongroom.state = .confirm → s.csc.strongroom.timer = some 0 → s.csc.strongroom.lockReleased = false →
      exec .confirmWindowExpiry s = .next { s with csc.strongroom :=
        { s.csc.strongroom with
          state := .secure, named := none, timer := none, lockReleased := false, ajarSent := false, openFor := 0 } }) ∧
    (∀ d, validDoor d = true → (s.door d).state = .released → (s.door d).timer = some 0 →
      ∃ t, exec (.releaseWindowExpiry d) s = .next t ∧
        t.door d = { s.door d with
          state := .secure, named := none, timer := none, lockReleased := false, ajarSent := false, openFor := 0 } ∧
        (∀ e, e ≠ d → t.door e = s.door e) ∧ t.csc = { s.csc with strongroom := t.csc.strongroom, safes := t.csc.safes } ∧
        (∃ l, t.ubc = { s.ubc with commands :=
            s.ubc.commands ++ s.ubc.sends (if (s.door d).lockReleased then [(.door d, .engage)] else []) ++ l } ∧
          (d = .strongroom → l = []) ∧
          ∀ n, d = .drop n → l = s.ubc.sends
            (if (s.safe n).causes.any ∧ ((s.safe n).causes.put .opened false).any = false then [(.chute n, .unlock)] else [])) ∧
        t = { s with csc := t.csc, hpt := t.hpt, ubc := t.ubc } ∧ onlyNotices s t) ∧
    (∀ d, validDoor d = true → (s.door d).state = .opened → (s.door d).timer = some 0 →
      ∃ t, exec (.openLimitExpiry d) s = .next (notify .doorAjar [fDoor d, fNum 3 (s.door d).openFor] t) ∧
        t.door d = { s.door d with timer := none, ajarSent := true } ∧ (∀ e, e ≠ d → t.door e = s.door e) ∧
        t.csc = { s.csc with strongroom := t.csc.strongroom, safes := t.csc.safes } ∧
        (∃ l, t.ubc = { s.ubc with commands := s.ubc.commands ++ l } ∧ (d = .strongroom → l = []) ∧
          ∀ n, d = .drop n → l = s.ubc.sends (if (s.safe n).causes.any then [] else [(.chute n, .lock)])) ∧
        t = { s with csc := t.csc, hpt := t.hpt, ubc := t.ubc } ∧ onlyNotices s t) ∧
    (s.csc.strongroom.timer ≠ some 0 →
      exec .delayExpiry s = .next s ∧ exec .confirmWindowExpiry s = .next s ∧
      exec (.releaseWindowExpiry .strongroom) s = .next s ∧ exec (.openLimitExpiry .strongroom) s = .next s) ∧
    (∀ n, 1 ≤ n → n ≤ 6 → (s.safe n).door.timer ≠ some 0 →
      exec (.dropDelayExpiry n) s = .next s ∧ exec (.releaseWindowExpiry (.drop n)) s = .next s ∧
      exec (.openLimitExpiry (.drop n)) s = .next s)

/-- R163 to R165, R168: a DOOR record: a released door opens; a locked one is FORCED with ALARM driven, and FORCED names the door
and the state it was in; and an open one that closes is SECURE, with ENGAGE when its lock was released.  A drop safe's chute is
locked or unlocked as its cause OPEN comes and goes, with CHUTE_LOCKED; a record that leaves the door's state sends nothing.
These clauses hold where the causes of each chute are as R169 has them (`chuteRule`, which every step keeps).

R162, R72, R73: in CONFIRM an OK or DURESS presentation of a named credential releases the strongroom; of another it does not.
A DURESS one drives ALARM and sends DURESS in either case; nothing else changes but the presence list and the fail count.

The count of the seconds a door has stood open, 0 at opening and at closing, is the model's own, log 24.  By its choice the
lock's command goes before the chute's, log 49, and CHUTE_LOCKED of a forced door's chute before FORCED, log 31. -/
def Obligations.DoorContactsAndConfirm : Prop :=
  (∀ (s : State) (d : DoorName), s.operating = true → validDoor d = true →
    (∀ b, ∃ t, exec (.door d b) s = .next t ∧ (t.door d).contactOpen = b ∧ (∀ e, e ≠ d → t.door e = s.door e) ∧
      t.csc = { s.csc with strongroom := t.csc.strongroom, safes := t.csc.safes } ∧
      t = { s with csc := t.csc, hpt := t.hpt, ubc := t.ubc } ∧ onlyNotices s t ∧
      (∀ n, d = .drop n → (t.safe n).count = (s.safe n).count ∧
        (chuteRule s = true →
          (t.safe n).causes = (s.safe n).causes.put .opened (decide ((t.safe n).door.state ≠ .secure)) ∧
          (t.safe n).chuteLocked = (t.safe n).causes.any)) ∧
      (b = true → (s.door d).state = .released →
        t.door d = { s.door d with
          state := .opened, timer := some s.csc.policy.openLimit, contactOpen := true, ajarSent := false, openFor := 0 } ∧
        t.ubc.alarm = s.ubc.alarm ∧ t.ubc.alarmTimer = s.ubc.alarmTimer ∧
        (chuteRule s = true → t.ubc = s.ubc ∧ t.hpt = s.hpt)) ∧
      (b = true → ((s.door d).state = .secure ∨ (s.door d).state = .delay ∨ (s.door d).state = .confirm) →
        t.door d = { s.door d with
          state := .opened, named := none, timer := some s.csc.policy.openLimit, contactOpen := true, ajarSent := false
          openFor := 0 } ∧
        t.ubc.alarm = true ∧ t.ubc.alarmTimer = some 180 ∧
        (chuteRule s = true →
          t.ubc = { s.ubc with
            alarm := true, alarmTimer := some 180
            commands := s.ubc.commands ++ s.ubc.sends (openCauseCommands d true s) } ∧
          t.hpt =
            (notify .forced [fDoor d, fNamed (doorStateCode d (s.door d).state)] (openCauseNotified d true s)).hpt)) ∧
      (b = true → (s.door d).state = .opened → t.door d = { s.door d with contactOpen := true } ∧
        (chuteRule s = true → t.ubc = s.ubc ∧ t.hpt = s.hpt)) ∧
      (b = false → (s.door d).state = .opened →
        t.door d = { s.door d with
          state := .secure, named := none, timer := none, lockReleased := false, contactOpen := false, ajarSent := false
          openFor := 0 } ∧
        (chuteRule s = true →
          t.ubc = { s.ubc with
            commands := s.ubc.commands ++ s.ubc.sends ((if (s.door d).lockReleased then [(.door d, .engage)] else []) ++
              openCauseCommands d false s) } ∧
          t.hpt = (openCauseNotified d false s).hpt)) ∧
      (b = false → (s.door d).state ≠ .opened → t.door d = { s.door d with contactOpen := false } ∧
        (chuteRule s = true → t.ubc = s.ubc ∧ t.hpt = s.hpt)))) ∧
  (∀ (s u : State) (n a b : Nat) (c : Credential) (p : PinResult), s.operating = true → n ≤ 999999 →
    s.credential n = some c → c.suspended = false → p ≠ .fail → s.csc.strongroom.state = .confirm →
    s.csc.strongroom.named = some (a, b) → u = presented .strongroom n c p s →
    u.csc = s.csc ∧ u.ubc.commands = s.ubc.commands ∧ (p = .ok → u.ubc = s.ubc ∧ u.hpt = s.hpt) ∧
      (p = .duress → u.ubc.alarm = true ∧ u.ubc.alarmTimer = some 180) ∧
      u.hoc = s.hoc ∧ u.acu = s.acu ∧ u.bgr = s.bgr ∧
      (n = a ∨ n = b → exec (.badge .strongroom n p) s = .next { u with
        csc.strongroom :=
          { s.csc.strongroom with state := .released, lockReleased := true, timer := some s.csc.policy.releaseWindow }
        ubc.commands := s.ubc.commands ++ s.ubc.sends [(.door .strongroom, .release)] }) ∧
      (n ≠ a → n ≠ b → exec (.badge .strongroom n p) s = .next u))

/-- R172 to R174, R177: the door policy clamped, Maintenance Open, Settings Freeze and the PANIC edge selection. -/
def Obligations.CustodySettings : Prop :=
  ∀ (s : State) (tag cred : Nat), s.presentAs .office cred [.supervisor] = true →
    (∀ p : PolicyArgs, takes (.setDoorPolicy tag p cred) s = true → s.csc.freeze = false → carriedTimings p ≠ [] →
      (∀ v ∈ carriedTimings p, v ≤ 65535) →
      ∃ q, exec (.setDoorPolicy tag p cred) s =
          .next (reply tag .setDoorPolicy .ok (policyFields q) { takeFrom s with csc.policy := q }) ∧
        q.dayDelay = (p.dayDelay.map (fun v => min 3600 v)).getD s.csc.policy.dayDelay ∧
        q.courierDelay = (p.courierDelay.map (fun v => min 900 v)).getD s.csc.policy.courierDelay ∧
        q.dropDelay = (p.dropDelay.map (fun v => min 1800 v)).getD s.csc.policy.dropDelay ∧
        q.confirmWindow = (p.confirmWindow.map (fun v => max 30 (min 600 v))).getD s.csc.policy.confirmWindow ∧
        q.releaseWindow = (p.releaseWindow.map (fun v => max 10 (min 300 v))).getD s.csc.policy.releaseWindow ∧
        q.openLimit = (p.openLimit.map (fun v => max 60 (min 3600 v))).getD s.csc.policy.openLimit ∧
        q.lockdownHold = (p.lockdownHold.map (fun v => max 300 (min 7200 v))).getD s.csc.policy.lockdownHold) ∧
    (∀ v : Bool, takes (.setMaintenance tag (some v) cred) s = true → s.csc.freeze = false →
      exec (.setMaintenance tag (some v) cred) s =
        .next (reply tag .setMaintenance .ok [] { takeFrom s with csc.maintenance := v })) ∧
    (∀ v : Bool, takes (.setMaintenance tag (some v) cred) s = true → s.csc.freeze = true →
      exec (.setMaintenance tag (some v) cred) s = .next (reply tag .setMaintenance .frozen [] (takeFrom s))) ∧
    (takes (.freezeSettings tag cred) s = true → s.csc.freeze = false →
      exec (.freezeSettings tag cred) s =
        .next (reply tag .freezeSettings .ok [] { takeFrom s with csc.freeze := true, csc.maintenance := false })) ∧
    (takes (.freezeSettings tag cred) s = true → s.csc.freeze = true →
      exec (.freezeSettings tag cred) s = .next (reply tag .freezeSettings .wrongState [] (takeFrom s))) ∧
    (∀ e : EdgeSelect, takes (.setPanicEdge tag (some e) cred) s = true →
      exec (.setPanicEdge tag (some e) cred) s =
        .next (reply tag .setPanicEdge .ok [fNamed (codeIn EdgeSelect.list e)] { takeFrom s with ubc.panicSel := e }))

/-- R38: the anomaly flags of a dropped bag: UNLISTED with no tag or a tag of no range, WRONG_PURPOSE for a range of another
purpose or VOID, DUPLICATE for a tag in use.

R94, R170: a DROP whose tag no posting and no pending skim names: a SKIM bag in the drop safe with book value 0,
source UNKNOWN and UNDECLARED, in the slot the allocation gives, and the bag count risen by one.  Its tag is checked
after the reclaim of that allocation: the model's reading, log 36.

R94, R170: a DROP whose tag a pending skim of a till names: the bag is declared to that till with the skim's amount as its
book value, the pending skim is gone, its over-limit flag clears whatever its session (the model's reading, log 18), and
one BAG_IN entry raises the accountability; with no room in the journal or an overflow the skim is gone and the bag
undeclared.

R94, step 1: a DROP whose tag a queued SKIM posting names applies that posting first, so that the bag is declared to its
till.

R32: a DROP that finds the table full and nothing retired makes no record, and is counted and reported by OVERFILL.

R171: CLEAR_DROP_SAFE at an OPEN safe: its live bags to the BENCH, its bag count 0 and its FULL cause cleared. -/
def Obligations.DropsAndClearing : Prop :=
  (∀ s : State, dropFlags none s = ⟨true, false, false, false⟩ ∧ ∀ g : Nat,
    (tagCheck g .skim s = .ok → dropFlags (some g) s = ⟨false, false, false, false⟩) ∧
    (tagCheck g .skim s = .unlisted → dropFlags (some g) s = ⟨true, false, false, false⟩) ∧
    (tagCheck g .skim s = .duplicate → dropFlags (some g) s = ⟨false, true, false, false⟩) ∧
    (tagCheck g .skim s = .void ∨ tagCheck g .skim s = .wrongPurpose →
      dropFlags (some g) s = ⟨false, false, true, false⟩)) ∧
  (∀ (s u : State) (n r : Nat) (g : Option Nat), s.operating = true → 1 ≤ n → n ≤ 6 →
    (∀ x, g = some x → 1 ≤ x ∧ x ≤ 99999999) → allocate s = some (r, u) →
    (∀ x, g = some x → (∀ p ∈ s.tau.postings, p.kind = .skim → p.tagNo ≠ some x) ∧
      ∀ m ∈ tillNumbers, ∀ e ∈ (s.till m).pendingSkims, e.tagNo ≠ x) →
    ∃ t, exec (.drop n g) s = .next t ∧
      t.bag r = some ⟨g, .skim, .unknown, none, .drop n, .intact, 0, none, none, none, 0,
        { dropFlags g u with undeclared := true }⟩ ∧
      (∀ q, q ≠ r → t.bag q = u.bag q) ∧ t.bgr = { u.bgr with bags := t.bgr.bags } ∧
      (t.safe n).count = min 9999 ((s.safe n).count + 1) ∧
      ((s.safe n).count = 39 → (t.safe n).causes.full = true) ∧ (t.safe n).door = (s.safe n).door ∧
      (∀ m, m ≠ n → (t.safe m).count = (s.safe m).count ∧ (t.safe m).door = (s.safe m).door) ∧
      t.csc = { s.csc with safes := t.csc.safes } ∧ t.acu = s.acu ∧ t.tau = s.tau ∧ onlyNotices s t ∧
      t.ubc = { s.ubc with commands := t.ubc.commands } ∧
      t.sys = s.sys ∧ t.cru = s.cru ∧ t.clc = s.clc ∧ t.rcu = s.rcu ∧ t.wcu = s.wcu ∧ t.hoc = s.hoc) ∧
  (∀ (s u : State) (n r g k : Nat) (e : PendingSkim), s.operating = true → 1 ≤ n → n ≤ 6 → 1 ≤ g → g ≤ 99999999 →
    allocate s = some (r, u) → (∀ p ∈ s.tau.postings, p.kind = .skim → p.tagNo ≠ some g) →
    findPending g s = some ⟨k, e⟩ → 1 ≤ s.journalFree → amountInRange (s.acu.accountability + e.amount) = true →
    ∃ t, exec (.drop n (some g)) s = .next t ∧
      t.bag r = some ⟨some g, .skim, .till k e.session, none, .drop n, .intact, e.amount, some e.amount, none, none, 0,
        { dropFlags (some g) u with undeclared := false }⟩ ∧
      (∀ q, q ≠ r → t.bag q = u.bag q) ∧ t.bgr = { u.bgr with bags := t.bgr.bags } ∧
      (t.till k).pendingSkims = (s.till k).pendingSkims.erase e ∧ (t.till k).overLimit = false ∧
      (s.tau.skimQueue.length ≤ 16 → leavesSkim k s t) ∧
      (t.till k).outstanding =
        (if (s.till k).session = e.session ∧ (s.till k).state.inSession then (s.till k).outstanding + 1
         else (s.till k).outstanding) ∧
      (∀ m, m ≠ k → t.till m = s.till m) ∧ t.tau.postings = s.tau.postings ∧ t.tau.templates = s.tau.templates ∧
      t.acu = { s.acu with
        accountability := s.acu.accountability + e.amount
        journal := s.acu.journal ++ [nextEntry s .bagIn (some r) (some k) e.amount e.amount]
        nextSeq := seqAfter s.acu.nextSeq } ∧
      (t.safe n).count = min 9999 ((s.safe n).count + 1) ∧ (∀ m, m ≠ n → (t.safe m).count = (s.safe m).count) ∧
      t.csc = { s.csc with safes := t.csc.safes } ∧ onlyNotices s t ∧ t.ubc = { s.ubc with commands := t.ubc.commands } ∧
      t.sys = s.sys ∧ t.cru = s.cru ∧ t.clc = s.clc ∧ t.rcu = s.rcu ∧ t.wcu = s.wcu ∧ t.hoc = s.hoc) ∧
  (∀ (s u : State) (n r g k : Nat) (e : PendingSkim), s.operating = true → 1 ≤ n → n ≤ 6 → 1 ≤ g → g ≤ 99999999 →
    allocate s = some (r, u) → (∀ p ∈ s.tau.postings, p.kind = .skim → p.tagNo ≠ some g) →
    findPending g s = some ⟨k, e⟩ →
    (s.journalFree = 0 ∨ amountInRange (s.acu.accountability + e.amount) = false) →
    ∃ t, exec (.drop n (some g)) s = .next t ∧
      t.bag r = some ⟨some g, .skim, .unknown, none, .drop n, .intact, 0, none, none, none, 0,
        { dropFlags (some g) u with undeclared := true }⟩ ∧
      (∀ q, q ≠ r → t.bag q = u.bag q) ∧ t.bgr = { u.bgr with bags := t.bgr.bags } ∧
      (∀ m, t.till m =
        if m = k then { s.till k with pendingSkims := (s.till k).pendingSkims.erase e } else s.till m) ∧
      t.tau = { s.tau with tills := t.tau.tills } ∧ t.acu = s.acu ∧
      (t.safe n).count = min 9999 ((s.safe n).count + 1) ∧ onlyNotices s t) ∧
  (∀ (s u : State) (n r g : Nat) (p : Posting) (w : Till), s.operating = true → 1 ≤ n → n ≤ 6 → 1 ≤ g →
    g ≤ 99999999 → allocate s = some (r, u) →
    s.tau.postings.find? (fun p => decide (p.kind = .skim) && decide (p.tagNo = some g)) = some p →
    1 ≤ p.till → p.till ≤ 128 → (s.till p.till).state.inSession = true → u.attachable g = none →
    (s.till p.till).pendingSkims.length < 4 → (∀ m ∈ tillNumbers, ∀ e ∈ (s.till m).pendingSkims, e.tagNo ≠ g) →
    1 ≤ s.journalFree → amountInRange (s.acu.accountability + p.amount) = true →
    w = ((s.till p.till).accumulate .skim p.amount).reckon →
    ∃ t, exec (.drop n (some g)) s = .next t ∧ t.tau.postings = s.tau.postings.erase p ∧
      t.bag r = some ⟨some g, .skim, .till p.till (s.till p.till).session, none, .drop n, .intact, p.amount,
        some p.amount, none, none, 0, { dropFlags (some g) u with undeclared := false }⟩ ∧
      (∀ q, q ≠ r → t.bag q = u.bag q) ∧ t.bgr = { u.bgr with bags := t.bgr.bags } ∧
      t.till p.till = { w with outstanding := w.outstanding + 1, overLimit := false } ∧
      (∀ m, m ≠ p.till → t.till m = s.till m) ∧ t.tau.templates = s.tau.templates ∧
      t.acu = { s.acu with
        accountability := s.acu.accountability + p.amount
        journal := s.acu.journal ++ [nextEntry s .bagIn (some r) (some p.till) p.amount p.amount]
        nextSeq := seqAfter s.acu.nextSeq } ∧
      (t.safe n).count = min 9999 ((s.safe n).count + 1) ∧ (∀ m, m ≠ n → (t.safe m).count = (s.safe m).count) ∧
      onlyNotices s t ∧ t.sys = s.sys ∧ t.cru = s.cru ∧ t.clc = s.clc ∧ t.rcu = s.rcu ∧ t.wcu = s.wcu ∧ t.hoc = s.hoc) ∧
  (∀ (s : State) (n : Nat) (g : Option Nat), s.operating = true → 1 ≤ n → n ≤ 6 →
    (∀ x, g = some x → 1 ≤ x ∧ x ≤ 99999999) → allocate s = none →
    ∃ t, exec (.drop n g) s = .next t ∧ t.bgr = s.bgr ∧ t.acu = s.acu ∧ t.tau = s.tau ∧
      (t.safe n).count = min 9999 ((s.safe n).count + 1) ∧ (t.safe n).door = (s.safe n).door ∧
      (∀ m, m ≠ n → t.safe m = s.safe m) ∧ t.csc = { s.csc with safes := t.csc.safes } ∧ onlyNotices s t ∧
      (s.hpt.globalEnable = true → s.hpt.classEnables.custody = true → s.hpt.notices.length < 32 →
        t.hpt.notices[s.hpt.notices.length]? = some ⟨.overfill,
          [fNum 1 n, fNum 2 (min 9999 ((s.safe n).count + 1)), fTag g, fRef none, fNamed 1]⟩) ∧
      t.sys = s.sys ∧ t.cru = s.cru ∧ t.clc = s.clc ∧ t.rcu = s.rcu ∧ t.wcu = s.wcu ∧ t.hoc = s.hoc) ∧
  (∀ (s : State) (tag n cred : Nat), takes (.clearDropSafe tag n cred) s = true →
    s.presentAs .office cred custodianClass = true → 1 ≤ n → n ≤ 6 → (s.safe n).door.state = .opened →
    ∃ t f, exec (.clearDropSafe tag n cred) s = .next (reply tag .clearDropSafe .ok (fNum 2 (s.safe n).count :: f) t) ∧
      (∀ r b, 1 ≤ r → r ≤ 1024 → s.bag r = some b →
        t.bag r = some (if b.state.live = true ∧ b.custody = .drop n then { b with custody := .bench } else b)) ∧
      (∀ r, s.bag r = none → t.bag r = none) ∧ (t.safe n).count = 0 ∧ (t.safe n).causes.full = false ∧
      (t.safe n).door = (s.safe n).door ∧ (∀ m, m ≠ n → t.safe m = s.safe m) ∧
      t.bgr = { s.bgr with bags := t.bgr.bags } ∧ t.csc = { s.csc with safes := t.csc.safes } ∧
      t = { takeFrom s with bgr := t.bgr, csc := t.csc, hpt := t.hpt, ubc := t.ubc } ∧ onlyNotices (takeFrom s) t ∧
      t.ubc = { s.ubc with commands := t.ubc.commands })

/-- R175, R125, R192: LOCKDOWN or a selected PANIC edge sets the latch from clear.  A door in DELAY, CONFIRM or RELEASED drops
to SECURE with its names and timer gone and its lock ENGAGED, ENGAGE sent for a RELEASED one; a door in SECURE or OPEN stays as
it is.  Every chute has LOCKDOWN and is LOCKED, LOCK sent to one that had no cause, and OPEN is left to the doors that stand
open.  ALARM is driven and the Lockdown Hold starts in full; a lane in RUNNING, READY or HELD holds LOCKDOWN, STOP sent to a
RUNNING one, and every other lane stays as it is; a manifest in HANDOVER is ABORTED.  The notices are CHUTE_LOCKED,
LOCKDOWN_SET with the cause and the doors dropped, HOLD and MANIFEST_CLOSED, in that order.  Once set, the latch is renewed:
ALARM, the hold in full and LOCKDOWN_SET with the mark RENEWED, and nothing else.

R176, R202: the hold's expiry clears its mark and keeps the latch; RELEASE_LOCKDOWN by two SUPERVISORs then clears the latch and
the chutes' LOCKDOWN, UNLOCK and CHUTE_LOCKED sent for each chute left with no cause and LOCKDOWN_CLEARED after them, the doors,
the lanes and the manifests staying as they are; with the latch clear it is refused, and while the hold runs.  ALARM is
released once the Alarm Period is over and the latch is clear.

The model's choices: that an edge acts whatever level was held, log 11; that the mark RENEWED of LOCKDOWN_SET stands after the
cause and before the doors, log 13; the count of the seconds that a door has stood open, which SECURE sets to 0, log 24; the
order of the doors in the commands and in LOCKDOWN_SET, log 50; and that of the lanes, log 51. -/
def Obligations.Lockdown : Prop :=
  (∀ s : State, (∀ tag, takes (.lockdown tag) s = true →
      exec (.lockdown tag) s = .next (reply tag .lockdown .ok [fNamed (flagByte s.csc.latch)] (lockdown .request (takeFrom s)))) ∧
    (∀ e, s.operating = true → selects s.ubc.panicSel e = true →
      exec (.panicEdge e) s = .next (lockdown .panic { s with ubc.panicHigh := decide (e = .rising) })) ∧
    (∀ e, s.operating = true → selects s.ubc.panicSel e = false →
      exec (.panicEdge e) s = .next { s with ubc.panicHigh := decide (e = .rising) }) ∧
    ∀ (c : LockdownCause), ∃ t, lockdown c s = t ∧
      (s.csc.latch = false →
        t = { s with csc := t.csc, ubc := t.ubc, hpt := t.hpt, clc := t.clc, hoc := t.hoc } ∧
        t.csc = { s.csc with
          latch := true, holdTimer := s.csc.policy.lockdownHold, holdRunning := true
          strongroom := t.csc.strongroom, safes := t.csc.safes } ∧
        (∀ d ∈ allDoors, ((s.door d).state = .delay ∨ (s.door d).state = .confirm ∨ (s.door d).state = .released) →
          t.door d = { s.door d with
            state := .secure, named := none, timer := none, lockReleased := false, ajarSent := false, openFor := 0 }) ∧
        (∀ d ∈ allDoors, ((s.door d).state = .secure ∨ (s.door d).state = .opened) → t.door d = s.door d) ∧
        (∀ n ∈ safeNumbers, (t.safe n).count = (s.safe n).count ∧
          (t.safe n).causes =
            { (s.safe n).causes with lockdown := true, opened := decide ((s.safe n).door.state = .opened) } ∧
          ((s.safe n).chuteLocked = (s.safe n).causes.any → (t.safe n).chuteLocked = true)) ∧
        (∀ n, n ∉ safeNumbers → t.safe n = s.safe n) ∧
        (∀ n ∈ laneNumbers,
          ((s.lane n).state = .running ∨ (s.lane n).state = .ready ∨ (s.lane n).state = .held) →
          (s.lane n).holds.lockdown = false →
          t.lane n = { s.lane n with state := .held, holds := { (s.lane n).holds with lockdown := true } }) ∧
        (∀ n, (s.lane n).state = .held → (s.lane n).holds.lockdown = true → t.lane n = s.lane n) ∧
        (∀ n, (s.lane n).state ≠ .running → (s.lane n).state ≠ .ready → (s.lane n).state ≠ .held → t.lane n = s.lane n) ∧
        (∀ n, n ∉ laneNumbers → t.lane n = s.lane n) ∧
        (s.inHandover = none → t.hoc = s.hoc) ∧
        (∀ n m, s.inHandover = some (n, m) →
          t.manifest n = some { m with state := .aborted, timer := none, cause := some .lockdown } ∧
          (∀ k, k ≠ n → t.manifest k = s.manifest k) ∧ t.hoc.closedOrder = s.hoc.closedOrder ++ [n]) ∧
        t.ubc = { s.ubc with
          alarm := true, alarmTimer := some 180, commands := s.ubc.commands ++ s.ubc.sends (lockdownCommands s) } ∧
        t.hpt = (notifyAll (lockdownNotices c s) s).hpt) ∧
      (s.csc.latch = true → t = notify .lockdownSet [fNamed c.code, fNamed 1, .many []]
        { s with
          csc.holdTimer := s.csc.policy.lockdownHold, csc.holdRunning := true, ubc.alarm := true
          ubc.alarmTimer := some 180 })) ∧
  (∀ s : State,
    (s.operating = true → s.csc.holdRunning = true → s.csc.holdTimer = 0 →
      exec .lockdownHoldExpiry s = .next { s with csc.holdRunning := false }) ∧
    (s.operating = true → s.ubc.alarmTimer = some 0 →
      exec .alarmPeriodExpiry s =
        .next { s with ubc.alarmTimer := none, ubc.alarm := s.ubc.alarm && s.csc.latch }) ∧
    (∀ tag a b, takes (.releaseLockdown tag a b) s = true → s.presentAs .office a [.supervisor] = true →
      s.presentAs .office b [.supervisor] = true → a ≠ b →
      (s.csc.latch = false →
        exec (.releaseLockdown tag a b) s = .next (reply tag .releaseLockdown .wrongState [] (takeFrom s))) ∧
      (s.csc.latch = true → s.csc.holdRunning = true →
        exec (.releaseLockdown tag a b) s =
          .next (reply tag .releaseLockdown .holdRunning [fNum 2 s.csc.holdTimer] (takeFrom s))) ∧
      (s.csc.latch = true → s.csc.holdRunning = false →
        ∃ t, exec (.releaseLockdown tag a b) s = .next (reply tag .releaseLockdown .ok [] t) ∧
          t.csc.latch = false ∧
          (∀ n ∈ safeNumbers, (t.safe n).causes = { (s.safe n).causes with lockdown := false } ∧
            ((s.safe n).chuteLocked = (s.safe n).causes.any → (t.safe n).chuteLocked = (t.safe n).causes.any) ∧
            (t.safe n).door = (s.safe n).door ∧ (t.safe n).count = (s.safe n).count) ∧
          t.csc = { s.csc with latch := false, safes := t.csc.safes } ∧
          t.ubc = { s.ubc with
            alarm := s.ubc.alarm && s.ubc.alarmTimer.isSome
            commands := s.ubc.commands ++ s.ubc.sends (s.chutesToUnlock.map (fun n => (.chute n, .unlock))) } ∧
          t.hpt = (notifyAll
            (s.chutesToUnlock.map (fun n =>
                ⟨.chuteLocked, [fNum 1 n, fNamed 2, fSet [false, false, false, false, false]]⟩) ++
              [⟨.lockdownCleared, [fNum 3 a, fNum 3 b]⟩]) (takeFrom s)).hpt ∧
          t = { takeFrom s with csc := t.csc, hpt := t.hpt, ubc := t.ubc })))

/-! ## Deposits, manifests and handover -/

/-- MAKE_DEPOSIT: a DEPOSIT bag at the BENCH for the lines' value, the lines out of stock, one STOCK_TO_BAG entry, and
the accountability as it was. -/
def Obligations.MakeDeposit : Prop :=
  ∀ (s u : State) (tag g cred r : Nat) (l : List DepositLine), takes (.makeDeposit tag g l cred) s = true →
    s.presentAs .office cred custodianClass = true → 1 ≤ g → g ≤ 99999999 → l ≠ [] → l.length ≤ 8 →
    (∀ x ∈ l, x.slot ≤ 7 ∧ depositCountsOk x = true) → (l.map DepositLine.slot).Nodup → s.acu.day = .dayOpen →
    (∀ x ∈ l, depositLineSuits s x = true) → tagCheck g .deposit s = .ok → 9 ≤ s.journalFree →
    (∀ x ∈ l, depositLineCovered s x = true) → 8 < s.available → allocate (takeFrom s) = some (r, u) →
    ∃ t, exec (.makeDeposit tag g l cred) s =
        .next (reply tag .makeDeposit .ok [fRef (some r), fAmount (depositValue l s)] t) ∧
      t.bag r = some (newBag g .deposit .office none (depositValue l s) none) ∧
      (∀ q, q ≠ r → t.bag q = u.bag q) ∧ t.bgr = { u.bgr with bags := t.bgr.bags } ∧
      (∀ x ∈ l, t.slotStock x.slot =
        ⟨(s.slotStock x.slot).strapped - x.strapped.getD 0, (s.slotStock x.slot).loose,
         (s.slotStock x.slot).unfit - x.unfit.getD 0, (s.slotStock x.slot).coin - x.coin.getD 0⟩) ∧
      (∀ i, i ∉ l.map DepositLine.slot → t.slotStock i = s.slotStock i) ∧
      t.acu = { s.acu with
        stock := t.acu.stock
        journal := s.acu.journal ++ [nextEntry s .stockToBag (some r) none (depositValue l s) 0]
        nextSeq := seqAfter s.acu.nextSeq } ∧
      onlyChutes (takeFrom s) t ∧ t.sys = s.sys ∧ t.cru = s.cru ∧ t.tau = s.tau ∧ t.clc = s.clc ∧ t.rcu = s.rcu ∧
      t.wcu = s.wcu ∧ t.hoc = s.hoc

/-- CREATE_MANIFEST takes the lowest-numbered free entry, or with none free that of the manifest closed first; CANCEL_MANIFEST
closes a PLANNED one as CANCELLED and one in HANDOVER as ABORTED, with MANIFEST_CLOSED of cause HOST.

R191: MANIFEST_CLOSED carries the entry, the visit, the state and the close cause, the outbound bags scanned and listed, the
inbound entries received and listed, and the bags not scanned, these in the order of the manifest's list: the model's choice,
log 51. -/
def Obligations.ManifestRequests : Prop :=
  (∀ s : State,
    (∀ n ≤ 3, s.manifest n = none → (∀ k < n, s.manifest k ≠ none) → s.manifestSlot = some n) ∧
    ((∀ n ∈ manifestNumbers, s.manifest n ≠ none) → s.manifestSlot = s.hoc.closedOrder.head?)) ∧
  (∀ (s : State) (tag v c cred n : Nat) (a b now : ClockTime) (w : Option Nat) (o : List Nat) (i : List InboundArg),
    takes (.createManifest tag v c a b w o i cred) s = true → s.presentAs .office cred [.supervisor] = true →
    s.acu.clock = some now → manifestFieldsOk v a b now w o i = true →
    (s.credential c).map Credential.cls = some .courier →
    (∀ k ∈ manifestNumbers, ∀ m, s.manifest k = some m → m.isOpen = true → m.visit ≠ v) →
    (∀ r ∈ o, depositReady s r = true) → inboundFailure s i [] = none → s.manifestSlot = some n →
    ∃ t f, exec (.createManifest tag v c a b w o i cred) s = .next (reply tag .createManifest .ok f t) ∧
      t = { takeFrom s with hoc := t.hoc } ∧ t.hoc.closedOrder = s.hoc.closedOrder.filter (fun k => decide (k ≠ n)) ∧
      ∀ k, t.manifest k =
        if k = n then some ⟨v, c, a, b, max 300 (min 3600 (w.getD 900)), outItems o s, inItems i, .planned, none, none, none⟩
        else s.manifest k) ∧
  (∀ (s : State) (tag v cred n : Nat) (m : Manifest) (l : List (Nat × Manifest)),
    takes (.cancelManifest tag v cred) s = true →
    s.presentAs .office cred [.supervisor] = true → 1 ≤ v → v ≤ 9999 →
    s.manifestsWhere (fun x => x.isOpen && decide (x.visit = v)) = (n, m) :: l →
    ∃ t st, st = (if m.state = .handover then .aborted else .cancelled) ∧
      exec (.cancelManifest tag v cred) s = .next (reply tag .cancelManifest .ok [fNamed (codeIn ManifestState.list st)] t) ∧
      t = { takeFrom s with hoc := t.hoc, hpt := t.hpt } ∧
      t.hpt = (notify .manifestClosed (closedFields n { m with state := st, timer := none, cause := some .host })
        (takeFrom s)).hpt ∧
      t.hoc.closedOrder = s.hoc.closedOrder ++ [n] ∧
      ∀ k, t.manifest k = if k = n then some { m with state := st, timer := none, cause := some .host } else s.manifest k) ∧
  (∀ (n : Nat) (m : Manifest), closedFields n m =
    [fNum 1 n, fNum 2 m.visit, fNamed (codeIn ManifestState.list m.state), fNamed (codeOpt CloseCause.list m.cause),
     fNum 1 (m.outbound.filter (fun o => o.scanned)).length, fNum 1 m.outbound.length,
     fNum 1 (m.inbound.filter (fun i => i.received.isSome)).length, fNum 1 m.inbound.length,
     .many ((m.outbound.filter (fun o => !o.scanned)).map (fun o => [.packed 2 o.ref]))])

/-- R185, R186: a presentation at HATCH while no manifest is in HANDOVER makes the start test, in the state `u` in which the
Handover Controller is told (R72).  A CASHIER or an AUDITOR is disregarded, and so is a custodian with no COURIER in the list.
The candidate courier is the presenter, or at a custodian's presentation the newest COURIER in the list; and the test ends at
the first of: no PLANNED manifest of the courier, UNEXPECTED_COURIER with NO_MANIFEST when the presenter is the courier; no
custodian in the list, no effect; no window that covers the time, OUTSIDE_WINDOW; the latch set, LOCKDOWN; an outbound bag of
the chosen manifest not at the BENCH, STAGING_INCOMPLETE with those bags and their custody; and else the handover starts with the
newest custodian in the list.  The chosen manifest has the earliest window start, and of those the lowest entry.  No test but
the last changes a manifest.

R189 to R191: while a manifest is in HANDOVER its courier's presentation ends it as COMPLETE or SHORT, cause ACCEPTED, and
another's changes nothing; and the handover window's expiry ends it as EXPIRED, cause WINDOW; each with MANIFEST_CLOSED.

The model's choices: DURESS is sent before the Handover Controller is told, log 17; the visits of UNEXPECTED_COURIER and the
bags of STAGING_INCOMPLETE stand in the order of the manifest entries and of the manifest's list, log 51; and an expiry acts
when its timer stands at 0, log 4. -/
def Obligations.HandoverStartsAndEnds : Prop :=
  (∀ (s u : State) (n courier : Nat) (c : Credential) (p : PinResult) (planned : List (Nat × Manifest)) (visits : List Field),
    s.operating = true → n ≤ 999999 → s.credential n = some c → c.suspended = false → p ≠ .fail → s.inHandover = none →
    u = presented .hatch n c p s →
    planned = s.manifestsWhere (fun m => decide (m.state = .planned) && decide (m.courier = courier)) →
    visits = [fNamed 1, .many (planned.map (fun x => [.packed 2 x.2.visit]))] →
    ((c.cls = .cashier ∨ c.cls = .auditor) → exec (.badge .hatch n p) s = .next u) ∧
    (isCustodian c.cls = true → u.newestAtHatch (fun e => decide (e.cls = .courier)) = none →
      exec (.badge .hatch n p) s = .next u) ∧
    ((c.cls = .courier ∧ courier = n ∨ isCustodian c.cls = true ∧
        (u.newestAtHatch (fun e => decide (e.cls = .courier))).map Presence.number = some courier) →
      (planned = [] → c.cls = .courier →
        exec (.badge .hatch n p) s = .next (notify .unexpectedCourier [fNum 3 courier, fNamed 1, fNamed 0] u)) ∧
      (planned = [] → c.cls ≠ .courier → exec (.badge .hatch n p) s = .next u) ∧
      (planned ≠ [] → u.newestAtHatch (fun e => isCustodian e.cls) = none → exec (.badge .hatch n p) s = .next u) ∧
      (∀ k, planned ≠ [] → u.newestAtHatch (fun e => isCustodian e.cls) = some k →
        (∀ x ∈ planned, windowCovers x.2.opens x.2.closes s = false) →
        exec (.badge .hatch n p) s = .next (notify .unexpectedCourier ([fNum 3 courier, fNamed 2] ++ visits) u)) ∧
      (∀ i m k, (i, m) ∈ planned → windowCovers m.opens m.closes s = true →
        (∀ x ∈ planned, windowCovers x.2.opens x.2.closes s = true →
          clockKey m.opens < clockKey x.2.opens ∨ clockKey m.opens = clockKey x.2.opens ∧ i ≤ x.1) →
        u.newestAtHatch (fun e => isCustodian e.cls) = some k →
        (s.csc.latch = true →
          exec (.badge .hatch n p) s = .next (notify .unexpectedCourier ([fNum 3 courier, fNamed 3] ++ visits) u)) ∧
        (s.csc.latch = false → (∀ o ∈ m.outbound, (s.bag o.ref).isSome = true) →
          (∃ o ∈ m.outbound, (s.bag o.ref).map Bag.custody ≠ some .bench) →
          exec (.badge .hatch n p) s = .next (notify .stagingIncomplete [fNum 2 m.visit,
            .many ((m.outbound.filter (fun o => decide ((s.bag o.ref).map Bag.custody ≠ some .bench))).map
              (fun o => .packed 2 o.ref :: (((s.bag o.ref).map (fun b => placeAtoms b.custody)).getD [])))] u)) ∧
        (s.csc.latch = false → (∀ o ∈ m.outbound, (s.bag o.ref).map Bag.custody = some .bench) →
          ∃ t, exec (.badge .hatch n p) s = .next t ∧ t = { u with hoc := t.hoc } ∧
            t.hoc.closedOrder = s.hoc.closedOrder ∧
            ∀ j, t.manifest j = if j = i then
              some { m with state := .handover, custodian := some k.number, timer := some m.window } else s.manifest j)))) ∧
  (∀ (s u : State) (n i : Nat) (c : Credential) (p : PinResult) (m : Manifest), s.operating = true → n ≤ 999999 →
    s.credential n = some c → c.suspended = false → p ≠ .fail → s.inHandover = some (i, m) → u = presented .hatch n c p s →
    (m.courier ≠ n → exec (.badge .hatch n p) s = .next u) ∧
    (m.courier = n → ∃ t st,
      st = (if (∀ o ∈ m.outbound, o.scanned = true) ∧ ∀ x ∈ m.inbound, x.received.isSome = true then .complete else .short) ∧
      exec (.badge .hatch n p) s = .next t ∧ t = { u with hoc := t.hoc, hpt := t.hpt } ∧
      t.hpt = (notify .manifestClosed
        (closedFields i { m with state := st, timer := none, cause := some .accepted }) u).hpt ∧
      t.hoc.closedOrder = s.hoc.closedOrder ++ [i] ∧
      ∀ j, t.manifest j =
        if j = i then some { m with state := st, timer := none, cause := some .accepted } else s.manifest j)) ∧
  (∀ (s : State) (n : Nat) (m : Manifest), s.operating = true → s.inHandover = some (n, m) →
    (m.timer = some 0 →
      ∃ t, exec .handoverWindowExpiry s = .next t ∧ t = { s with hoc := t.hoc, hpt := t.hpt } ∧
        t.hpt = (notify .manifestClosed
          (closedFields n { m with state := .expired, timer := none, cause := some .window }) s).hpt ∧
        t.hoc.closedOrder = s.hoc.closedOrder ++ [n] ∧
        ∀ k, t.manifest k =
          if k = n then some { m with state := .expired, timer := none, cause := some .window } else s.manifest k) ∧
    (m.timer ≠ some 0 → exec .handoverWindowExpiry s = .next s))

/-- R187 to R189: outbound and inbound scans of the manifest in HANDOVER, a second scan of a bag, and the refused scans, which
REJECT: with no handover, no tag, a tag on neither list, a bag not staged, the table or the journal full, or an overflow.
The tag of an inbound bag is checked after the reclaim of its allocation: the model's reading, log 36.  Where several
refusals of an inbound scan apply, R188's table gives their order, and an outbound scan that overflows has its AMOUNT_RANGE:
the model's choice, log 40. -/
def Obligations.HatchScans : Prop :=
  ∀ s : State, s.operating = true →
    (∀ g, (∀ x, g = some x → 1 ≤ x ∧ x ≤ 99999999) → s.inHandover = none →
      exec (.hatchScan g) s = .next (notify .lateScan [fTag g, fNumOpt 2 s.lastClosedVisit]
        { s with ubc.commands := s.ubc.commands ++ s.ubc.sends [(.hatch, .reject)] })) ∧
    (∀ (n g : Nat) (m : Manifest) (o : OutItem) (b : Bag), 1 ≤ g → g ≤ 99999999 → s.inHandover = some (n, m) →
      m.outbound.find? (fun x => decide (x.tagNo = some g)) = some o → o.scanned = false → s.bag o.ref = some b →
      b.custody = .bench → 1 ≤ s.journalFree → amountInRange (s.acu.accountability - b.book) = true →
      ∃ t, exec (.hatchScan (some g)) s = .next t ∧
        (∀ q, t.bag q = if q = o.ref then some { b with state := .despatched, custody := .inTransit } else s.bag q) ∧
        t.bgr.retired = s.bgr.retired ++ [o.ref] ∧ t.bgr.ranges = s.bgr.ranges ∧
        t.acu = { s.acu with
          accountability := s.acu.accountability - b.book
          journal := s.acu.journal ++ [nextEntry s .bagOut (some o.ref) none (-b.book) (-b.book)]
          nextSeq := seqAfter s.acu.nextSeq } ∧
        (∀ k, t.manifest k = if k = n then
          some { m with outbound := m.outbound.map (fun x => if x.ref = o.ref then { x with scanned := true } else x) }
          else s.manifest k) ∧ t.hoc.closedOrder = s.hoc.closedOrder ∧
        onlyChutes s t ∧ t.sys = s.sys ∧ t.cru = s.cru ∧ t.tau = s.tau ∧ t.clc = s.clc ∧ t.rcu = s.rcu ∧ t.wcu = s.wcu) ∧
    (∀ (n g r : Nat) (m : Manifest) (i : InItem) (u : State), 1 ≤ g → g ≤ 99999999 → s.inHandover = some (n, m) →
      (∀ x ∈ m.outbound, x.tagNo ≠ some g) → m.inbound.find? (fun x => decide (x.tagNo = g)) = some i →
      i.received = none → 8 < s.available → allocate s = some (r, u) → 1 ≤ s.journalFree →
      amountInRange (s.acu.accountability + i.declared) = true →
      ∃ t, exec (.hatchScan (some g)) s = .next t ∧
        t.bag r = some { newBag g .changeIn (.courier m.visit) none i.declared (some i.declared) with
          flags := ⟨false, u.tagInUse g, false, false⟩ } ∧
        (∀ q, q ≠ r → t.bag q = u.bag q) ∧ t.bgr = { u.bgr with bags := t.bgr.bags } ∧
        t.acu = { s.acu with
          accountability := s.acu.accountability + i.declared
          journal := s.acu.journal ++ [nextEntry s .bagIn (some r) none i.declared i.declared]
          nextSeq := seqAfter s.acu.nextSeq } ∧
        (∀ k, t.manifest k = if k = n then
          some { m with inbound := m.inbound.map (fun x => if x.tagNo = g then { x with received := some r } else x) }
          else s.manifest k) ∧ t.hoc.closedOrder = s.hoc.closedOrder ∧
        onlyChutes s t ∧ t.sys = s.sys ∧ t.cru = s.cru ∧ t.tau = s.tau ∧ t.clc = s.clc ∧ t.rcu = s.rcu ∧ t.wcu = s.wcu) ∧
    (∀ (n g : Nat) (m : Manifest) (o : OutItem), 1 ≤ g → g ≤ 99999999 → s.inHandover = some (n, m) →
      m.outbound.find? (fun x => decide (x.tagNo = some g)) = some o →
      (o.scanned = true → exec (.hatchScan (some g)) s =
        .next (notify .duplicateScan [fNum 4 g, fRef (some o.ref)] s)) ∧
      (o.scanned = false → (∀ b, s.bag o.ref = some b → b.custody ≠ .bench) → exec (.hatchScan (some g)) s =
        .next (notify .scanRefused [fTag (some g), fRef (some o.ref), fNamed 1]
          { s with ubc.commands := s.ubc.commands ++ s.ubc.sends [(.hatch, .reject)] })) ∧
      ∀ b, o.scanned = false → s.bag o.ref = some b → b.custody = .bench →
        (s.journalFree = 0 → exec (.hatchScan (some g)) s =
          .next (notify .scanRefused [fTag (some g), fRef (some o.ref), fNamed 2]
            { s with ubc.commands := s.ubc.commands ++ s.ubc.sends [(.hatch, .reject)] })) ∧
        (1 ≤ s.journalFree → amountInRange (s.acu.accountability - b.book) = false → exec (.hatchScan (some g)) s =
          .next (notify .scanRefused [fTag (some g), fRef (some o.ref), fNamed 4]
            { s with ubc.commands := s.ubc.commands ++ s.ubc.sends [(.hatch, .reject)] }))) ∧
    (∀ (n g : Nat) (m : Manifest) (i : InItem), 1 ≤ g → g ≤ 99999999 → s.inHandover = some (n, m) →
      (∀ x ∈ m.outbound, x.tagNo ≠ some g) → m.inbound.find? (fun x => decide (x.tagNo = g)) = some i →
      (∀ r, i.received = some r → exec (.hatchScan (some g)) s =
        .next (notify .duplicateScan [fNum 4 g, fRef (some r)] s)) ∧
      (i.received = none →
        (s.available ≤ 8 → exec (.hatchScan (some g)) s =
          .next (notify .scanRefused [fTag (some g), fRef none, fNamed 3]
            { s with ubc.commands := s.ubc.commands ++ s.ubc.sends [(.hatch, .reject)] })) ∧
        (8 < s.available → allocate s ≠ none → s.journalFree = 0 → exec (.hatchScan (some g)) s =
          .next (notify .scanRefused [fTag (some g), fRef none, fNamed 2]
            { s with ubc.commands := s.ubc.commands ++ s.ubc.sends [(.hatch, .reject)] })) ∧
        (8 < s.available → allocate s ≠ none → 1 ≤ s.journalFree →
          amountInRange (s.acu.accountability + i.declared) = false → exec (.hatchScan (some g)) s =
          .next (notify .scanRefused [fTag (some g), fRef none, fNamed 4]
            { s with ubc.commands := s.ubc.commands ++ s.ubc.sends [(.hatch, .reject)] })))) ∧
    (∀ n m, s.inHandover = some (n, m) →
      exec (.hatchScan none) s = .next (notify .scanRefused [fTag none, fRef none, fNamed 5]
        { s with ubc.commands := s.ubc.commands ++ s.ubc.sends [(.hatch, .reject)] }) ∧
      ∀ g, 1 ≤ g → g ≤ 99999999 → (∀ x ∈ m.outbound, x.tagNo ≠ some g) → (∀ x ∈ m.inbound, x.tagNo ≠ g) →
        exec (.hatchScan (some g)) s = .next (notify .scanRefused [fTag (some g), fRef none, fNamed 6]
          { s with ubc.commands := s.ubc.commands ++ s.ubc.sends [(.hatch, .reject)] }))

/-! ## The starts, RESET and the supply -/

/-- A COLD start puts every record at its value after a COLD start and sends START and the unit commands.  That it keeps the
PANIC level, the two output logs and the waiting commands is the model's choice, logs 11, 3 and 28; that it sends START at
once, its reading, log 39; and the order of the unit commands, its reading, log 12.

R202, R203: RESET asserted and the loss of supply stop the part's operation.  Under RESET a unit record is discarded and
counted (the model's choice, log 6), as is a record of an unknown address, of a type its position does not send or with a
field out of its set; without the supply every command but a start, the clock's tick, a further loss and the level of
PANIC has no effect (log 7 and log 8); and a start that finds the store invalid is COLD (log 9).

R201: a unit command is sent to the address of its position, of the 21 in the order of the table of 11.4; the log of the
commands sent is the model's own (log 3), and the addresses are an open value (log 10). -/
def Obligations.ColdStartResetAndSupply : Prop :=
  (∀ s : State, ∃ t, exec .coldStart s = .next t ∧ t.sys = State.reset.sys ∧ t.cru = State.reset.cru ∧
    t.acu = State.reset.acu ∧ t.bgr = State.reset.bgr ∧ t.tau = State.reset.tau ∧ t.clc = State.reset.clc ∧
    t.rcu = State.reset.rcu ∧ t.wcu = State.reset.wcu ∧ t.csc = State.reset.csc ∧ t.hoc = State.reset.hoc ∧
    t.hpt = { State.reset.hpt with sent := s.hpt.sent ++ [.notice coldStartNotice] } ∧
    t.ubc = { State.reset.ubc with panicHigh := s.ubc.panicHigh, commands := s.ubc.commands ++ coldCommands } ∧
    t.pending = s.pending) ∧
  (∀ s : State,
    (∀ i, s.sys.powered = false → (∀ e, i ≠ .panicEdge e) → i ≠ .clockTick → i ≠ .coldStart → i ≠ .powerStart →
      (∀ b, i ≠ .lossOfSupply b) → exec i s = .next s) ∧
    (∀ e, s.sys.powered = false → exec (.panicEdge e) s = .next { s with ubc.panicHigh := decide (e = .rising) }) ∧
    (s.sys.powered = false → exec .clockTick s = .next (tickClock s)) ∧
    (s.sys.powered = true → exec .resetAsserted s = .next { s with sys.resetAsserted := true }) ∧
    (∀ b, exec (.lossOfSupply b) s =
      .next { s with sys.powered := false, sys.storeValid := s.sys.storeValid && !b }) ∧
    (∀ b, s.sys.storeValid = false → exec .powerStart s = exec .coldStart s ∧
      (s.sys.powered = true → exec (.lineStart b) s = exec .coldStart s)) ∧
    (∀ a t f, s.sys.powered = true →
      (f = false ∨ s.sys.resetAsserted = true ∨ ∀ p < 21, s.ubc.addrs[p]? = some a → positionSends p t = false) →
      exec (.unitRecordDiscarded a t f) s =
        .next { s with ubc.unitErrors := min 65535 (s.ubc.unitErrors + 1) }) ∧
    (s.sys.powered = true → s.sys.resetAsserted = true →
      ∀ i, (∃ n p, i = .pocket n p) ∨ (∃ n, i = .jam n) ∨ (∃ n x f b, i = .note n x f b) ∨ (∃ r n p, i = .badge r n p) ∨
        (∃ d b, i = .door d b) ∨ (∃ n g, i = .drop n g) ∨ (∃ g, i = .hatchScan g) →
      exec i s = .next { s with ubc.unitErrors := min 65535 (s.ubc.unitErrors + 1) })) ∧
  (∀ (p : UnitPos) (c : UnitCmd) (s : State),
    command p c s = { s with ubc.commands := s.ubc.commands ++ [⟨p, s.ubc.address p, c⟩] }) ∧
  ∀ u : Ubc, (∀ n < 4, u.address (.lane n) = u.addrs[n]?) ∧ u.address (.reader .office) = u.addrs[4]? ∧
    u.address (.reader .strongroom) = u.addrs[5]? ∧ u.address (.reader .hatch) = u.addrs[6]? ∧
    u.address (.door .strongroom) = u.addrs[7]? ∧ (∀ n ∈ safeNumbers, u.address (.door (.drop n)) = u.addrs[7 + n]? ∧
    u.address (.chute n) = u.addrs[13 + n]?) ∧ u.address .hatch = u.addrs[20]?

/-- R77, R128, R145, R178, R179, R193, R203: a POWER, LINE or RESTART start with a valid store keeps the accounts, bags,
tills, settings and latch, empties the presence lists and the queues of work in hand, returns each bag of a batch or of a
MANUAL entry to the BENCH in its state before counting, resolves every door and derives every chute, and sends START and
then MANIFEST_CLOSED of an aborted manifest.  When each start is made and when the store is valid are the model's choice,
log 8 and log 9; that the output logs are kept, log 3; that a reply not sent is dropped, log 22,
but leaves first at RESTART_START, log 2; and its readings that the unit commands go in this order, log 12, and that the
notices of the start are sent at once, log 39. -/
def Obligations.WarmStartKeepsRecords : Prop :=
  ∀ (s : State) (c : StartCause), s.sys.storeValid = true →
    ∀ i, (i = .powerStart ∧ c = .power ∨ i = .lineStart true ∧ c = .line ∧ s.sys.powered = true ∨
      i = .restartStart true ∧ c = .restart ∧ s.operating = true ∧ s.hpt.restartPending = true) →
    ∃ t, exec i s = .next t ∧
      t.sys = ⟨true, false, c, true, true⟩ ∧
      t.cru = { s.cru with office := [], strongroom := [], hatch := [] } ∧
      t.acu = { s.acu with reserved := 0 } ∧ t.tau = s.tau ∧ t.wcu = s.wcu ∧ t.rcu = ⟨[], none⟩ ∧
      t.bgr = { s.bgr with bags := t.bgr.bags } ∧
      (∀ r, t.bag r = if r ∈ s.countingBags then
          (s.bag r).map (fun b => { b with state := if b.tally.isSome then .quarantined else .intact, custody := .bench })
        else s.bag r) ∧
      (∀ r, r ∈ s.countingBags ↔
        (∃ n ∈ laneNumbers, (∃ x, (s.lane n).batch = some x ∧ x.ref = r) ∨ ∃ x ∈ (s.lane n).stack, x.batch.ref = r) ∨
        ∃ y, QueueEntry.manual r y ∈ s.rcu.queue) ∧
      (∀ n ∈ laneNumbers, t.lane n =
        { Lane.initial with state := if s.acu.mode = .opened then .idle else .off }) ∧
      (∀ d ∈ allDoors, (t.door d).state = (if (s.door d).contactOpen then .opened else .secure) ∧
        (t.door d).lockReleased = false ∧ (t.door d).contactOpen = (s.door d).contactOpen ∧
        (t.door d).timer = (if (s.door d).contactOpen then some s.csc.policy.openLimit else none)) ∧
      (∀ n ∈ safeNumbers, (t.safe n).count = (s.safe n).count ∧ (t.safe n).chuteLocked = (t.safe n).causes.any ∧
        (t.safe n).causes.lockdown = s.csc.latch ∧ (t.safe n).causes.full = decide (40 ≤ (s.safe n).count) ∧
        (t.safe n).causes.table = decide (t.available ≤ 8) ∧ (t.safe n).causes.journal = decide (t.journalFree ≤ 8) ∧
        (t.safe n).causes.opened = (s.safe n).door.contactOpen) ∧
      t.csc.policy = s.csc.policy ∧ t.csc.maintenance = s.csc.maintenance ∧ t.csc.latch = s.csc.latch ∧
      t.csc.freeze = (s.csc.freeze && decide (c ≠ .power)) ∧
      (s.csc.latch = true → t.csc.holdRunning = true ∧ t.csc.holdTimer = s.csc.policy.lockdownHold) ∧
      t.ubc.alarm = s.csc.latch ∧ t.ubc.alarmTimer = none ∧ t.ubc.unitErrors = 0 ∧ t.ubc.panicSel = s.ubc.panicSel ∧
      t.hpt.buffer = [] ∧ t.hpt.replies = [] ∧ t.hpt.globalEnable = true ∧ t.hpt.overflow = false ∧
      t.hpt.dropped = 0 ∧ t.hpt.restartPending = false ∧ t.hpt.notices = [] ∧ t.hpt.rx = none ∧
      t.hpt.classEnables = NoticeEnables.all ∧
      t.hpt.sent = s.hpt.sent ++ (if c = .restart then s.hpt.replies.map .reply else []) ++
        [.notice ⟨.start, [fNamed (codeIn StartCause.list c), fNamed 1, fNamed (codeIn DayState.list s.acu.day),
          fNamed (codeIn OfficeMode.list s.acu.mode), fClock s.acu.clock, fFlag s.csc.latch]⟩] ++
        (match s.inHandover with
          | none => []
          | some (n, m) => [.notice ⟨.manifestClosed,
              closedFields n { m with state := .aborted, timer := none, cause := some .start }⟩]) ∧
      t.ubc.addrs = strapAddresses ∧
      t.ubc.commands = s.ubc.commands ++ t.ubc.sends (laneNumbers.map (fun n => (.lane n, .stop)) ++
        allDoors.map (fun d => (.door d, .engage)) ++
        safeNumbers.map (fun n => (.chute n, if (t.safe n).chuteLocked then .lock else .unlock))) ∧
      (s.inHandover = none → t.hoc = s.hoc) ∧
      (∀ n m, s.inHandover = some (n, m) →
        t.manifest n = some { m with state := .aborted, timer := none, cause := some .start } ∧
        (∀ k, k ≠ n → t.manifest k = s.manifest k) ∧ t.hoc.closedOrder = s.hoc.closedOrder ++ [n])
end

