-- ==== Sys2Proof/Laws/Table.lean ====
section
/-!
SUPPORT. Laws of sparse tables: what a key reads as after a write, and that a write keeps the canonical form.
-/

namespace Sys2Proof.Machine

open Sys2Proof

-- One proof at a time: the package is compiled as one text under a memory limit.
set_option Elab.async false

variable {α : Type}

/-! ## What a key reads as -/

@[simp] theorem Table.get_nil (d : α) (i : Nat) : Table.get d [] i = d := rfl

theorem Table.get_erase (d : α) (t : Table α) (i j : Nat) :
    Table.get d (Table.erase t i) j = if j = i then d else Table.get d t j := by
  induction t with
  | nil => simp [Table.erase]
  | cons p t ih =>
    obtain ⟨k, v⟩ := p
    by_cases hk : k = i
    · subst hk
      by_cases hj : j = k
      · subst hj
        simpa [Table.erase] using ih
      · have : ¬ k = j := fun h => hj h.symm
        simp [Table.erase, ih, hj, Table.get, this]
    · by_cases hj : k = j
      · subst hj
        simp [Table.erase, hk, Table.get]
      · simp [Table.erase, hk, Table.get, hj, ih]

theorem Table.key_erase (t : Table α) (i : Nat) : ∀ p ∈ Table.erase t i, p.1 ≠ i := by
  induction t with
  | nil => simp [Table.erase]
  | cons p t ih =>
    obtain ⟨k, v⟩ := p
    by_cases hk : k = i
    · simpa [Table.erase, hk] using ih
    · intro q hq
      simp only [Table.erase, hk, if_false, List.mem_cons] at hq
      rcases hq with rfl | hq
      · exact hk
      · exact ih q hq

theorem Table.get_place (d : α) (t : Table α) (i j : Nat) (v : α) (h : ∀ p ∈ t, p.1 ≠ i) :
    Table.get d (Table.place i v t) j = if j = i then v else Table.get d t j := by
  induction t with
  | nil =>
    by_cases hj : j = i
    · simp [Table.place, Table.get, hj]
    · have : ¬ i = j := fun h => hj h.symm
      simp [Table.place, Table.get, hj, this]
  | cons p t ih =>
    obtain ⟨k, w⟩ := p
    have hki : k ≠ i := h (k, w) (by simp)
    have ih' := ih (fun p hp => h p (by simp [hp]))
    by_cases hlt : i < k
    · by_cases hj : j = i
      · simp [Table.place, hlt, Table.get, hj]
      · have : ¬ i = j := fun h => hj h.symm
        simp [Table.place, hlt, Table.get, hj, this]
    · by_cases hk : k = j
      · subst hk
        simp [Table.place, hlt, Table.get, hki]
      · simp [Table.place, hlt, Table.get, hk, ih']

/-- A write reads back, and every other key reads as before. -/
@[simp] theorem Table.get_set [DecidableEq α] (d : α) (t : Table α) (i j : Nat) (v : α) :
    Table.get d (Table.set d t i v) j = if j = i then v else Table.get d t j := by
  unfold Table.set
  split
  · rename_i hv
    rw [Table.get_erase, hv]
  · rw [Table.get_place d _ i j v (Table.key_erase t i), Table.get_erase]
    by_cases hj : j = i <;> simp [hj]

theorem Table.get_update [DecidableEq α] (d : α) (f : α → α) (ks : List Nat) (hks : ks.Nodup) (t : Table α) (j : Nat) :
    Table.get d (Table.update d f ks t) j = if j ∈ ks then f (Table.get d t j) else Table.get d t j := by
  induction ks generalizing t with
  | nil => simp [Table.update]
  | cons k ks ih =>
    rw [List.nodup_cons] at hks
    have step : Table.update d f (k :: ks) t = Table.update d f ks (Table.set d t k (f (Table.get d t k))) := rfl
    rw [step, ih hks.2, Table.get_set]
    by_cases hjk : j = k
    · subst hjk
      simp [hks.1]
    · simp [hjk]

/-! ## The canonical form -/

theorem Table.wf_iff [DecidableEq α] (d : α) (t : Table α) :
    Table.wf d t = true ↔ (∀ p ∈ t, p.2 ≠ d) ∧ t.Pairwise (fun p q => p.1 < q.1) := by
  induction t with
  | nil => simp [Table.wf]
  | cons p t ih =>
    obtain ⟨k, v⟩ := p
    cases t with
    | nil => simp [Table.wf]
    | cons q t =>
      obtain ⟨k', v'⟩ := q
      simp only [Table.wf, Bool.and_eq_true, decide_eq_true_eq, ih]
      constructor
      · rintro ⟨⟨h1, h2⟩, h3, h4⟩
        refine ⟨?_, ?_⟩
        · intro p hp
          rcases List.mem_cons.mp hp with rfl | hp
          · exact h1
          · exact h3 p hp
        · refine List.pairwise_cons.mpr ⟨?_, h4⟩
          intro r hr
          rcases List.mem_cons.mp hr with rfl | hr
          · exact h2
          · exact lt_trans h2 ((List.pairwise_cons.mp h4).1 r hr)
      · rintro ⟨h1, h2⟩
        have h2' := List.pairwise_cons.mp h2
        exact ⟨⟨h1 (k, v) (by simp), h2'.1 (k', v') (by simp)⟩, fun p hp => h1 p (by simp [hp]), h2'.2⟩

theorem Table.erase_sublist (t : Table α) (i : Nat) : (Table.erase t i).Sublist t := by
  induction t with
  | nil => simp [Table.erase]
  | cons p t ih =>
    obtain ⟨k, v⟩ := p
    by_cases hk : k = i
    · simpa [Table.erase, hk] using ih.cons (k, v)
    · simpa [Table.erase, hk] using ih.cons_cons (k, v)

theorem Table.mem_place (t : Table α) (i : Nat) (v : α) (p : Nat × α) :
    p ∈ Table.place i v t ↔ p = (i, v) ∨ p ∈ t := by
  induction t with
  | nil => simp [Table.place]
  | cons q t ih =>
    obtain ⟨k, w⟩ := q
    by_cases hlt : i < k
    · simp [Table.place, hlt]
    · simp only [Table.place, hlt, if_false, List.mem_cons, ih]
      tauto

theorem Table.place_pairwise (t : Table α) (i : Nat) (v : α) (h : t.Pairwise (fun p q => p.1 < q.1))
    (hi : ∀ p ∈ t, p.1 ≠ i) : (Table.place i v t).Pairwise (fun p q => p.1 < q.1) := by
  induction t with
  | nil => simp [Table.place]
  | cons q t ih =>
    obtain ⟨k, w⟩ := q
    have h' := List.pairwise_cons.mp h
    have hki : k ≠ i := hi (k, w) (by simp)
    by_cases hlt : i < k
    · simp only [Table.place, hlt, if_true]
      refine List.pairwise_cons.mpr ⟨?_, h⟩
      intro r hr
      rcases List.mem_cons.mp hr with rfl | hr
      · exact hlt
      · exact lt_trans hlt (h'.1 r hr)
    · simp only [Table.place, hlt, if_false]
      refine List.pairwise_cons.mpr ⟨?_, ih h'.2 (fun p hp => hi p (by simp [hp]))⟩
      intro r hr
      rcases (Table.mem_place t i v r).mp hr with rfl | hr
      · exact lt_of_le_of_ne (not_lt.mp hlt) hki
      · exact h'.1 r hr

/-- A write keeps the canonical form. -/
theorem Table.wf_set [DecidableEq α] (d : α) (t : Table α) (i : Nat) (v : α) (h : Table.wf d t = true) :
    Table.wf d (Table.set d t i v) = true := by
  rw [Table.wf_iff] at h
  have he : (∀ p ∈ Table.erase t i, p.2 ≠ d) ∧ (Table.erase t i).Pairwise (fun p q => p.1 < q.1) :=
    ⟨fun p hp => h.1 p ((Table.erase_sublist t i).mem hp), h.2.sublist (Table.erase_sublist t i)⟩
  unfold Table.set
  split
  · exact (Table.wf_iff d _).mpr he
  · rename_i hv
    refine (Table.wf_iff d _).mpr ⟨?_, Table.place_pairwise _ i v he.2 (Table.key_erase t i)⟩
    intro p hp
    rcases (Table.mem_place _ i v p).mp hp with rfl | hp
    · exact hv
    · exact he.1 p hp

theorem Table.wf_update [DecidableEq α] (d : α) (f : α → α) (ks : List Nat) (t : Table α) (h : Table.wf d t = true) :
    Table.wf d (Table.update d f ks t) = true := by
  induction ks generalizing t with
  | nil => exact h
  | cons k ks ih => exact ih _ (Table.wf_set d t k _ h)

/-! ## The number of keys listed -/

theorem Table.length_erase_le (t : Table α) (i : Nat) : (Table.erase t i).length ≤ t.length :=
  (Table.erase_sublist t i).length_le

@[simp] theorem Table.length_place (t : Table α) (i : Nat) (v : α) : (Table.place i v t).length = t.length + 1 := by
  induction t with
  | nil => rfl
  | cons q t ih =>
    obtain ⟨k, w⟩ := q
    by_cases hlt : i < k <;> simp [Table.place, hlt, ih]

theorem Table.length_set_le [DecidableEq α] (d : α) (t : Table α) (i : Nat) (v : α) :
    (Table.set d t i v).length ≤ t.length + 1 := by
  have h := Table.length_erase_le t i
  unfold Table.set
  split
  · omega
  · simp; omega

/-- Writing over a listed key lists no more keys. -/
theorem Table.length_set_of_listed [DecidableEq α] (d : α) (t : Table α) (i : Nat) (v : α) (h : Table.get d t i ≠ d) :
    (Table.set d t i v).length ≤ t.length := by
  have key : (Table.erase t i).length + 1 ≤ t.length := by
    induction t with
    | nil => exact absurd rfl h
    | cons p t ih =>
      obtain ⟨k, w⟩ := p
      by_cases hk : k = i
      · have := Table.length_erase_le t i
        simp [Table.erase, hk]; omega
      · have := ih (by simpa [Table.get, hk] using h)
        simp [Table.erase, hk]; omega
  unfold Table.set
  split
  · omega
  · simp; omega

end Sys2Proof.Machine
end

