-- ==== Sys2Proof/Laws/State.lean ====
section
/-!
SUPPORT. What each record update leaves: one lemma for each, every field of the blocks it touches and every block it
does not, true by rfl.
-/

namespace Sys2Proof.Machine

open Sys2Proof

-- One proof at a time: the package is compiled as one text under a memory limit.
set_option Elab.async false

/-! ## Record updates -/

@[simp] theorem formReply_fields (r : Reply) (s : State) :
    (formReply r s).sys = s.sys ∧ (formReply r s).hpt.rx = s.hpt.rx ∧ (formReply r s).hpt.buffer = s.hpt.buffer ∧
    (formReply r s).hpt.replies = s.hpt.replies ++ [r] ∧ (formReply r s).hpt.notices = s.hpt.notices ∧
    (formReply r s).hpt.globalEnable = s.hpt.globalEnable ∧ (formReply r s).hpt.classEnables = s.hpt.classEnables ∧
    (formReply r s).hpt.overflow = s.hpt.overflow ∧ (formReply r s).hpt.dropped = s.hpt.dropped ∧
    (formReply r s).hpt.restartPending = s.hpt.restartPending ∧ (formReply r s).hpt.sent = s.hpt.sent ∧
    (formReply r s).ubc = s.ubc ∧ (formReply r s).cru = s.cru ∧ (formReply r s).acu = s.acu ∧
    (formReply r s).bgr = s.bgr ∧ (formReply r s).tau = s.tau ∧ (formReply r s).clc = s.clc ∧
    (formReply r s).rcu = s.rcu ∧ (formReply r s).wcu = s.wcu ∧ (formReply r s).csc = s.csc ∧
    (formReply r s).hoc = s.hoc ∧ (formReply r s).pending = s.pending :=
  ⟨rfl, rfl, rfl, rfl, rfl, rfl, rfl, rfl, rfl, rfl, rfl, rfl, rfl, rfl, rfl, rfl, rfl, rfl, rfl, rfl, rfl, rfl⟩

@[simp] theorem sendNotice_fields (k : NoticeKind) (l : List Field) (s : State) :
    (sendNotice k l s).sys = s.sys ∧ (sendNotice k l s).hpt.rx = s.hpt.rx ∧ (sendNotice k l s).hpt.buffer = s.hpt.buffer ∧
    (sendNotice k l s).hpt.replies = s.hpt.replies ∧ (sendNotice k l s).hpt.notices = s.hpt.notices ∧
    (sendNotice k l s).hpt.globalEnable = s.hpt.globalEnable ∧ (sendNotice k l s).hpt.classEnables = s.hpt.classEnables ∧
    (sendNotice k l s).hpt.overflow = s.hpt.overflow ∧ (sendNotice k l s).hpt.dropped = s.hpt.dropped ∧
    (sendNotice k l s).hpt.restartPending = s.hpt.restartPending ∧ (sendNotice k l s).hpt.sent = s.hpt.sent ++ [.notice ⟨k, l⟩] ∧
    (sendNotice k l s).ubc = s.ubc ∧ (sendNotice k l s).cru = s.cru ∧ (sendNotice k l s).acu = s.acu ∧
    (sendNotice k l s).bgr = s.bgr ∧ (sendNotice k l s).tau = s.tau ∧ (sendNotice k l s).clc = s.clc ∧
    (sendNotice k l s).rcu = s.rcu ∧ (sendNotice k l s).wcu = s.wcu ∧ (sendNotice k l s).csc = s.csc ∧
    (sendNotice k l s).hoc = s.hoc ∧ (sendNotice k l s).pending = s.pending :=
  ⟨rfl, rfl, rfl, rfl, rfl, rfl, rfl, rfl, rfl, rfl, rfl, rfl, rfl, rfl, rfl, rfl, rfl, rfl, rfl, rfl, rfl, rfl⟩

@[simp] theorem sendReplies_fields (s : State) :
    (sendReplies s).sys = s.sys ∧ (sendReplies s).hpt.rx = s.hpt.rx ∧ (sendReplies s).hpt.buffer = s.hpt.buffer ∧
    (sendReplies s).hpt.replies = [] ∧ (sendReplies s).hpt.notices = s.hpt.notices ∧
    (sendReplies s).hpt.globalEnable = s.hpt.globalEnable ∧ (sendReplies s).hpt.classEnables = s.hpt.classEnables ∧
    (sendReplies s).hpt.overflow = s.hpt.overflow ∧ (sendReplies s).hpt.dropped = s.hpt.dropped ∧
    (sendReplies s).hpt.restartPending = s.hpt.restartPending ∧
    (sendReplies s).hpt.sent = s.hpt.sent ++ s.hpt.replies.map .reply ∧ (sendReplies s).ubc = s.ubc ∧
    (sendReplies s).cru = s.cru ∧ (sendReplies s).acu = s.acu ∧ (sendReplies s).bgr = s.bgr ∧
    (sendReplies s).tau = s.tau ∧ (sendReplies s).clc = s.clc ∧ (sendReplies s).rcu = s.rcu ∧
    (sendReplies s).wcu = s.wcu ∧ (sendReplies s).csc = s.csc ∧ (sendReplies s).hoc = s.hoc ∧
    (sendReplies s).pending = s.pending :=
  ⟨rfl, rfl, rfl, rfl, rfl, rfl, rfl, rfl, rfl, rfl, rfl, rfl, rfl, rfl, rfl, rfl, rfl, rfl, rfl, rfl, rfl, rfl⟩

@[simp] theorem takeFrom_fields (s : State) :
    (takeFrom s).sys = s.sys ∧ (takeFrom s).hpt.rx = s.hpt.rx ∧ (takeFrom s).hpt.buffer = s.hpt.buffer.tail ∧
    (takeFrom s).hpt.replies = [] ∧ (takeFrom s).hpt.notices = s.hpt.notices ∧
    (takeFrom s).hpt.globalEnable = s.hpt.globalEnable ∧ (takeFrom s).hpt.classEnables = s.hpt.classEnables ∧
    (takeFrom s).hpt.overflow = s.hpt.overflow ∧ (takeFrom s).hpt.dropped = s.hpt.dropped ∧
    (takeFrom s).hpt.restartPending = s.hpt.restartPending ∧
    (takeFrom s).hpt.sent = s.hpt.sent ++ s.hpt.replies.map .reply ∧ (takeFrom s).ubc = s.ubc ∧
    (takeFrom s).cru = s.cru ∧ (takeFrom s).acu = s.acu ∧ (takeFrom s).bgr = s.bgr ∧ (takeFrom s).tau = s.tau ∧
    (takeFrom s).clc = s.clc ∧ (takeFrom s).rcu = s.rcu ∧ (takeFrom s).wcu = s.wcu ∧ (takeFrom s).csc = s.csc ∧
    (takeFrom s).hoc = s.hoc ∧ (takeFrom s).pending = s.pending :=
  ⟨rfl, rfl, rfl, rfl, rfl, rfl, rfl, rfl, rfl, rfl, rfl, rfl, rfl, rfl, rfl, rfl, rfl, rfl, rfl, rfl, rfl, rfl⟩

@[simp] theorem putRx_fields (r : Option RxFrame) (s : State) :
    (putRx r s).sys = s.sys ∧ (putRx r s).hpt.rx = r ∧ (putRx r s).hpt.buffer = s.hpt.buffer ∧
    (putRx r s).hpt.replies = s.hpt.replies ∧ (putRx r s).hpt.notices = s.hpt.notices ∧
    (putRx r s).hpt.globalEnable = s.hpt.globalEnable ∧ (putRx r s).hpt.classEnables = s.hpt.classEnables ∧
    (putRx r s).hpt.overflow = s.hpt.overflow ∧ (putRx r s).hpt.dropped = s.hpt.dropped ∧
    (putRx r s).hpt.restartPending = s.hpt.restartPending ∧ (putRx r s).hpt.sent = s.hpt.sent ∧
    (putRx r s).ubc = s.ubc ∧ (putRx r s).cru = s.cru ∧ (putRx r s).acu = s.acu ∧ (putRx r s).bgr = s.bgr ∧
    (putRx r s).tau = s.tau ∧ (putRx r s).clc = s.clc ∧ (putRx r s).rcu = s.rcu ∧ (putRx r s).wcu = s.wcu ∧
    (putRx r s).csc = s.csc ∧ (putRx r s).hoc = s.hoc ∧ (putRx r s).pending = s.pending :=
  ⟨rfl, rfl, rfl, rfl, rfl, rfl, rfl, rfl, rfl, rfl, rfl, rfl, rfl, rfl, rfl, rfl, rfl, rfl, rfl, rfl, rfl, rfl⟩

/-! ## Unit commands as they are sent (R201) -/

@[simp] theorem sends_nil (u : Ubc) : u.sends [] = [] := rfl

@[simp] theorem sends_cons (u : Ubc) (x : UnitPos × UnitCmd) (l : List (UnitPos × UnitCmd)) :
    u.sends (x :: l) = u.send x :: u.sends l := rfl

@[simp] theorem sends_append (u : Ubc) (l m : List (UnitPos × UnitCmd)) : u.sends (l ++ m) = u.sends l ++ u.sends m :=
  List.map_append

/-- A command's address depends on the addresses alone. -/
theorem sends_of_addrs {u v : Ubc} (h : u.addrs = v.addrs) (l : List (UnitPos × UnitCmd)) : u.sends l = v.sends l := by
  simp [Ubc.sends, Ubc.send, Ubc.address, h]

/-- R203: the commands of a COLD start go to the addresses that the straps give. -/
theorem coldCommands_eq : coldCommands = State.reset.ubc.sends
    (laneNumbers.map (fun n => (.lane n, .stop)) ++ allDoors.map (fun d => (.door d, .engage)) ++
      safeNumbers.map (fun n => (.chute n, .unlock))) := rfl

@[simp] theorem command_fields (p : UnitPos) (c : UnitCmd) (s : State) :
    (command p c s).sys = s.sys ∧ (command p c s).hpt = s.hpt ∧ (command p c s).ubc.addrs = s.ubc.addrs ∧
    (command p c s).ubc.panicSel = s.ubc.panicSel ∧ (command p c s).ubc.panicHigh = s.ubc.panicHigh ∧
    (command p c s).ubc.alarm = s.ubc.alarm ∧ (command p c s).ubc.alarmTimer = s.ubc.alarmTimer ∧
    (command p c s).ubc.unitErrors = s.ubc.unitErrors ∧ (command p c s).ubc.commands = s.ubc.commands ++ [s.ubc.send (p, c)] ∧
    (command p c s).cru = s.cru ∧ (command p c s).acu = s.acu ∧ (command p c s).bgr = s.bgr ∧
    (command p c s).tau = s.tau ∧ (command p c s).clc = s.clc ∧ (command p c s).rcu = s.rcu ∧
    (command p c s).wcu = s.wcu ∧ (command p c s).csc = s.csc ∧ (command p c s).hoc = s.hoc ∧
    (command p c s).pending = s.pending :=
  ⟨rfl, rfl, rfl, rfl, rfl, rfl, rfl, rfl, rfl, rfl, rfl, rfl, rfl, rfl, rfl, rfl, rfl, rfl, rfl⟩

@[simp] theorem driveAlarm_fields (s : State) :
    (driveAlarm s).sys = s.sys ∧ (driveAlarm s).hpt = s.hpt ∧ (driveAlarm s).ubc.addrs = s.ubc.addrs ∧
    (driveAlarm s).ubc.panicSel = s.ubc.panicSel ∧ (driveAlarm s).ubc.panicHigh = s.ubc.panicHigh ∧
    (driveAlarm s).ubc.alarm = true ∧ (driveAlarm s).ubc.alarmTimer = some alarmPeriod ∧
    (driveAlarm s).ubc.unitErrors = s.ubc.unitErrors ∧ (driveAlarm s).ubc.commands = s.ubc.commands ∧
    (driveAlarm s).cru = s.cru ∧ (driveAlarm s).acu = s.acu ∧ (driveAlarm s).bgr = s.bgr ∧
    (driveAlarm s).tau = s.tau ∧ (driveAlarm s).clc = s.clc ∧ (driveAlarm s).rcu = s.rcu ∧
    (driveAlarm s).wcu = s.wcu ∧ (driveAlarm s).csc = s.csc ∧ (driveAlarm s).hoc = s.hoc ∧
    (driveAlarm s).pending = s.pending :=
  ⟨rfl, rfl, rfl, rfl, rfl, rfl, rfl, rfl, rfl, rfl, rfl, rfl, rfl, rfl, rfl, rfl, rfl, rfl, rfl⟩

@[simp] theorem discardRecord_fields (s : State) :
    (discardRecord s).sys = s.sys ∧ (discardRecord s).hpt = s.hpt ∧ (discardRecord s).ubc.addrs = s.ubc.addrs ∧
    (discardRecord s).ubc.panicSel = s.ubc.panicSel ∧ (discardRecord s).ubc.panicHigh = s.ubc.panicHigh ∧
    (discardRecord s).ubc.alarm = s.ubc.alarm ∧ (discardRecord s).ubc.alarmTimer = s.ubc.alarmTimer ∧
    (discardRecord s).ubc.unitErrors = min 65535 (s.ubc.unitErrors + 1) ∧
    (discardRecord s).ubc.commands = s.ubc.commands ∧ (discardRecord s).cru = s.cru ∧ (discardRecord s).acu = s.acu ∧
    (discardRecord s).bgr = s.bgr ∧ (discardRecord s).tau = s.tau ∧ (discardRecord s).clc = s.clc ∧
    (discardRecord s).rcu = s.rcu ∧ (discardRecord s).wcu = s.wcu ∧ (discardRecord s).csc = s.csc ∧
    (discardRecord s).hoc = s.hoc ∧ (discardRecord s).pending = s.pending :=
  ⟨rfl, rfl, rfl, rfl, rfl, rfl, rfl, rfl, rfl, rfl, rfl, rfl, rfl, rfl, rfl, rfl, rfl, rfl, rfl⟩

@[simp] theorem putCredential_fields (n : Nat) (c : Option Credential) (s : State) :
    (putCredential n c s).sys = s.sys ∧ (putCredential n c s).hpt = s.hpt ∧ (putCredential n c s).ubc = s.ubc ∧
    (putCredential n c s).cru.creds = Table.set none s.cru.creds n c ∧
    (putCredential n c s).cru.office = s.cru.office ∧ (putCredential n c s).cru.strongroom = s.cru.strongroom ∧
    (putCredential n c s).cru.hatch = s.cru.hatch ∧ (putCredential n c s).cru.lifetime = s.cru.lifetime ∧
    (putCredential n c s).acu = s.acu ∧ (putCredential n c s).bgr = s.bgr ∧ (putCredential n c s).tau = s.tau ∧
    (putCredential n c s).clc = s.clc ∧ (putCredential n c s).rcu = s.rcu ∧ (putCredential n c s).wcu = s.wcu ∧
    (putCredential n c s).csc = s.csc ∧ (putCredential n c s).hoc = s.hoc ∧
    (putCredential n c s).pending = s.pending :=
  ⟨rfl, rfl, rfl, rfl, rfl, rfl, rfl, rfl, rfl, rfl, rfl, rfl, rfl, rfl, rfl, rfl, rfl⟩

@[simp] theorem emptyPresence_fields (s : State) :
    (emptyPresence s).sys = s.sys ∧ (emptyPresence s).hpt = s.hpt ∧ (emptyPresence s).ubc = s.ubc ∧
    (emptyPresence s).cru.creds = s.cru.creds ∧ (emptyPresence s).cru.office = [] ∧
    (emptyPresence s).cru.strongroom = [] ∧ (emptyPresence s).cru.hatch = [] ∧
    (emptyPresence s).cru.lifetime = s.cru.lifetime ∧ (emptyPresence s).acu = s.acu ∧ (emptyPresence s).bgr = s.bgr ∧
    (emptyPresence s).tau = s.tau ∧ (emptyPresence s).clc = s.clc ∧ (emptyPresence s).rcu = s.rcu ∧
    (emptyPresence s).wcu = s.wcu ∧ (emptyPresence s).csc = s.csc ∧ (emptyPresence s).hoc = s.hoc ∧
    (emptyPresence s).pending = s.pending :=
  ⟨rfl, rfl, rfl, rfl, rfl, rfl, rfl, rfl, rfl, rfl, rfl, rfl, rfl, rfl, rfl, rfl, rfl⟩

@[simp] theorem leaveReaders_fields (n : Nat) (s : State) :
    (leaveReaders n s).sys = s.sys ∧ (leaveReaders n s).hpt = s.hpt ∧ (leaveReaders n s).ubc = s.ubc ∧
    (leaveReaders n s).cru.creds = s.cru.creds ∧
    (leaveReaders n s).cru.office = s.cru.office.filter (fun e => decide (e.number ≠ n)) ∧
    (leaveReaders n s).cru.strongroom = s.cru.strongroom.filter (fun e => decide (e.number ≠ n)) ∧
    (leaveReaders n s).cru.hatch = s.cru.hatch.filter (fun e => decide (e.number ≠ n)) ∧
    (leaveReaders n s).cru.lifetime = s.cru.lifetime ∧ (leaveReaders n s).acu = s.acu ∧
    (leaveReaders n s).bgr = s.bgr ∧ (leaveReaders n s).tau = s.tau ∧ (leaveReaders n s).clc = s.clc ∧
    (leaveReaders n s).rcu = s.rcu ∧ (leaveReaders n s).wcu = s.wcu ∧ (leaveReaders n s).csc = s.csc ∧
    (leaveReaders n s).hoc = s.hoc ∧ (leaveReaders n s).pending = s.pending :=
  ⟨rfl, rfl, rfl, rfl, rfl, rfl, rfl, rfl, rfl, rfl, rfl, rfl, rfl, rfl, rfl, rfl, rfl⟩

@[simp] theorem tickClock_fields (s : State) :
    (tickClock s).sys = s.sys ∧ (tickClock s).hpt = s.hpt ∧ (tickClock s).ubc = s.ubc ∧ (tickClock s).cru = s.cru ∧
    (tickClock s).acu.denoms = s.acu.denoms ∧ (tickClock s).acu.stock = s.acu.stock ∧
    (tickClock s).acu.accountability = s.acu.accountability ∧ (tickClock s).acu.courier = s.acu.courier ∧
    (tickClock s).acu.unattributed = s.acu.unattributed ∧ (tickClock s).acu.suspects = s.acu.suspects ∧
    (tickClock s).acu.journal = s.acu.journal ∧ (tickClock s).acu.nextSeq = s.acu.nextSeq ∧
    (tickClock s).acu.reserved = s.acu.reserved ∧ (tickClock s).acu.clock = s.acu.clock.map nextSecond ∧
    (tickClock s).acu.day = s.acu.day ∧ (tickClock s).acu.businessDate = s.acu.businessDate ∧
    (tickClock s).acu.mode = s.acu.mode ∧ (tickClock s).acu.bandFloor = s.acu.bandFloor ∧
    (tickClock s).acu.bandRate = s.acu.bandRate ∧ (tickClock s).bgr = s.bgr ∧ (tickClock s).tau = s.tau ∧
    (tickClock s).clc = s.clc ∧ (tickClock s).rcu = s.rcu ∧ (tickClock s).wcu = s.wcu ∧ (tickClock s).csc = s.csc ∧
    (tickClock s).hoc = s.hoc ∧ (tickClock s).pending = s.pending :=
  ⟨rfl, rfl, rfl, rfl, rfl, rfl, rfl, rfl, rfl, rfl, rfl, rfl, rfl, rfl, rfl, rfl, rfl, rfl, rfl, rfl,
    rfl, rfl, rfl, rfl, rfl, rfl, rfl⟩

@[simp] theorem putBag_fields (r : Nat) (b : Bag) (s : State) :
    (putBag r b s).sys = s.sys ∧ (putBag r b s).hpt = s.hpt ∧ (putBag r b s).ubc = s.ubc ∧
    (putBag r b s).cru = s.cru ∧ (putBag r b s).acu = s.acu ∧
    (putBag r b s).bgr.bags = Table.set none s.bgr.bags r (some b) ∧ (putBag r b s).bgr.retired = s.bgr.retired ∧
    (putBag r b s).bgr.ranges = s.bgr.ranges ∧ (putBag r b s).tau = s.tau ∧ (putBag r b s).clc = s.clc ∧
    (putBag r b s).rcu = s.rcu ∧ (putBag r b s).wcu = s.wcu ∧ (putBag r b s).csc = s.csc ∧
    (putBag r b s).hoc = s.hoc ∧ (putBag r b s).pending = s.pending :=
  ⟨rfl, rfl, rfl, rfl, rfl, rfl, rfl, rfl, rfl, rfl, rfl, rfl, rfl, rfl, rfl⟩

@[simp] theorem putRange_fields (i : Nat) (e : TagRange) (s : State) :
    (putRange i e s).sys = s.sys ∧ (putRange i e s).hpt = s.hpt ∧ (putRange i e s).ubc = s.ubc ∧
    (putRange i e s).cru = s.cru ∧ (putRange i e s).acu = s.acu ∧ (putRange i e s).bgr.bags = s.bgr.bags ∧
    (putRange i e s).bgr.retired = s.bgr.retired ∧
    (putRange i e s).bgr.ranges = Table.set TagRange.initial s.bgr.ranges i e ∧ (putRange i e s).tau = s.tau ∧
    (putRange i e s).clc = s.clc ∧ (putRange i e s).rcu = s.rcu ∧ (putRange i e s).wcu = s.wcu ∧
    (putRange i e s).csc = s.csc ∧ (putRange i e s).hoc = s.hoc ∧ (putRange i e s).pending = s.pending :=
  ⟨rfl, rfl, rfl, rfl, rfl, rfl, rfl, rfl, rfl, rfl, rfl, rfl, rfl, rfl, rfl⟩

@[simp] theorem putTill_fields (n : Nat) (t : Till) (s : State) :
    (putTill n t s).sys = s.sys ∧ (putTill n t s).hpt = s.hpt ∧ (putTill n t s).ubc = s.ubc ∧
    (putTill n t s).cru = s.cru ∧ (putTill n t s).acu = s.acu ∧ (putTill n t s).bgr = s.bgr ∧
    (putTill n t s).tau.tills = Table.set Till.initial s.tau.tills n t ∧
    (putTill n t s).tau.templates = s.tau.templates ∧ (putTill n t s).tau.postings = s.tau.postings ∧
    (putTill n t s).tau.skimQueue = s.tau.skimQueue ∧ (putTill n t s).clc = s.clc ∧ (putTill n t s).rcu = s.rcu ∧
    (putTill n t s).wcu = s.wcu ∧ (putTill n t s).csc = s.csc ∧ (putTill n t s).hoc = s.hoc ∧
    (putTill n t s).pending = s.pending :=
  ⟨rfl, rfl, rfl, rfl, rfl, rfl, rfl, rfl, rfl, rfl, rfl, rfl, rfl, rfl, rfl, rfl⟩

@[simp] theorem putLane_fields (n : Nat) (l : Lane) (s : State) :
    (putLane n l s).sys = s.sys ∧ (putLane n l s).hpt = s.hpt ∧ (putLane n l s).ubc = s.ubc ∧
    (putLane n l s).cru = s.cru ∧ (putLane n l s).acu = s.acu ∧ (putLane n l s).bgr = s.bgr ∧
    (putLane n l s).tau = s.tau ∧ (putLane n l s).clc.lanes = Table.set Lane.initial s.clc.lanes n l ∧
    (putLane n l s).rcu = s.rcu ∧ (putLane n l s).wcu = s.wcu ∧ (putLane n l s).csc = s.csc ∧
    (putLane n l s).hoc = s.hoc ∧ (putLane n l s).pending = s.pending :=
  ⟨rfl, rfl, rfl, rfl, rfl, rfl, rfl, rfl, rfl, rfl, rfl, rfl, rfl⟩

@[simp] theorem lanesOn_fields (s : State) :
    (lanesOn s).sys = s.sys ∧ (lanesOn s).hpt = s.hpt ∧ (lanesOn s).ubc = s.ubc ∧ (lanesOn s).cru = s.cru ∧
    (lanesOn s).acu = s.acu ∧ (lanesOn s).bgr = s.bgr ∧ (lanesOn s).tau = s.tau ∧
    (lanesOn s).clc.lanes = Table.update Lane.initial switchOn laneNumbers s.clc.lanes ∧ (lanesOn s).rcu = s.rcu ∧
    (lanesOn s).wcu = s.wcu ∧ (lanesOn s).csc = s.csc ∧ (lanesOn s).hoc = s.hoc ∧ (lanesOn s).pending = s.pending := by
  unfold lanesOn
  simp

@[simp] theorem lanesOff_fields (s : State) :
    (lanesOff s).sys = s.sys ∧ (lanesOff s).hpt = s.hpt ∧ (lanesOff s).ubc = s.ubc ∧ (lanesOff s).cru = s.cru ∧
    (lanesOff s).acu = s.acu ∧ (lanesOff s).bgr = s.bgr ∧ (lanesOff s).tau = s.tau ∧
    (lanesOff s).clc.lanes = Table.update Lane.initial switchOff laneNumbers s.clc.lanes ∧ (lanesOff s).rcu = s.rcu ∧
    (lanesOff s).wcu = s.wcu ∧ (lanesOff s).csc = s.csc ∧ (lanesOff s).hoc = s.hoc ∧
    (lanesOff s).pending = s.pending := by
  unfold lanesOff
  simp

@[simp] theorem putWatch_fields (n : Nat) (e : WatchEntry) (s : State) :
    (putWatch n e s).sys = s.sys ∧ (putWatch n e s).hpt = s.hpt ∧ (putWatch n e s).ubc = s.ubc ∧
    (putWatch n e s).cru = s.cru ∧ (putWatch n e s).acu = s.acu ∧ (putWatch n e s).bgr = s.bgr ∧
    (putWatch n e s).tau = s.tau ∧ (putWatch n e s).clc = s.clc ∧ (putWatch n e s).rcu = s.rcu ∧
    (putWatch n e s).wcu.entries = Table.set WatchEntry.initial s.wcu.entries n e ∧
    (putWatch n e s).wcu.auditHold = s.wcu.auditHold ∧ (putWatch n e s).csc = s.csc ∧ (putWatch n e s).hoc = s.hoc ∧
    (putWatch n e s).pending = s.pending :=
  ⟨rfl, rfl, rfl, rfl, rfl, rfl, rfl, rfl, rfl, rfl, rfl, rfl, rfl, rfl⟩

@[simp] theorem moveEntries_fields (r : WatchResult) (s : State) :
    (moveEntries r s).sys = s.sys ∧ (moveEntries r s).hpt = s.hpt ∧ (moveEntries r s).ubc = s.ubc ∧
    (moveEntries r s).cru = s.cru ∧ (moveEntries r s).acu = s.acu ∧ (moveEntries r s).bgr = s.bgr ∧
    (moveEntries r s).tau = s.tau ∧ (moveEntries r s).clc = s.clc ∧ (moveEntries r s).rcu = s.rcu ∧
    (moveEntries r s).wcu.entries = Table.update WatchEntry.initial (movedEntry r s.acu.clock) slotNumbers s.wcu.entries ∧
    (moveEntries r s).wcu.auditHold = s.wcu.auditHold ∧ (moveEntries r s).csc = s.csc ∧
    (moveEntries r s).hoc = s.hoc ∧ (moveEntries r s).pending = s.pending := by
  unfold moveEntries
  simp

@[simp] theorem putSafe_fields (n : Nat) (d : DropSafe) (s : State) :
    (putSafe n d s).sys = s.sys ∧ (putSafe n d s).hpt = s.hpt ∧ (putSafe n d s).ubc = s.ubc ∧
    (putSafe n d s).cru = s.cru ∧ (putSafe n d s).acu = s.acu ∧ (putSafe n d s).bgr = s.bgr ∧
    (putSafe n d s).tau = s.tau ∧ (putSafe n d s).clc = s.clc ∧ (putSafe n d s).rcu = s.rcu ∧
    (putSafe n d s).wcu = s.wcu ∧ (putSafe n d s).csc.strongroom = s.csc.strongroom ∧
    (putSafe n d s).csc.safes = Table.set DropSafe.initial s.csc.safes n d ∧
    (putSafe n d s).csc.policy = s.csc.policy ∧ (putSafe n d s).csc.maintenance = s.csc.maintenance ∧
    (putSafe n d s).csc.freeze = s.csc.freeze ∧ (putSafe n d s).csc.latch = s.csc.latch ∧
    (putSafe n d s).csc.holdTimer = s.csc.holdTimer ∧ (putSafe n d s).csc.holdRunning = s.csc.holdRunning ∧
    (putSafe n d s).hoc = s.hoc ∧ (putSafe n d s).pending = s.pending :=
  ⟨rfl, rfl, rfl, rfl, rfl, rfl, rfl, rfl, rfl, rfl, rfl, rfl, rfl, rfl, rfl, rfl, rfl, rfl, rfl, rfl⟩

@[simp] theorem startHold_fields (s : State) :
    (startHold s).sys = s.sys ∧ (startHold s).hpt = s.hpt ∧ (startHold s).ubc = s.ubc ∧ (startHold s).cru = s.cru ∧
    (startHold s).acu = s.acu ∧ (startHold s).bgr = s.bgr ∧ (startHold s).tau = s.tau ∧ (startHold s).clc = s.clc ∧
    (startHold s).rcu = s.rcu ∧ (startHold s).wcu = s.wcu ∧ (startHold s).csc.strongroom = s.csc.strongroom ∧
    (startHold s).csc.safes = s.csc.safes ∧ (startHold s).csc.policy = s.csc.policy ∧
    (startHold s).csc.maintenance = s.csc.maintenance ∧ (startHold s).csc.freeze = s.csc.freeze ∧
    (startHold s).csc.latch = s.csc.latch ∧ (startHold s).csc.holdTimer = s.csc.policy.lockdownHold ∧
    (startHold s).csc.holdRunning = true ∧ (startHold s).hoc = s.hoc ∧ (startHold s).pending = s.pending :=
  ⟨rfl, rfl, rfl, rfl, rfl, rfl, rfl, rfl, rfl, rfl, rfl, rfl, rfl, rfl, rfl, rfl, rfl, rfl, rfl, rfl⟩

@[simp] theorem putManifest_fields (n : Nat) (m : Manifest) (s : State) :
    (putManifest n m s).sys = s.sys ∧ (putManifest n m s).hpt = s.hpt ∧ (putManifest n m s).ubc = s.ubc ∧
    (putManifest n m s).cru = s.cru ∧ (putManifest n m s).acu = s.acu ∧ (putManifest n m s).bgr = s.bgr ∧
    (putManifest n m s).tau = s.tau ∧ (putManifest n m s).clc = s.clc ∧ (putManifest n m s).rcu = s.rcu ∧
    (putManifest n m s).wcu = s.wcu ∧ (putManifest n m s).csc = s.csc ∧
    (putManifest n m s).hoc.manifests = Table.set none s.hoc.manifests n (some m) ∧
    (putManifest n m s).hoc.closedOrder = s.hoc.closedOrder ∧ (putManifest n m s).pending = s.pending :=
  ⟨rfl, rfl, rfl, rfl, rfl, rfl, rfl, rfl, rfl, rfl, rfl, rfl, rfl, rfl⟩

@[simp] theorem closeRecord_fields (n : Nat) (m : Manifest) (st : ManifestState) (c : CloseCause) (s : State) :
    (closeRecord n m st c s).sys = s.sys ∧ (closeRecord n m st c s).hpt = s.hpt ∧
    (closeRecord n m st c s).ubc = s.ubc ∧ (closeRecord n m st c s).cru = s.cru ∧
    (closeRecord n m st c s).acu = s.acu ∧ (closeRecord n m st c s).bgr = s.bgr ∧
    (closeRecord n m st c s).tau = s.tau ∧ (closeRecord n m st c s).clc = s.clc ∧
    (closeRecord n m st c s).rcu = s.rcu ∧ (closeRecord n m st c s).wcu = s.wcu ∧
    (closeRecord n m st c s).csc = s.csc ∧
    (closeRecord n m st c s).hoc.manifests = Table.set none s.hoc.manifests n (some (m.close st c)) ∧
    (closeRecord n m st c s).hoc.closedOrder = s.hoc.closedOrder ++ [n] ∧
    (closeRecord n m st c s).pending = s.pending :=
  ⟨rfl, rfl, rfl, rfl, rfl, rfl, rfl, rfl, rfl, rfl, rfl, rfl, rfl, rfl⟩

@[simp] theorem resetHostPort_fields (s : State) :
    (resetHostPort s).sys = s.sys ∧ (resetHostPort s).hpt.rx = none ∧ (resetHostPort s).hpt.buffer = [] ∧
    (resetHostPort s).hpt.replies = [] ∧ (resetHostPort s).hpt.notices = [] ∧
    (resetHostPort s).hpt.globalEnable = true ∧ (resetHostPort s).hpt.classEnables = NoticeEnables.all ∧
    (resetHostPort s).hpt.overflow = false ∧ (resetHostPort s).hpt.dropped = 0 ∧
    (resetHostPort s).hpt.restartPending = false ∧ (resetHostPort s).hpt.sent = s.hpt.sent ∧
    (resetHostPort s).ubc = s.ubc ∧ (resetHostPort s).cru = s.cru ∧ (resetHostPort s).acu = s.acu ∧
    (resetHostPort s).bgr = s.bgr ∧ (resetHostPort s).tau = s.tau ∧ (resetHostPort s).clc = s.clc ∧
    (resetHostPort s).rcu = s.rcu ∧ (resetHostPort s).wcu = s.wcu ∧ (resetHostPort s).csc = s.csc ∧
    (resetHostPort s).hoc = s.hoc ∧ (resetHostPort s).pending = s.pending :=
  ⟨rfl, rfl, rfl, rfl, rfl, rfl, rfl, rfl, rfl, rfl, rfl, rfl, rfl, rfl, rfl, rfl, rfl, rfl, rfl, rfl, rfl, rfl⟩

@[simp] theorem resetUnitBus_fields (s : State) :
    (resetUnitBus s).sys = s.sys ∧ (resetUnitBus s).hpt = s.hpt ∧ (resetUnitBus s).ubc.addrs = strapAddresses ∧
    (resetUnitBus s).ubc.panicSel = s.ubc.panicSel ∧ (resetUnitBus s).ubc.panicHigh = s.ubc.panicHigh ∧
    (resetUnitBus s).ubc.alarm = s.csc.latch ∧ (resetUnitBus s).ubc.alarmTimer = none ∧
    (resetUnitBus s).ubc.unitErrors = 0 ∧ (resetUnitBus s).ubc.commands = s.ubc.commands ∧
    (resetUnitBus s).cru = s.cru ∧ (resetUnitBus s).acu = s.acu ∧ (resetUnitBus s).bgr = s.bgr ∧
    (resetUnitBus s).tau = s.tau ∧ (resetUnitBus s).clc = s.clc ∧ (resetUnitBus s).rcu = s.rcu ∧
    (resetUnitBus s).wcu = s.wcu ∧ (resetUnitBus s).csc = s.csc ∧ (resetUnitBus s).hoc = s.hoc ∧
    (resetUnitBus s).pending = s.pending :=
  ⟨rfl, rfl, rfl, rfl, rfl, rfl, rfl, rfl, rfl, rfl, rfl, rfl, rfl, rfl, rfl, rfl, rfl, rfl, rfl⟩

@[simp] theorem putPresence_keeps (r : Reader) (l : List Presence) (s : State) :
    (putPresence r l s).sys = s.sys ∧ (putPresence r l s).hpt = s.hpt ∧ (putPresence r l s).ubc = s.ubc ∧
    (putPresence r l s).acu = s.acu ∧ (putPresence r l s).bgr = s.bgr ∧ (putPresence r l s).tau = s.tau ∧
    (putPresence r l s).clc = s.clc ∧ (putPresence r l s).rcu = s.rcu ∧ (putPresence r l s).wcu = s.wcu ∧
    (putPresence r l s).csc = s.csc ∧ (putPresence r l s).hoc = s.hoc ∧ (putPresence r l s).pending = s.pending ∧
    (putPresence r l s).cru.creds = s.cru.creds ∧ (putPresence r l s).cru.lifetime = s.cru.lifetime := by
  cases r <;> exact ⟨rfl, rfl, rfl, rfl, rfl, rfl, rfl, rfl, rfl, rfl, rfl, rfl, rfl, rfl⟩

@[simp] theorem putPresence_presence (r r' : Reader) (l : List Presence) (s : State) :
    (putPresence r l s).presence r' = if r' = r then l else s.presence r' := by
  cases r <;> cases r' <;> rfl

/-! ## The records of the tables after a write -/

@[simp] theorem putBag_bag (r r' : Nat) (b : Bag) (s : State) :
    (putBag r b s).bag r' = if r' = r then some b else s.bag r' := by simp [State.bag]

@[simp] theorem putTill_till (n m : Nat) (t : Till) (s : State) :
    (putTill n t s).till m = if m = n then t else s.till m := by simp [State.till]

@[simp] theorem putLane_lane (n m : Nat) (l : Lane) (s : State) :
    (putLane n l s).lane m = if m = n then l else s.lane m := by simp [State.lane]

@[simp] theorem putWatch_watchEntry (n m : Nat) (e : WatchEntry) (s : State) :
    (putWatch n e s).watchEntry m = if m = n then e else s.watchEntry m := by simp [State.watchEntry]

@[simp] theorem putSafe_safe (n m : Nat) (d : DropSafe) (s : State) :
    (putSafe n d s).safe m = if m = n then d else s.safe m := by simp [State.safe]

@[simp] theorem putManifest_manifest (n k : Nat) (m : Manifest) (s : State) :
    (putManifest n m s).manifest k = if k = n then some m else s.manifest k := by simp [State.manifest]

@[simp] theorem putCredential_credential (n k : Nat) (c : Option Credential) (s : State) :
    (putCredential n c s).credential k = if k = n then c else s.credential k := by simp [State.credential]

@[simp] theorem putRange_tagRange (i j : Nat) (e : TagRange) (s : State) :
    (putRange i e s).tagRange j = if j = i then e else s.tagRange j := by simp [State.tagRange]

/-! ## Folds -/

/-- What each round of a fold keeps, the fold keeps. -/
theorem foldl_keeps {β γ : Type} (g : State → γ) (f : State → β → State) (h : ∀ s b, g (f s b) = g s) (l : List β)
    (s : State) : g (l.foldl f s) = g s := by
  induction l generalizing s with
  | nil => rfl
  | cons b l ih => rw [List.foldl_cons, ih, h]

/-- A rule that each round of a fold keeps, the fold keeps. -/
theorem foldl_rule {β : Type} (p : State → Prop) (f : State → β → State) (h : ∀ s b, p s → p (f s b)) (l : List β)
    (s : State) (hs : p s) : p (l.foldl f s) := by
  induction l generalizing s with
  | nil => exact hs
  | cons b l ih => exact ih _ (h s b hs)

end Sys2Proof.Machine
end

