-- ==== Sys2Proof/Laws/Ops.lean ====
section
/-!
SUPPORT. What the shared operations leave alone: one lemma for each, naming every block it does not touch.
-/

namespace Sys2Proof.Machine

open Sys2Proof

-- One proof at a time: the package is compiled as one text under a memory limit.
set_option Elab.async false

@[simp] theorem notify_keeps (k : NoticeKind) (l : List Field) (s : State) :
    (notify k l s).sys = s.sys ∧ (notify k l s).hpt.rx = s.hpt.rx ∧ (notify k l s).hpt.buffer = s.hpt.buffer ∧
    (notify k l s).hpt.replies = s.hpt.replies ∧ (notify k l s).hpt.globalEnable = s.hpt.globalEnable ∧
    (notify k l s).hpt.classEnables = s.hpt.classEnables ∧ (notify k l s).hpt.restartPending = s.hpt.restartPending ∧
    (notify k l s).hpt.sent = s.hpt.sent ∧ (notify k l s).ubc = s.ubc ∧ (notify k l s).cru = s.cru ∧
    (notify k l s).acu = s.acu ∧ (notify k l s).bgr = s.bgr ∧ (notify k l s).tau = s.tau ∧
    (notify k l s).clc = s.clc ∧ (notify k l s).rcu = s.rcu ∧ (notify k l s).wcu = s.wcu ∧
    (notify k l s).csc = s.csc ∧ (notify k l s).hoc = s.hoc ∧ (notify k l s).pending = s.pending := by
  unfold notify
  (try dsimp only); (repeat' split) <;> simp

@[simp] theorem setChuteCause_keeps (n : Nat) (c : ChuteCause) (on : Bool) (s : State) :
    (setChuteCause n c on s).sys = s.sys ∧ (setChuteCause n c on s).hpt.rx = s.hpt.rx ∧
    (setChuteCause n c on s).hpt.buffer = s.hpt.buffer ∧ (setChuteCause n c on s).hpt.replies = s.hpt.replies ∧
    (setChuteCause n c on s).hpt.globalEnable = s.hpt.globalEnable ∧
    (setChuteCause n c on s).hpt.classEnables = s.hpt.classEnables ∧
    (setChuteCause n c on s).hpt.restartPending = s.hpt.restartPending ∧
    (setChuteCause n c on s).hpt.sent = s.hpt.sent ∧ (setChuteCause n c on s).ubc.addrs = s.ubc.addrs ∧
    (setChuteCause n c on s).ubc.panicSel = s.ubc.panicSel ∧
    (setChuteCause n c on s).ubc.panicHigh = s.ubc.panicHigh ∧ (setChuteCause n c on s).ubc.alarm = s.ubc.alarm ∧
    (setChuteCause n c on s).ubc.alarmTimer = s.ubc.alarmTimer ∧
    (setChuteCause n c on s).ubc.unitErrors = s.ubc.unitErrors ∧ (setChuteCause n c on s).cru = s.cru ∧
    (setChuteCause n c on s).acu = s.acu ∧ (setChuteCause n c on s).bgr = s.bgr ∧
    (setChuteCause n c on s).tau = s.tau ∧ (setChuteCause n c on s).clc = s.clc ∧
    (setChuteCause n c on s).rcu = s.rcu ∧ (setChuteCause n c on s).wcu = s.wcu ∧
    (setChuteCause n c on s).csc.strongroom = s.csc.strongroom ∧ (setChuteCause n c on s).csc.policy = s.csc.policy ∧
    (setChuteCause n c on s).csc.maintenance = s.csc.maintenance ∧
    (setChuteCause n c on s).csc.freeze = s.csc.freeze ∧ (setChuteCause n c on s).csc.latch = s.csc.latch ∧
    (setChuteCause n c on s).csc.holdTimer = s.csc.holdTimer ∧
    (setChuteCause n c on s).csc.holdRunning = s.csc.holdRunning ∧ (setChuteCause n c on s).hoc = s.hoc ∧
    (setChuteCause n c on s).pending = s.pending := by
  unfold setChuteCause
  (try dsimp only); (repeat' split) <;> simp

@[simp] theorem setChuteCauseAll_keeps (c : ChuteCause) (on : Bool) (s : State) :
    (setChuteCauseAll c on s).sys = s.sys ∧ (setChuteCauseAll c on s).hpt.rx = s.hpt.rx ∧
    (setChuteCauseAll c on s).hpt.buffer = s.hpt.buffer ∧ (setChuteCauseAll c on s).hpt.replies = s.hpt.replies ∧
    (setChuteCauseAll c on s).hpt.globalEnable = s.hpt.globalEnable ∧
    (setChuteCauseAll c on s).hpt.classEnables = s.hpt.classEnables ∧
    (setChuteCauseAll c on s).hpt.restartPending = s.hpt.restartPending ∧
    (setChuteCauseAll c on s).hpt.sent = s.hpt.sent ∧ (setChuteCauseAll c on s).ubc.addrs = s.ubc.addrs ∧
    (setChuteCauseAll c on s).ubc.panicSel = s.ubc.panicSel ∧
    (setChuteCauseAll c on s).ubc.panicHigh = s.ubc.panicHigh ∧ (setChuteCauseAll c on s).ubc.alarm = s.ubc.alarm ∧
    (setChuteCauseAll c on s).ubc.alarmTimer = s.ubc.alarmTimer ∧
    (setChuteCauseAll c on s).ubc.unitErrors = s.ubc.unitErrors ∧ (setChuteCauseAll c on s).cru = s.cru ∧
    (setChuteCauseAll c on s).acu = s.acu ∧ (setChuteCauseAll c on s).bgr = s.bgr ∧
    (setChuteCauseAll c on s).tau = s.tau ∧ (setChuteCauseAll c on s).clc = s.clc ∧
    (setChuteCauseAll c on s).rcu = s.rcu ∧ (setChuteCauseAll c on s).wcu = s.wcu ∧
    (setChuteCauseAll c on s).csc.strongroom = s.csc.strongroom ∧
    (setChuteCauseAll c on s).csc.policy = s.csc.policy ∧
    (setChuteCauseAll c on s).csc.maintenance = s.csc.maintenance ∧
    (setChuteCauseAll c on s).csc.freeze = s.csc.freeze ∧ (setChuteCauseAll c on s).csc.latch = s.csc.latch ∧
    (setChuteCauseAll c on s).csc.holdTimer = s.csc.holdTimer ∧
    (setChuteCauseAll c on s).csc.holdRunning = s.csc.holdRunning ∧ (setChuteCauseAll c on s).hoc = s.hoc ∧
    (setChuteCauseAll c on s).pending = s.pending := by
  unfold setChuteCauseAll
  exact ⟨(foldl_keeps (fun s : State => s.sys) _ (by intros; simp) _ _).trans (by simp),
    (foldl_keeps (fun s : State => s.hpt.rx) _ (by intros; simp) _ _).trans (by simp),
    (foldl_keeps (fun s : State => s.hpt.buffer) _ (by intros; simp) _ _).trans (by simp),
    (foldl_keeps (fun s : State => s.hpt.replies) _ (by intros; simp) _ _).trans (by simp),
    (foldl_keeps (fun s : State => s.hpt.globalEnable) _ (by intros; simp) _ _).trans (by simp),
    (foldl_keeps (fun s : State => s.hpt.classEnables) _ (by intros; simp) _ _).trans (by simp),
    (foldl_keeps (fun s : State => s.hpt.restartPending) _ (by intros; simp) _ _).trans (by simp),
    (foldl_keeps (fun s : State => s.hpt.sent) _ (by intros; simp) _ _).trans (by simp),
    (foldl_keeps (fun s : State => s.ubc.addrs) _ (by intros; simp) _ _).trans (by simp),
    (foldl_keeps (fun s : State => s.ubc.panicSel) _ (by intros; simp) _ _).trans (by simp),
    (foldl_keeps (fun s : State => s.ubc.panicHigh) _ (by intros; simp) _ _).trans (by simp),
    (foldl_keeps (fun s : State => s.ubc.alarm) _ (by intros; simp) _ _).trans (by simp),
    (foldl_keeps (fun s : State => s.ubc.alarmTimer) _ (by intros; simp) _ _).trans (by simp),
    (foldl_keeps (fun s : State => s.ubc.unitErrors) _ (by intros; simp) _ _).trans (by simp),
    (foldl_keeps (fun s : State => s.cru) _ (by intros; simp) _ _).trans (by simp),
    (foldl_keeps (fun s : State => s.acu) _ (by intros; simp) _ _).trans (by simp),
    (foldl_keeps (fun s : State => s.bgr) _ (by intros; simp) _ _).trans (by simp),
    (foldl_keeps (fun s : State => s.tau) _ (by intros; simp) _ _).trans (by simp),
    (foldl_keeps (fun s : State => s.clc) _ (by intros; simp) _ _).trans (by simp),
    (foldl_keeps (fun s : State => s.rcu) _ (by intros; simp) _ _).trans (by simp),
    (foldl_keeps (fun s : State => s.wcu) _ (by intros; simp) _ _).trans (by simp),
    (foldl_keeps (fun s : State => s.csc.strongroom) _ (by intros; simp) _ _).trans (by simp),
    (foldl_keeps (fun s : State => s.csc.policy) _ (by intros; simp) _ _).trans (by simp),
    (foldl_keeps (fun s : State => s.csc.maintenance) _ (by intros; simp) _ _).trans (by simp),
    (foldl_keeps (fun s : State => s.csc.freeze) _ (by intros; simp) _ _).trans (by simp),
    (foldl_keeps (fun s : State => s.csc.latch) _ (by intros; simp) _ _).trans (by simp),
    (foldl_keeps (fun s : State => s.csc.holdTimer) _ (by intros; simp) _ _).trans (by simp),
    (foldl_keeps (fun s : State => s.csc.holdRunning) _ (by intros; simp) _ _).trans (by simp),
    (foldl_keeps (fun s : State => s.hoc) _ (by intros; simp) _ _).trans (by simp),
    (foldl_keeps (fun s : State => s.pending) _ (by intros; simp) _ _).trans (by simp)⟩

@[simp] theorem syncTable_keeps (s : State) :
    (syncTable s).sys = s.sys ∧ (syncTable s).hpt.rx = s.hpt.rx ∧ (syncTable s).hpt.buffer = s.hpt.buffer ∧
    (syncTable s).hpt.replies = s.hpt.replies ∧ (syncTable s).hpt.globalEnable = s.hpt.globalEnable ∧
    (syncTable s).hpt.classEnables = s.hpt.classEnables ∧ (syncTable s).hpt.restartPending = s.hpt.restartPending ∧
    (syncTable s).hpt.sent = s.hpt.sent ∧ (syncTable s).ubc.addrs = s.ubc.addrs ∧
    (syncTable s).ubc.panicSel = s.ubc.panicSel ∧ (syncTable s).ubc.panicHigh = s.ubc.panicHigh ∧
    (syncTable s).ubc.alarm = s.ubc.alarm ∧ (syncTable s).ubc.alarmTimer = s.ubc.alarmTimer ∧
    (syncTable s).ubc.unitErrors = s.ubc.unitErrors ∧ (syncTable s).cru = s.cru ∧ (syncTable s).acu = s.acu ∧
    (syncTable s).bgr = s.bgr ∧ (syncTable s).tau = s.tau ∧ (syncTable s).clc = s.clc ∧ (syncTable s).rcu = s.rcu ∧
    (syncTable s).wcu = s.wcu ∧ (syncTable s).csc.strongroom = s.csc.strongroom ∧
    (syncTable s).csc.policy = s.csc.policy ∧ (syncTable s).csc.maintenance = s.csc.maintenance ∧
    (syncTable s).csc.freeze = s.csc.freeze ∧ (syncTable s).csc.latch = s.csc.latch ∧
    (syncTable s).csc.holdTimer = s.csc.holdTimer ∧ (syncTable s).csc.holdRunning = s.csc.holdRunning ∧
    (syncTable s).hoc = s.hoc ∧ (syncTable s).pending = s.pending := by
  unfold syncTable
  simp

@[simp] theorem freeRetired_keeps (s : State) :
    (freeRetired s).sys = s.sys ∧ (freeRetired s).hpt.rx = s.hpt.rx ∧ (freeRetired s).hpt.buffer = s.hpt.buffer ∧
    (freeRetired s).hpt.replies = s.hpt.replies ∧ (freeRetired s).hpt.globalEnable = s.hpt.globalEnable ∧
    (freeRetired s).hpt.classEnables = s.hpt.classEnables ∧ (freeRetired s).hpt.restartPending = s.hpt.restartPending ∧
    (freeRetired s).hpt.sent = s.hpt.sent ∧ (freeRetired s).ubc.addrs = s.ubc.addrs ∧
    (freeRetired s).ubc.panicSel = s.ubc.panicSel ∧ (freeRetired s).ubc.panicHigh = s.ubc.panicHigh ∧
    (freeRetired s).ubc.alarm = s.ubc.alarm ∧ (freeRetired s).ubc.alarmTimer = s.ubc.alarmTimer ∧
    (freeRetired s).ubc.unitErrors = s.ubc.unitErrors ∧ (freeRetired s).cru = s.cru ∧ (freeRetired s).acu = s.acu ∧
    (freeRetired s).bgr.bags = s.bgr.retired.foldl (fun t r => Table.set none t r none) s.bgr.bags ∧
    (freeRetired s).bgr.retired = [] ∧ (freeRetired s).bgr.ranges = s.bgr.ranges ∧
    (freeRetired s).tau = s.tau ∧ (freeRetired s).clc = s.clc ∧ (freeRetired s).rcu = s.rcu ∧
    (freeRetired s).wcu = s.wcu ∧ (freeRetired s).csc.strongroom = s.csc.strongroom ∧
    (freeRetired s).csc.policy = s.csc.policy ∧ (freeRetired s).csc.maintenance = s.csc.maintenance ∧
    (freeRetired s).csc.freeze = s.csc.freeze ∧ (freeRetired s).csc.latch = s.csc.latch ∧
    (freeRetired s).csc.holdTimer = s.csc.holdTimer ∧ (freeRetired s).csc.holdRunning = s.csc.holdRunning ∧
    (freeRetired s).hoc = s.hoc ∧ (freeRetired s).pending = s.pending := by
  unfold freeRetired
  simp

@[simp] theorem recordBag_keeps (r : Nat) (b : Bag) (s : State) :
    (recordBag r b s).sys = s.sys ∧ (recordBag r b s).hpt.rx = s.hpt.rx ∧
    (recordBag r b s).hpt.buffer = s.hpt.buffer ∧ (recordBag r b s).hpt.replies = s.hpt.replies ∧
    (recordBag r b s).hpt.globalEnable = s.hpt.globalEnable ∧
    (recordBag r b s).hpt.classEnables = s.hpt.classEnables ∧
    (recordBag r b s).hpt.restartPending = s.hpt.restartPending ∧ (recordBag r b s).hpt.sent = s.hpt.sent ∧
    (recordBag r b s).ubc.addrs = s.ubc.addrs ∧ (recordBag r b s).ubc.panicSel = s.ubc.panicSel ∧
    (recordBag r b s).ubc.panicHigh = s.ubc.panicHigh ∧ (recordBag r b s).ubc.alarm = s.ubc.alarm ∧
    (recordBag r b s).ubc.alarmTimer = s.ubc.alarmTimer ∧ (recordBag r b s).ubc.unitErrors = s.ubc.unitErrors ∧
    (recordBag r b s).cru = s.cru ∧ (recordBag r b s).acu = s.acu ∧ (recordBag r b s).bgr.retired = s.bgr.retired ∧
    (recordBag r b s).bgr.ranges = s.bgr.ranges ∧ (recordBag r b s).tau = s.tau ∧ (recordBag r b s).clc = s.clc ∧
    (recordBag r b s).rcu = s.rcu ∧ (recordBag r b s).wcu = s.wcu ∧
    (recordBag r b s).csc.strongroom = s.csc.strongroom ∧ (recordBag r b s).csc.policy = s.csc.policy ∧
    (recordBag r b s).csc.maintenance = s.csc.maintenance ∧ (recordBag r b s).csc.freeze = s.csc.freeze ∧
    (recordBag r b s).csc.latch = s.csc.latch ∧ (recordBag r b s).csc.holdTimer = s.csc.holdTimer ∧
    (recordBag r b s).csc.holdRunning = s.csc.holdRunning ∧ (recordBag r b s).hoc = s.hoc ∧
    (recordBag r b s).pending = s.pending := by
  unfold recordBag
  simp

@[simp] theorem retireBag_keeps (r : Nat) (b : Bag) (s : State) :
    (retireBag r b s).sys = s.sys ∧ (retireBag r b s).hpt.rx = s.hpt.rx ∧
    (retireBag r b s).hpt.buffer = s.hpt.buffer ∧ (retireBag r b s).hpt.replies = s.hpt.replies ∧
    (retireBag r b s).hpt.globalEnable = s.hpt.globalEnable ∧
    (retireBag r b s).hpt.classEnables = s.hpt.classEnables ∧
    (retireBag r b s).hpt.restartPending = s.hpt.restartPending ∧ (retireBag r b s).hpt.sent = s.hpt.sent ∧
    (retireBag r b s).ubc.addrs = s.ubc.addrs ∧ (retireBag r b s).ubc.panicSel = s.ubc.panicSel ∧
    (retireBag r b s).ubc.panicHigh = s.ubc.panicHigh ∧ (retireBag r b s).ubc.alarm = s.ubc.alarm ∧
    (retireBag r b s).ubc.alarmTimer = s.ubc.alarmTimer ∧ (retireBag r b s).ubc.unitErrors = s.ubc.unitErrors ∧
    (retireBag r b s).cru = s.cru ∧ (retireBag r b s).acu = s.acu ∧ (retireBag r b s).bgr.ranges = s.bgr.ranges ∧
    (retireBag r b s).tau = s.tau ∧ (retireBag r b s).clc = s.clc ∧ (retireBag r b s).rcu = s.rcu ∧
    (retireBag r b s).wcu = s.wcu ∧ (retireBag r b s).csc.strongroom = s.csc.strongroom ∧
    (retireBag r b s).csc.policy = s.csc.policy ∧ (retireBag r b s).csc.maintenance = s.csc.maintenance ∧
    (retireBag r b s).csc.freeze = s.csc.freeze ∧ (retireBag r b s).csc.latch = s.csc.latch ∧
    (retireBag r b s).csc.holdTimer = s.csc.holdTimer ∧ (retireBag r b s).csc.holdRunning = s.csc.holdRunning ∧
    (retireBag r b s).hoc = s.hoc ∧ (retireBag r b s).pending = s.pending := by
  unfold retireBag
  simp

@[simp] theorem returnBag_keeps (r : Nat) (s : State) :
    (returnBag r s).sys = s.sys ∧ (returnBag r s).hpt = s.hpt ∧ (returnBag r s).ubc = s.ubc ∧
    (returnBag r s).cru = s.cru ∧ (returnBag r s).acu = s.acu ∧ (returnBag r s).bgr.retired = s.bgr.retired ∧
    (returnBag r s).bgr.ranges = s.bgr.ranges ∧ (returnBag r s).tau = s.tau ∧ (returnBag r s).clc = s.clc ∧
    (returnBag r s).rcu = s.rcu ∧ (returnBag r s).wcu = s.wcu ∧ (returnBag r s).csc = s.csc ∧
    (returnBag r s).hoc = s.hoc ∧ (returnBag r s).pending = s.pending := by
  unfold returnBag
  (repeat' split) <;> simp

@[simp] theorem syncJournal_keeps (s : State) :
    (syncJournal s).sys = s.sys ∧ (syncJournal s).hpt.rx = s.hpt.rx ∧ (syncJournal s).hpt.buffer = s.hpt.buffer ∧
    (syncJournal s).hpt.replies = s.hpt.replies ∧ (syncJournal s).hpt.globalEnable = s.hpt.globalEnable ∧
    (syncJournal s).hpt.classEnables = s.hpt.classEnables ∧
    (syncJournal s).hpt.restartPending = s.hpt.restartPending ∧ (syncJournal s).hpt.sent = s.hpt.sent ∧
    (syncJournal s).ubc.addrs = s.ubc.addrs ∧ (syncJournal s).ubc.panicSel = s.ubc.panicSel ∧
    (syncJournal s).ubc.panicHigh = s.ubc.panicHigh ∧ (syncJournal s).ubc.alarm = s.ubc.alarm ∧
    (syncJournal s).ubc.alarmTimer = s.ubc.alarmTimer ∧ (syncJournal s).ubc.unitErrors = s.ubc.unitErrors ∧
    (syncJournal s).cru = s.cru ∧ (syncJournal s).acu = s.acu ∧ (syncJournal s).bgr = s.bgr ∧
    (syncJournal s).tau = s.tau ∧ (syncJournal s).clc = s.clc ∧ (syncJournal s).rcu = s.rcu ∧
    (syncJournal s).wcu = s.wcu ∧ (syncJournal s).csc.strongroom = s.csc.strongroom ∧
    (syncJournal s).csc.policy = s.csc.policy ∧ (syncJournal s).csc.maintenance = s.csc.maintenance ∧
    (syncJournal s).csc.freeze = s.csc.freeze ∧ (syncJournal s).csc.latch = s.csc.latch ∧
    (syncJournal s).csc.holdTimer = s.csc.holdTimer ∧ (syncJournal s).csc.holdRunning = s.csc.holdRunning ∧
    (syncJournal s).hoc = s.hoc ∧ (syncJournal s).pending = s.pending := by
  unfold syncJournal
  simp

@[simp] theorem chargeAccount_keeps (c : Option (Account × Int)) (s : State) :
    (chargeAccount c s).sys = s.sys ∧ (chargeAccount c s).hpt = s.hpt ∧ (chargeAccount c s).ubc = s.ubc ∧
    (chargeAccount c s).cru = s.cru ∧ (chargeAccount c s).acu.denoms = s.acu.denoms ∧
    (chargeAccount c s).acu.stock = s.acu.stock ∧ (chargeAccount c s).acu.accountability = s.acu.accountability ∧
    (chargeAccount c s).acu.suspects = s.acu.suspects ∧ (chargeAccount c s).acu.journal = s.acu.journal ∧
    (chargeAccount c s).acu.nextSeq = s.acu.nextSeq ∧ (chargeAccount c s).acu.reserved = s.acu.reserved ∧
    (chargeAccount c s).acu.clock = s.acu.clock ∧ (chargeAccount c s).acu.day = s.acu.day ∧
    (chargeAccount c s).acu.businessDate = s.acu.businessDate ∧ (chargeAccount c s).acu.mode = s.acu.mode ∧
    (chargeAccount c s).acu.bandFloor = s.acu.bandFloor ∧ (chargeAccount c s).acu.bandRate = s.acu.bandRate ∧
    (chargeAccount c s).bgr = s.bgr ∧ (chargeAccount c s).tau.templates = s.tau.templates ∧
    (chargeAccount c s).tau.postings = s.tau.postings ∧ (chargeAccount c s).tau.skimQueue = s.tau.skimQueue ∧
    (chargeAccount c s).clc = s.clc ∧ (chargeAccount c s).rcu = s.rcu ∧ (chargeAccount c s).wcu = s.wcu ∧
    (chargeAccount c s).csc = s.csc ∧ (chargeAccount c s).hoc = s.hoc ∧ (chargeAccount c s).pending = s.pending := by
  unfold chargeAccount
  (try dsimp only); (repeat' split) <;> simp

@[simp] theorem applyMovement_keeps (m : Movement) (s : State) :
    (applyMovement m s).sys = s.sys ∧ (applyMovement m s).hpt.rx = s.hpt.rx ∧
    (applyMovement m s).hpt.buffer = s.hpt.buffer ∧ (applyMovement m s).hpt.replies = s.hpt.replies ∧
    (applyMovement m s).hpt.globalEnable = s.hpt.globalEnable ∧
    (applyMovement m s).hpt.classEnables = s.hpt.classEnables ∧
    (applyMovement m s).hpt.restartPending = s.hpt.restartPending ∧ (applyMovement m s).hpt.sent = s.hpt.sent ∧
    (applyMovement m s).ubc.addrs = s.ubc.addrs ∧ (applyMovement m s).ubc.panicSel = s.ubc.panicSel ∧
    (applyMovement m s).ubc.panicHigh = s.ubc.panicHigh ∧ (applyMovement m s).ubc.alarm = s.ubc.alarm ∧
    (applyMovement m s).ubc.alarmTimer = s.ubc.alarmTimer ∧ (applyMovement m s).ubc.unitErrors = s.ubc.unitErrors ∧
    (applyMovement m s).cru = s.cru ∧ (applyMovement m s).bgr = s.bgr ∧
    (applyMovement m s).tau.templates = s.tau.templates ∧ (applyMovement m s).tau.postings = s.tau.postings ∧
    (applyMovement m s).tau.skimQueue = s.tau.skimQueue ∧ (applyMovement m s).clc = s.clc ∧
    (applyMovement m s).rcu = s.rcu ∧ (applyMovement m s).wcu = s.wcu ∧
    (applyMovement m s).csc.strongroom = s.csc.strongroom ∧ (applyMovement m s).csc.policy = s.csc.policy ∧
    (applyMovement m s).csc.maintenance = s.csc.maintenance ∧ (applyMovement m s).csc.freeze = s.csc.freeze ∧
    (applyMovement m s).csc.latch = s.csc.latch ∧ (applyMovement m s).csc.holdTimer = s.csc.holdTimer ∧
    (applyMovement m s).csc.holdRunning = s.csc.holdRunning ∧ (applyMovement m s).hoc = s.hoc ∧
    (applyMovement m s).pending = s.pending := by
  unfold applyMovement
  (try dsimp only); (repeat' split) <;> simp

@[simp] theorem endReservation_keeps (s : State) :
    (endReservation s).sys = s.sys ∧ (endReservation s).hpt.rx = s.hpt.rx ∧
    (endReservation s).hpt.buffer = s.hpt.buffer ∧ (endReservation s).hpt.replies = s.hpt.replies ∧
    (endReservation s).hpt.globalEnable = s.hpt.globalEnable ∧
    (endReservation s).hpt.classEnables = s.hpt.classEnables ∧
    (endReservation s).hpt.restartPending = s.hpt.restartPending ∧ (endReservation s).hpt.sent = s.hpt.sent ∧
    (endReservation s).ubc.addrs = s.ubc.addrs ∧ (endReservation s).ubc.panicSel = s.ubc.panicSel ∧
    (endReservation s).ubc.panicHigh = s.ubc.panicHigh ∧ (endReservation s).ubc.alarm = s.ubc.alarm ∧
    (endReservation s).ubc.alarmTimer = s.ubc.alarmTimer ∧ (endReservation s).ubc.unitErrors = s.ubc.unitErrors ∧
    (endReservation s).cru = s.cru ∧ (endReservation s).acu.denoms = s.acu.denoms ∧
    (endReservation s).acu.stock = s.acu.stock ∧ (endReservation s).acu.accountability = s.acu.accountability ∧
    (endReservation s).acu.courier = s.acu.courier ∧ (endReservation s).acu.unattributed = s.acu.unattributed ∧
    (endReservation s).acu.suspects = s.acu.suspects ∧ (endReservation s).acu.journal = s.acu.journal ∧
    (endReservation s).acu.nextSeq = s.acu.nextSeq ∧ (endReservation s).acu.clock = s.acu.clock ∧
    (endReservation s).acu.day = s.acu.day ∧ (endReservation s).acu.businessDate = s.acu.businessDate ∧
    (endReservation s).acu.mode = s.acu.mode ∧ (endReservation s).acu.bandFloor = s.acu.bandFloor ∧
    (endReservation s).acu.bandRate = s.acu.bandRate ∧ (endReservation s).bgr = s.bgr ∧
    (endReservation s).tau = s.tau ∧ (endReservation s).clc = s.clc ∧ (endReservation s).rcu = s.rcu ∧
    (endReservation s).wcu = s.wcu ∧ (endReservation s).csc.strongroom = s.csc.strongroom ∧
    (endReservation s).csc.policy = s.csc.policy ∧ (endReservation s).csc.maintenance = s.csc.maintenance ∧
    (endReservation s).csc.freeze = s.csc.freeze ∧ (endReservation s).csc.latch = s.csc.latch ∧
    (endReservation s).csc.holdTimer = s.csc.holdTimer ∧ (endReservation s).csc.holdRunning = s.csc.holdRunning ∧
    (endReservation s).hoc = s.hoc ∧ (endReservation s).pending = s.pending := by
  unfold endReservation
  simp

@[simp] theorem makeReservation_keeps (s : State) :
    (makeReservation s).sys = s.sys ∧ (makeReservation s).hpt.rx = s.hpt.rx ∧
    (makeReservation s).hpt.buffer = s.hpt.buffer ∧ (makeReservation s).hpt.replies = s.hpt.replies ∧
    (makeReservation s).hpt.globalEnable = s.hpt.globalEnable ∧
    (makeReservation s).hpt.classEnables = s.hpt.classEnables ∧
    (makeReservation s).hpt.restartPending = s.hpt.restartPending ∧ (makeReservation s).hpt.sent = s.hpt.sent ∧
    (makeReservation s).ubc.addrs = s.ubc.addrs ∧ (makeReservation s).ubc.panicSel = s.ubc.panicSel ∧
    (makeReservation s).ubc.panicHigh = s.ubc.panicHigh ∧ (makeReservation s).ubc.alarm = s.ubc.alarm ∧
    (makeReservation s).ubc.alarmTimer = s.ubc.alarmTimer ∧ (makeReservation s).ubc.unitErrors = s.ubc.unitErrors ∧
    (makeReservation s).cru = s.cru ∧ (makeReservation s).acu.denoms = s.acu.denoms ∧
    (makeReservation s).acu.stock = s.acu.stock ∧ (makeReservation s).acu.accountability = s.acu.accountability ∧
    (makeReservation s).acu.courier = s.acu.courier ∧ (makeReservation s).acu.unattributed = s.acu.unattributed ∧
    (makeReservation s).acu.suspects = s.acu.suspects ∧ (makeReservation s).acu.journal = s.acu.journal ∧
    (makeReservation s).acu.nextSeq = s.acu.nextSeq ∧ (makeReservation s).acu.clock = s.acu.clock ∧
    (makeReservation s).acu.day = s.acu.day ∧ (makeReservation s).acu.businessDate = s.acu.businessDate ∧
    (makeReservation s).acu.mode = s.acu.mode ∧ (makeReservation s).acu.bandFloor = s.acu.bandFloor ∧
    (makeReservation s).acu.bandRate = s.acu.bandRate ∧ (makeReservation s).bgr = s.bgr ∧
    (makeReservation s).tau = s.tau ∧ (makeReservation s).clc = s.clc ∧ (makeReservation s).rcu = s.rcu ∧
    (makeReservation s).wcu = s.wcu ∧ (makeReservation s).csc.strongroom = s.csc.strongroom ∧
    (makeReservation s).csc.policy = s.csc.policy ∧ (makeReservation s).csc.maintenance = s.csc.maintenance ∧
    (makeReservation s).csc.freeze = s.csc.freeze ∧ (makeReservation s).csc.latch = s.csc.latch ∧
    (makeReservation s).csc.holdTimer = s.csc.holdTimer ∧ (makeReservation s).csc.holdRunning = s.csc.holdRunning ∧
    (makeReservation s).hoc = s.hoc ∧ (makeReservation s).pending = s.pending := by
  unfold makeReservation
  simp

@[simp] theorem answerFrame_keeps (r : Reply) (s : State) :
    (answerFrame r s).sys = s.sys ∧ (answerFrame r s).hpt.rx = s.hpt.rx ∧ (answerFrame r s).hpt.buffer = s.hpt.buffer ∧
    (answerFrame r s).hpt.notices = s.hpt.notices ∧ (answerFrame r s).hpt.globalEnable = s.hpt.globalEnable ∧
    (answerFrame r s).hpt.classEnables = s.hpt.classEnables ∧
    (answerFrame r s).hpt.overflow = s.hpt.overflow ∧ (answerFrame r s).hpt.dropped = s.hpt.dropped ∧
    (answerFrame r s).hpt.restartPending = s.hpt.restartPending ∧ (answerFrame r s).hpt.sent = s.hpt.sent ∧
    (answerFrame r s).ubc = s.ubc ∧ (answerFrame r s).cru = s.cru ∧ (answerFrame r s).acu = s.acu ∧
    (answerFrame r s).bgr = s.bgr ∧ (answerFrame r s).tau = s.tau ∧ (answerFrame r s).clc = s.clc ∧
    (answerFrame r s).rcu = s.rcu ∧ (answerFrame r s).wcu = s.wcu ∧ (answerFrame r s).csc = s.csc ∧
    (answerFrame r s).hoc = s.hoc ∧ (answerFrame r s).pending = s.pending := by
  unfold answerFrame
  split <;> simp

@[simp] theorem arrive_keeps (i : Instr) (tag kind : Nat) (s : State) :
    (arrive i tag kind s).sys = s.sys ∧ (arrive i tag kind s).hpt.rx = s.hpt.rx ∧
    (arrive i tag kind s).hpt.notices = s.hpt.notices ∧ (arrive i tag kind s).hpt.globalEnable = s.hpt.globalEnable ∧
    (arrive i tag kind s).hpt.classEnables = s.hpt.classEnables ∧
    (arrive i tag kind s).hpt.overflow = s.hpt.overflow ∧ (arrive i tag kind s).hpt.dropped = s.hpt.dropped ∧
    (arrive i tag kind s).hpt.restartPending = s.hpt.restartPending ∧ (arrive i tag kind s).hpt.sent = s.hpt.sent ∧
    (arrive i tag kind s).ubc = s.ubc ∧ (arrive i tag kind s).cru = s.cru ∧ (arrive i tag kind s).acu = s.acu ∧
    (arrive i tag kind s).bgr = s.bgr ∧ (arrive i tag kind s).tau = s.tau ∧ (arrive i tag kind s).clc = s.clc ∧
    (arrive i tag kind s).rcu = s.rcu ∧ (arrive i tag kind s).wcu = s.wcu ∧ (arrive i tag kind s).csc = s.csc ∧
    (arrive i tag kind s).hoc = s.hoc ∧ (arrive i tag kind s).pending = s.pending := by
  unfold arrive
  (try dsimp only); (repeat' split) <;> simp

/-! ## Movements -/

theorem writeEntries_fields (es : List EntrySpec) (a : Acu) :
    (es.foldl writeEntry a).denoms = a.denoms ∧ (es.foldl writeEntry a).stock = a.stock ∧
    (es.foldl writeEntry a).courier = a.courier ∧ (es.foldl writeEntry a).unattributed = a.unattributed ∧
    (es.foldl writeEntry a).suspects = a.suspects ∧ (es.foldl writeEntry a).reserved = a.reserved ∧
    (es.foldl writeEntry a).clock = a.clock ∧ (es.foldl writeEntry a).day = a.day ∧
    (es.foldl writeEntry a).businessDate = a.businessDate ∧ (es.foldl writeEntry a).mode = a.mode ∧
    (es.foldl writeEntry a).bandFloor = a.bandFloor ∧ (es.foldl writeEntry a).bandRate = a.bandRate ∧
    (es.foldl writeEntry a).journal.length = a.journal.length + es.length ∧
    (es.foldl writeEntry a).accountability = a.accountability + (es.map EntrySpec.delta).sum := by
  induction es generalizing a with
  | nil => simp
  | cons e es ih =>
    obtain ⟨h1, h2, h3, h4, h5, h6, h7, h8, h9, h10, h11, h12, h13, h14⟩ := ih (writeEntry a e)
    refine ⟨h1, h2, h3, h4, h5, h6, h7, h8, h9, h10, h11, h12, ?_, ?_⟩
    · rw [List.foldl_cons, h13]; simp [writeEntry]; omega
    · rw [List.foldl_cons, h14]; simp [writeEntry]; omega

/-- A charge leaves all of the Accounts Unit but the two variance accounts. -/
@[simp] theorem chargeAccount_acu (c : Option (Account × Int)) (s : State) :
    (chargeAccount c s).acu.denoms = s.acu.denoms ∧ (chargeAccount c s).acu.reserved = s.acu.reserved ∧
    (chargeAccount c s).acu.journal = s.acu.journal := by simp

/-- What a movement does to the Accounts Unit (R47, R54): its entries are written, their changes add up in the
accountability, and a RESERVED movement ends a reservation of 3. -/
@[simp] theorem applyMovement_acu (m : Movement) (s : State) :
    (applyMovement m s).acu.denoms = s.acu.denoms ∧ (applyMovement m s).acu.clock = s.acu.clock ∧
    (applyMovement m s).acu.day = s.acu.day ∧ (applyMovement m s).acu.businessDate = s.acu.businessDate ∧
    (applyMovement m s).acu.mode = s.acu.mode ∧ (applyMovement m s).acu.bandFloor = s.acu.bandFloor ∧
    (applyMovement m s).acu.bandRate = s.acu.bandRate ∧
    (applyMovement m s).acu.reserved = (if m.origin = .reserved then s.acu.reserved - 3 else s.acu.reserved) ∧
    (applyMovement m s).acu.stock = m.stock.foldl applyStock s.acu.stock ∧
    (applyMovement m s).acu.suspects = m.suspects.foldl applySuspect s.acu.suspects ∧
    (applyMovement m s).acu.accountability = s.acu.accountability + m.delta ∧
    (applyMovement m s).acu.journal.length = s.acu.journal.length + m.entries.length ∧
    (applyMovement m s).acu.courier = (chargeAccount m.charge s).acu.courier ∧
    (applyMovement m s).acu.unattributed = (chargeAccount m.charge s).acu.unattributed ∧
    (applyMovement m s).tau.tills = (chargeAccount m.charge s).tau.tills := by
  unfold applyMovement
  refine ⟨?_, ?_, ?_, ?_, ?_, ?_, ?_, ?_, ?_, ?_, ?_, ?_, ?_, ?_, ?_⟩
  on_goal 13 => simp only [syncJournal_keeps]; unfold chargeAccount; (repeat' split) <;> simp [writeEntries_fields]
  on_goal 13 => simp only [syncJournal_keeps]; unfold chargeAccount; (repeat' split) <;> simp [writeEntries_fields]
  on_goal 13 => simp only [syncJournal_keeps]; unfold chargeAccount; (repeat' split) <;> simp [State.till]
  all_goals simp [writeEntries_fields, Movement.delta]

@[simp] theorem chargeAccount_none (s : State) : chargeAccount none s = s := rfl

/-- A movement of entries alone. -/
@[simp] theorem entriesOnly_fields (o : Origin) (es : List EntrySpec) :
    (entriesOnly o es).origin = o ∧ (entriesOnly o es).stock = [] ∧ (entriesOnly o es).charge = none ∧
    (entriesOnly o es).suspects = [] ∧ (entriesOnly o es).entries = es := ⟨rfl, rfl, rfl, rfl, rfl⟩

@[simp] theorem attachMovement_fields (n r : Nat) (a : Int) :
    (attachMovement n r a).origin = .field ∧ (attachMovement n r a).stock = [] ∧
    (attachMovement n r a).charge = none ∧ (attachMovement n r a).suspects = [] ∧
    (attachMovement n r a).entries = [⟨.bagAttach, some r, some n, a, a⟩] := ⟨rfl, rfl, rfl, rfl, rfl⟩

/-- One entry written (R51). -/
theorem writeEntry_journal (a : Acu) (e : EntrySpec) :
    (writeEntry a e).journal
      = a.journal ++ [⟨a.nextSeq, a.clock, e.kind, e.ref, e.till, e.amount, a.accountability + e.delta⟩] := rfl

/-! ## The allocation of a bag reference -/

/-- R29, R30: the state that an allocation leaves differs in the bag table and the retired list alone. -/
theorem allocate_keeps (s s' : State) (r : Nat) (h : allocate s = some (r, s')) :
    s'.sys = s.sys ∧ s'.hpt = s.hpt ∧ s'.ubc = s.ubc ∧ s'.cru = s.cru ∧ s'.acu = s.acu ∧ s'.tau = s.tau ∧
    s'.clc = s.clc ∧ s'.rcu = s.rcu ∧ s'.wcu = s.wcu ∧ s'.csc = s.csc ∧ s'.hoc = s.hoc ∧ s'.pending = s.pending ∧
    s'.bgr.ranges = s.bgr.ranges := by
  unfold allocate at h
  split at h
  · cases h; simp
  · split at h
    · cases h
    · cases h; simp

end Sys2Proof.Machine
end

