-- ==== Sys2Proof/Laws/Books.lean ====
section
/-!
SUPPORT. Laws of the books (R46): a test of every record as a test of what each key reads, what one write does to the two
sums of the law, and that the law reads nothing but the records named here.
-/

namespace Sys2Proof.Machine

open Sys2Proof

-- One proof at a time: the package is compiled as one text under a memory limit.
set_option Elab.async false

variable {α : Type}

/-! ## Sums and tests over a table -/

/-- What a table in canonical form lists is what its keys read as. -/
theorem Table.mem_iff [DecidableEq α] (d : α) (t : Table α) (h : Table.wf d t = true) (k : Nat) (v : α) :
    (k, v) ∈ t ↔ Table.get d t k = v ∧ v ≠ d := by
  rw [Table.wf_iff] at h
  induction t with
  | nil =>
    simp only [List.not_mem_nil, Table.get_nil, false_iff, not_and, not_not]
    exact fun e => e.symm
  | cons p t ih =>
    obtain ⟨j, w⟩ := p
    have h2 := List.pairwise_cons.mp h.2
    have ih' := ih ⟨fun p hp => h.1 p (by simp [hp]), h2.2⟩
    by_cases hj : j = k
    · subst hj
      have : (j, v) ∉ t := fun hm => absurd (h2.1 (j, v) hm) (lt_irrefl j)
      have hw : w ≠ d := h.1 (j, w) (by simp)
      simp only [List.mem_cons, Prod.mk.injEq, true_and, this, or_false, Table.get, if_true]
      exact ⟨fun e => ⟨e.symm, e ▸ hw⟩, fun e => e.1.symm⟩
    · have : ¬ k = j := fun e => hj e.symm
      simp [Table.get, hj, this, ih']

/-- The sum of a measure over what a table lists. -/
def Table.total (g : α → Int) (t : Table α) : Int := (t.map (fun p => g p.2)).sum

theorem Table.total_place (g : α → Int) (t : Table α) (i : Nat) (v : α) :
    Table.total g (Table.place i v t) = g v + Table.total g t := by
  unfold Table.total
  induction t with
  | nil => simp [Table.place]
  | cons p t ih =>
    obtain ⟨k, w⟩ := p
    by_cases hlt : i < k
    · simp [Table.place, hlt]
    · simp only [Table.place, hlt, if_false, List.map_cons, List.sum_cons, ih]
      omega

theorem Table.erase_of_absent (t : Table α) (i : Nat) (h : ∀ p ∈ t, p.1 ≠ i) : Table.erase t i = t := by
  induction t with
  | nil => rfl
  | cons p t ih =>
    obtain ⟨k, w⟩ := p
    have hk : ¬ k = i := h (k, w) (by simp)
    simp [Table.erase, hk, ih (fun p hp => h p (by simp [hp]))]

theorem Table.total_erase [DecidableEq α] (g : α → Int) (d : α) (hg : g d = 0) (t : Table α) (i : Nat)
    (h : Table.wf d t = true) : Table.total g (Table.erase t i) = Table.total g t - g (Table.get d t i) := by
  rw [Table.wf_iff] at h
  unfold Table.total
  induction t with
  | nil => simp [Table.erase, hg]
  | cons p t ih =>
    obtain ⟨k, w⟩ := p
    have h2 := List.pairwise_cons.mp h.2
    by_cases hk : k = i
    · subst hk
      rw [show Table.erase ((k, w) :: t) k = t by
        simp only [Table.erase, if_true]
        exact Table.erase_of_absent t k (fun p hp e => absurd (h2.1 p hp) (by simp [e]))]
      simp only [Table.get, if_true, List.map_cons, List.sum_cons]
      omega
    · simp only [Table.erase, hk, if_false, List.map_cons, List.sum_cons, Table.get,
        ih ⟨fun p hp => h.1 p (by simp [hp]), h2.2⟩]
      omega

/-- A write moves a sum over a table by the difference at its key. -/
theorem Table.total_set [DecidableEq α] (g : α → Int) (d : α) (hg : g d = 0) (t : Table α) (i : Nat) (v : α)
    (h : Table.wf d t = true) :
    Table.total g (Table.set d t i v) = Table.total g t - g (Table.get d t i) + g v := by
  unfold Table.set
  split
  · rename_i hv
    rw [Table.total_erase g d hg t i h, hv, hg]
    omega
  · rw [Table.total_place, Table.total_erase g d hg t i h]
    omega

/-! ## The tests of the rule, record by record -/

theorem bagsAll_iff (s : State) (f : Bag → Bool) (h : Table.wf none s.bgr.bags = true) :
    s.bagsAll f = true ↔ ∀ r b, s.bag r = some b → f b = true := by
  unfold State.bagsAll State.bag
  rw [List.all_eq_true]
  constructor
  · intro k r b hb
    exact k (r, some b) ((Table.mem_iff none _ h r (some b)).mpr ⟨hb, by simp⟩)
  · rintro k ⟨r, o⟩ hp
    cases o with
    | none => rfl
    | some b => exact k r b ((Table.mem_iff none _ h r (some b)).mp hp).1

theorem tillsAll_iff (s : State) (f : Nat → Till → Bool) (h : Table.wf Till.initial s.tau.tills = true)
    (hf : ∀ n, f n Till.initial = true) : s.tillsAll f = true ↔ ∀ n, f n (s.till n) = true := by
  unfold State.tillsAll State.till
  rw [List.all_eq_true]
  constructor
  · intro k n
    by_cases e : Table.get Till.initial s.tau.tills n = Till.initial
    · rw [e]
      exact hf n
    · exact k (n, _) ((Table.mem_iff Till.initial _ h n _).mpr ⟨rfl, e⟩)
  · rintro k ⟨n, t⟩ hp
    have e := ((Table.mem_iff Till.initial _ h n t).mp hp).1
    exact e ▸ k n

/-! ## The two sums -/

/-- What a bag record, or a free slot, adds to the book sum. -/
def bookPart (o : Option Bag) : Int :=
  match o with
  | some b => if b.state.live then b.book else 0
  | none => 0

theorem bookSum_eq (s : State) : s.bookSum = Table.total bookPart s.bgr.bags := rfl

/-- A record written moves the book sum by what it adds less what its slot added. -/
theorem bookSum_putBag (r : Nat) (b : Bag) (s : State) (h : Table.wf none s.bgr.bags = true) :
    (putBag r b s).bookSum = s.bookSum - bookPart (s.bag r) + bookPart (some b) := by
  simp only [bookSum_eq]
  exact Table.total_set bookPart none rfl s.bgr.bags r (some b) h

/-- A slot freed takes what it added out of the book sum. -/
theorem bookSum_free (r : Nat) (t : Table (Option Bag)) (h : Table.wf none t = true) :
    Table.total bookPart (Table.set none t r none) = Table.total bookPart t - bookPart (Table.get none t r) := by
  rw [Table.total_set bookPart none rfl t r none h]
  simp [bookPart]

/-- One slot's stock changed moves the stock value by the difference at that slot. -/
theorem stockValue_applyStock (s : State) (c : StockChange) (h : c.slot ∈ slotNumbers) :
    ({ s with acu.stock := applyStock s.acu.stock c } : State).stockValue =
      s.stockValue - slotValue (s.denom c.slot) (s.slotStock c.slot) +
        slotValue (s.denom c.slot) (Table.get SlotStock.initial (applyStock s.acu.stock c) c.slot) := by
  have key : ∀ i, slotValue (({ s with acu.stock := applyStock s.acu.stock c } : State).denom i)
      (({ s with acu.stock := applyStock s.acu.stock c } : State).slotStock i) =
      if i = c.slot then slotValue (s.denom c.slot) (Table.get SlotStock.initial (applyStock s.acu.stock c) c.slot)
      else slotValue (s.denom i) (s.slotStock i) := by
    intro i
    by_cases e : i = c.slot
    · subst e
      simp [State.denom, State.slotStock]
    · simp [State.denom, State.slotStock, applyStock, e]
  unfold State.stockValue
  simp only [key]
  simp only [slotNumbers, List.mem_cons, List.not_mem_nil, or_false] at h
  rcases h with e | e | e | e | e | e | e | e <;> simp [slotNumbers, e] <;> omega

/-! ## What the rule reads -/

/-- The rule of the books reads these records and no others. -/
theorem booksRule_congr (s t : State) (acc : t.acu.accountability = s.acu.accountability)
    (denoms : t.acu.denoms = s.acu.denoms) (stock : t.acu.stock = s.acu.stock) (bags : t.bgr.bags = s.bgr.bags)
    (retired : t.bgr.retired = s.bgr.retired) (tills : t.tau.tills = s.tau.tills)
    (templates : t.tau.templates = s.tau.templates) (clc : t.clc = s.clc) (rcu : t.rcu = s.rcu)
    (manifests : t.hoc.manifests = s.hoc.manifests) : booksRule t = booksRule s := by
  have bag : t.bag = s.bag := by funext r; simp only [State.bag, bags]
  have denom : t.denom = s.denom := by funext i; simp only [State.denom, denoms]
  have slot : t.slotStock = s.slotStock := by funext i; simp only [State.slotStock, stock]
  have lane : t.lane = s.lane := by funext n; simp only [State.lane, clc]
  have manifest : t.manifest = s.manifest := by funext n; simp only [State.manifest, manifests]
  have value : ∀ y, valueTally y t = valueTally y s := by intro y; simp only [valueTally, denom]
  have lines : ∀ l, linesValue l t = linesValue l s := by intro l; simp only [linesValue, denom]
  have counts : ∀ e, queuedCount e t = queuedCount e s := by
    intro e
    cases e <;> simp only [queuedCount, lane]
  have counting : t.countingBags = s.countingBags := by simp only [State.countingBags, lane, rcu]
  have unsent : t.unsentBags = s.unsentBags := by simp only [State.unsentBags, State.manifestsWhere, manifest]
  have queued : laneQueuedRule t = laneQueuedRule s := by funext n; simp only [laneQueuedRule, lane]
  have float : holdsFloat t = holdsFloat s := by funext n x; simp only [holdsFloat, bag, lines]
  simp only [booksRule, balanceRule, retiredRule, strapRule, templateRule, floatRule, confirmedRule, undeclaredRule,
    countingRule, engineRule, outboundRule, State.stockValue, State.bookSum, State.bagsAll, State.tillsAll,
    State.queuedLanes, acc, bags, retired, tills, templates, rcu, bag, denom, slot, lane, value, counts, counting, unsent,
    queued, float]
  congr 3

end Sys2Proof.Machine
end

