-- ==== Sys2Proof/Laws/Lanes.lean ====
section
/-!
SUPPORT. What the operations of the lanes leave alone.
-/

namespace Sys2Proof.Machine

open Sys2Proof

-- One proof at a time: the package is compiled as one text under a memory limit.
set_option Elab.async false

@[simp] theorem addHold_keeps (n : Nat) (c : HoldCause) (s : State) :
    (addHold n c s).sys = s.sys ∧ (addHold n c s).hpt.rx = s.hpt.rx ∧ (addHold n c s).hpt.buffer = s.hpt.buffer ∧
    (addHold n c s).hpt.replies = s.hpt.replies ∧ (addHold n c s).hpt.globalEnable = s.hpt.globalEnable ∧
    (addHold n c s).hpt.classEnables = s.hpt.classEnables ∧
    (addHold n c s).hpt.restartPending = s.hpt.restartPending ∧ (addHold n c s).hpt.sent = s.hpt.sent ∧
    (addHold n c s).ubc.addrs = s.ubc.addrs ∧ (addHold n c s).ubc.panicSel = s.ubc.panicSel ∧
    (addHold n c s).ubc.panicHigh = s.ubc.panicHigh ∧ (addHold n c s).ubc.alarm = s.ubc.alarm ∧
    (addHold n c s).ubc.alarmTimer = s.ubc.alarmTimer ∧ (addHold n c s).ubc.unitErrors = s.ubc.unitErrors ∧
    (addHold n c s).cru = s.cru ∧ (addHold n c s).acu = s.acu ∧ (addHold n c s).bgr = s.bgr ∧
    (addHold n c s).tau = s.tau ∧ (addHold n c s).rcu = s.rcu ∧ (addHold n c s).wcu = s.wcu ∧
    (addHold n c s).csc = s.csc ∧ (addHold n c s).hoc = s.hoc ∧ (addHold n c s).pending = s.pending := by
  unfold addHold
  (try dsimp only); (repeat' split) <;> simp

@[simp] theorem notifyFault_keeps (n : Nat) (cause : FaultCause) (st : LaneState) (ref : Option Nat) (b : Bool) (s : State) :
    (notifyFault n cause st ref b s).sys = s.sys ∧ (notifyFault n cause st ref b s).hpt.rx = s.hpt.rx ∧
    (notifyFault n cause st ref b s).hpt.buffer = s.hpt.buffer ∧
    (notifyFault n cause st ref b s).hpt.replies = s.hpt.replies ∧
    (notifyFault n cause st ref b s).hpt.globalEnable = s.hpt.globalEnable ∧
    (notifyFault n cause st ref b s).hpt.classEnables = s.hpt.classEnables ∧
    (notifyFault n cause st ref b s).hpt.restartPending = s.hpt.restartPending ∧
    (notifyFault n cause st ref b s).hpt.sent = s.hpt.sent ∧ (notifyFault n cause st ref b s).ubc = s.ubc ∧
    (notifyFault n cause st ref b s).cru = s.cru ∧ (notifyFault n cause st ref b s).acu = s.acu ∧
    (notifyFault n cause st ref b s).bgr = s.bgr ∧ (notifyFault n cause st ref b s).tau = s.tau ∧
    (notifyFault n cause st ref b s).clc = s.clc ∧ (notifyFault n cause st ref b s).rcu = s.rcu ∧
    (notifyFault n cause st ref b s).wcu = s.wcu ∧ (notifyFault n cause st ref b s).csc = s.csc ∧
    (notifyFault n cause st ref b s).hoc = s.hoc ∧ (notifyFault n cause st ref b s).pending = s.pending := by
  unfold notifyFault
  simp

@[simp] theorem faultLane_keeps (n : Nat) (cause : FaultCause) (s : State) :
    (faultLane n cause s).sys = s.sys ∧ (faultLane n cause s).hpt.rx = s.hpt.rx ∧
    (faultLane n cause s).hpt.buffer = s.hpt.buffer ∧ (faultLane n cause s).hpt.replies = s.hpt.replies ∧
    (faultLane n cause s).hpt.globalEnable = s.hpt.globalEnable ∧
    (faultLane n cause s).hpt.classEnables = s.hpt.classEnables ∧
    (faultLane n cause s).hpt.restartPending = s.hpt.restartPending ∧ (faultLane n cause s).hpt.sent = s.hpt.sent ∧
    (faultLane n cause s).ubc.addrs = s.ubc.addrs ∧ (faultLane n cause s).ubc.panicSel = s.ubc.panicSel ∧
    (faultLane n cause s).ubc.panicHigh = s.ubc.panicHigh ∧ (faultLane n cause s).ubc.alarm = s.ubc.alarm ∧
    (faultLane n cause s).ubc.alarmTimer = s.ubc.alarmTimer ∧
    (faultLane n cause s).ubc.unitErrors = s.ubc.unitErrors ∧ (faultLane n cause s).cru = s.cru ∧
    (faultLane n cause s).acu = s.acu ∧ (faultLane n cause s).bgr = s.bgr ∧ (faultLane n cause s).tau = s.tau ∧
    (faultLane n cause s).rcu = s.rcu ∧ (faultLane n cause s).wcu = s.wcu ∧ (faultLane n cause s).csc = s.csc ∧
    (faultLane n cause s).hoc = s.hoc ∧ (faultLane n cause s).pending = s.pending := by
  unfold faultLane
  (try dsimp only); (repeat' split) <;> simp

@[simp] theorem completeLane_keeps (n : Nat) (s : State) :
    (completeLane n s).sys = s.sys ∧ (completeLane n s).hpt = s.hpt ∧ (completeLane n s).ubc = s.ubc ∧
    (completeLane n s).cru = s.cru ∧ (completeLane n s).acu = s.acu ∧ (completeLane n s).bgr = s.bgr ∧
    (completeLane n s).tau = s.tau ∧ (completeLane n s).rcu = s.rcu ∧ (completeLane n s).wcu = s.wcu ∧
    (completeLane n s).csc = s.csc ∧ (completeLane n s).hoc = s.hoc ∧ (completeLane n s).pending = s.pending := by
  unfold completeLane
  (try dsimp only); (repeat' split) <;> simp

@[simp] theorem lockdownLanes_keeps (s : State) :
    (lockdownLanes s).sys = s.sys ∧ (lockdownLanes s).hpt.rx = s.hpt.rx ∧
    (lockdownLanes s).hpt.buffer = s.hpt.buffer ∧ (lockdownLanes s).hpt.replies = s.hpt.replies ∧
    (lockdownLanes s).hpt.globalEnable = s.hpt.globalEnable ∧
    (lockdownLanes s).hpt.classEnables = s.hpt.classEnables ∧
    (lockdownLanes s).hpt.restartPending = s.hpt.restartPending ∧ (lockdownLanes s).hpt.sent = s.hpt.sent ∧
    (lockdownLanes s).ubc.addrs = s.ubc.addrs ∧ (lockdownLanes s).ubc.panicSel = s.ubc.panicSel ∧
    (lockdownLanes s).ubc.panicHigh = s.ubc.panicHigh ∧ (lockdownLanes s).ubc.alarm = s.ubc.alarm ∧
    (lockdownLanes s).ubc.alarmTimer = s.ubc.alarmTimer ∧ (lockdownLanes s).ubc.unitErrors = s.ubc.unitErrors ∧
    (lockdownLanes s).cru = s.cru ∧ (lockdownLanes s).acu = s.acu ∧ (lockdownLanes s).bgr = s.bgr ∧
    (lockdownLanes s).tau = s.tau ∧ (lockdownLanes s).rcu = s.rcu ∧ (lockdownLanes s).wcu = s.wcu ∧
    (lockdownLanes s).csc = s.csc ∧ (lockdownLanes s).hoc = s.hoc ∧ (lockdownLanes s).pending = s.pending := by
  unfold lockdownLanes
  exact ⟨foldl_keeps (fun s : State => s.sys) _ (by intros; split <;> simp) _ _,
    foldl_keeps (fun s : State => s.hpt.rx) _ (by intros; split <;> simp) _ _,
    foldl_keeps (fun s : State => s.hpt.buffer) _ (by intros; split <;> simp) _ _,
    foldl_keeps (fun s : State => s.hpt.replies) _ (by intros; split <;> simp) _ _,
    foldl_keeps (fun s : State => s.hpt.globalEnable) _ (by intros; split <;> simp) _ _,
    foldl_keeps (fun s : State => s.hpt.classEnables) _ (by intros; split <;> simp) _ _,
    foldl_keeps (fun s : State => s.hpt.restartPending) _ (by intros; split <;> simp) _ _,
    foldl_keeps (fun s : State => s.hpt.sent) _ (by intros; split <;> simp) _ _,
    foldl_keeps (fun s : State => s.ubc.addrs) _ (by intros; split <;> simp) _ _,
    foldl_keeps (fun s : State => s.ubc.panicSel) _ (by intros; split <;> simp) _ _,
    foldl_keeps (fun s : State => s.ubc.panicHigh) _ (by intros; split <;> simp) _ _,
    foldl_keeps (fun s : State => s.ubc.alarm) _ (by intros; split <;> simp) _ _,
    foldl_keeps (fun s : State => s.ubc.alarmTimer) _ (by intros; split <;> simp) _ _,
    foldl_keeps (fun s : State => s.ubc.unitErrors) _ (by intros; split <;> simp) _ _,
    foldl_keeps (fun s : State => s.cru) _ (by intros; split <;> simp) _ _,
    foldl_keeps (fun s : State => s.acu) _ (by intros; split <;> simp) _ _,
    foldl_keeps (fun s : State => s.bgr) _ (by intros; split <;> simp) _ _,
    foldl_keeps (fun s : State => s.tau) _ (by intros; split <;> simp) _ _,
    foldl_keeps (fun s : State => s.rcu) _ (by intros; split <;> simp) _ _,
    foldl_keeps (fun s : State => s.wcu) _ (by intros; split <;> simp) _ _,
    foldl_keeps (fun s : State => s.csc) _ (by intros; split <;> simp) _ _,
    foldl_keeps (fun s : State => s.hoc) _ (by intros; split <;> simp) _ _,
    foldl_keeps (fun s : State => s.pending) _ (by intros; split <;> simp) _ _⟩

@[simp] theorem haltLanes_keeps (s : State) :
    (haltLanes s).sys = s.sys ∧ (haltLanes s).hpt.rx = s.hpt.rx ∧ (haltLanes s).hpt.buffer = s.hpt.buffer ∧
    (haltLanes s).hpt.replies = s.hpt.replies ∧ (haltLanes s).hpt.globalEnable = s.hpt.globalEnable ∧
    (haltLanes s).hpt.classEnables = s.hpt.classEnables ∧ (haltLanes s).hpt.restartPending = s.hpt.restartPending ∧
    (haltLanes s).hpt.sent = s.hpt.sent ∧ (haltLanes s).ubc.addrs = s.ubc.addrs ∧
    (haltLanes s).ubc.panicSel = s.ubc.panicSel ∧ (haltLanes s).ubc.panicHigh = s.ubc.panicHigh ∧
    (haltLanes s).ubc.alarm = s.ubc.alarm ∧ (haltLanes s).ubc.alarmTimer = s.ubc.alarmTimer ∧
    (haltLanes s).ubc.unitErrors = s.ubc.unitErrors ∧ (haltLanes s).cru = s.cru ∧ (haltLanes s).acu = s.acu ∧
    (haltLanes s).bgr = s.bgr ∧ (haltLanes s).tau = s.tau ∧ (haltLanes s).rcu = s.rcu ∧ (haltLanes s).wcu = s.wcu ∧
    (haltLanes s).csc = s.csc ∧ (haltLanes s).hoc = s.hoc ∧ (haltLanes s).pending = s.pending := by
  unfold haltLanes
  exact ⟨foldl_keeps (fun s : State => s.sys) _ (by intros; simp) _ _,
    foldl_keeps (fun s : State => s.hpt.rx) _ (by intros; simp) _ _,
    foldl_keeps (fun s : State => s.hpt.buffer) _ (by intros; simp) _ _,
    foldl_keeps (fun s : State => s.hpt.replies) _ (by intros; simp) _ _,
    foldl_keeps (fun s : State => s.hpt.globalEnable) _ (by intros; simp) _ _,
    foldl_keeps (fun s : State => s.hpt.classEnables) _ (by intros; simp) _ _,
    foldl_keeps (fun s : State => s.hpt.restartPending) _ (by intros; simp) _ _,
    foldl_keeps (fun s : State => s.hpt.sent) _ (by intros; simp) _ _,
    foldl_keeps (fun s : State => s.ubc.addrs) _ (by intros; simp) _ _,
    foldl_keeps (fun s : State => s.ubc.panicSel) _ (by intros; simp) _ _,
    foldl_keeps (fun s : State => s.ubc.panicHigh) _ (by intros; simp) _ _,
    foldl_keeps (fun s : State => s.ubc.alarm) _ (by intros; simp) _ _,
    foldl_keeps (fun s : State => s.ubc.alarmTimer) _ (by intros; simp) _ _,
    foldl_keeps (fun s : State => s.ubc.unitErrors) _ (by intros; simp) _ _,
    foldl_keeps (fun s : State => s.cru) _ (by intros; simp) _ _,
    foldl_keeps (fun s : State => s.acu) _ (by intros; simp) _ _,
    foldl_keeps (fun s : State => s.bgr) _ (by intros; simp) _ _,
    foldl_keeps (fun s : State => s.tau) _ (by intros; simp) _ _,
    foldl_keeps (fun s : State => s.rcu) _ (by intros; simp) _ _,
    foldl_keeps (fun s : State => s.wcu) _ (by intros; simp) _ _,
    foldl_keeps (fun s : State => s.csc) _ (by intros; simp) _ _,
    foldl_keeps (fun s : State => s.hoc) _ (by intros; simp) _ _,
    foldl_keeps (fun s : State => s.pending) _ (by intros; simp) _ _⟩

@[simp] theorem bagToLane_keeps (n ref : Nat) (b : Bag) (s : State) :
    (bagToLane n ref b s).sys = s.sys ∧ (bagToLane n ref b s).hpt = s.hpt ∧ (bagToLane n ref b s).ubc = s.ubc ∧
    (bagToLane n ref b s).cru = s.cru ∧ (bagToLane n ref b s).acu = s.acu ∧
    (bagToLane n ref b s).bgr.retired = s.bgr.retired ∧ (bagToLane n ref b s).bgr.ranges = s.bgr.ranges ∧
    (bagToLane n ref b s).tau = s.tau ∧ (bagToLane n ref b s).clc = s.clc ∧ (bagToLane n ref b s).rcu = s.rcu ∧
    (bagToLane n ref b s).wcu = s.wcu ∧ (bagToLane n ref b s).csc = s.csc ∧ (bagToLane n ref b s).hoc = s.hoc ∧
    (bagToLane n ref b s).pending = s.pending := by
  unfold bagToLane
  simp

@[simp] theorem strayNote_keeps (n : Nat) (slot : Option Nat) (f : Fitness) (x : Bool) (s : State) :
    (strayNote n slot f x s).sys = s.sys ∧ (strayNote n slot f x s).hpt.rx = s.hpt.rx ∧
    (strayNote n slot f x s).hpt.buffer = s.hpt.buffer ∧ (strayNote n slot f x s).hpt.replies = s.hpt.replies ∧
    (strayNote n slot f x s).hpt.globalEnable = s.hpt.globalEnable ∧
    (strayNote n slot f x s).hpt.classEnables = s.hpt.classEnables ∧
    (strayNote n slot f x s).hpt.restartPending = s.hpt.restartPending ∧
    (strayNote n slot f x s).hpt.sent = s.hpt.sent ∧ (strayNote n slot f x s).ubc = s.ubc ∧
    (strayNote n slot f x s).cru = s.cru ∧ (strayNote n slot f x s).acu = s.acu ∧
    (strayNote n slot f x s).bgr = s.bgr ∧ (strayNote n slot f x s).tau = s.tau ∧
    (strayNote n slot f x s).clc = s.clc ∧ (strayNote n slot f x s).rcu = s.rcu ∧
    (strayNote n slot f x s).wcu = s.wcu ∧ (strayNote n slot f x s).csc = s.csc ∧
    (strayNote n slot f x s).hoc = s.hoc ∧ (strayNote n slot f x s).pending = s.pending := by
  unfold strayNote
  simp

@[simp] theorem stackerNote_keeps (n i strap : Nat) (f : Fitness) (b : Batch) (s : State) :
    (stackerNote n i strap f b s).sys = s.sys ∧ (stackerNote n i strap f b s).hpt.rx = s.hpt.rx ∧
    (stackerNote n i strap f b s).hpt.buffer = s.hpt.buffer ∧
    (stackerNote n i strap f b s).hpt.replies = s.hpt.replies ∧
    (stackerNote n i strap f b s).hpt.globalEnable = s.hpt.globalEnable ∧
    (stackerNote n i strap f b s).hpt.classEnables = s.hpt.classEnables ∧
    (stackerNote n i strap f b s).hpt.restartPending = s.hpt.restartPending ∧
    (stackerNote n i strap f b s).hpt.sent = s.hpt.sent ∧ (stackerNote n i strap f b s).ubc.addrs = s.ubc.addrs ∧
    (stackerNote n i strap f b s).ubc.panicSel = s.ubc.panicSel ∧
    (stackerNote n i strap f b s).ubc.panicHigh = s.ubc.panicHigh ∧
    (stackerNote n i strap f b s).ubc.alarm = s.ubc.alarm ∧
    (stackerNote n i strap f b s).ubc.alarmTimer = s.ubc.alarmTimer ∧
    (stackerNote n i strap f b s).ubc.unitErrors = s.ubc.unitErrors ∧ (stackerNote n i strap f b s).cru = s.cru ∧
    (stackerNote n i strap f b s).acu = s.acu ∧ (stackerNote n i strap f b s).bgr = s.bgr ∧
    (stackerNote n i strap f b s).tau = s.tau ∧ (stackerNote n i strap f b s).rcu = s.rcu ∧
    (stackerNote n i strap f b s).wcu = s.wcu ∧ (stackerNote n i strap f b s).csc = s.csc ∧
    (stackerNote n i strap f b s).hoc = s.hoc ∧ (stackerNote n i strap f b s).pending = s.pending := by
  unfold stackerNote
  (try dsimp only); (repeat' split) <;> simp

@[simp] theorem rejectNote_keeps (n : Nat) (slot : Option Nat) (b : Batch) (s : State) :
    (rejectNote n slot b s).sys = s.sys ∧ (rejectNote n slot b s).hpt.rx = s.hpt.rx ∧
    (rejectNote n slot b s).hpt.buffer = s.hpt.buffer ∧ (rejectNote n slot b s).hpt.replies = s.hpt.replies ∧
    (rejectNote n slot b s).hpt.globalEnable = s.hpt.globalEnable ∧
    (rejectNote n slot b s).hpt.classEnables = s.hpt.classEnables ∧
    (rejectNote n slot b s).hpt.restartPending = s.hpt.restartPending ∧
    (rejectNote n slot b s).hpt.sent = s.hpt.sent ∧ (rejectNote n slot b s).ubc.addrs = s.ubc.addrs ∧
    (rejectNote n slot b s).ubc.panicSel = s.ubc.panicSel ∧ (rejectNote n slot b s).ubc.panicHigh = s.ubc.panicHigh ∧
    (rejectNote n slot b s).ubc.alarm = s.ubc.alarm ∧ (rejectNote n slot b s).ubc.alarmTimer = s.ubc.alarmTimer ∧
    (rejectNote n slot b s).ubc.unitErrors = s.ubc.unitErrors ∧ (rejectNote n slot b s).cru = s.cru ∧
    (rejectNote n slot b s).acu = s.acu ∧ (rejectNote n slot b s).bgr = s.bgr ∧ (rejectNote n slot b s).tau = s.tau ∧
    (rejectNote n slot b s).rcu = s.rcu ∧ (rejectNote n slot b s).wcu = s.wcu ∧ (rejectNote n slot b s).csc = s.csc ∧
    (rejectNote n slot b s).hoc = s.hoc ∧ (rejectNote n slot b s).pending = s.pending := by
  unfold rejectNote
  (try dsimp only); (repeat' split) <;> simp

@[simp] theorem takeNote_keeps (n : Nat) (slot : Option Nat) (f : Fitness) (x : Bool) (s : State) :
    (takeNote n slot f x s).sys = s.sys ∧ (takeNote n slot f x s).hpt.rx = s.hpt.rx ∧
    (takeNote n slot f x s).hpt.buffer = s.hpt.buffer ∧ (takeNote n slot f x s).hpt.replies = s.hpt.replies ∧
    (takeNote n slot f x s).hpt.globalEnable = s.hpt.globalEnable ∧
    (takeNote n slot f x s).hpt.classEnables = s.hpt.classEnables ∧
    (takeNote n slot f x s).hpt.restartPending = s.hpt.restartPending ∧
    (takeNote n slot f x s).hpt.sent = s.hpt.sent ∧ (takeNote n slot f x s).ubc.addrs = s.ubc.addrs ∧
    (takeNote n slot f x s).ubc.panicSel = s.ubc.panicSel ∧ (takeNote n slot f x s).ubc.panicHigh = s.ubc.panicHigh ∧
    (takeNote n slot f x s).ubc.alarm = s.ubc.alarm ∧ (takeNote n slot f x s).ubc.alarmTimer = s.ubc.alarmTimer ∧
    (takeNote n slot f x s).ubc.unitErrors = s.ubc.unitErrors ∧ (takeNote n slot f x s).cru = s.cru ∧
    (takeNote n slot f x s).acu = s.acu ∧ (takeNote n slot f x s).bgr = s.bgr ∧ (takeNote n slot f x s).tau = s.tau ∧
    (takeNote n slot f x s).rcu = s.rcu ∧ (takeNote n slot f x s).wcu = s.wcu ∧ (takeNote n slot f x s).csc = s.csc ∧
    (takeNote n slot f x s).hoc = s.hoc ∧ (takeNote n slot f x s).pending = s.pending := by
  unfold takeNote
  (try dsimp only); (repeat' split) <;> simp

@[simp] theorem emptyPocket_keeps (n : Nat) (p : Pocket) (s : State) :
    (emptyPocket n p s).sys = s.sys ∧ (emptyPocket n p s).hpt = s.hpt ∧ (emptyPocket n p s).ubc = s.ubc ∧
    (emptyPocket n p s).cru = s.cru ∧ (emptyPocket n p s).acu = s.acu ∧ (emptyPocket n p s).bgr = s.bgr ∧
    (emptyPocket n p s).tau = s.tau ∧ (emptyPocket n p s).rcu = s.rcu ∧ (emptyPocket n p s).wcu = s.wcu ∧
    (emptyPocket n p s).csc = s.csc ∧ (emptyPocket n p s).hoc = s.hoc ∧ (emptyPocket n p s).pending = s.pending := by
  unfold emptyPocket
  (try dsimp only); (repeat' split) <;> simp

@[simp] theorem takeJam_keeps (n : Nat) (s : State) :
    (takeJam n s).sys = s.sys ∧ (takeJam n s).hpt.rx = s.hpt.rx ∧ (takeJam n s).hpt.buffer = s.hpt.buffer ∧
    (takeJam n s).hpt.replies = s.hpt.replies ∧ (takeJam n s).hpt.globalEnable = s.hpt.globalEnable ∧
    (takeJam n s).hpt.classEnables = s.hpt.classEnables ∧ (takeJam n s).hpt.restartPending = s.hpt.restartPending ∧
    (takeJam n s).hpt.sent = s.hpt.sent ∧ (takeJam n s).ubc.addrs = s.ubc.addrs ∧
    (takeJam n s).ubc.panicSel = s.ubc.panicSel ∧ (takeJam n s).ubc.panicHigh = s.ubc.panicHigh ∧
    (takeJam n s).ubc.alarm = s.ubc.alarm ∧ (takeJam n s).ubc.alarmTimer = s.ubc.alarmTimer ∧
    (takeJam n s).ubc.unitErrors = s.ubc.unitErrors ∧ (takeJam n s).cru = s.cru ∧ (takeJam n s).acu = s.acu ∧
    (takeJam n s).bgr = s.bgr ∧ (takeJam n s).tau = s.tau ∧ (takeJam n s).rcu = s.rcu ∧ (takeJam n s).wcu = s.wcu ∧
    (takeJam n s).csc = s.csc ∧ (takeJam n s).hoc = s.hoc ∧ (takeJam n s).pending = s.pending := by
  unfold takeJam
  (try dsimp only); (repeat' split) <;> simp

end Sys2Proof.Machine
end

