-- ==== Sys2Proof/Laws/Watch.lean ====
section
/-!
SUPPORT. What the operations of the Watch Unit leave alone.
-/

namespace Sys2Proof.Machine

open Sys2Proof

-- One proof at a time: the package is compiled as one text under a memory limit.
set_option Elab.async false

@[simp] theorem notifyWatch_keeps (f : Firing) (r : WatchResult) (l : List Field) (s : State) :
    (notifyWatch f r l s).sys = s.sys ∧ (notifyWatch f r l s).hpt.rx = s.hpt.rx ∧
    (notifyWatch f r l s).hpt.buffer = s.hpt.buffer ∧ (notifyWatch f r l s).hpt.replies = s.hpt.replies ∧
    (notifyWatch f r l s).hpt.globalEnable = s.hpt.globalEnable ∧
    (notifyWatch f r l s).hpt.classEnables = s.hpt.classEnables ∧
    (notifyWatch f r l s).hpt.restartPending = s.hpt.restartPending ∧ (notifyWatch f r l s).hpt.sent = s.hpt.sent ∧
    (notifyWatch f r l s).ubc = s.ubc ∧ (notifyWatch f r l s).cru = s.cru ∧ (notifyWatch f r l s).acu = s.acu ∧
    (notifyWatch f r l s).bgr = s.bgr ∧ (notifyWatch f r l s).tau = s.tau ∧ (notifyWatch f r l s).clc = s.clc ∧
    (notifyWatch f r l s).rcu = s.rcu ∧ (notifyWatch f r l s).wcu = s.wcu ∧ (notifyWatch f r l s).csc = s.csc ∧
    (notifyWatch f r l s).hoc = s.hoc ∧ (notifyWatch f r l s).pending = s.pending := by
  unfold notifyWatch
  simp

@[simp] theorem takeFiring_keeps (r : WatchResult) (f : Firing) (s : State) :
    (takeFiring r s f).sys = s.sys ∧ (takeFiring r s f).hpt.rx = s.hpt.rx ∧
    (takeFiring r s f).hpt.buffer = s.hpt.buffer ∧ (takeFiring r s f).hpt.replies = s.hpt.replies ∧
    (takeFiring r s f).hpt.globalEnable = s.hpt.globalEnable ∧
    (takeFiring r s f).hpt.classEnables = s.hpt.classEnables ∧
    (takeFiring r s f).hpt.restartPending = s.hpt.restartPending ∧ (takeFiring r s f).hpt.sent = s.hpt.sent ∧
    (takeFiring r s f).ubc.addrs = s.ubc.addrs ∧ (takeFiring r s f).ubc.panicSel = s.ubc.panicSel ∧
    (takeFiring r s f).ubc.panicHigh = s.ubc.panicHigh ∧ (takeFiring r s f).ubc.alarm = s.ubc.alarm ∧
    (takeFiring r s f).ubc.alarmTimer = s.ubc.alarmTimer ∧ (takeFiring r s f).ubc.unitErrors = s.ubc.unitErrors ∧
    (takeFiring r s f).cru = s.cru ∧ (takeFiring r s f).acu = s.acu ∧ (takeFiring r s f).bgr = s.bgr ∧
    (takeFiring r s f).tau.templates = s.tau.templates ∧ (takeFiring r s f).tau.postings = s.tau.postings ∧
    (takeFiring r s f).tau.skimQueue = s.tau.skimQueue ∧ (takeFiring r s f).rcu = s.rcu ∧
    (takeFiring r s f).wcu = s.wcu ∧ (takeFiring r s f).csc = s.csc ∧ (takeFiring r s f).hoc = s.hoc ∧
    (takeFiring r s f).pending = s.pending := by
  unfold takeFiring
  (try dsimp only); (repeat' split) <;> simp

@[simp] theorem offer_keeps (r : WatchResult) (s : State) :
    ((offer r s).1).sys = s.sys ∧ ((offer r s).1).hpt.rx = s.hpt.rx ∧ ((offer r s).1).hpt.buffer = s.hpt.buffer ∧
    ((offer r s).1).hpt.replies = s.hpt.replies ∧ ((offer r s).1).hpt.globalEnable = s.hpt.globalEnable ∧
    ((offer r s).1).hpt.classEnables = s.hpt.classEnables ∧
    ((offer r s).1).hpt.restartPending = s.hpt.restartPending ∧ ((offer r s).1).hpt.sent = s.hpt.sent ∧
    ((offer r s).1).ubc.addrs = s.ubc.addrs ∧ ((offer r s).1).ubc.panicSel = s.ubc.panicSel ∧
    ((offer r s).1).ubc.panicHigh = s.ubc.panicHigh ∧ ((offer r s).1).ubc.alarm = s.ubc.alarm ∧
    ((offer r s).1).ubc.alarmTimer = s.ubc.alarmTimer ∧ ((offer r s).1).ubc.unitErrors = s.ubc.unitErrors ∧
    ((offer r s).1).cru = s.cru ∧ ((offer r s).1).acu = s.acu ∧ ((offer r s).1).bgr = s.bgr ∧
    ((offer r s).1).tau.templates = s.tau.templates ∧ ((offer r s).1).tau.postings = s.tau.postings ∧
    ((offer r s).1).tau.skimQueue = s.tau.skimQueue ∧ ((offer r s).1).rcu = s.rcu ∧
    ((offer r s).1).wcu.auditHold = s.wcu.auditHold ∧ ((offer r s).1).csc = s.csc ∧ ((offer r s).1).hoc = s.hoc ∧
    ((offer r s).1).pending = s.pending := by
  unfold offer
  exact ⟨(foldl_keeps (fun s : State => s.sys) _ (by intros; simp) _ _).trans (by simp),
    (foldl_keeps (fun s : State => s.hpt.rx) _ (by intros; simp) _ _).trans (by simp),
    (foldl_keeps (fun s : State => s.hpt.buffer) _ (by intros; simp) _ _).trans (by simp),
    (foldl_keeps (fun s : State => s.hpt.replies) _ (by intros; simp) _ _).trans (by simp),
    (foldl_keeps (fun s : State => s.hpt.globalEnable) _ (by intros; simp) _ _).trans (by simp),
    (foldl_keeps (fun s : State => s.hpt.classEnables) _ (by intros; simp) _ _).trans (by simp),
    (foldl_keeps (fun s : State => s.hpt.restartPending) _ (by intros; simp) _ _).trans (by simp),
    (foldl_keeps (fun s : State => s.hpt.sent) _ (by intros; simp) _ _).trans (by simp),
    (foldl_keeps (fun s : State => s.ubc.addrs) _ (by intros; simp) _ _).trans (by simp),
    (foldl_keeps (fun s : State => s.ubc.panicSel) _ (by intros; simp) _ _).trans (by simp),
    (foldl_keeps (fun s : State => s.ubc.panicHigh) _ (by intros; simp) _ _).trans (by simp),
    (foldl_keeps (fun s : State => s.ubc.alarm) _ (by intros; simp) _ _).trans (by simp),
    (foldl_keeps (fun s : State => s.ubc.alarmTimer) _ (by intros; simp) _ _).trans (by simp),
    (foldl_keeps (fun s : State => s.ubc.unitErrors) _ (by intros; simp) _ _).trans (by simp),
    (foldl_keeps (fun s : State => s.cru) _ (by intros; simp) _ _).trans (by simp),
    (foldl_keeps (fun s : State => s.acu) _ (by intros; simp) _ _).trans (by simp),
    (foldl_keeps (fun s : State => s.bgr) _ (by intros; simp) _ _).trans (by simp),
    (foldl_keeps (fun s : State => s.tau.templates) _ (by intros; simp) _ _).trans (by simp),
    (foldl_keeps (fun s : State => s.tau.postings) _ (by intros; simp) _ _).trans (by simp),
    (foldl_keeps (fun s : State => s.tau.skimQueue) _ (by intros; simp) _ _).trans (by simp),
    (foldl_keeps (fun s : State => s.rcu) _ (by intros; simp) _ _).trans (by simp),
    (foldl_keeps (fun s : State => s.wcu.auditHold) _ (by intros; simp) _ _).trans (by simp),
    (foldl_keeps (fun s : State => s.csc) _ (by intros; simp) _ _).trans (by simp),
    (foldl_keeps (fun s : State => s.hoc) _ (by intros; simp) _ _).trans (by simp),
    (foldl_keeps (fun s : State => s.pending) _ (by intros; simp) _ _).trans (by simp)⟩

end Sys2Proof.Machine
end

