-- ==== Sys2Proof/Laws/Tills.lean ====
section
/-!
SUPPORT. What the operations of the Till Accounts Unit leave alone.
-/

namespace Sys2Proof.Machine

open Sys2Proof

-- One proof at a time: the package is compiled as one text under a memory limit.
set_option Elab.async false

/-- R1: the value that SET_TEMPLATE's reply carries is an Amount, whatever its lines. -/
theorem templateValue_inRange (l : List SlotLine) (s : State) : amountInRange (templateValue l s) = true := by
  unfold templateValue
  split
  · assumption
  · simp only [amountInRange, Bool.and_eq_true]
    unfold clampAmount maxAmount
    exact ⟨decide_eq_true (by omega), decide_eq_true (by omega)⟩

/-- R80: in range it is the value of the lines. -/
theorem templateValue_eq (l : List SlotLine) (s : State) (h : amountInRange (linesValue l s) = true) :
    templateValue l s = linesValue l s := if_pos h

@[simp] theorem joinSkim_keeps (n : Nat) (s : State) :
    (joinSkim n s).sys = s.sys ∧ (joinSkim n s).hpt.rx = s.hpt.rx ∧ (joinSkim n s).hpt.buffer = s.hpt.buffer ∧
    (joinSkim n s).hpt.replies = s.hpt.replies ∧ (joinSkim n s).hpt.globalEnable = s.hpt.globalEnable ∧
    (joinSkim n s).hpt.classEnables = s.hpt.classEnables ∧ (joinSkim n s).hpt.restartPending = s.hpt.restartPending ∧
    (joinSkim n s).hpt.sent = s.hpt.sent ∧ (joinSkim n s).ubc = s.ubc ∧ (joinSkim n s).cru = s.cru ∧
    (joinSkim n s).acu = s.acu ∧ (joinSkim n s).bgr = s.bgr ∧ (joinSkim n s).tau.tills = s.tau.tills ∧
    (joinSkim n s).tau.templates = s.tau.templates ∧ (joinSkim n s).tau.postings = s.tau.postings ∧
    (joinSkim n s).clc = s.clc ∧ (joinSkim n s).rcu = s.rcu ∧ (joinSkim n s).wcu = s.wcu ∧
    (joinSkim n s).csc = s.csc ∧ (joinSkim n s).hoc = s.hoc ∧ (joinSkim n s).pending = s.pending := by
  unfold joinSkim
  (try dsimp only); (repeat' split) <;> simp

@[simp] theorem leaveSkim_keeps (n : Nat) (s : State) :
    (leaveSkim n s).sys = s.sys ∧ (leaveSkim n s).hpt.rx = s.hpt.rx ∧ (leaveSkim n s).hpt.buffer = s.hpt.buffer ∧
    (leaveSkim n s).hpt.replies = s.hpt.replies ∧ (leaveSkim n s).hpt.globalEnable = s.hpt.globalEnable ∧
    (leaveSkim n s).hpt.classEnables = s.hpt.classEnables ∧
    (leaveSkim n s).hpt.restartPending = s.hpt.restartPending ∧ (leaveSkim n s).hpt.sent = s.hpt.sent ∧
    (leaveSkim n s).ubc = s.ubc ∧ (leaveSkim n s).cru = s.cru ∧ (leaveSkim n s).acu = s.acu ∧
    (leaveSkim n s).bgr = s.bgr ∧ (leaveSkim n s).tau.tills = s.tau.tills ∧
    (leaveSkim n s).tau.templates = s.tau.templates ∧ (leaveSkim n s).tau.postings = s.tau.postings ∧
    (leaveSkim n s).clc = s.clc ∧ (leaveSkim n s).rcu = s.rcu ∧ (leaveSkim n s).wcu = s.wcu ∧
    (leaveSkim n s).csc = s.csc ∧ (leaveSkim n s).hoc = s.hoc ∧ (leaveSkim n s).pending = s.pending := by
  unfold leaveSkim
  (try dsimp only); (repeat' split) <;> simp

@[simp] theorem clearOverLimit_keeps (n : Nat) (s : State) :
    (clearOverLimit n s).sys = s.sys ∧ (clearOverLimit n s).hpt.rx = s.hpt.rx ∧
    (clearOverLimit n s).hpt.buffer = s.hpt.buffer ∧ (clearOverLimit n s).hpt.replies = s.hpt.replies ∧
    (clearOverLimit n s).hpt.globalEnable = s.hpt.globalEnable ∧
    (clearOverLimit n s).hpt.classEnables = s.hpt.classEnables ∧
    (clearOverLimit n s).hpt.restartPending = s.hpt.restartPending ∧ (clearOverLimit n s).hpt.sent = s.hpt.sent ∧
    (clearOverLimit n s).ubc = s.ubc ∧ (clearOverLimit n s).cru = s.cru ∧ (clearOverLimit n s).acu = s.acu ∧
    (clearOverLimit n s).bgr = s.bgr ∧ (clearOverLimit n s).tau.templates = s.tau.templates ∧
    (clearOverLimit n s).tau.postings = s.tau.postings ∧ (clearOverLimit n s).clc = s.clc ∧
    (clearOverLimit n s).rcu = s.rcu ∧ (clearOverLimit n s).wcu = s.wcu ∧ (clearOverLimit n s).csc = s.csc ∧
    (clearOverLimit n s).hoc = s.hoc ∧ (clearOverLimit n s).pending = s.pending := by
  unfold clearOverLimit
  simp

@[simp] theorem overLimitTest_keeps (n : Nat) (s : State) :
    (overLimitTest n s).sys = s.sys ∧ (overLimitTest n s).hpt.rx = s.hpt.rx ∧
    (overLimitTest n s).hpt.buffer = s.hpt.buffer ∧ (overLimitTest n s).hpt.replies = s.hpt.replies ∧
    (overLimitTest n s).hpt.globalEnable = s.hpt.globalEnable ∧
    (overLimitTest n s).hpt.classEnables = s.hpt.classEnables ∧
    (overLimitTest n s).hpt.restartPending = s.hpt.restartPending ∧ (overLimitTest n s).hpt.sent = s.hpt.sent ∧
    (overLimitTest n s).ubc = s.ubc ∧ (overLimitTest n s).cru = s.cru ∧ (overLimitTest n s).acu = s.acu ∧
    (overLimitTest n s).bgr = s.bgr ∧ (overLimitTest n s).tau.templates = s.tau.templates ∧
    (overLimitTest n s).tau.postings = s.tau.postings ∧ (overLimitTest n s).clc = s.clc ∧
    (overLimitTest n s).rcu = s.rcu ∧ (overLimitTest n s).wcu = s.wcu ∧ (overLimitTest n s).csc = s.csc ∧
    (overLimitTest n s).hoc = s.hoc ∧ (overLimitTest n s).pending = s.pending := by
  unfold overLimitTest
  (try dsimp only); (repeat' split) <;> simp

@[simp] theorem notifyOrphan_keeps (p : Posting) (c : OrphanCause) (s : State) :
    (notifyOrphan p c s).sys = s.sys ∧ (notifyOrphan p c s).hpt.rx = s.hpt.rx ∧
    (notifyOrphan p c s).hpt.buffer = s.hpt.buffer ∧ (notifyOrphan p c s).hpt.replies = s.hpt.replies ∧
    (notifyOrphan p c s).hpt.globalEnable = s.hpt.globalEnable ∧
    (notifyOrphan p c s).hpt.classEnables = s.hpt.classEnables ∧
    (notifyOrphan p c s).hpt.restartPending = s.hpt.restartPending ∧ (notifyOrphan p c s).hpt.sent = s.hpt.sent ∧
    (notifyOrphan p c s).ubc = s.ubc ∧ (notifyOrphan p c s).cru = s.cru ∧ (notifyOrphan p c s).acu = s.acu ∧
    (notifyOrphan p c s).bgr = s.bgr ∧ (notifyOrphan p c s).tau = s.tau ∧ (notifyOrphan p c s).clc = s.clc ∧
    (notifyOrphan p c s).rcu = s.rcu ∧ (notifyOrphan p c s).wcu = s.wcu ∧ (notifyOrphan p c s).csc = s.csc ∧
    (notifyOrphan p c s).hoc = s.hoc ∧ (notifyOrphan p c s).pending = s.pending := by
  unfold notifyOrphan
  simp

@[simp] theorem rememberSkim_keeps (p : Posting) (tagNo : Nat) (s : State) :
    (rememberSkim p tagNo s).sys = s.sys ∧ (rememberSkim p tagNo s).hpt.rx = s.hpt.rx ∧
    (rememberSkim p tagNo s).hpt.buffer = s.hpt.buffer ∧ (rememberSkim p tagNo s).hpt.replies = s.hpt.replies ∧
    (rememberSkim p tagNo s).hpt.globalEnable = s.hpt.globalEnable ∧
    (rememberSkim p tagNo s).hpt.classEnables = s.hpt.classEnables ∧
    (rememberSkim p tagNo s).hpt.restartPending = s.hpt.restartPending ∧
    (rememberSkim p tagNo s).hpt.sent = s.hpt.sent ∧ (rememberSkim p tagNo s).ubc = s.ubc ∧
    (rememberSkim p tagNo s).cru = s.cru ∧ (rememberSkim p tagNo s).acu = s.acu ∧
    (rememberSkim p tagNo s).bgr = s.bgr ∧ (rememberSkim p tagNo s).tau.templates = s.tau.templates ∧
    (rememberSkim p tagNo s).tau.postings = s.tau.postings ∧
    (rememberSkim p tagNo s).tau.skimQueue = s.tau.skimQueue ∧ (rememberSkim p tagNo s).clc = s.clc ∧
    (rememberSkim p tagNo s).rcu = s.rcu ∧ (rememberSkim p tagNo s).wcu = s.wcu ∧
    (rememberSkim p tagNo s).csc = s.csc ∧ (rememberSkim p tagNo s).hoc = s.hoc ∧
    (rememberSkim p tagNo s).pending = s.pending := by
  unfold rememberSkim
  (try dsimp only); (repeat' split) <;> simp

@[simp] theorem attachSkim_keeps (p : Posting) (tagNo : Nat) (s : State) :
    (attachSkim p tagNo s).sys = s.sys ∧ (attachSkim p tagNo s).hpt.rx = s.hpt.rx ∧
    (attachSkim p tagNo s).hpt.buffer = s.hpt.buffer ∧ (attachSkim p tagNo s).hpt.replies = s.hpt.replies ∧
    (attachSkim p tagNo s).hpt.globalEnable = s.hpt.globalEnable ∧
    (attachSkim p tagNo s).hpt.classEnables = s.hpt.classEnables ∧
    (attachSkim p tagNo s).hpt.restartPending = s.hpt.restartPending ∧ (attachSkim p tagNo s).hpt.sent = s.hpt.sent ∧
    (attachSkim p tagNo s).ubc.addrs = s.ubc.addrs ∧ (attachSkim p tagNo s).ubc.panicSel = s.ubc.panicSel ∧
    (attachSkim p tagNo s).ubc.panicHigh = s.ubc.panicHigh ∧ (attachSkim p tagNo s).ubc.alarm = s.ubc.alarm ∧
    (attachSkim p tagNo s).ubc.alarmTimer = s.ubc.alarmTimer ∧
    (attachSkim p tagNo s).ubc.unitErrors = s.ubc.unitErrors ∧ (attachSkim p tagNo s).cru = s.cru ∧
    (attachSkim p tagNo s).acu.denoms = s.acu.denoms ∧ (attachSkim p tagNo s).acu.stock = s.acu.stock ∧
    (attachSkim p tagNo s).acu.courier = s.acu.courier ∧
    (attachSkim p tagNo s).acu.unattributed = s.acu.unattributed ∧
    (attachSkim p tagNo s).acu.suspects = s.acu.suspects ∧ (attachSkim p tagNo s).acu.reserved = s.acu.reserved ∧
    (attachSkim p tagNo s).acu.clock = s.acu.clock ∧ (attachSkim p tagNo s).acu.day = s.acu.day ∧
    (attachSkim p tagNo s).acu.businessDate = s.acu.businessDate ∧ (attachSkim p tagNo s).acu.mode = s.acu.mode ∧
    (attachSkim p tagNo s).acu.bandFloor = s.acu.bandFloor ∧ (attachSkim p tagNo s).acu.bandRate = s.acu.bandRate ∧
    (attachSkim p tagNo s).bgr.retired = s.bgr.retired ∧ (attachSkim p tagNo s).bgr.ranges = s.bgr.ranges ∧
    (attachSkim p tagNo s).tau.templates = s.tau.templates ∧ (attachSkim p tagNo s).tau.postings = s.tau.postings ∧
    (attachSkim p tagNo s).clc = s.clc ∧ (attachSkim p tagNo s).rcu = s.rcu ∧ (attachSkim p tagNo s).wcu = s.wcu ∧
    (attachSkim p tagNo s).csc.strongroom = s.csc.strongroom ∧ (attachSkim p tagNo s).csc.policy = s.csc.policy ∧
    (attachSkim p tagNo s).csc.maintenance = s.csc.maintenance ∧ (attachSkim p tagNo s).csc.freeze = s.csc.freeze ∧
    (attachSkim p tagNo s).csc.latch = s.csc.latch ∧ (attachSkim p tagNo s).csc.holdTimer = s.csc.holdTimer ∧
    (attachSkim p tagNo s).csc.holdRunning = s.csc.holdRunning ∧ (attachSkim p tagNo s).hoc = s.hoc ∧
    (attachSkim p tagNo s).pending = s.pending := by
  unfold attachSkim
  (try dsimp only); (repeat' split) <;> simp

@[simp] theorem applyInSession_keeps (p : Posting) (s : State) :
    (applyInSession p s).sys = s.sys ∧ (applyInSession p s).hpt.rx = s.hpt.rx ∧
    (applyInSession p s).hpt.buffer = s.hpt.buffer ∧ (applyInSession p s).hpt.replies = s.hpt.replies ∧
    (applyInSession p s).hpt.globalEnable = s.hpt.globalEnable ∧
    (applyInSession p s).hpt.classEnables = s.hpt.classEnables ∧
    (applyInSession p s).hpt.restartPending = s.hpt.restartPending ∧ (applyInSession p s).hpt.sent = s.hpt.sent ∧
    (applyInSession p s).ubc.addrs = s.ubc.addrs ∧ (applyInSession p s).ubc.panicSel = s.ubc.panicSel ∧
    (applyInSession p s).ubc.panicHigh = s.ubc.panicHigh ∧ (applyInSession p s).ubc.alarm = s.ubc.alarm ∧
    (applyInSession p s).ubc.alarmTimer = s.ubc.alarmTimer ∧ (applyInSession p s).ubc.unitErrors = s.ubc.unitErrors ∧
    (applyInSession p s).cru = s.cru ∧ (applyInSession p s).acu.denoms = s.acu.denoms ∧
    (applyInSession p s).acu.stock = s.acu.stock ∧ (applyInSession p s).acu.courier = s.acu.courier ∧
    (applyInSession p s).acu.unattributed = s.acu.unattributed ∧ (applyInSession p s).acu.suspects = s.acu.suspects ∧
    (applyInSession p s).acu.reserved = s.acu.reserved ∧ (applyInSession p s).acu.clock = s.acu.clock ∧
    (applyInSession p s).acu.day = s.acu.day ∧ (applyInSession p s).acu.businessDate = s.acu.businessDate ∧
    (applyInSession p s).acu.mode = s.acu.mode ∧ (applyInSession p s).acu.bandFloor = s.acu.bandFloor ∧
    (applyInSession p s).acu.bandRate = s.acu.bandRate ∧ (applyInSession p s).bgr.retired = s.bgr.retired ∧
    (applyInSession p s).bgr.ranges = s.bgr.ranges ∧ (applyInSession p s).tau.templates = s.tau.templates ∧
    (applyInSession p s).tau.postings = s.tau.postings ∧ (applyInSession p s).clc = s.clc ∧
    (applyInSession p s).rcu = s.rcu ∧ (applyInSession p s).wcu = s.wcu ∧
    (applyInSession p s).csc.strongroom = s.csc.strongroom ∧ (applyInSession p s).csc.policy = s.csc.policy ∧
    (applyInSession p s).csc.maintenance = s.csc.maintenance ∧ (applyInSession p s).csc.freeze = s.csc.freeze ∧
    (applyInSession p s).csc.latch = s.csc.latch ∧ (applyInSession p s).csc.holdTimer = s.csc.holdTimer ∧
    (applyInSession p s).csc.holdRunning = s.csc.holdRunning ∧ (applyInSession p s).hoc = s.hoc ∧
    (applyInSession p s).pending = s.pending := by
  unfold applyInSession
  (try dsimp only); (repeat' split) <;> simp

@[simp] theorem applyLate_keeps (p : Posting) (s : State) :
    (applyLate p s).sys = s.sys ∧ (applyLate p s).hpt.rx = s.hpt.rx ∧ (applyLate p s).hpt.buffer = s.hpt.buffer ∧
    (applyLate p s).hpt.replies = s.hpt.replies ∧ (applyLate p s).hpt.globalEnable = s.hpt.globalEnable ∧
    (applyLate p s).hpt.classEnables = s.hpt.classEnables ∧
    (applyLate p s).hpt.restartPending = s.hpt.restartPending ∧ (applyLate p s).hpt.sent = s.hpt.sent ∧
    (applyLate p s).ubc = s.ubc ∧ (applyLate p s).cru = s.cru ∧ (applyLate p s).acu = s.acu ∧
    (applyLate p s).bgr = s.bgr ∧ (applyLate p s).tau.templates = s.tau.templates ∧
    (applyLate p s).tau.postings = s.tau.postings ∧ (applyLate p s).tau.skimQueue = s.tau.skimQueue ∧
    (applyLate p s).clc = s.clc ∧ (applyLate p s).rcu = s.rcu ∧ (applyLate p s).wcu = s.wcu ∧
    (applyLate p s).csc = s.csc ∧ (applyLate p s).hoc = s.hoc ∧ (applyLate p s).pending = s.pending := by
  unfold applyLate
  simp

@[simp] theorem applyOrphan_keeps (p : Posting) (s : State) :
    (applyOrphan p s).sys = s.sys ∧ (applyOrphan p s).hpt.rx = s.hpt.rx ∧
    (applyOrphan p s).hpt.buffer = s.hpt.buffer ∧ (applyOrphan p s).hpt.replies = s.hpt.replies ∧
    (applyOrphan p s).hpt.globalEnable = s.hpt.globalEnable ∧
    (applyOrphan p s).hpt.classEnables = s.hpt.classEnables ∧
    (applyOrphan p s).hpt.restartPending = s.hpt.restartPending ∧ (applyOrphan p s).hpt.sent = s.hpt.sent ∧
    (applyOrphan p s).ubc = s.ubc ∧ (applyOrphan p s).cru = s.cru ∧ (applyOrphan p s).acu.denoms = s.acu.denoms ∧
    (applyOrphan p s).acu.stock = s.acu.stock ∧ (applyOrphan p s).acu.accountability = s.acu.accountability ∧
    (applyOrphan p s).acu.suspects = s.acu.suspects ∧ (applyOrphan p s).acu.journal = s.acu.journal ∧
    (applyOrphan p s).acu.nextSeq = s.acu.nextSeq ∧ (applyOrphan p s).acu.reserved = s.acu.reserved ∧
    (applyOrphan p s).acu.clock = s.acu.clock ∧ (applyOrphan p s).acu.day = s.acu.day ∧
    (applyOrphan p s).acu.businessDate = s.acu.businessDate ∧ (applyOrphan p s).acu.mode = s.acu.mode ∧
    (applyOrphan p s).acu.bandFloor = s.acu.bandFloor ∧ (applyOrphan p s).acu.bandRate = s.acu.bandRate ∧
    (applyOrphan p s).bgr = s.bgr ∧ (applyOrphan p s).tau.templates = s.tau.templates ∧
    (applyOrphan p s).tau.postings = s.tau.postings ∧ (applyOrphan p s).tau.skimQueue = s.tau.skimQueue ∧
    (applyOrphan p s).clc = s.clc ∧ (applyOrphan p s).rcu = s.rcu ∧ (applyOrphan p s).wcu = s.wcu ∧
    (applyOrphan p s).csc = s.csc ∧ (applyOrphan p s).hoc = s.hoc ∧ (applyOrphan p s).pending = s.pending := by
  unfold applyOrphan
  simp

@[simp] theorem applyPosting_keeps (p : Posting) (s : State) :
    (applyPosting s p).sys = s.sys ∧ (applyPosting s p).hpt.rx = s.hpt.rx ∧
    (applyPosting s p).hpt.buffer = s.hpt.buffer ∧ (applyPosting s p).hpt.replies = s.hpt.replies ∧
    (applyPosting s p).hpt.globalEnable = s.hpt.globalEnable ∧
    (applyPosting s p).hpt.classEnables = s.hpt.classEnables ∧
    (applyPosting s p).hpt.restartPending = s.hpt.restartPending ∧ (applyPosting s p).hpt.sent = s.hpt.sent ∧
    (applyPosting s p).ubc.addrs = s.ubc.addrs ∧ (applyPosting s p).ubc.panicSel = s.ubc.panicSel ∧
    (applyPosting s p).ubc.panicHigh = s.ubc.panicHigh ∧ (applyPosting s p).ubc.alarm = s.ubc.alarm ∧
    (applyPosting s p).ubc.alarmTimer = s.ubc.alarmTimer ∧ (applyPosting s p).ubc.unitErrors = s.ubc.unitErrors ∧
    (applyPosting s p).cru = s.cru ∧ (applyPosting s p).acu.denoms = s.acu.denoms ∧
    (applyPosting s p).acu.stock = s.acu.stock ∧ (applyPosting s p).acu.suspects = s.acu.suspects ∧
    (applyPosting s p).acu.reserved = s.acu.reserved ∧ (applyPosting s p).acu.clock = s.acu.clock ∧
    (applyPosting s p).acu.day = s.acu.day ∧ (applyPosting s p).acu.businessDate = s.acu.businessDate ∧
    (applyPosting s p).acu.mode = s.acu.mode ∧ (applyPosting s p).acu.bandFloor = s.acu.bandFloor ∧
    (applyPosting s p).acu.bandRate = s.acu.bandRate ∧ (applyPosting s p).bgr.retired = s.bgr.retired ∧
    (applyPosting s p).bgr.ranges = s.bgr.ranges ∧ (applyPosting s p).tau.templates = s.tau.templates ∧
    (applyPosting s p).tau.postings = s.tau.postings ∧ (applyPosting s p).clc = s.clc ∧
    (applyPosting s p).rcu = s.rcu ∧ (applyPosting s p).wcu = s.wcu ∧
    (applyPosting s p).csc.strongroom = s.csc.strongroom ∧ (applyPosting s p).csc.policy = s.csc.policy ∧
    (applyPosting s p).csc.maintenance = s.csc.maintenance ∧ (applyPosting s p).csc.freeze = s.csc.freeze ∧
    (applyPosting s p).csc.latch = s.csc.latch ∧ (applyPosting s p).csc.holdTimer = s.csc.holdTimer ∧
    (applyPosting s p).csc.holdRunning = s.csc.holdRunning ∧ (applyPosting s p).hoc = s.hoc ∧
    (applyPosting s p).pending = s.pending := by
  unfold applyPosting
  (repeat' split) <;> simp

@[simp] theorem snoopTill_keeps (n : Nat) (s : State) :
    (snoopTill n s).sys = s.sys ∧ (snoopTill n s).hpt.rx = s.hpt.rx ∧ (snoopTill n s).hpt.buffer = s.hpt.buffer ∧
    (snoopTill n s).hpt.replies = s.hpt.replies ∧ (snoopTill n s).hpt.globalEnable = s.hpt.globalEnable ∧
    (snoopTill n s).hpt.classEnables = s.hpt.classEnables ∧
    (snoopTill n s).hpt.restartPending = s.hpt.restartPending ∧ (snoopTill n s).hpt.sent = s.hpt.sent ∧
    (snoopTill n s).ubc.addrs = s.ubc.addrs ∧ (snoopTill n s).ubc.panicSel = s.ubc.panicSel ∧
    (snoopTill n s).ubc.panicHigh = s.ubc.panicHigh ∧ (snoopTill n s).ubc.alarm = s.ubc.alarm ∧
    (snoopTill n s).ubc.alarmTimer = s.ubc.alarmTimer ∧ (snoopTill n s).ubc.unitErrors = s.ubc.unitErrors ∧
    (snoopTill n s).cru = s.cru ∧ (snoopTill n s).acu.denoms = s.acu.denoms ∧
    (snoopTill n s).acu.stock = s.acu.stock ∧ (snoopTill n s).acu.suspects = s.acu.suspects ∧
    (snoopTill n s).acu.reserved = s.acu.reserved ∧ (snoopTill n s).acu.clock = s.acu.clock ∧
    (snoopTill n s).acu.day = s.acu.day ∧ (snoopTill n s).acu.businessDate = s.acu.businessDate ∧
    (snoopTill n s).acu.mode = s.acu.mode ∧ (snoopTill n s).acu.bandFloor = s.acu.bandFloor ∧
    (snoopTill n s).acu.bandRate = s.acu.bandRate ∧ (snoopTill n s).bgr.retired = s.bgr.retired ∧
    (snoopTill n s).bgr.ranges = s.bgr.ranges ∧ (snoopTill n s).tau.templates = s.tau.templates ∧
    (snoopTill n s).clc = s.clc ∧ (snoopTill n s).rcu = s.rcu ∧ (snoopTill n s).wcu = s.wcu ∧
    (snoopTill n s).csc.strongroom = s.csc.strongroom ∧ (snoopTill n s).csc.policy = s.csc.policy ∧
    (snoopTill n s).csc.maintenance = s.csc.maintenance ∧ (snoopTill n s).csc.freeze = s.csc.freeze ∧
    (snoopTill n s).csc.latch = s.csc.latch ∧ (snoopTill n s).csc.holdTimer = s.csc.holdTimer ∧
    (snoopTill n s).csc.holdRunning = s.csc.holdRunning ∧ (snoopTill n s).hoc = s.hoc ∧
    (snoopTill n s).pending = s.pending := by
  unfold snoopTill
  exact ⟨(foldl_keeps (fun s : State => s.sys) _ (by intros; simp) _ _).trans (by simp),
    (foldl_keeps (fun s : State => s.hpt.rx) _ (by intros; simp) _ _).trans (by simp),
    (foldl_keeps (fun s : State => s.hpt.buffer) _ (by intros; simp) _ _).trans (by simp),
    (foldl_keeps (fun s : State => s.hpt.replies) _ (by intros; simp) _ _).trans (by simp),
    (foldl_keeps (fun s : State => s.hpt.globalEnable) _ (by intros; simp) _ _).trans (by simp),
    (foldl_keeps (fun s : State => s.hpt.classEnables) _ (by intros; simp) _ _).trans (by simp),
    (foldl_keeps (fun s : State => s.hpt.restartPending) _ (by intros; simp) _ _).trans (by simp),
    (foldl_keeps (fun s : State => s.hpt.sent) _ (by intros; simp) _ _).trans (by simp),
    (foldl_keeps (fun s : State => s.ubc.addrs) _ (by intros; simp) _ _).trans (by simp),
    (foldl_keeps (fun s : State => s.ubc.panicSel) _ (by intros; simp) _ _).trans (by simp),
    (foldl_keeps (fun s : State => s.ubc.panicHigh) _ (by intros; simp) _ _).trans (by simp),
    (foldl_keeps (fun s : State => s.ubc.alarm) _ (by intros; simp) _ _).trans (by simp),
    (foldl_keeps (fun s : State => s.ubc.alarmTimer) _ (by intros; simp) _ _).trans (by simp),
    (foldl_keeps (fun s : State => s.ubc.unitErrors) _ (by intros; simp) _ _).trans (by simp),
    (foldl_keeps (fun s : State => s.cru) _ (by intros; simp) _ _).trans (by simp),
    (foldl_keeps (fun s : State => s.acu.denoms) _ (by intros; simp) _ _).trans (by simp),
    (foldl_keeps (fun s : State => s.acu.stock) _ (by intros; simp) _ _).trans (by simp),
    (foldl_keeps (fun s : State => s.acu.suspects) _ (by intros; simp) _ _).trans (by simp),
    (foldl_keeps (fun s : State => s.acu.reserved) _ (by intros; simp) _ _).trans (by simp),
    (foldl_keeps (fun s : State => s.acu.clock) _ (by intros; simp) _ _).trans (by simp),
    (foldl_keeps (fun s : State => s.acu.day) _ (by intros; simp) _ _).trans (by simp),
    (foldl_keeps (fun s : State => s.acu.businessDate) _ (by intros; simp) _ _).trans (by simp),
    (foldl_keeps (fun s : State => s.acu.mode) _ (by intros; simp) _ _).trans (by simp),
    (foldl_keeps (fun s : State => s.acu.bandFloor) _ (by intros; simp) _ _).trans (by simp),
    (foldl_keeps (fun s : State => s.acu.bandRate) _ (by intros; simp) _ _).trans (by simp),
    (foldl_keeps (fun s : State => s.bgr.retired) _ (by intros; simp) _ _).trans (by simp),
    (foldl_keeps (fun s : State => s.bgr.ranges) _ (by intros; simp) _ _).trans (by simp),
    (foldl_keeps (fun s : State => s.tau.templates) _ (by intros; simp) _ _).trans (by simp),
    (foldl_keeps (fun s : State => s.clc) _ (by intros; simp) _ _).trans (by simp),
    (foldl_keeps (fun s : State => s.rcu) _ (by intros; simp) _ _).trans (by simp),
    (foldl_keeps (fun s : State => s.wcu) _ (by intros; simp) _ _).trans (by simp),
    (foldl_keeps (fun s : State => s.csc.strongroom) _ (by intros; simp) _ _).trans (by simp),
    (foldl_keeps (fun s : State => s.csc.policy) _ (by intros; simp) _ _).trans (by simp),
    (foldl_keeps (fun s : State => s.csc.maintenance) _ (by intros; simp) _ _).trans (by simp),
    (foldl_keeps (fun s : State => s.csc.freeze) _ (by intros; simp) _ _).trans (by simp),
    (foldl_keeps (fun s : State => s.csc.latch) _ (by intros; simp) _ _).trans (by simp),
    (foldl_keeps (fun s : State => s.csc.holdTimer) _ (by intros; simp) _ _).trans (by simp),
    (foldl_keeps (fun s : State => s.csc.holdRunning) _ (by intros; simp) _ _).trans (by simp),
    (foldl_keeps (fun s : State => s.hoc) _ (by intros; simp) _ _).trans (by simp),
    (foldl_keeps (fun s : State => s.pending) _ (by intros; simp) _ _).trans (by simp)⟩

@[simp] theorem applyOldest_keeps (s : State) :
    (applyOldest s).sys = s.sys ∧ (applyOldest s).hpt.rx = s.hpt.rx ∧ (applyOldest s).hpt.buffer = s.hpt.buffer ∧
    (applyOldest s).hpt.replies = s.hpt.replies ∧ (applyOldest s).hpt.globalEnable = s.hpt.globalEnable ∧
    (applyOldest s).hpt.classEnables = s.hpt.classEnables ∧
    (applyOldest s).hpt.restartPending = s.hpt.restartPending ∧ (applyOldest s).hpt.sent = s.hpt.sent ∧
    (applyOldest s).ubc.addrs = s.ubc.addrs ∧ (applyOldest s).ubc.panicSel = s.ubc.panicSel ∧
    (applyOldest s).ubc.panicHigh = s.ubc.panicHigh ∧ (applyOldest s).ubc.alarm = s.ubc.alarm ∧
    (applyOldest s).ubc.alarmTimer = s.ubc.alarmTimer ∧ (applyOldest s).ubc.unitErrors = s.ubc.unitErrors ∧
    (applyOldest s).cru = s.cru ∧ (applyOldest s).acu.denoms = s.acu.denoms ∧
    (applyOldest s).acu.stock = s.acu.stock ∧ (applyOldest s).acu.suspects = s.acu.suspects ∧
    (applyOldest s).acu.reserved = s.acu.reserved ∧ (applyOldest s).acu.clock = s.acu.clock ∧
    (applyOldest s).acu.day = s.acu.day ∧ (applyOldest s).acu.businessDate = s.acu.businessDate ∧
    (applyOldest s).acu.mode = s.acu.mode ∧ (applyOldest s).acu.bandFloor = s.acu.bandFloor ∧
    (applyOldest s).acu.bandRate = s.acu.bandRate ∧ (applyOldest s).bgr.retired = s.bgr.retired ∧
    (applyOldest s).bgr.ranges = s.bgr.ranges ∧ (applyOldest s).tau.templates = s.tau.templates ∧
    (applyOldest s).clc = s.clc ∧ (applyOldest s).rcu = s.rcu ∧ (applyOldest s).wcu = s.wcu ∧
    (applyOldest s).csc.strongroom = s.csc.strongroom ∧ (applyOldest s).csc.policy = s.csc.policy ∧
    (applyOldest s).csc.maintenance = s.csc.maintenance ∧ (applyOldest s).csc.freeze = s.csc.freeze ∧
    (applyOldest s).csc.latch = s.csc.latch ∧ (applyOldest s).csc.holdTimer = s.csc.holdTimer ∧
    (applyOldest s).csc.holdRunning = s.csc.holdRunning ∧ (applyOldest s).hoc = s.hoc ∧
    (applyOldest s).pending = s.pending := by
  unfold applyOldest
  (try dsimp only); (repeat' split) <;> simp

@[simp] theorem skimSearch_keeps (tagNo : Nat) (s : State) :
    (skimSearch tagNo s).sys = s.sys ∧ (skimSearch tagNo s).hpt.rx = s.hpt.rx ∧
    (skimSearch tagNo s).hpt.buffer = s.hpt.buffer ∧ (skimSearch tagNo s).hpt.replies = s.hpt.replies ∧
    (skimSearch tagNo s).hpt.globalEnable = s.hpt.globalEnable ∧
    (skimSearch tagNo s).hpt.classEnables = s.hpt.classEnables ∧
    (skimSearch tagNo s).hpt.restartPending = s.hpt.restartPending ∧ (skimSearch tagNo s).hpt.sent = s.hpt.sent ∧
    (skimSearch tagNo s).ubc.addrs = s.ubc.addrs ∧ (skimSearch tagNo s).ubc.panicSel = s.ubc.panicSel ∧
    (skimSearch tagNo s).ubc.panicHigh = s.ubc.panicHigh ∧ (skimSearch tagNo s).ubc.alarm = s.ubc.alarm ∧
    (skimSearch tagNo s).ubc.alarmTimer = s.ubc.alarmTimer ∧ (skimSearch tagNo s).ubc.unitErrors = s.ubc.unitErrors ∧
    (skimSearch tagNo s).cru = s.cru ∧ (skimSearch tagNo s).acu.denoms = s.acu.denoms ∧
    (skimSearch tagNo s).acu.stock = s.acu.stock ∧ (skimSearch tagNo s).acu.suspects = s.acu.suspects ∧
    (skimSearch tagNo s).acu.reserved = s.acu.reserved ∧ (skimSearch tagNo s).acu.clock = s.acu.clock ∧
    (skimSearch tagNo s).acu.day = s.acu.day ∧ (skimSearch tagNo s).acu.businessDate = s.acu.businessDate ∧
    (skimSearch tagNo s).acu.mode = s.acu.mode ∧ (skimSearch tagNo s).acu.bandFloor = s.acu.bandFloor ∧
    (skimSearch tagNo s).acu.bandRate = s.acu.bandRate ∧ (skimSearch tagNo s).bgr.retired = s.bgr.retired ∧
    (skimSearch tagNo s).bgr.ranges = s.bgr.ranges ∧ (skimSearch tagNo s).tau.templates = s.tau.templates ∧
    (skimSearch tagNo s).clc = s.clc ∧ (skimSearch tagNo s).rcu = s.rcu ∧ (skimSearch tagNo s).wcu = s.wcu ∧
    (skimSearch tagNo s).csc.strongroom = s.csc.strongroom ∧ (skimSearch tagNo s).csc.policy = s.csc.policy ∧
    (skimSearch tagNo s).csc.maintenance = s.csc.maintenance ∧ (skimSearch tagNo s).csc.freeze = s.csc.freeze ∧
    (skimSearch tagNo s).csc.latch = s.csc.latch ∧ (skimSearch tagNo s).csc.holdTimer = s.csc.holdTimer ∧
    (skimSearch tagNo s).csc.holdRunning = s.csc.holdRunning ∧ (skimSearch tagNo s).hoc = s.hoc ∧
    (skimSearch tagNo s).pending = s.pending := by
  unfold skimSearch
  (try dsimp only); (repeat' split) <;> simp

@[simp] theorem removePending_keeps (x : TakenSkim) (s : State) :
    (removePending x s).sys = s.sys ∧ (removePending x s).hpt = s.hpt ∧ (removePending x s).ubc = s.ubc ∧
    (removePending x s).cru = s.cru ∧ (removePending x s).acu = s.acu ∧ (removePending x s).bgr = s.bgr ∧
    (removePending x s).tau.templates = s.tau.templates ∧ (removePending x s).tau.postings = s.tau.postings ∧
    (removePending x s).tau.skimQueue = s.tau.skimQueue ∧ (removePending x s).clc = s.clc ∧
    (removePending x s).rcu = s.rcu ∧ (removePending x s).wcu = s.wcu ∧ (removePending x s).csc = s.csc ∧
    (removePending x s).hoc = s.hoc ∧ (removePending x s).pending = s.pending := by
  unfold removePending
  simp

@[simp] theorem countDrop_keeps (x : TakenSkim) (s : State) :
    (countDrop x s).sys = s.sys ∧ (countDrop x s).hpt.rx = s.hpt.rx ∧ (countDrop x s).hpt.buffer = s.hpt.buffer ∧
    (countDrop x s).hpt.replies = s.hpt.replies ∧ (countDrop x s).hpt.globalEnable = s.hpt.globalEnable ∧
    (countDrop x s).hpt.classEnables = s.hpt.classEnables ∧
    (countDrop x s).hpt.restartPending = s.hpt.restartPending ∧ (countDrop x s).hpt.sent = s.hpt.sent ∧
    (countDrop x s).ubc = s.ubc ∧ (countDrop x s).cru = s.cru ∧ (countDrop x s).acu = s.acu ∧
    (countDrop x s).bgr = s.bgr ∧ (countDrop x s).tau.templates = s.tau.templates ∧
    (countDrop x s).tau.postings = s.tau.postings ∧ (countDrop x s).clc = s.clc ∧ (countDrop x s).rcu = s.rcu ∧
    (countDrop x s).wcu = s.wcu ∧ (countDrop x s).csc = s.csc ∧ (countDrop x s).hoc = s.hoc ∧
    (countDrop x s).pending = s.pending := by
  unfold countDrop
  (try dsimp only); (repeat' split) <;> simp

@[simp] theorem announceResult_keeps (n : Nat) (s : State) :
    (announceResult n s).sys = s.sys ∧ (announceResult n s).hpt.rx = s.hpt.rx ∧
    (announceResult n s).hpt.buffer = s.hpt.buffer ∧ (announceResult n s).hpt.replies = s.hpt.replies ∧
    (announceResult n s).hpt.globalEnable = s.hpt.globalEnable ∧
    (announceResult n s).hpt.classEnables = s.hpt.classEnables ∧
    (announceResult n s).hpt.restartPending = s.hpt.restartPending ∧ (announceResult n s).hpt.sent = s.hpt.sent ∧
    (announceResult n s).ubc.addrs = s.ubc.addrs ∧ (announceResult n s).ubc.panicSel = s.ubc.panicSel ∧
    (announceResult n s).ubc.panicHigh = s.ubc.panicHigh ∧ (announceResult n s).ubc.alarm = s.ubc.alarm ∧
    (announceResult n s).ubc.alarmTimer = s.ubc.alarmTimer ∧ (announceResult n s).ubc.unitErrors = s.ubc.unitErrors ∧
    (announceResult n s).cru = s.cru ∧ (announceResult n s).acu = s.acu ∧ (announceResult n s).bgr = s.bgr ∧
    (announceResult n s).tau.templates = s.tau.templates ∧ (announceResult n s).tau.postings = s.tau.postings ∧
    (announceResult n s).tau.skimQueue = s.tau.skimQueue ∧ (announceResult n s).rcu = s.rcu ∧
    (announceResult n s).wcu.auditHold = s.wcu.auditHold ∧ (announceResult n s).csc = s.csc ∧
    (announceResult n s).hoc = s.hoc ∧ (announceResult n s).pending = s.pending := by
  unfold announceResult
  simp

@[simp] theorem snoopFor_keeps (b : Bag) (s : State) :
    (snoopFor b s).sys = s.sys ∧ (snoopFor b s).hpt.rx = s.hpt.rx ∧ (snoopFor b s).hpt.buffer = s.hpt.buffer ∧
    (snoopFor b s).hpt.replies = s.hpt.replies ∧ (snoopFor b s).hpt.globalEnable = s.hpt.globalEnable ∧
    (snoopFor b s).hpt.classEnables = s.hpt.classEnables ∧ (snoopFor b s).hpt.restartPending = s.hpt.restartPending ∧
    (snoopFor b s).hpt.sent = s.hpt.sent ∧ (snoopFor b s).ubc.addrs = s.ubc.addrs ∧
    (snoopFor b s).ubc.panicSel = s.ubc.panicSel ∧ (snoopFor b s).ubc.panicHigh = s.ubc.panicHigh ∧
    (snoopFor b s).ubc.alarm = s.ubc.alarm ∧ (snoopFor b s).ubc.alarmTimer = s.ubc.alarmTimer ∧
    (snoopFor b s).ubc.unitErrors = s.ubc.unitErrors ∧ (snoopFor b s).cru = s.cru ∧
    (snoopFor b s).acu.denoms = s.acu.denoms ∧ (snoopFor b s).acu.stock = s.acu.stock ∧
    (snoopFor b s).acu.suspects = s.acu.suspects ∧ (snoopFor b s).acu.reserved = s.acu.reserved ∧
    (snoopFor b s).acu.clock = s.acu.clock ∧ (snoopFor b s).acu.day = s.acu.day ∧
    (snoopFor b s).acu.businessDate = s.acu.businessDate ∧ (snoopFor b s).acu.mode = s.acu.mode ∧
    (snoopFor b s).acu.bandFloor = s.acu.bandFloor ∧ (snoopFor b s).acu.bandRate = s.acu.bandRate ∧
    (snoopFor b s).bgr.retired = s.bgr.retired ∧ (snoopFor b s).bgr.ranges = s.bgr.ranges ∧
    (snoopFor b s).tau.templates = s.tau.templates ∧ (snoopFor b s).clc = s.clc ∧ (snoopFor b s).rcu = s.rcu ∧
    (snoopFor b s).wcu = s.wcu ∧ (snoopFor b s).csc.strongroom = s.csc.strongroom ∧
    (snoopFor b s).csc.policy = s.csc.policy ∧ (snoopFor b s).csc.maintenance = s.csc.maintenance ∧
    (snoopFor b s).csc.freeze = s.csc.freeze ∧ (snoopFor b s).csc.latch = s.csc.latch ∧
    (snoopFor b s).csc.holdTimer = s.csc.holdTimer ∧ (snoopFor b s).csc.holdRunning = s.csc.holdRunning ∧
    (snoopFor b s).hoc = s.hoc ∧ (snoopFor b s).pending = s.pending := by
  unfold snoopFor
  (repeat' split) <;> simp

end Sys2Proof.Machine
end

