-- ==== Sys2Proof/Laws/Handover.lean ====
section
/-!
SUPPORT. What the operations of the Handover Controller leave alone.
-/

namespace Sys2Proof.Machine

open Sys2Proof

-- One proof at a time: the package is compiled as one text under a memory limit.
set_option Elab.async false

@[simp] theorem closeManifest_keeps (n : Nat) (m : Manifest) (st : ManifestState) (c : CloseCause) (s : State) :
    (closeManifest n m st c s).sys = s.sys ∧ (closeManifest n m st c s).hpt.rx = s.hpt.rx ∧
    (closeManifest n m st c s).hpt.buffer = s.hpt.buffer ∧ (closeManifest n m st c s).hpt.replies = s.hpt.replies ∧
    (closeManifest n m st c s).hpt.globalEnable = s.hpt.globalEnable ∧
    (closeManifest n m st c s).hpt.classEnables = s.hpt.classEnables ∧
    (closeManifest n m st c s).hpt.restartPending = s.hpt.restartPending ∧
    (closeManifest n m st c s).hpt.sent = s.hpt.sent ∧ (closeManifest n m st c s).ubc = s.ubc ∧
    (closeManifest n m st c s).cru = s.cru ∧ (closeManifest n m st c s).acu = s.acu ∧
    (closeManifest n m st c s).bgr = s.bgr ∧ (closeManifest n m st c s).tau = s.tau ∧
    (closeManifest n m st c s).clc = s.clc ∧ (closeManifest n m st c s).rcu = s.rcu ∧
    (closeManifest n m st c s).wcu = s.wcu ∧ (closeManifest n m st c s).csc = s.csc ∧
    (closeManifest n m st c s).pending = s.pending := by
  unfold closeManifest
  simp

@[simp] theorem abortHandover_keeps (s : State) :
    (abortHandover s).sys = s.sys ∧ (abortHandover s).hpt.rx = s.hpt.rx ∧
    (abortHandover s).hpt.buffer = s.hpt.buffer ∧ (abortHandover s).hpt.replies = s.hpt.replies ∧
    (abortHandover s).hpt.globalEnable = s.hpt.globalEnable ∧
    (abortHandover s).hpt.classEnables = s.hpt.classEnables ∧
    (abortHandover s).hpt.restartPending = s.hpt.restartPending ∧ (abortHandover s).hpt.sent = s.hpt.sent ∧
    (abortHandover s).ubc = s.ubc ∧ (abortHandover s).cru = s.cru ∧ (abortHandover s).acu = s.acu ∧
    (abortHandover s).bgr = s.bgr ∧ (abortHandover s).tau = s.tau ∧ (abortHandover s).clc = s.clc ∧
    (abortHandover s).rcu = s.rcu ∧ (abortHandover s).wcu = s.wcu ∧ (abortHandover s).csc = s.csc ∧
    (abortHandover s).pending = s.pending := by
  unfold abortHandover
  (repeat' split) <;> simp

@[simp] theorem notifyUnexpected_keeps (k r : Nat) (v : Option (List Nat)) (s : State) :
    (notifyUnexpected k r v s).sys = s.sys ∧ (notifyUnexpected k r v s).hpt.rx = s.hpt.rx ∧
    (notifyUnexpected k r v s).hpt.buffer = s.hpt.buffer ∧ (notifyUnexpected k r v s).hpt.replies = s.hpt.replies ∧
    (notifyUnexpected k r v s).hpt.globalEnable = s.hpt.globalEnable ∧
    (notifyUnexpected k r v s).hpt.classEnables = s.hpt.classEnables ∧
    (notifyUnexpected k r v s).hpt.restartPending = s.hpt.restartPending ∧
    (notifyUnexpected k r v s).hpt.sent = s.hpt.sent ∧ (notifyUnexpected k r v s).ubc = s.ubc ∧
    (notifyUnexpected k r v s).cru = s.cru ∧ (notifyUnexpected k r v s).acu = s.acu ∧
    (notifyUnexpected k r v s).bgr = s.bgr ∧ (notifyUnexpected k r v s).tau = s.tau ∧
    (notifyUnexpected k r v s).clc = s.clc ∧ (notifyUnexpected k r v s).rcu = s.rcu ∧
    (notifyUnexpected k r v s).wcu = s.wcu ∧ (notifyUnexpected k r v s).csc = s.csc ∧
    (notifyUnexpected k r v s).hoc = s.hoc ∧ (notifyUnexpected k r v s).pending = s.pending := by
  unfold notifyUnexpected
  simp

@[simp] theorem startTest_keeps (k : Nat) (cls : CredClass) (s : State) :
    (startTest k cls s).sys = s.sys ∧ (startTest k cls s).hpt.rx = s.hpt.rx ∧
    (startTest k cls s).hpt.buffer = s.hpt.buffer ∧ (startTest k cls s).hpt.replies = s.hpt.replies ∧
    (startTest k cls s).hpt.globalEnable = s.hpt.globalEnable ∧
    (startTest k cls s).hpt.classEnables = s.hpt.classEnables ∧
    (startTest k cls s).hpt.restartPending = s.hpt.restartPending ∧ (startTest k cls s).hpt.sent = s.hpt.sent ∧
    (startTest k cls s).ubc = s.ubc ∧ (startTest k cls s).cru = s.cru ∧ (startTest k cls s).acu = s.acu ∧
    (startTest k cls s).bgr = s.bgr ∧ (startTest k cls s).tau = s.tau ∧ (startTest k cls s).clc = s.clc ∧
    (startTest k cls s).rcu = s.rcu ∧ (startTest k cls s).wcu = s.wcu ∧ (startTest k cls s).csc = s.csc ∧
    (startTest k cls s).hoc.closedOrder = s.hoc.closedOrder ∧ (startTest k cls s).pending = s.pending := by
  unfold startTest
  (try dsimp only); (repeat' split) <;> simp

@[simp] theorem acceptHandover_keeps (n : Nat) (m : Manifest) (s : State) :
    (acceptHandover n m s).sys = s.sys ∧ (acceptHandover n m s).hpt.rx = s.hpt.rx ∧
    (acceptHandover n m s).hpt.buffer = s.hpt.buffer ∧ (acceptHandover n m s).hpt.replies = s.hpt.replies ∧
    (acceptHandover n m s).hpt.globalEnable = s.hpt.globalEnable ∧
    (acceptHandover n m s).hpt.classEnables = s.hpt.classEnables ∧
    (acceptHandover n m s).hpt.restartPending = s.hpt.restartPending ∧ (acceptHandover n m s).hpt.sent = s.hpt.sent ∧
    (acceptHandover n m s).ubc = s.ubc ∧ (acceptHandover n m s).cru = s.cru ∧ (acceptHandover n m s).acu = s.acu ∧
    (acceptHandover n m s).bgr = s.bgr ∧ (acceptHandover n m s).tau = s.tau ∧ (acceptHandover n m s).clc = s.clc ∧
    (acceptHandover n m s).rcu = s.rcu ∧ (acceptHandover n m s).wcu = s.wcu ∧ (acceptHandover n m s).csc = s.csc ∧
    (acceptHandover n m s).pending = s.pending := by
  unfold acceptHandover
  (try dsimp only); (repeat' split) <;> simp

@[simp] theorem presentedAtHatch_keeps (k : Nat) (cls : CredClass) (s : State) :
    (presentedAtHatch k cls s).sys = s.sys ∧ (presentedAtHatch k cls s).hpt.rx = s.hpt.rx ∧
    (presentedAtHatch k cls s).hpt.buffer = s.hpt.buffer ∧ (presentedAtHatch k cls s).hpt.replies = s.hpt.replies ∧
    (presentedAtHatch k cls s).hpt.globalEnable = s.hpt.globalEnable ∧
    (presentedAtHatch k cls s).hpt.classEnables = s.hpt.classEnables ∧
    (presentedAtHatch k cls s).hpt.restartPending = s.hpt.restartPending ∧
    (presentedAtHatch k cls s).hpt.sent = s.hpt.sent ∧ (presentedAtHatch k cls s).ubc = s.ubc ∧
    (presentedAtHatch k cls s).cru = s.cru ∧ (presentedAtHatch k cls s).acu = s.acu ∧
    (presentedAtHatch k cls s).bgr = s.bgr ∧ (presentedAtHatch k cls s).tau = s.tau ∧
    (presentedAtHatch k cls s).clc = s.clc ∧ (presentedAtHatch k cls s).rcu = s.rcu ∧
    (presentedAtHatch k cls s).wcu = s.wcu ∧ (presentedAtHatch k cls s).csc = s.csc ∧
    (presentedAtHatch k cls s).pending = s.pending := by
  unfold presentedAtHatch
  (repeat' split) <;> simp

@[simp] theorem expireHandover_keeps (s : State) :
    (expireHandover s).sys = s.sys ∧ (expireHandover s).hpt.rx = s.hpt.rx ∧
    (expireHandover s).hpt.buffer = s.hpt.buffer ∧ (expireHandover s).hpt.replies = s.hpt.replies ∧
    (expireHandover s).hpt.globalEnable = s.hpt.globalEnable ∧
    (expireHandover s).hpt.classEnables = s.hpt.classEnables ∧
    (expireHandover s).hpt.restartPending = s.hpt.restartPending ∧ (expireHandover s).hpt.sent = s.hpt.sent ∧
    (expireHandover s).ubc = s.ubc ∧ (expireHandover s).cru = s.cru ∧ (expireHandover s).acu = s.acu ∧
    (expireHandover s).bgr = s.bgr ∧ (expireHandover s).tau = s.tau ∧ (expireHandover s).clc = s.clc ∧
    (expireHandover s).rcu = s.rcu ∧ (expireHandover s).wcu = s.wcu ∧ (expireHandover s).csc = s.csc ∧
    (expireHandover s).pending = s.pending := by
  unfold expireHandover
  (repeat' split) <;> simp

@[simp] theorem refuseScan_keeps (t r : Option Nat) (x : ScanReason) (s : State) :
    (refuseScan t r x s).sys = s.sys ∧ (refuseScan t r x s).hpt.rx = s.hpt.rx ∧
    (refuseScan t r x s).hpt.buffer = s.hpt.buffer ∧ (refuseScan t r x s).hpt.replies = s.hpt.replies ∧
    (refuseScan t r x s).hpt.globalEnable = s.hpt.globalEnable ∧
    (refuseScan t r x s).hpt.classEnables = s.hpt.classEnables ∧
    (refuseScan t r x s).hpt.restartPending = s.hpt.restartPending ∧ (refuseScan t r x s).hpt.sent = s.hpt.sent ∧
    (refuseScan t r x s).ubc.addrs = s.ubc.addrs ∧ (refuseScan t r x s).ubc.panicSel = s.ubc.panicSel ∧
    (refuseScan t r x s).ubc.panicHigh = s.ubc.panicHigh ∧ (refuseScan t r x s).ubc.alarm = s.ubc.alarm ∧
    (refuseScan t r x s).ubc.alarmTimer = s.ubc.alarmTimer ∧ (refuseScan t r x s).ubc.unitErrors = s.ubc.unitErrors ∧
    (refuseScan t r x s).cru = s.cru ∧ (refuseScan t r x s).acu = s.acu ∧ (refuseScan t r x s).bgr = s.bgr ∧
    (refuseScan t r x s).tau = s.tau ∧ (refuseScan t r x s).clc = s.clc ∧ (refuseScan t r x s).rcu = s.rcu ∧
    (refuseScan t r x s).wcu = s.wcu ∧ (refuseScan t r x s).csc = s.csc ∧ (refuseScan t r x s).hoc = s.hoc ∧
    (refuseScan t r x s).pending = s.pending := by
  unfold refuseScan
  simp

@[simp] theorem notifyDuplicate_keeps (t r : Nat) (s : State) :
    (notifyDuplicate t r s).sys = s.sys ∧ (notifyDuplicate t r s).hpt.rx = s.hpt.rx ∧
    (notifyDuplicate t r s).hpt.buffer = s.hpt.buffer ∧ (notifyDuplicate t r s).hpt.replies = s.hpt.replies ∧
    (notifyDuplicate t r s).hpt.globalEnable = s.hpt.globalEnable ∧
    (notifyDuplicate t r s).hpt.classEnables = s.hpt.classEnables ∧
    (notifyDuplicate t r s).hpt.restartPending = s.hpt.restartPending ∧
    (notifyDuplicate t r s).hpt.sent = s.hpt.sent ∧ (notifyDuplicate t r s).ubc = s.ubc ∧
    (notifyDuplicate t r s).cru = s.cru ∧ (notifyDuplicate t r s).acu = s.acu ∧ (notifyDuplicate t r s).bgr = s.bgr ∧
    (notifyDuplicate t r s).tau = s.tau ∧ (notifyDuplicate t r s).clc = s.clc ∧ (notifyDuplicate t r s).rcu = s.rcu ∧
    (notifyDuplicate t r s).wcu = s.wcu ∧ (notifyDuplicate t r s).csc = s.csc ∧ (notifyDuplicate t r s).hoc = s.hoc ∧
    (notifyDuplicate t r s).pending = s.pending := by
  unfold notifyDuplicate
  simp

@[simp] theorem scanOutbound_keeps (n : Nat) (m : Manifest) (o : OutItem) (t : Nat) (s : State) :
    (scanOutbound n m o t s).sys = s.sys ∧ (scanOutbound n m o t s).hpt.rx = s.hpt.rx ∧
    (scanOutbound n m o t s).hpt.buffer = s.hpt.buffer ∧ (scanOutbound n m o t s).hpt.replies = s.hpt.replies ∧
    (scanOutbound n m o t s).hpt.globalEnable = s.hpt.globalEnable ∧
    (scanOutbound n m o t s).hpt.classEnables = s.hpt.classEnables ∧
    (scanOutbound n m o t s).hpt.restartPending = s.hpt.restartPending ∧
    (scanOutbound n m o t s).hpt.sent = s.hpt.sent ∧ (scanOutbound n m o t s).ubc.addrs = s.ubc.addrs ∧
    (scanOutbound n m o t s).ubc.panicSel = s.ubc.panicSel ∧
    (scanOutbound n m o t s).ubc.panicHigh = s.ubc.panicHigh ∧ (scanOutbound n m o t s).ubc.alarm = s.ubc.alarm ∧
    (scanOutbound n m o t s).ubc.alarmTimer = s.ubc.alarmTimer ∧
    (scanOutbound n m o t s).ubc.unitErrors = s.ubc.unitErrors ∧ (scanOutbound n m o t s).cru = s.cru ∧
    (scanOutbound n m o t s).acu.denoms = s.acu.denoms ∧ (scanOutbound n m o t s).acu.stock = s.acu.stock ∧
    (scanOutbound n m o t s).acu.courier = s.acu.courier ∧
    (scanOutbound n m o t s).acu.unattributed = s.acu.unattributed ∧
    (scanOutbound n m o t s).acu.suspects = s.acu.suspects ∧ (scanOutbound n m o t s).acu.reserved = s.acu.reserved ∧
    (scanOutbound n m o t s).acu.clock = s.acu.clock ∧ (scanOutbound n m o t s).acu.day = s.acu.day ∧
    (scanOutbound n m o t s).acu.businessDate = s.acu.businessDate ∧ (scanOutbound n m o t s).acu.mode = s.acu.mode ∧
    (scanOutbound n m o t s).acu.bandFloor = s.acu.bandFloor ∧
    (scanOutbound n m o t s).acu.bandRate = s.acu.bandRate ∧ (scanOutbound n m o t s).bgr.ranges = s.bgr.ranges ∧
    (scanOutbound n m o t s).tau.tills = s.tau.tills ∧ (scanOutbound n m o t s).tau.templates = s.tau.templates ∧
    (scanOutbound n m o t s).tau.postings = s.tau.postings ∧
    (scanOutbound n m o t s).tau.skimQueue = s.tau.skimQueue ∧ (scanOutbound n m o t s).clc = s.clc ∧
    (scanOutbound n m o t s).rcu = s.rcu ∧ (scanOutbound n m o t s).wcu = s.wcu ∧
    (scanOutbound n m o t s).csc.strongroom = s.csc.strongroom ∧ (scanOutbound n m o t s).csc.policy = s.csc.policy ∧
    (scanOutbound n m o t s).csc.maintenance = s.csc.maintenance ∧
    (scanOutbound n m o t s).csc.freeze = s.csc.freeze ∧ (scanOutbound n m o t s).csc.latch = s.csc.latch ∧
    (scanOutbound n m o t s).csc.holdTimer = s.csc.holdTimer ∧
    (scanOutbound n m o t s).csc.holdRunning = s.csc.holdRunning ∧
    (scanOutbound n m o t s).hoc.closedOrder = s.hoc.closedOrder ∧ (scanOutbound n m o t s).pending = s.pending := by
  unfold scanOutbound
  (try dsimp only); (repeat' split) <;> simp

@[simp] theorem scanInbound_keeps (n : Nat) (m : Manifest) (i : InItem) (s : State) :
    (scanInbound n m i s).sys = s.sys ∧ (scanInbound n m i s).hpt.rx = s.hpt.rx ∧
    (scanInbound n m i s).hpt.buffer = s.hpt.buffer ∧ (scanInbound n m i s).hpt.replies = s.hpt.replies ∧
    (scanInbound n m i s).hpt.globalEnable = s.hpt.globalEnable ∧
    (scanInbound n m i s).hpt.classEnables = s.hpt.classEnables ∧
    (scanInbound n m i s).hpt.restartPending = s.hpt.restartPending ∧ (scanInbound n m i s).hpt.sent = s.hpt.sent ∧
    (scanInbound n m i s).ubc.addrs = s.ubc.addrs ∧ (scanInbound n m i s).ubc.panicSel = s.ubc.panicSel ∧
    (scanInbound n m i s).ubc.panicHigh = s.ubc.panicHigh ∧ (scanInbound n m i s).ubc.alarm = s.ubc.alarm ∧
    (scanInbound n m i s).ubc.alarmTimer = s.ubc.alarmTimer ∧
    (scanInbound n m i s).ubc.unitErrors = s.ubc.unitErrors ∧ (scanInbound n m i s).cru = s.cru ∧
    (scanInbound n m i s).acu.denoms = s.acu.denoms ∧ (scanInbound n m i s).acu.stock = s.acu.stock ∧
    (scanInbound n m i s).acu.courier = s.acu.courier ∧ (scanInbound n m i s).acu.unattributed = s.acu.unattributed ∧
    (scanInbound n m i s).acu.suspects = s.acu.suspects ∧ (scanInbound n m i s).acu.reserved = s.acu.reserved ∧
    (scanInbound n m i s).acu.clock = s.acu.clock ∧ (scanInbound n m i s).acu.day = s.acu.day ∧
    (scanInbound n m i s).acu.businessDate = s.acu.businessDate ∧ (scanInbound n m i s).acu.mode = s.acu.mode ∧
    (scanInbound n m i s).acu.bandFloor = s.acu.bandFloor ∧ (scanInbound n m i s).acu.bandRate = s.acu.bandRate ∧
    (scanInbound n m i s).bgr.ranges = s.bgr.ranges ∧ (scanInbound n m i s).tau.tills = s.tau.tills ∧
    (scanInbound n m i s).tau.templates = s.tau.templates ∧ (scanInbound n m i s).tau.postings = s.tau.postings ∧
    (scanInbound n m i s).tau.skimQueue = s.tau.skimQueue ∧ (scanInbound n m i s).clc = s.clc ∧
    (scanInbound n m i s).rcu = s.rcu ∧ (scanInbound n m i s).wcu = s.wcu ∧
    (scanInbound n m i s).csc.strongroom = s.csc.strongroom ∧ (scanInbound n m i s).csc.policy = s.csc.policy ∧
    (scanInbound n m i s).csc.maintenance = s.csc.maintenance ∧ (scanInbound n m i s).csc.freeze = s.csc.freeze ∧
    (scanInbound n m i s).csc.latch = s.csc.latch ∧ (scanInbound n m i s).csc.holdTimer = s.csc.holdTimer ∧
    (scanInbound n m i s).csc.holdRunning = s.csc.holdRunning ∧
    (scanInbound n m i s).hoc.closedOrder = s.hoc.closedOrder ∧ (scanInbound n m i s).pending = s.pending := by
  unfold scanInbound
  dsimp only
  split
  · simp
  split
  · simp
  rename_i h
  have h2 := allocate_keeps _ _ _ (Option.ite_none_right_eq_some.mp h).2
  split <;> simp [h2]

@[simp] theorem takeScan_keeps (t : Option Nat) (s : State) :
    (takeScan t s).sys = s.sys ∧ (takeScan t s).hpt.rx = s.hpt.rx ∧ (takeScan t s).hpt.buffer = s.hpt.buffer ∧
    (takeScan t s).hpt.replies = s.hpt.replies ∧ (takeScan t s).hpt.globalEnable = s.hpt.globalEnable ∧
    (takeScan t s).hpt.classEnables = s.hpt.classEnables ∧ (takeScan t s).hpt.restartPending = s.hpt.restartPending ∧
    (takeScan t s).hpt.sent = s.hpt.sent ∧ (takeScan t s).ubc.addrs = s.ubc.addrs ∧
    (takeScan t s).ubc.panicSel = s.ubc.panicSel ∧ (takeScan t s).ubc.panicHigh = s.ubc.panicHigh ∧
    (takeScan t s).ubc.alarm = s.ubc.alarm ∧ (takeScan t s).ubc.alarmTimer = s.ubc.alarmTimer ∧
    (takeScan t s).ubc.unitErrors = s.ubc.unitErrors ∧ (takeScan t s).cru = s.cru ∧
    (takeScan t s).acu.denoms = s.acu.denoms ∧ (takeScan t s).acu.stock = s.acu.stock ∧
    (takeScan t s).acu.courier = s.acu.courier ∧ (takeScan t s).acu.unattributed = s.acu.unattributed ∧
    (takeScan t s).acu.suspects = s.acu.suspects ∧ (takeScan t s).acu.reserved = s.acu.reserved ∧
    (takeScan t s).acu.clock = s.acu.clock ∧ (takeScan t s).acu.day = s.acu.day ∧
    (takeScan t s).acu.businessDate = s.acu.businessDate ∧ (takeScan t s).acu.mode = s.acu.mode ∧
    (takeScan t s).acu.bandFloor = s.acu.bandFloor ∧ (takeScan t s).acu.bandRate = s.acu.bandRate ∧
    (takeScan t s).bgr.ranges = s.bgr.ranges ∧ (takeScan t s).tau.tills = s.tau.tills ∧
    (takeScan t s).tau.templates = s.tau.templates ∧ (takeScan t s).tau.postings = s.tau.postings ∧
    (takeScan t s).tau.skimQueue = s.tau.skimQueue ∧ (takeScan t s).clc = s.clc ∧ (takeScan t s).rcu = s.rcu ∧
    (takeScan t s).wcu = s.wcu ∧ (takeScan t s).csc.strongroom = s.csc.strongroom ∧
    (takeScan t s).csc.policy = s.csc.policy ∧ (takeScan t s).csc.maintenance = s.csc.maintenance ∧
    (takeScan t s).csc.freeze = s.csc.freeze ∧ (takeScan t s).csc.latch = s.csc.latch ∧
    (takeScan t s).csc.holdTimer = s.csc.holdTimer ∧ (takeScan t s).csc.holdRunning = s.csc.holdRunning ∧
    (takeScan t s).hoc.closedOrder = s.hoc.closedOrder ∧ (takeScan t s).pending = s.pending := by
  unfold takeScan
  (repeat' split) <;> simp

end Sys2Proof.Machine
end

