-- ==== Sys2Proof/Laws/Custody.lean ====
section
/-!
SUPPORT. What the operations of the Custody Controller leave alone.
-/

namespace Sys2Proof.Machine

open Sys2Proof

-- One proof at a time: the package is compiled as one text under a memory limit.
set_option Elab.async false

@[simp] theorem putDoor_keeps (d : DoorName) (x : Door) (s : State) :
    (putDoor d x s).sys = s.sys ∧ (putDoor d x s).hpt.rx = s.hpt.rx ∧ (putDoor d x s).hpt.buffer = s.hpt.buffer ∧
    (putDoor d x s).hpt.replies = s.hpt.replies ∧ (putDoor d x s).hpt.globalEnable = s.hpt.globalEnable ∧
    (putDoor d x s).hpt.classEnables = s.hpt.classEnables ∧
    (putDoor d x s).hpt.restartPending = s.hpt.restartPending ∧ (putDoor d x s).hpt.sent = s.hpt.sent ∧
    (putDoor d x s).ubc.addrs = s.ubc.addrs ∧ (putDoor d x s).ubc.panicSel = s.ubc.panicSel ∧
    (putDoor d x s).ubc.panicHigh = s.ubc.panicHigh ∧ (putDoor d x s).ubc.alarm = s.ubc.alarm ∧
    (putDoor d x s).ubc.alarmTimer = s.ubc.alarmTimer ∧ (putDoor d x s).ubc.unitErrors = s.ubc.unitErrors ∧
    (putDoor d x s).cru = s.cru ∧ (putDoor d x s).acu = s.acu ∧ (putDoor d x s).bgr = s.bgr ∧
    (putDoor d x s).tau = s.tau ∧ (putDoor d x s).clc = s.clc ∧ (putDoor d x s).rcu = s.rcu ∧
    (putDoor d x s).wcu = s.wcu ∧ (putDoor d x s).csc.policy = s.csc.policy ∧
    (putDoor d x s).csc.maintenance = s.csc.maintenance ∧ (putDoor d x s).csc.freeze = s.csc.freeze ∧
    (putDoor d x s).csc.latch = s.csc.latch ∧ (putDoor d x s).csc.holdTimer = s.csc.holdTimer ∧
    (putDoor d x s).csc.holdRunning = s.csc.holdRunning ∧ (putDoor d x s).hoc = s.hoc ∧
    (putDoor d x s).pending = s.pending := by
  unfold putDoor
  (try dsimp only); (repeat' split) <;> simp

@[simp] theorem secureDoor_keeps (d : DoorName) (s : State) :
    (secureDoor d s).sys = s.sys ∧ (secureDoor d s).hpt.rx = s.hpt.rx ∧ (secureDoor d s).hpt.buffer = s.hpt.buffer ∧
    (secureDoor d s).hpt.replies = s.hpt.replies ∧ (secureDoor d s).hpt.globalEnable = s.hpt.globalEnable ∧
    (secureDoor d s).hpt.classEnables = s.hpt.classEnables ∧
    (secureDoor d s).hpt.restartPending = s.hpt.restartPending ∧ (secureDoor d s).hpt.sent = s.hpt.sent ∧
    (secureDoor d s).ubc.addrs = s.ubc.addrs ∧ (secureDoor d s).ubc.panicSel = s.ubc.panicSel ∧
    (secureDoor d s).ubc.panicHigh = s.ubc.panicHigh ∧ (secureDoor d s).ubc.alarm = s.ubc.alarm ∧
    (secureDoor d s).ubc.alarmTimer = s.ubc.alarmTimer ∧ (secureDoor d s).ubc.unitErrors = s.ubc.unitErrors ∧
    (secureDoor d s).cru = s.cru ∧ (secureDoor d s).acu = s.acu ∧ (secureDoor d s).bgr = s.bgr ∧
    (secureDoor d s).tau = s.tau ∧ (secureDoor d s).clc = s.clc ∧ (secureDoor d s).rcu = s.rcu ∧
    (secureDoor d s).wcu = s.wcu ∧ (secureDoor d s).csc.policy = s.csc.policy ∧
    (secureDoor d s).csc.maintenance = s.csc.maintenance ∧ (secureDoor d s).csc.freeze = s.csc.freeze ∧
    (secureDoor d s).csc.latch = s.csc.latch ∧ (secureDoor d s).csc.holdTimer = s.csc.holdTimer ∧
    (secureDoor d s).csc.holdRunning = s.csc.holdRunning ∧ (secureDoor d s).hoc = s.hoc ∧
    (secureDoor d s).pending = s.pending := by
  unfold secureDoor
  (try dsimp only); (repeat' split) <;> simp

@[simp] theorem releaseDoor_keeps (d : DoorName) (s : State) :
    (releaseDoor d s).sys = s.sys ∧ (releaseDoor d s).hpt.rx = s.hpt.rx ∧
    (releaseDoor d s).hpt.buffer = s.hpt.buffer ∧ (releaseDoor d s).hpt.replies = s.hpt.replies ∧
    (releaseDoor d s).hpt.globalEnable = s.hpt.globalEnable ∧
    (releaseDoor d s).hpt.classEnables = s.hpt.classEnables ∧
    (releaseDoor d s).hpt.restartPending = s.hpt.restartPending ∧ (releaseDoor d s).hpt.sent = s.hpt.sent ∧
    (releaseDoor d s).ubc.addrs = s.ubc.addrs ∧ (releaseDoor d s).ubc.panicSel = s.ubc.panicSel ∧
    (releaseDoor d s).ubc.panicHigh = s.ubc.panicHigh ∧ (releaseDoor d s).ubc.alarm = s.ubc.alarm ∧
    (releaseDoor d s).ubc.alarmTimer = s.ubc.alarmTimer ∧ (releaseDoor d s).ubc.unitErrors = s.ubc.unitErrors ∧
    (releaseDoor d s).cru = s.cru ∧ (releaseDoor d s).acu = s.acu ∧ (releaseDoor d s).bgr = s.bgr ∧
    (releaseDoor d s).tau = s.tau ∧ (releaseDoor d s).clc = s.clc ∧ (releaseDoor d s).rcu = s.rcu ∧
    (releaseDoor d s).wcu = s.wcu ∧ (releaseDoor d s).csc.policy = s.csc.policy ∧
    (releaseDoor d s).csc.maintenance = s.csc.maintenance ∧ (releaseDoor d s).csc.freeze = s.csc.freeze ∧
    (releaseDoor d s).csc.latch = s.csc.latch ∧ (releaseDoor d s).csc.holdTimer = s.csc.holdTimer ∧
    (releaseDoor d s).csc.holdRunning = s.csc.holdRunning ∧ (releaseDoor d s).hoc = s.hoc ∧
    (releaseDoor d s).pending = s.pending := by
  unfold releaseDoor
  simp

@[simp] theorem confirmDoor_keeps (s : State) :
    (confirmDoor s).sys = s.sys ∧ (confirmDoor s).hpt.rx = s.hpt.rx ∧ (confirmDoor s).hpt.buffer = s.hpt.buffer ∧
    (confirmDoor s).hpt.replies = s.hpt.replies ∧ (confirmDoor s).hpt.globalEnable = s.hpt.globalEnable ∧
    (confirmDoor s).hpt.classEnables = s.hpt.classEnables ∧
    (confirmDoor s).hpt.restartPending = s.hpt.restartPending ∧ (confirmDoor s).hpt.sent = s.hpt.sent ∧
    (confirmDoor s).ubc.addrs = s.ubc.addrs ∧ (confirmDoor s).ubc.panicSel = s.ubc.panicSel ∧
    (confirmDoor s).ubc.panicHigh = s.ubc.panicHigh ∧ (confirmDoor s).ubc.alarm = s.ubc.alarm ∧
    (confirmDoor s).ubc.alarmTimer = s.ubc.alarmTimer ∧ (confirmDoor s).ubc.unitErrors = s.ubc.unitErrors ∧
    (confirmDoor s).cru = s.cru ∧ (confirmDoor s).acu = s.acu ∧ (confirmDoor s).bgr = s.bgr ∧
    (confirmDoor s).tau = s.tau ∧ (confirmDoor s).clc = s.clc ∧ (confirmDoor s).rcu = s.rcu ∧
    (confirmDoor s).wcu = s.wcu ∧ (confirmDoor s).csc.policy = s.csc.policy ∧
    (confirmDoor s).csc.maintenance = s.csc.maintenance ∧ (confirmDoor s).csc.freeze = s.csc.freeze ∧
    (confirmDoor s).csc.latch = s.csc.latch ∧ (confirmDoor s).csc.holdTimer = s.csc.holdTimer ∧
    (confirmDoor s).csc.holdRunning = s.csc.holdRunning ∧ (confirmDoor s).hoc = s.hoc ∧
    (confirmDoor s).pending = s.pending := by
  unfold confirmDoor
  simp

@[simp] theorem endDelay_keeps (d : DoorName) (s : State) :
    (endDelay d s).sys = s.sys ∧ (endDelay d s).hpt.rx = s.hpt.rx ∧ (endDelay d s).hpt.buffer = s.hpt.buffer ∧
    (endDelay d s).hpt.replies = s.hpt.replies ∧ (endDelay d s).hpt.globalEnable = s.hpt.globalEnable ∧
    (endDelay d s).hpt.classEnables = s.hpt.classEnables ∧ (endDelay d s).hpt.restartPending = s.hpt.restartPending ∧
    (endDelay d s).hpt.sent = s.hpt.sent ∧ (endDelay d s).ubc.addrs = s.ubc.addrs ∧
    (endDelay d s).ubc.panicSel = s.ubc.panicSel ∧ (endDelay d s).ubc.panicHigh = s.ubc.panicHigh ∧
    (endDelay d s).ubc.alarm = s.ubc.alarm ∧ (endDelay d s).ubc.alarmTimer = s.ubc.alarmTimer ∧
    (endDelay d s).ubc.unitErrors = s.ubc.unitErrors ∧ (endDelay d s).cru = s.cru ∧ (endDelay d s).acu = s.acu ∧
    (endDelay d s).bgr = s.bgr ∧ (endDelay d s).tau = s.tau ∧ (endDelay d s).clc = s.clc ∧
    (endDelay d s).rcu = s.rcu ∧ (endDelay d s).wcu = s.wcu ∧ (endDelay d s).csc.policy = s.csc.policy ∧
    (endDelay d s).csc.maintenance = s.csc.maintenance ∧ (endDelay d s).csc.freeze = s.csc.freeze ∧
    (endDelay d s).csc.latch = s.csc.latch ∧ (endDelay d s).csc.holdTimer = s.csc.holdTimer ∧
    (endDelay d s).csc.holdRunning = s.csc.holdRunning ∧ (endDelay d s).hoc = s.hoc ∧
    (endDelay d s).pending = s.pending := by
  unfold endDelay
  (repeat' split) <;> simp

@[simp] theorem grantDelay_keeps (d : DoorName) (n : Nat) (s : State) :
    (grantDelay d n s).sys = s.sys ∧ (grantDelay d n s).hpt.rx = s.hpt.rx ∧
    (grantDelay d n s).hpt.buffer = s.hpt.buffer ∧ (grantDelay d n s).hpt.replies = s.hpt.replies ∧
    (grantDelay d n s).hpt.globalEnable = s.hpt.globalEnable ∧
    (grantDelay d n s).hpt.classEnables = s.hpt.classEnables ∧
    (grantDelay d n s).hpt.restartPending = s.hpt.restartPending ∧ (grantDelay d n s).hpt.sent = s.hpt.sent ∧
    (grantDelay d n s).ubc.addrs = s.ubc.addrs ∧ (grantDelay d n s).ubc.panicSel = s.ubc.panicSel ∧
    (grantDelay d n s).ubc.panicHigh = s.ubc.panicHigh ∧ (grantDelay d n s).ubc.alarm = s.ubc.alarm ∧
    (grantDelay d n s).ubc.alarmTimer = s.ubc.alarmTimer ∧ (grantDelay d n s).ubc.unitErrors = s.ubc.unitErrors ∧
    (grantDelay d n s).cru = s.cru ∧ (grantDelay d n s).acu = s.acu ∧ (grantDelay d n s).bgr = s.bgr ∧
    (grantDelay d n s).tau = s.tau ∧ (grantDelay d n s).clc = s.clc ∧ (grantDelay d n s).rcu = s.rcu ∧
    (grantDelay d n s).wcu = s.wcu ∧ (grantDelay d n s).csc.policy = s.csc.policy ∧
    (grantDelay d n s).csc.maintenance = s.csc.maintenance ∧ (grantDelay d n s).csc.freeze = s.csc.freeze ∧
    (grantDelay d n s).csc.latch = s.csc.latch ∧ (grantDelay d n s).csc.holdTimer = s.csc.holdTimer ∧
    (grantDelay d n s).csc.holdRunning = s.csc.holdRunning ∧ (grantDelay d n s).hoc = s.hoc ∧
    (grantDelay d n s).pending = s.pending := by
  unfold grantDelay
  (try dsimp only); (repeat' split) <;> simp

@[simp] theorem presentedAtStrongroom_keeps (n : Nat) (s : State) :
    (presentedAtStrongroom n s).sys = s.sys ∧ (presentedAtStrongroom n s).hpt.rx = s.hpt.rx ∧
    (presentedAtStrongroom n s).hpt.buffer = s.hpt.buffer ∧ (presentedAtStrongroom n s).hpt.replies = s.hpt.replies ∧
    (presentedAtStrongroom n s).hpt.globalEnable = s.hpt.globalEnable ∧
    (presentedAtStrongroom n s).hpt.classEnables = s.hpt.classEnables ∧
    (presentedAtStrongroom n s).hpt.restartPending = s.hpt.restartPending ∧
    (presentedAtStrongroom n s).hpt.sent = s.hpt.sent ∧ (presentedAtStrongroom n s).ubc.addrs = s.ubc.addrs ∧
    (presentedAtStrongroom n s).ubc.panicSel = s.ubc.panicSel ∧
    (presentedAtStrongroom n s).ubc.panicHigh = s.ubc.panicHigh ∧
    (presentedAtStrongroom n s).ubc.alarm = s.ubc.alarm ∧
    (presentedAtStrongroom n s).ubc.alarmTimer = s.ubc.alarmTimer ∧
    (presentedAtStrongroom n s).ubc.unitErrors = s.ubc.unitErrors ∧ (presentedAtStrongroom n s).cru = s.cru ∧
    (presentedAtStrongroom n s).acu = s.acu ∧ (presentedAtStrongroom n s).bgr = s.bgr ∧
    (presentedAtStrongroom n s).tau = s.tau ∧ (presentedAtStrongroom n s).clc = s.clc ∧
    (presentedAtStrongroom n s).rcu = s.rcu ∧ (presentedAtStrongroom n s).wcu = s.wcu ∧
    (presentedAtStrongroom n s).csc.policy = s.csc.policy ∧
    (presentedAtStrongroom n s).csc.maintenance = s.csc.maintenance ∧
    (presentedAtStrongroom n s).csc.freeze = s.csc.freeze ∧ (presentedAtStrongroom n s).csc.latch = s.csc.latch ∧
    (presentedAtStrongroom n s).csc.holdTimer = s.csc.holdTimer ∧
    (presentedAtStrongroom n s).csc.holdRunning = s.csc.holdRunning ∧ (presentedAtStrongroom n s).hoc = s.hoc ∧
    (presentedAtStrongroom n s).pending = s.pending := by
  unfold presentedAtStrongroom
  (try dsimp only); (repeat' split) <;> simp

@[simp] theorem openDoor_keeps (d : DoorName) (s : State) :
    (openDoor d s).sys = s.sys ∧ (openDoor d s).hpt.rx = s.hpt.rx ∧ (openDoor d s).hpt.buffer = s.hpt.buffer ∧
    (openDoor d s).hpt.replies = s.hpt.replies ∧ (openDoor d s).hpt.globalEnable = s.hpt.globalEnable ∧
    (openDoor d s).hpt.classEnables = s.hpt.classEnables ∧ (openDoor d s).hpt.restartPending = s.hpt.restartPending ∧
    (openDoor d s).hpt.sent = s.hpt.sent ∧ (openDoor d s).ubc.addrs = s.ubc.addrs ∧
    (openDoor d s).ubc.panicSel = s.ubc.panicSel ∧ (openDoor d s).ubc.panicHigh = s.ubc.panicHigh ∧
    (openDoor d s).ubc.alarm = s.ubc.alarm ∧ (openDoor d s).ubc.alarmTimer = s.ubc.alarmTimer ∧
    (openDoor d s).ubc.unitErrors = s.ubc.unitErrors ∧ (openDoor d s).cru = s.cru ∧ (openDoor d s).acu = s.acu ∧
    (openDoor d s).bgr = s.bgr ∧ (openDoor d s).tau = s.tau ∧ (openDoor d s).clc = s.clc ∧
    (openDoor d s).rcu = s.rcu ∧ (openDoor d s).wcu = s.wcu ∧ (openDoor d s).csc.policy = s.csc.policy ∧
    (openDoor d s).csc.maintenance = s.csc.maintenance ∧ (openDoor d s).csc.freeze = s.csc.freeze ∧
    (openDoor d s).csc.latch = s.csc.latch ∧ (openDoor d s).csc.holdTimer = s.csc.holdTimer ∧
    (openDoor d s).csc.holdRunning = s.csc.holdRunning ∧ (openDoor d s).hoc = s.hoc ∧
    (openDoor d s).pending = s.pending := by
  unfold openDoor
  simp

@[simp] theorem forceDoor_keeps (d : DoorName) (s : State) :
    (forceDoor d s).sys = s.sys ∧ (forceDoor d s).hpt.rx = s.hpt.rx ∧ (forceDoor d s).hpt.buffer = s.hpt.buffer ∧
    (forceDoor d s).hpt.replies = s.hpt.replies ∧ (forceDoor d s).hpt.globalEnable = s.hpt.globalEnable ∧
    (forceDoor d s).hpt.classEnables = s.hpt.classEnables ∧
    (forceDoor d s).hpt.restartPending = s.hpt.restartPending ∧ (forceDoor d s).hpt.sent = s.hpt.sent ∧
    (forceDoor d s).ubc.addrs = s.ubc.addrs ∧ (forceDoor d s).ubc.panicSel = s.ubc.panicSel ∧
    (forceDoor d s).ubc.panicHigh = s.ubc.panicHigh ∧ (forceDoor d s).ubc.unitErrors = s.ubc.unitErrors ∧
    (forceDoor d s).cru = s.cru ∧ (forceDoor d s).acu = s.acu ∧ (forceDoor d s).bgr = s.bgr ∧
    (forceDoor d s).tau = s.tau ∧ (forceDoor d s).clc = s.clc ∧ (forceDoor d s).rcu = s.rcu ∧
    (forceDoor d s).wcu = s.wcu ∧ (forceDoor d s).csc.policy = s.csc.policy ∧
    (forceDoor d s).csc.maintenance = s.csc.maintenance ∧ (forceDoor d s).csc.freeze = s.csc.freeze ∧
    (forceDoor d s).csc.latch = s.csc.latch ∧ (forceDoor d s).csc.holdTimer = s.csc.holdTimer ∧
    (forceDoor d s).csc.holdRunning = s.csc.holdRunning ∧ (forceDoor d s).hoc = s.hoc ∧
    (forceDoor d s).pending = s.pending := by
  unfold forceDoor
  simp

@[simp] theorem doorOpened_keeps (d : DoorName) (s : State) :
    (doorOpened d s).sys = s.sys ∧ (doorOpened d s).hpt.rx = s.hpt.rx ∧ (doorOpened d s).hpt.buffer = s.hpt.buffer ∧
    (doorOpened d s).hpt.replies = s.hpt.replies ∧ (doorOpened d s).hpt.globalEnable = s.hpt.globalEnable ∧
    (doorOpened d s).hpt.classEnables = s.hpt.classEnables ∧
    (doorOpened d s).hpt.restartPending = s.hpt.restartPending ∧ (doorOpened d s).hpt.sent = s.hpt.sent ∧
    (doorOpened d s).ubc.addrs = s.ubc.addrs ∧ (doorOpened d s).ubc.panicSel = s.ubc.panicSel ∧
    (doorOpened d s).ubc.panicHigh = s.ubc.panicHigh ∧ (doorOpened d s).ubc.unitErrors = s.ubc.unitErrors ∧
    (doorOpened d s).cru = s.cru ∧ (doorOpened d s).acu = s.acu ∧ (doorOpened d s).bgr = s.bgr ∧
    (doorOpened d s).tau = s.tau ∧ (doorOpened d s).clc = s.clc ∧ (doorOpened d s).rcu = s.rcu ∧
    (doorOpened d s).wcu = s.wcu ∧ (doorOpened d s).csc.policy = s.csc.policy ∧
    (doorOpened d s).csc.maintenance = s.csc.maintenance ∧ (doorOpened d s).csc.freeze = s.csc.freeze ∧
    (doorOpened d s).csc.latch = s.csc.latch ∧ (doorOpened d s).csc.holdTimer = s.csc.holdTimer ∧
    (doorOpened d s).csc.holdRunning = s.csc.holdRunning ∧ (doorOpened d s).hoc = s.hoc ∧
    (doorOpened d s).pending = s.pending := by
  unfold doorOpened
  (try dsimp only); (repeat' split) <;> simp

@[simp] theorem doorClosed_keeps (d : DoorName) (s : State) :
    (doorClosed d s).sys = s.sys ∧ (doorClosed d s).hpt.rx = s.hpt.rx ∧ (doorClosed d s).hpt.buffer = s.hpt.buffer ∧
    (doorClosed d s).hpt.replies = s.hpt.replies ∧ (doorClosed d s).hpt.globalEnable = s.hpt.globalEnable ∧
    (doorClosed d s).hpt.classEnables = s.hpt.classEnables ∧
    (doorClosed d s).hpt.restartPending = s.hpt.restartPending ∧ (doorClosed d s).hpt.sent = s.hpt.sent ∧
    (doorClosed d s).ubc.addrs = s.ubc.addrs ∧ (doorClosed d s).ubc.panicSel = s.ubc.panicSel ∧
    (doorClosed d s).ubc.panicHigh = s.ubc.panicHigh ∧ (doorClosed d s).ubc.alarm = s.ubc.alarm ∧
    (doorClosed d s).ubc.alarmTimer = s.ubc.alarmTimer ∧ (doorClosed d s).ubc.unitErrors = s.ubc.unitErrors ∧
    (doorClosed d s).cru = s.cru ∧ (doorClosed d s).acu = s.acu ∧ (doorClosed d s).bgr = s.bgr ∧
    (doorClosed d s).tau = s.tau ∧ (doorClosed d s).clc = s.clc ∧ (doorClosed d s).rcu = s.rcu ∧
    (doorClosed d s).wcu = s.wcu ∧ (doorClosed d s).csc.policy = s.csc.policy ∧
    (doorClosed d s).csc.maintenance = s.csc.maintenance ∧ (doorClosed d s).csc.freeze = s.csc.freeze ∧
    (doorClosed d s).csc.latch = s.csc.latch ∧ (doorClosed d s).csc.holdTimer = s.csc.holdTimer ∧
    (doorClosed d s).csc.holdRunning = s.csc.holdRunning ∧ (doorClosed d s).hoc = s.hoc ∧
    (doorClosed d s).pending = s.pending := by
  unfold doorClosed
  (try dsimp only); (repeat' split) <;> simp

@[simp] theorem takeDoor_keeps (d : DoorName) (b : Bool) (s : State) :
    (takeDoor d b s).sys = s.sys ∧ (takeDoor d b s).hpt.rx = s.hpt.rx ∧ (takeDoor d b s).hpt.buffer = s.hpt.buffer ∧
    (takeDoor d b s).hpt.replies = s.hpt.replies ∧ (takeDoor d b s).hpt.globalEnable = s.hpt.globalEnable ∧
    (takeDoor d b s).hpt.classEnables = s.hpt.classEnables ∧
    (takeDoor d b s).hpt.restartPending = s.hpt.restartPending ∧ (takeDoor d b s).hpt.sent = s.hpt.sent ∧
    (takeDoor d b s).ubc.addrs = s.ubc.addrs ∧ (takeDoor d b s).ubc.panicSel = s.ubc.panicSel ∧
    (takeDoor d b s).ubc.panicHigh = s.ubc.panicHigh ∧ (takeDoor d b s).ubc.unitErrors = s.ubc.unitErrors ∧
    (takeDoor d b s).cru = s.cru ∧ (takeDoor d b s).acu = s.acu ∧ (takeDoor d b s).bgr = s.bgr ∧
    (takeDoor d b s).tau = s.tau ∧ (takeDoor d b s).clc = s.clc ∧ (takeDoor d b s).rcu = s.rcu ∧
    (takeDoor d b s).wcu = s.wcu ∧ (takeDoor d b s).csc.policy = s.csc.policy ∧
    (takeDoor d b s).csc.maintenance = s.csc.maintenance ∧ (takeDoor d b s).csc.freeze = s.csc.freeze ∧
    (takeDoor d b s).csc.latch = s.csc.latch ∧ (takeDoor d b s).csc.holdTimer = s.csc.holdTimer ∧
    (takeDoor d b s).csc.holdRunning = s.csc.holdRunning ∧ (takeDoor d b s).hoc = s.hoc ∧
    (takeDoor d b s).pending = s.pending := by
  unfold takeDoor
  (repeat' split) <;> simp

@[simp] theorem expireDelay_keeps (d : DoorName) (s : State) :
    (expireDelay d s).sys = s.sys ∧ (expireDelay d s).hpt.rx = s.hpt.rx ∧
    (expireDelay d s).hpt.buffer = s.hpt.buffer ∧ (expireDelay d s).hpt.replies = s.hpt.replies ∧
    (expireDelay d s).hpt.globalEnable = s.hpt.globalEnable ∧
    (expireDelay d s).hpt.classEnables = s.hpt.classEnables ∧
    (expireDelay d s).hpt.restartPending = s.hpt.restartPending ∧ (expireDelay d s).hpt.sent = s.hpt.sent ∧
    (expireDelay d s).ubc.addrs = s.ubc.addrs ∧ (expireDelay d s).ubc.panicSel = s.ubc.panicSel ∧
    (expireDelay d s).ubc.panicHigh = s.ubc.panicHigh ∧ (expireDelay d s).ubc.alarm = s.ubc.alarm ∧
    (expireDelay d s).ubc.alarmTimer = s.ubc.alarmTimer ∧ (expireDelay d s).ubc.unitErrors = s.ubc.unitErrors ∧
    (expireDelay d s).cru = s.cru ∧ (expireDelay d s).acu = s.acu ∧ (expireDelay d s).bgr = s.bgr ∧
    (expireDelay d s).tau = s.tau ∧ (expireDelay d s).clc = s.clc ∧ (expireDelay d s).rcu = s.rcu ∧
    (expireDelay d s).wcu = s.wcu ∧ (expireDelay d s).csc.policy = s.csc.policy ∧
    (expireDelay d s).csc.maintenance = s.csc.maintenance ∧ (expireDelay d s).csc.freeze = s.csc.freeze ∧
    (expireDelay d s).csc.latch = s.csc.latch ∧ (expireDelay d s).csc.holdTimer = s.csc.holdTimer ∧
    (expireDelay d s).csc.holdRunning = s.csc.holdRunning ∧ (expireDelay d s).hoc = s.hoc ∧
    (expireDelay d s).pending = s.pending := by
  unfold expireDelay
  (repeat' split) <;> simp

@[simp] theorem expireConfirm_keeps (s : State) :
    (expireConfirm s).sys = s.sys ∧ (expireConfirm s).hpt.rx = s.hpt.rx ∧
    (expireConfirm s).hpt.buffer = s.hpt.buffer ∧ (expireConfirm s).hpt.replies = s.hpt.replies ∧
    (expireConfirm s).hpt.globalEnable = s.hpt.globalEnable ∧
    (expireConfirm s).hpt.classEnables = s.hpt.classEnables ∧
    (expireConfirm s).hpt.restartPending = s.hpt.restartPending ∧ (expireConfirm s).hpt.sent = s.hpt.sent ∧
    (expireConfirm s).ubc.addrs = s.ubc.addrs ∧ (expireConfirm s).ubc.panicSel = s.ubc.panicSel ∧
    (expireConfirm s).ubc.panicHigh = s.ubc.panicHigh ∧ (expireConfirm s).ubc.alarm = s.ubc.alarm ∧
    (expireConfirm s).ubc.alarmTimer = s.ubc.alarmTimer ∧ (expireConfirm s).ubc.unitErrors = s.ubc.unitErrors ∧
    (expireConfirm s).cru = s.cru ∧ (expireConfirm s).acu = s.acu ∧ (expireConfirm s).bgr = s.bgr ∧
    (expireConfirm s).tau = s.tau ∧ (expireConfirm s).clc = s.clc ∧ (expireConfirm s).rcu = s.rcu ∧
    (expireConfirm s).wcu = s.wcu ∧ (expireConfirm s).csc.policy = s.csc.policy ∧
    (expireConfirm s).csc.maintenance = s.csc.maintenance ∧ (expireConfirm s).csc.freeze = s.csc.freeze ∧
    (expireConfirm s).csc.latch = s.csc.latch ∧ (expireConfirm s).csc.holdTimer = s.csc.holdTimer ∧
    (expireConfirm s).csc.holdRunning = s.csc.holdRunning ∧ (expireConfirm s).hoc = s.hoc ∧
    (expireConfirm s).pending = s.pending := by
  unfold expireConfirm
  (repeat' split) <;> simp

@[simp] theorem expireRelease_keeps (d : DoorName) (s : State) :
    (expireRelease d s).sys = s.sys ∧ (expireRelease d s).hpt.rx = s.hpt.rx ∧
    (expireRelease d s).hpt.buffer = s.hpt.buffer ∧ (expireRelease d s).hpt.replies = s.hpt.replies ∧
    (expireRelease d s).hpt.globalEnable = s.hpt.globalEnable ∧
    (expireRelease d s).hpt.classEnables = s.hpt.classEnables ∧
    (expireRelease d s).hpt.restartPending = s.hpt.restartPending ∧ (expireRelease d s).hpt.sent = s.hpt.sent ∧
    (expireRelease d s).ubc.addrs = s.ubc.addrs ∧ (expireRelease d s).ubc.panicSel = s.ubc.panicSel ∧
    (expireRelease d s).ubc.panicHigh = s.ubc.panicHigh ∧ (expireRelease d s).ubc.alarm = s.ubc.alarm ∧
    (expireRelease d s).ubc.alarmTimer = s.ubc.alarmTimer ∧ (expireRelease d s).ubc.unitErrors = s.ubc.unitErrors ∧
    (expireRelease d s).cru = s.cru ∧ (expireRelease d s).acu = s.acu ∧ (expireRelease d s).bgr = s.bgr ∧
    (expireRelease d s).tau = s.tau ∧ (expireRelease d s).clc = s.clc ∧ (expireRelease d s).rcu = s.rcu ∧
    (expireRelease d s).wcu = s.wcu ∧ (expireRelease d s).csc.policy = s.csc.policy ∧
    (expireRelease d s).csc.maintenance = s.csc.maintenance ∧ (expireRelease d s).csc.freeze = s.csc.freeze ∧
    (expireRelease d s).csc.latch = s.csc.latch ∧ (expireRelease d s).csc.holdTimer = s.csc.holdTimer ∧
    (expireRelease d s).csc.holdRunning = s.csc.holdRunning ∧ (expireRelease d s).hoc = s.hoc ∧
    (expireRelease d s).pending = s.pending := by
  unfold expireRelease
  (repeat' split) <;> simp

@[simp] theorem expireOpen_keeps (d : DoorName) (s : State) :
    (expireOpen d s).sys = s.sys ∧ (expireOpen d s).hpt.rx = s.hpt.rx ∧ (expireOpen d s).hpt.buffer = s.hpt.buffer ∧
    (expireOpen d s).hpt.replies = s.hpt.replies ∧ (expireOpen d s).hpt.globalEnable = s.hpt.globalEnable ∧
    (expireOpen d s).hpt.classEnables = s.hpt.classEnables ∧
    (expireOpen d s).hpt.restartPending = s.hpt.restartPending ∧ (expireOpen d s).hpt.sent = s.hpt.sent ∧
    (expireOpen d s).ubc.addrs = s.ubc.addrs ∧ (expireOpen d s).ubc.panicSel = s.ubc.panicSel ∧
    (expireOpen d s).ubc.panicHigh = s.ubc.panicHigh ∧ (expireOpen d s).ubc.alarm = s.ubc.alarm ∧
    (expireOpen d s).ubc.alarmTimer = s.ubc.alarmTimer ∧ (expireOpen d s).ubc.unitErrors = s.ubc.unitErrors ∧
    (expireOpen d s).cru = s.cru ∧ (expireOpen d s).acu = s.acu ∧ (expireOpen d s).bgr = s.bgr ∧
    (expireOpen d s).tau = s.tau ∧ (expireOpen d s).clc = s.clc ∧ (expireOpen d s).rcu = s.rcu ∧
    (expireOpen d s).wcu = s.wcu ∧ (expireOpen d s).csc.policy = s.csc.policy ∧
    (expireOpen d s).csc.maintenance = s.csc.maintenance ∧ (expireOpen d s).csc.freeze = s.csc.freeze ∧
    (expireOpen d s).csc.latch = s.csc.latch ∧ (expireOpen d s).csc.holdTimer = s.csc.holdTimer ∧
    (expireOpen d s).csc.holdRunning = s.csc.holdRunning ∧ (expireOpen d s).hoc = s.hoc ∧
    (expireOpen d s).pending = s.pending := by
  unfold expireOpen
  (try dsimp only); (repeat' split) <;> simp

@[simp] theorem recordUndeclared_keeps (n r : Nat) (t : Option Nat) (f : AnomalyFlags) (b : Bool) (s : State) :
    (recordUndeclared n r t f b s).sys = s.sys ∧ (recordUndeclared n r t f b s).hpt.rx = s.hpt.rx ∧
    (recordUndeclared n r t f b s).hpt.buffer = s.hpt.buffer ∧
    (recordUndeclared n r t f b s).hpt.replies = s.hpt.replies ∧
    (recordUndeclared n r t f b s).hpt.globalEnable = s.hpt.globalEnable ∧
    (recordUndeclared n r t f b s).hpt.classEnables = s.hpt.classEnables ∧
    (recordUndeclared n r t f b s).hpt.restartPending = s.hpt.restartPending ∧
    (recordUndeclared n r t f b s).hpt.sent = s.hpt.sent ∧ (recordUndeclared n r t f b s).ubc.addrs = s.ubc.addrs ∧
    (recordUndeclared n r t f b s).ubc.panicSel = s.ubc.panicSel ∧
    (recordUndeclared n r t f b s).ubc.panicHigh = s.ubc.panicHigh ∧
    (recordUndeclared n r t f b s).ubc.alarm = s.ubc.alarm ∧
    (recordUndeclared n r t f b s).ubc.alarmTimer = s.ubc.alarmTimer ∧
    (recordUndeclared n r t f b s).ubc.unitErrors = s.ubc.unitErrors ∧ (recordUndeclared n r t f b s).cru = s.cru ∧
    (recordUndeclared n r t f b s).acu = s.acu ∧ (recordUndeclared n r t f b s).bgr.retired = s.bgr.retired ∧
    (recordUndeclared n r t f b s).bgr.ranges = s.bgr.ranges ∧ (recordUndeclared n r t f b s).tau = s.tau ∧
    (recordUndeclared n r t f b s).clc = s.clc ∧ (recordUndeclared n r t f b s).rcu = s.rcu ∧
    (recordUndeclared n r t f b s).wcu = s.wcu ∧ (recordUndeclared n r t f b s).csc.strongroom = s.csc.strongroom ∧
    (recordUndeclared n r t f b s).csc.policy = s.csc.policy ∧
    (recordUndeclared n r t f b s).csc.maintenance = s.csc.maintenance ∧
    (recordUndeclared n r t f b s).csc.freeze = s.csc.freeze ∧
    (recordUndeclared n r t f b s).csc.latch = s.csc.latch ∧
    (recordUndeclared n r t f b s).csc.holdTimer = s.csc.holdTimer ∧
    (recordUndeclared n r t f b s).csc.holdRunning = s.csc.holdRunning ∧ (recordUndeclared n r t f b s).hoc = s.hoc ∧
    (recordUndeclared n r t f b s).pending = s.pending := by
  unfold recordUndeclared
  simp

@[simp] theorem recordDeclared_keeps (n r : Nat) (t : Option Nat) (f : AnomalyFlags) (x : TakenSkim) (s : State) :
    (recordDeclared n r t f x s).sys = s.sys ∧ (recordDeclared n r t f x s).hpt.rx = s.hpt.rx ∧
    (recordDeclared n r t f x s).hpt.buffer = s.hpt.buffer ∧
    (recordDeclared n r t f x s).hpt.replies = s.hpt.replies ∧
    (recordDeclared n r t f x s).hpt.globalEnable = s.hpt.globalEnable ∧
    (recordDeclared n r t f x s).hpt.classEnables = s.hpt.classEnables ∧
    (recordDeclared n r t f x s).hpt.restartPending = s.hpt.restartPending ∧
    (recordDeclared n r t f x s).hpt.sent = s.hpt.sent ∧ (recordDeclared n r t f x s).ubc.addrs = s.ubc.addrs ∧
    (recordDeclared n r t f x s).ubc.panicSel = s.ubc.panicSel ∧
    (recordDeclared n r t f x s).ubc.panicHigh = s.ubc.panicHigh ∧
    (recordDeclared n r t f x s).ubc.alarm = s.ubc.alarm ∧
    (recordDeclared n r t f x s).ubc.alarmTimer = s.ubc.alarmTimer ∧
    (recordDeclared n r t f x s).ubc.unitErrors = s.ubc.unitErrors ∧ (recordDeclared n r t f x s).cru = s.cru ∧
    (recordDeclared n r t f x s).acu.denoms = s.acu.denoms ∧ (recordDeclared n r t f x s).acu.stock = s.acu.stock ∧
    (recordDeclared n r t f x s).acu.courier = s.acu.courier ∧
    (recordDeclared n r t f x s).acu.unattributed = s.acu.unattributed ∧
    (recordDeclared n r t f x s).acu.suspects = s.acu.suspects ∧
    (recordDeclared n r t f x s).acu.reserved = s.acu.reserved ∧
    (recordDeclared n r t f x s).acu.clock = s.acu.clock ∧ (recordDeclared n r t f x s).acu.day = s.acu.day ∧
    (recordDeclared n r t f x s).acu.businessDate = s.acu.businessDate ∧
    (recordDeclared n r t f x s).acu.mode = s.acu.mode ∧
    (recordDeclared n r t f x s).acu.bandFloor = s.acu.bandFloor ∧
    (recordDeclared n r t f x s).acu.bandRate = s.acu.bandRate ∧
    (recordDeclared n r t f x s).bgr.retired = s.bgr.retired ∧
    (recordDeclared n r t f x s).bgr.ranges = s.bgr.ranges ∧
    (recordDeclared n r t f x s).tau.templates = s.tau.templates ∧
    (recordDeclared n r t f x s).tau.postings = s.tau.postings ∧ (recordDeclared n r t f x s).clc = s.clc ∧
    (recordDeclared n r t f x s).rcu = s.rcu ∧ (recordDeclared n r t f x s).wcu = s.wcu ∧
    (recordDeclared n r t f x s).csc.strongroom = s.csc.strongroom ∧
    (recordDeclared n r t f x s).csc.policy = s.csc.policy ∧
    (recordDeclared n r t f x s).csc.maintenance = s.csc.maintenance ∧
    (recordDeclared n r t f x s).csc.freeze = s.csc.freeze ∧ (recordDeclared n r t f x s).csc.latch = s.csc.latch ∧
    (recordDeclared n r t f x s).csc.holdTimer = s.csc.holdTimer ∧
    (recordDeclared n r t f x s).csc.holdRunning = s.csc.holdRunning ∧ (recordDeclared n r t f x s).hoc = s.hoc ∧
    (recordDeclared n r t f x s).pending = s.pending := by
  unfold recordDeclared
  (try dsimp only); (repeat' split) <;> simp

@[simp] theorem recordDrop_keeps (n r : Nat) (t : Option Nat) (s : State) :
    (recordDrop n r t s).sys = s.sys ∧ (recordDrop n r t s).hpt.rx = s.hpt.rx ∧
    (recordDrop n r t s).hpt.buffer = s.hpt.buffer ∧ (recordDrop n r t s).hpt.replies = s.hpt.replies ∧
    (recordDrop n r t s).hpt.globalEnable = s.hpt.globalEnable ∧
    (recordDrop n r t s).hpt.classEnables = s.hpt.classEnables ∧
    (recordDrop n r t s).hpt.restartPending = s.hpt.restartPending ∧ (recordDrop n r t s).hpt.sent = s.hpt.sent ∧
    (recordDrop n r t s).ubc.addrs = s.ubc.addrs ∧ (recordDrop n r t s).ubc.panicSel = s.ubc.panicSel ∧
    (recordDrop n r t s).ubc.panicHigh = s.ubc.panicHigh ∧ (recordDrop n r t s).ubc.alarm = s.ubc.alarm ∧
    (recordDrop n r t s).ubc.alarmTimer = s.ubc.alarmTimer ∧ (recordDrop n r t s).ubc.unitErrors = s.ubc.unitErrors ∧
    (recordDrop n r t s).cru = s.cru ∧ (recordDrop n r t s).acu.denoms = s.acu.denoms ∧
    (recordDrop n r t s).acu.stock = s.acu.stock ∧ (recordDrop n r t s).acu.suspects = s.acu.suspects ∧
    (recordDrop n r t s).acu.reserved = s.acu.reserved ∧ (recordDrop n r t s).acu.clock = s.acu.clock ∧
    (recordDrop n r t s).acu.day = s.acu.day ∧ (recordDrop n r t s).acu.businessDate = s.acu.businessDate ∧
    (recordDrop n r t s).acu.mode = s.acu.mode ∧ (recordDrop n r t s).acu.bandFloor = s.acu.bandFloor ∧
    (recordDrop n r t s).acu.bandRate = s.acu.bandRate ∧ (recordDrop n r t s).bgr.retired = s.bgr.retired ∧
    (recordDrop n r t s).bgr.ranges = s.bgr.ranges ∧ (recordDrop n r t s).tau.templates = s.tau.templates ∧
    (recordDrop n r t s).clc = s.clc ∧ (recordDrop n r t s).rcu = s.rcu ∧ (recordDrop n r t s).wcu = s.wcu ∧
    (recordDrop n r t s).csc.strongroom = s.csc.strongroom ∧ (recordDrop n r t s).csc.policy = s.csc.policy ∧
    (recordDrop n r t s).csc.maintenance = s.csc.maintenance ∧ (recordDrop n r t s).csc.freeze = s.csc.freeze ∧
    (recordDrop n r t s).csc.latch = s.csc.latch ∧ (recordDrop n r t s).csc.holdTimer = s.csc.holdTimer ∧
    (recordDrop n r t s).csc.holdRunning = s.csc.holdRunning ∧ (recordDrop n r t s).hoc = s.hoc ∧
    (recordDrop n r t s).pending = s.pending := by
  unfold recordDrop
  (try dsimp only); (repeat' split) <;> simp

@[simp] theorem countInSafe_keeps (n : Nat) (t r : Option Nat) (s : State) :
    (countInSafe n t r s).sys = s.sys ∧ (countInSafe n t r s).hpt.rx = s.hpt.rx ∧
    (countInSafe n t r s).hpt.buffer = s.hpt.buffer ∧ (countInSafe n t r s).hpt.replies = s.hpt.replies ∧
    (countInSafe n t r s).hpt.globalEnable = s.hpt.globalEnable ∧
    (countInSafe n t r s).hpt.classEnables = s.hpt.classEnables ∧
    (countInSafe n t r s).hpt.restartPending = s.hpt.restartPending ∧ (countInSafe n t r s).hpt.sent = s.hpt.sent ∧
    (countInSafe n t r s).ubc.addrs = s.ubc.addrs ∧ (countInSafe n t r s).ubc.panicSel = s.ubc.panicSel ∧
    (countInSafe n t r s).ubc.panicHigh = s.ubc.panicHigh ∧ (countInSafe n t r s).ubc.alarm = s.ubc.alarm ∧
    (countInSafe n t r s).ubc.alarmTimer = s.ubc.alarmTimer ∧
    (countInSafe n t r s).ubc.unitErrors = s.ubc.unitErrors ∧ (countInSafe n t r s).cru = s.cru ∧
    (countInSafe n t r s).acu = s.acu ∧ (countInSafe n t r s).bgr = s.bgr ∧ (countInSafe n t r s).tau = s.tau ∧
    (countInSafe n t r s).clc = s.clc ∧ (countInSafe n t r s).rcu = s.rcu ∧ (countInSafe n t r s).wcu = s.wcu ∧
    (countInSafe n t r s).csc.strongroom = s.csc.strongroom ∧ (countInSafe n t r s).csc.policy = s.csc.policy ∧
    (countInSafe n t r s).csc.maintenance = s.csc.maintenance ∧ (countInSafe n t r s).csc.freeze = s.csc.freeze ∧
    (countInSafe n t r s).csc.latch = s.csc.latch ∧ (countInSafe n t r s).csc.holdTimer = s.csc.holdTimer ∧
    (countInSafe n t r s).csc.holdRunning = s.csc.holdRunning ∧ (countInSafe n t r s).hoc = s.hoc ∧
    (countInSafe n t r s).pending = s.pending := by
  unfold countInSafe
  (try dsimp only); (repeat' split) <;> simp

@[simp] theorem takeDrop_keeps (n : Nat) (t : Option Nat) (s : State) :
    (takeDrop n t s).sys = s.sys ∧ (takeDrop n t s).hpt.rx = s.hpt.rx ∧ (takeDrop n t s).hpt.buffer = s.hpt.buffer ∧
    (takeDrop n t s).hpt.replies = s.hpt.replies ∧ (takeDrop n t s).hpt.globalEnable = s.hpt.globalEnable ∧
    (takeDrop n t s).hpt.classEnables = s.hpt.classEnables ∧
    (takeDrop n t s).hpt.restartPending = s.hpt.restartPending ∧ (takeDrop n t s).hpt.sent = s.hpt.sent ∧
    (takeDrop n t s).ubc.addrs = s.ubc.addrs ∧ (takeDrop n t s).ubc.panicSel = s.ubc.panicSel ∧
    (takeDrop n t s).ubc.panicHigh = s.ubc.panicHigh ∧ (takeDrop n t s).ubc.alarm = s.ubc.alarm ∧
    (takeDrop n t s).ubc.alarmTimer = s.ubc.alarmTimer ∧ (takeDrop n t s).ubc.unitErrors = s.ubc.unitErrors ∧
    (takeDrop n t s).cru = s.cru ∧ (takeDrop n t s).acu.denoms = s.acu.denoms ∧
    (takeDrop n t s).acu.stock = s.acu.stock ∧ (takeDrop n t s).acu.suspects = s.acu.suspects ∧
    (takeDrop n t s).acu.reserved = s.acu.reserved ∧ (takeDrop n t s).acu.clock = s.acu.clock ∧
    (takeDrop n t s).acu.day = s.acu.day ∧ (takeDrop n t s).acu.businessDate = s.acu.businessDate ∧
    (takeDrop n t s).acu.mode = s.acu.mode ∧ (takeDrop n t s).acu.bandFloor = s.acu.bandFloor ∧
    (takeDrop n t s).acu.bandRate = s.acu.bandRate ∧ (takeDrop n t s).bgr.ranges = s.bgr.ranges ∧
    (takeDrop n t s).tau.templates = s.tau.templates ∧ (takeDrop n t s).clc = s.clc ∧ (takeDrop n t s).rcu = s.rcu ∧
    (takeDrop n t s).wcu = s.wcu ∧ (takeDrop n t s).csc.strongroom = s.csc.strongroom ∧
    (takeDrop n t s).csc.policy = s.csc.policy ∧ (takeDrop n t s).csc.maintenance = s.csc.maintenance ∧
    (takeDrop n t s).csc.freeze = s.csc.freeze ∧ (takeDrop n t s).csc.latch = s.csc.latch ∧
    (takeDrop n t s).csc.holdTimer = s.csc.holdTimer ∧ (takeDrop n t s).csc.holdRunning = s.csc.holdRunning ∧
    (takeDrop n t s).hoc = s.hoc ∧ (takeDrop n t s).pending = s.pending := by
  unfold takeDrop
  split
  · simp
  rename_i h
  have h2 := allocate_keeps _ _ _ h
  simp [h2]

@[simp] theorem benchBag_keeps (r : Nat) (s : State) :
    (benchBag s r).sys = s.sys ∧ (benchBag s r).hpt = s.hpt ∧ (benchBag s r).ubc = s.ubc ∧
    (benchBag s r).cru = s.cru ∧ (benchBag s r).acu = s.acu ∧ (benchBag s r).bgr.retired = s.bgr.retired ∧
    (benchBag s r).bgr.ranges = s.bgr.ranges ∧ (benchBag s r).tau = s.tau ∧ (benchBag s r).clc = s.clc ∧
    (benchBag s r).rcu = s.rcu ∧ (benchBag s r).wcu = s.wcu ∧ (benchBag s r).csc = s.csc ∧
    (benchBag s r).hoc = s.hoc ∧ (benchBag s r).pending = s.pending := by
  unfold benchBag
  (repeat' split) <;> simp

@[simp] theorem dropToSecure_keeps (d : DoorName) (s : State) :
    (dropToSecure s d).sys = s.sys ∧ (dropToSecure s d).hpt = s.hpt ∧ (dropToSecure s d).ubc.addrs = s.ubc.addrs ∧
    (dropToSecure s d).ubc.panicSel = s.ubc.panicSel ∧ (dropToSecure s d).ubc.panicHigh = s.ubc.panicHigh ∧
    (dropToSecure s d).ubc.alarm = s.ubc.alarm ∧ (dropToSecure s d).ubc.alarmTimer = s.ubc.alarmTimer ∧
    (dropToSecure s d).ubc.unitErrors = s.ubc.unitErrors ∧ (dropToSecure s d).cru = s.cru ∧
    (dropToSecure s d).acu = s.acu ∧ (dropToSecure s d).bgr = s.bgr ∧ (dropToSecure s d).tau = s.tau ∧
    (dropToSecure s d).clc = s.clc ∧ (dropToSecure s d).rcu = s.rcu ∧ (dropToSecure s d).wcu = s.wcu ∧
    (dropToSecure s d).csc.policy = s.csc.policy ∧ (dropToSecure s d).csc.maintenance = s.csc.maintenance ∧
    (dropToSecure s d).csc.freeze = s.csc.freeze ∧ (dropToSecure s d).csc.latch = s.csc.latch ∧
    (dropToSecure s d).csc.holdTimer = s.csc.holdTimer ∧ (dropToSecure s d).csc.holdRunning = s.csc.holdRunning ∧
    (dropToSecure s d).hoc = s.hoc ∧ (dropToSecure s d).pending = s.pending := by
  unfold dropToSecure
  (try dsimp only); (repeat' split) <;> simp

@[simp] theorem lockChute_keeps (n : Nat) (s : State) :
    (lockChute s n).sys = s.sys ∧ (lockChute s n).hpt.rx = s.hpt.rx ∧ (lockChute s n).hpt.buffer = s.hpt.buffer ∧
    (lockChute s n).hpt.replies = s.hpt.replies ∧ (lockChute s n).hpt.globalEnable = s.hpt.globalEnable ∧
    (lockChute s n).hpt.classEnables = s.hpt.classEnables ∧
    (lockChute s n).hpt.restartPending = s.hpt.restartPending ∧ (lockChute s n).hpt.sent = s.hpt.sent ∧
    (lockChute s n).ubc.addrs = s.ubc.addrs ∧ (lockChute s n).ubc.panicSel = s.ubc.panicSel ∧
    (lockChute s n).ubc.panicHigh = s.ubc.panicHigh ∧ (lockChute s n).ubc.alarm = s.ubc.alarm ∧
    (lockChute s n).ubc.alarmTimer = s.ubc.alarmTimer ∧ (lockChute s n).ubc.unitErrors = s.ubc.unitErrors ∧
    (lockChute s n).cru = s.cru ∧ (lockChute s n).acu = s.acu ∧ (lockChute s n).bgr = s.bgr ∧
    (lockChute s n).tau = s.tau ∧ (lockChute s n).clc = s.clc ∧ (lockChute s n).rcu = s.rcu ∧
    (lockChute s n).wcu = s.wcu ∧ (lockChute s n).csc.strongroom = s.csc.strongroom ∧
    (lockChute s n).csc.policy = s.csc.policy ∧ (lockChute s n).csc.maintenance = s.csc.maintenance ∧
    (lockChute s n).csc.freeze = s.csc.freeze ∧ (lockChute s n).csc.latch = s.csc.latch ∧
    (lockChute s n).csc.holdTimer = s.csc.holdTimer ∧ (lockChute s n).csc.holdRunning = s.csc.holdRunning ∧
    (lockChute s n).hoc = s.hoc ∧ (lockChute s n).pending = s.pending := by
  unfold lockChute
  simp

@[simp] theorem secureDoors_keeps (l : List DoorName) (s : State) :
    (secureDoors l s).sys = s.sys ∧ (secureDoors l s).hpt = s.hpt ∧ (secureDoors l s).ubc.addrs = s.ubc.addrs ∧
    (secureDoors l s).ubc.panicSel = s.ubc.panicSel ∧ (secureDoors l s).ubc.panicHigh = s.ubc.panicHigh ∧
    (secureDoors l s).ubc.alarm = s.ubc.alarm ∧ (secureDoors l s).ubc.alarmTimer = s.ubc.alarmTimer ∧
    (secureDoors l s).ubc.unitErrors = s.ubc.unitErrors ∧ (secureDoors l s).cru = s.cru ∧
    (secureDoors l s).acu = s.acu ∧ (secureDoors l s).bgr = s.bgr ∧ (secureDoors l s).tau = s.tau ∧
    (secureDoors l s).clc = s.clc ∧ (secureDoors l s).rcu = s.rcu ∧ (secureDoors l s).wcu = s.wcu ∧
    (secureDoors l s).csc.policy = s.csc.policy ∧ (secureDoors l s).csc.maintenance = s.csc.maintenance ∧
    (secureDoors l s).csc.freeze = s.csc.freeze ∧ (secureDoors l s).csc.latch = s.csc.latch ∧
    (secureDoors l s).csc.holdTimer = s.csc.holdTimer ∧ (secureDoors l s).csc.holdRunning = s.csc.holdRunning ∧
    (secureDoors l s).hoc = s.hoc ∧ (secureDoors l s).pending = s.pending := by
  unfold secureDoors
  exact ⟨(foldl_keeps (fun s : State => s.sys) _ (by intros; simp) _ _).trans (by simp),
    (foldl_keeps (fun s : State => s.hpt) _ (by intros; simp) _ _).trans (by simp),
    (foldl_keeps (fun s : State => s.ubc.addrs) _ (by intros; simp) _ _).trans (by simp),
    (foldl_keeps (fun s : State => s.ubc.panicSel) _ (by intros; simp) _ _).trans (by simp),
    (foldl_keeps (fun s : State => s.ubc.panicHigh) _ (by intros; simp) _ _).trans (by simp),
    (foldl_keeps (fun s : State => s.ubc.alarm) _ (by intros; simp) _ _).trans (by simp),
    (foldl_keeps (fun s : State => s.ubc.alarmTimer) _ (by intros; simp) _ _).trans (by simp),
    (foldl_keeps (fun s : State => s.ubc.unitErrors) _ (by intros; simp) _ _).trans (by simp),
    (foldl_keeps (fun s : State => s.cru) _ (by intros; simp) _ _).trans (by simp),
    (foldl_keeps (fun s : State => s.acu) _ (by intros; simp) _ _).trans (by simp),
    (foldl_keeps (fun s : State => s.bgr) _ (by intros; simp) _ _).trans (by simp),
    (foldl_keeps (fun s : State => s.tau) _ (by intros; simp) _ _).trans (by simp),
    (foldl_keeps (fun s : State => s.clc) _ (by intros; simp) _ _).trans (by simp),
    (foldl_keeps (fun s : State => s.rcu) _ (by intros; simp) _ _).trans (by simp),
    (foldl_keeps (fun s : State => s.wcu) _ (by intros; simp) _ _).trans (by simp),
    (foldl_keeps (fun s : State => s.csc.policy) _ (by intros; simp) _ _).trans (by simp),
    (foldl_keeps (fun s : State => s.csc.maintenance) _ (by intros; simp) _ _).trans (by simp),
    (foldl_keeps (fun s : State => s.csc.freeze) _ (by intros; simp) _ _).trans (by simp),
    (foldl_keeps (fun s : State => s.csc.latch) _ (by intros; simp) _ _).trans (by simp),
    (foldl_keeps (fun s : State => s.csc.holdTimer) _ (by intros; simp) _ _).trans (by simp),
    (foldl_keeps (fun s : State => s.csc.holdRunning) _ (by intros; simp) _ _).trans (by simp),
    (foldl_keeps (fun s : State => s.hoc) _ (by intros; simp) _ _).trans (by simp),
    (foldl_keeps (fun s : State => s.pending) _ (by intros; simp) _ _).trans (by simp)⟩

@[simp] theorem lockChutes_keeps (s : State) :
    (lockChutes s).sys = s.sys ∧ (lockChutes s).hpt.rx = s.hpt.rx ∧ (lockChutes s).hpt.buffer = s.hpt.buffer ∧
    (lockChutes s).hpt.replies = s.hpt.replies ∧ (lockChutes s).hpt.globalEnable = s.hpt.globalEnable ∧
    (lockChutes s).hpt.classEnables = s.hpt.classEnables ∧ (lockChutes s).hpt.restartPending = s.hpt.restartPending ∧
    (lockChutes s).hpt.sent = s.hpt.sent ∧ (lockChutes s).ubc.addrs = s.ubc.addrs ∧
    (lockChutes s).ubc.panicSel = s.ubc.panicSel ∧ (lockChutes s).ubc.panicHigh = s.ubc.panicHigh ∧
    (lockChutes s).ubc.alarm = s.ubc.alarm ∧ (lockChutes s).ubc.alarmTimer = s.ubc.alarmTimer ∧
    (lockChutes s).ubc.unitErrors = s.ubc.unitErrors ∧ (lockChutes s).cru = s.cru ∧ (lockChutes s).acu = s.acu ∧
    (lockChutes s).bgr = s.bgr ∧ (lockChutes s).tau = s.tau ∧ (lockChutes s).clc = s.clc ∧
    (lockChutes s).rcu = s.rcu ∧ (lockChutes s).wcu = s.wcu ∧ (lockChutes s).csc.strongroom = s.csc.strongroom ∧
    (lockChutes s).csc.policy = s.csc.policy ∧ (lockChutes s).csc.maintenance = s.csc.maintenance ∧
    (lockChutes s).csc.freeze = s.csc.freeze ∧ (lockChutes s).csc.latch = s.csc.latch ∧
    (lockChutes s).csc.holdTimer = s.csc.holdTimer ∧ (lockChutes s).csc.holdRunning = s.csc.holdRunning ∧
    (lockChutes s).hoc = s.hoc ∧ (lockChutes s).pending = s.pending := by
  unfold lockChutes
  exact ⟨(foldl_keeps (fun s : State => s.sys) _ (by intros; simp) _ _).trans (by simp),
    (foldl_keeps (fun s : State => s.hpt.rx) _ (by intros; simp) _ _).trans (by simp),
    (foldl_keeps (fun s : State => s.hpt.buffer) _ (by intros; simp) _ _).trans (by simp),
    (foldl_keeps (fun s : State => s.hpt.replies) _ (by intros; simp) _ _).trans (by simp),
    (foldl_keeps (fun s : State => s.hpt.globalEnable) _ (by intros; simp) _ _).trans (by simp),
    (foldl_keeps (fun s : State => s.hpt.classEnables) _ (by intros; simp) _ _).trans (by simp),
    (foldl_keeps (fun s : State => s.hpt.restartPending) _ (by intros; simp) _ _).trans (by simp),
    (foldl_keeps (fun s : State => s.hpt.sent) _ (by intros; simp) _ _).trans (by simp),
    (foldl_keeps (fun s : State => s.ubc.addrs) _ (by intros; simp) _ _).trans (by simp),
    (foldl_keeps (fun s : State => s.ubc.panicSel) _ (by intros; simp) _ _).trans (by simp),
    (foldl_keeps (fun s : State => s.ubc.panicHigh) _ (by intros; simp) _ _).trans (by simp),
    (foldl_keeps (fun s : State => s.ubc.alarm) _ (by intros; simp) _ _).trans (by simp),
    (foldl_keeps (fun s : State => s.ubc.alarmTimer) _ (by intros; simp) _ _).trans (by simp),
    (foldl_keeps (fun s : State => s.ubc.unitErrors) _ (by intros; simp) _ _).trans (by simp),
    (foldl_keeps (fun s : State => s.cru) _ (by intros; simp) _ _).trans (by simp),
    (foldl_keeps (fun s : State => s.acu) _ (by intros; simp) _ _).trans (by simp),
    (foldl_keeps (fun s : State => s.bgr) _ (by intros; simp) _ _).trans (by simp),
    (foldl_keeps (fun s : State => s.tau) _ (by intros; simp) _ _).trans (by simp),
    (foldl_keeps (fun s : State => s.clc) _ (by intros; simp) _ _).trans (by simp),
    (foldl_keeps (fun s : State => s.rcu) _ (by intros; simp) _ _).trans (by simp),
    (foldl_keeps (fun s : State => s.wcu) _ (by intros; simp) _ _).trans (by simp),
    (foldl_keeps (fun s : State => s.csc.strongroom) _ (by intros; simp) _ _).trans (by simp),
    (foldl_keeps (fun s : State => s.csc.policy) _ (by intros; simp) _ _).trans (by simp),
    (foldl_keeps (fun s : State => s.csc.maintenance) _ (by intros; simp) _ _).trans (by simp),
    (foldl_keeps (fun s : State => s.csc.freeze) _ (by intros; simp) _ _).trans (by simp),
    (foldl_keeps (fun s : State => s.csc.latch) _ (by intros; simp) _ _).trans (by simp),
    (foldl_keeps (fun s : State => s.csc.holdTimer) _ (by intros; simp) _ _).trans (by simp),
    (foldl_keeps (fun s : State => s.csc.holdRunning) _ (by intros; simp) _ _).trans (by simp),
    (foldl_keeps (fun s : State => s.hoc) _ (by intros; simp) _ _).trans (by simp),
    (foldl_keeps (fun s : State => s.pending) _ (by intros; simp) _ _).trans (by simp)⟩

@[simp] theorem notifyLockdown_keeps (c : LockdownCause) (b : Bool) (l : List DoorName) (s : State) :
    (notifyLockdown c b l s).sys = s.sys ∧ (notifyLockdown c b l s).hpt.rx = s.hpt.rx ∧
    (notifyLockdown c b l s).hpt.buffer = s.hpt.buffer ∧ (notifyLockdown c b l s).hpt.replies = s.hpt.replies ∧
    (notifyLockdown c b l s).hpt.globalEnable = s.hpt.globalEnable ∧
    (notifyLockdown c b l s).hpt.classEnables = s.hpt.classEnables ∧
    (notifyLockdown c b l s).hpt.restartPending = s.hpt.restartPending ∧
    (notifyLockdown c b l s).hpt.sent = s.hpt.sent ∧ (notifyLockdown c b l s).ubc = s.ubc ∧
    (notifyLockdown c b l s).cru = s.cru ∧ (notifyLockdown c b l s).acu = s.acu ∧
    (notifyLockdown c b l s).bgr = s.bgr ∧ (notifyLockdown c b l s).tau = s.tau ∧
    (notifyLockdown c b l s).clc = s.clc ∧ (notifyLockdown c b l s).rcu = s.rcu ∧
    (notifyLockdown c b l s).wcu = s.wcu ∧ (notifyLockdown c b l s).csc = s.csc ∧
    (notifyLockdown c b l s).hoc = s.hoc ∧ (notifyLockdown c b l s).pending = s.pending := by
  unfold notifyLockdown
  simp

@[simp] theorem setLatch_keeps (c : LockdownCause) (s : State) :
    (setLatch c s).sys = s.sys ∧ (setLatch c s).hpt.rx = s.hpt.rx ∧ (setLatch c s).hpt.buffer = s.hpt.buffer ∧
    (setLatch c s).hpt.replies = s.hpt.replies ∧ (setLatch c s).hpt.globalEnable = s.hpt.globalEnable ∧
    (setLatch c s).hpt.classEnables = s.hpt.classEnables ∧ (setLatch c s).hpt.restartPending = s.hpt.restartPending ∧
    (setLatch c s).hpt.sent = s.hpt.sent ∧ (setLatch c s).ubc.addrs = s.ubc.addrs ∧
    (setLatch c s).ubc.panicSel = s.ubc.panicSel ∧ (setLatch c s).ubc.panicHigh = s.ubc.panicHigh ∧
    (setLatch c s).ubc.unitErrors = s.ubc.unitErrors ∧ (setLatch c s).cru = s.cru ∧ (setLatch c s).acu = s.acu ∧
    (setLatch c s).bgr = s.bgr ∧ (setLatch c s).tau = s.tau ∧ (setLatch c s).rcu = s.rcu ∧
    (setLatch c s).wcu = s.wcu ∧ (setLatch c s).csc.policy = s.csc.policy ∧
    (setLatch c s).csc.maintenance = s.csc.maintenance ∧ (setLatch c s).csc.freeze = s.csc.freeze ∧
    (setLatch c s).pending = s.pending := by
  unfold setLatch
  simp

@[simp] theorem renewLatch_keeps (c : LockdownCause) (s : State) :
    (renewLatch c s).sys = s.sys ∧ (renewLatch c s).hpt.rx = s.hpt.rx ∧ (renewLatch c s).hpt.buffer = s.hpt.buffer ∧
    (renewLatch c s).hpt.replies = s.hpt.replies ∧ (renewLatch c s).hpt.globalEnable = s.hpt.globalEnable ∧
    (renewLatch c s).hpt.classEnables = s.hpt.classEnables ∧
    (renewLatch c s).hpt.restartPending = s.hpt.restartPending ∧ (renewLatch c s).hpt.sent = s.hpt.sent ∧
    (renewLatch c s).ubc.addrs = s.ubc.addrs ∧ (renewLatch c s).ubc.panicSel = s.ubc.panicSel ∧
    (renewLatch c s).ubc.panicHigh = s.ubc.panicHigh ∧ (renewLatch c s).ubc.unitErrors = s.ubc.unitErrors ∧
    (renewLatch c s).ubc.commands = s.ubc.commands ∧ (renewLatch c s).cru = s.cru ∧ (renewLatch c s).acu = s.acu ∧
    (renewLatch c s).bgr = s.bgr ∧ (renewLatch c s).tau = s.tau ∧ (renewLatch c s).clc = s.clc ∧
    (renewLatch c s).rcu = s.rcu ∧ (renewLatch c s).wcu = s.wcu ∧
    (renewLatch c s).csc.strongroom = s.csc.strongroom ∧ (renewLatch c s).csc.safes = s.csc.safes ∧
    (renewLatch c s).csc.policy = s.csc.policy ∧ (renewLatch c s).csc.maintenance = s.csc.maintenance ∧
    (renewLatch c s).csc.freeze = s.csc.freeze ∧ (renewLatch c s).csc.latch = s.csc.latch ∧
    (renewLatch c s).hoc = s.hoc ∧ (renewLatch c s).pending = s.pending := by
  unfold renewLatch
  simp

@[simp] theorem lockdown_keeps (c : LockdownCause) (s : State) :
    (lockdown c s).sys = s.sys ∧ (lockdown c s).hpt.rx = s.hpt.rx ∧ (lockdown c s).hpt.buffer = s.hpt.buffer ∧
    (lockdown c s).hpt.replies = s.hpt.replies ∧ (lockdown c s).hpt.globalEnable = s.hpt.globalEnable ∧
    (lockdown c s).hpt.classEnables = s.hpt.classEnables ∧ (lockdown c s).hpt.restartPending = s.hpt.restartPending ∧
    (lockdown c s).hpt.sent = s.hpt.sent ∧ (lockdown c s).ubc.addrs = s.ubc.addrs ∧
    (lockdown c s).ubc.panicSel = s.ubc.panicSel ∧ (lockdown c s).ubc.panicHigh = s.ubc.panicHigh ∧
    (lockdown c s).ubc.unitErrors = s.ubc.unitErrors ∧ (lockdown c s).cru = s.cru ∧ (lockdown c s).acu = s.acu ∧
    (lockdown c s).bgr = s.bgr ∧ (lockdown c s).tau = s.tau ∧ (lockdown c s).rcu = s.rcu ∧
    (lockdown c s).wcu = s.wcu ∧ (lockdown c s).csc.policy = s.csc.policy ∧
    (lockdown c s).csc.maintenance = s.csc.maintenance ∧ (lockdown c s).csc.freeze = s.csc.freeze ∧
    (lockdown c s).pending = s.pending := by
  unfold lockdown
  (repeat' split) <;> simp

@[simp] theorem panicEdge_keeps (e : Edge) (s : State) :
    (panicEdge e s).sys = s.sys ∧ (panicEdge e s).hpt.rx = s.hpt.rx ∧ (panicEdge e s).hpt.buffer = s.hpt.buffer ∧
    (panicEdge e s).hpt.replies = s.hpt.replies ∧ (panicEdge e s).hpt.globalEnable = s.hpt.globalEnable ∧
    (panicEdge e s).hpt.classEnables = s.hpt.classEnables ∧
    (panicEdge e s).hpt.restartPending = s.hpt.restartPending ∧ (panicEdge e s).hpt.sent = s.hpt.sent ∧
    (panicEdge e s).ubc.addrs = s.ubc.addrs ∧ (panicEdge e s).ubc.panicSel = s.ubc.panicSel ∧
    (panicEdge e s).ubc.unitErrors = s.ubc.unitErrors ∧ (panicEdge e s).cru = s.cru ∧ (panicEdge e s).acu = s.acu ∧
    (panicEdge e s).bgr = s.bgr ∧ (panicEdge e s).tau = s.tau ∧ (panicEdge e s).rcu = s.rcu ∧
    (panicEdge e s).wcu = s.wcu ∧ (panicEdge e s).csc.policy = s.csc.policy ∧
    (panicEdge e s).csc.maintenance = s.csc.maintenance ∧ (panicEdge e s).csc.freeze = s.csc.freeze ∧
    (panicEdge e s).pending = s.pending := by
  unfold panicEdge
  (try dsimp only); (repeat' split) <;> simp

@[simp] theorem settleAlarm_keeps (s : State) :
    (settleAlarm s).sys = s.sys ∧ (settleAlarm s).hpt = s.hpt ∧ (settleAlarm s).ubc.addrs = s.ubc.addrs ∧
    (settleAlarm s).ubc.panicSel = s.ubc.panicSel ∧ (settleAlarm s).ubc.panicHigh = s.ubc.panicHigh ∧
    (settleAlarm s).ubc.alarmTimer = s.ubc.alarmTimer ∧ (settleAlarm s).ubc.unitErrors = s.ubc.unitErrors ∧
    (settleAlarm s).ubc.commands = s.ubc.commands ∧ (settleAlarm s).cru = s.cru ∧ (settleAlarm s).acu = s.acu ∧
    (settleAlarm s).bgr = s.bgr ∧ (settleAlarm s).tau = s.tau ∧ (settleAlarm s).clc = s.clc ∧
    (settleAlarm s).rcu = s.rcu ∧ (settleAlarm s).wcu = s.wcu ∧ (settleAlarm s).csc = s.csc ∧
    (settleAlarm s).hoc = s.hoc ∧ (settleAlarm s).pending = s.pending := by
  unfold settleAlarm
  (try dsimp only); (repeat' split) <;> simp

@[simp] theorem expireHold_keeps (s : State) :
    (expireHold s).sys = s.sys ∧ (expireHold s).hpt = s.hpt ∧ (expireHold s).ubc = s.ubc ∧
    (expireHold s).cru = s.cru ∧ (expireHold s).acu = s.acu ∧ (expireHold s).bgr = s.bgr ∧
    (expireHold s).tau = s.tau ∧ (expireHold s).clc = s.clc ∧ (expireHold s).rcu = s.rcu ∧
    (expireHold s).wcu = s.wcu ∧ (expireHold s).csc.strongroom = s.csc.strongroom ∧
    (expireHold s).csc.safes = s.csc.safes ∧ (expireHold s).csc.policy = s.csc.policy ∧
    (expireHold s).csc.maintenance = s.csc.maintenance ∧ (expireHold s).csc.freeze = s.csc.freeze ∧
    (expireHold s).csc.latch = s.csc.latch ∧ (expireHold s).csc.holdTimer = s.csc.holdTimer ∧
    (expireHold s).hoc = s.hoc ∧ (expireHold s).pending = s.pending := by
  unfold expireHold
  (try dsimp only); (repeat' split) <;> simp

@[simp] theorem expireAlarm_keeps (s : State) :
    (expireAlarm s).sys = s.sys ∧ (expireAlarm s).hpt = s.hpt ∧ (expireAlarm s).ubc.addrs = s.ubc.addrs ∧
    (expireAlarm s).ubc.panicSel = s.ubc.panicSel ∧ (expireAlarm s).ubc.panicHigh = s.ubc.panicHigh ∧
    (expireAlarm s).ubc.unitErrors = s.ubc.unitErrors ∧ (expireAlarm s).ubc.commands = s.ubc.commands ∧
    (expireAlarm s).cru = s.cru ∧ (expireAlarm s).acu = s.acu ∧ (expireAlarm s).bgr = s.bgr ∧
    (expireAlarm s).tau = s.tau ∧ (expireAlarm s).clc = s.clc ∧ (expireAlarm s).rcu = s.rcu ∧
    (expireAlarm s).wcu = s.wcu ∧ (expireAlarm s).csc = s.csc ∧ (expireAlarm s).hoc = s.hoc ∧
    (expireAlarm s).pending = s.pending := by
  unfold expireAlarm
  (try dsimp only); (repeat' split) <;> simp

end Sys2Proof.Machine
end

