-- ==== Sys2Proof/Laws/Credentials.lean ====
section
/-!
SUPPORT. What the operations of the Credential Unit leave alone.
-/

namespace Sys2Proof.Machine

open Sys2Proof

-- One proof at a time: the package is compiled as one text under a memory limit.
set_option Elab.async false

@[simp] theorem notifySuspended_keeps (r : Reader) (n : Nat) (p : PinResult) (k : Nat) (s : State) :
    (notifySuspended r n p k s).sys = s.sys ∧ (notifySuspended r n p k s).hpt.rx = s.hpt.rx ∧
    (notifySuspended r n p k s).hpt.buffer = s.hpt.buffer ∧ (notifySuspended r n p k s).hpt.replies = s.hpt.replies ∧
    (notifySuspended r n p k s).hpt.globalEnable = s.hpt.globalEnable ∧
    (notifySuspended r n p k s).hpt.classEnables = s.hpt.classEnables ∧
    (notifySuspended r n p k s).hpt.restartPending = s.hpt.restartPending ∧
    (notifySuspended r n p k s).hpt.sent = s.hpt.sent ∧ (notifySuspended r n p k s).ubc = s.ubc ∧
    (notifySuspended r n p k s).cru = s.cru ∧ (notifySuspended r n p k s).acu = s.acu ∧
    (notifySuspended r n p k s).bgr = s.bgr ∧ (notifySuspended r n p k s).tau = s.tau ∧
    (notifySuspended r n p k s).clc = s.clc ∧ (notifySuspended r n p k s).rcu = s.rcu ∧
    (notifySuspended r n p k s).wcu = s.wcu ∧ (notifySuspended r n p k s).csc = s.csc ∧
    (notifySuspended r n p k s).hoc = s.hoc ∧ (notifySuspended r n p k s).pending = s.pending := by
  unfold notifySuspended
  simp

@[simp] theorem failPin_keeps (r : Reader) (n : Nat) (c : Credential) (s : State) :
    (failPin r n c s).sys = s.sys ∧ (failPin r n c s).hpt.rx = s.hpt.rx ∧
    (failPin r n c s).hpt.buffer = s.hpt.buffer ∧ (failPin r n c s).hpt.replies = s.hpt.replies ∧
    (failPin r n c s).hpt.globalEnable = s.hpt.globalEnable ∧
    (failPin r n c s).hpt.classEnables = s.hpt.classEnables ∧
    (failPin r n c s).hpt.restartPending = s.hpt.restartPending ∧ (failPin r n c s).hpt.sent = s.hpt.sent ∧
    (failPin r n c s).ubc = s.ubc ∧ (failPin r n c s).cru.lifetime = s.cru.lifetime ∧ (failPin r n c s).acu = s.acu ∧
    (failPin r n c s).bgr = s.bgr ∧ (failPin r n c s).tau = s.tau ∧ (failPin r n c s).clc = s.clc ∧
    (failPin r n c s).rcu = s.rcu ∧ (failPin r n c s).wcu = s.wcu ∧ (failPin r n c s).csc = s.csc ∧
    (failPin r n c s).hoc = s.hoc ∧ (failPin r n c s).pending = s.pending := by
  unfold failPin
  (repeat' split) <;> simp

@[simp] theorem tellOwner_keeps (r : Reader) (n : Nat) (cls : CredClass) (s : State) :
    (tellOwner r n cls s).sys = s.sys ∧ (tellOwner r n cls s).hpt.rx = s.hpt.rx ∧
    (tellOwner r n cls s).hpt.buffer = s.hpt.buffer ∧ (tellOwner r n cls s).hpt.replies = s.hpt.replies ∧
    (tellOwner r n cls s).hpt.globalEnable = s.hpt.globalEnable ∧
    (tellOwner r n cls s).hpt.classEnables = s.hpt.classEnables ∧
    (tellOwner r n cls s).hpt.restartPending = s.hpt.restartPending ∧ (tellOwner r n cls s).hpt.sent = s.hpt.sent ∧
    (tellOwner r n cls s).ubc.addrs = s.ubc.addrs ∧ (tellOwner r n cls s).ubc.panicSel = s.ubc.panicSel ∧
    (tellOwner r n cls s).ubc.panicHigh = s.ubc.panicHigh ∧ (tellOwner r n cls s).ubc.alarm = s.ubc.alarm ∧
    (tellOwner r n cls s).ubc.alarmTimer = s.ubc.alarmTimer ∧
    (tellOwner r n cls s).ubc.unitErrors = s.ubc.unitErrors ∧ (tellOwner r n cls s).cru = s.cru ∧
    (tellOwner r n cls s).acu = s.acu ∧ (tellOwner r n cls s).bgr = s.bgr ∧ (tellOwner r n cls s).tau = s.tau ∧
    (tellOwner r n cls s).clc = s.clc ∧ (tellOwner r n cls s).rcu = s.rcu ∧ (tellOwner r n cls s).wcu = s.wcu ∧
    (tellOwner r n cls s).csc.policy = s.csc.policy ∧ (tellOwner r n cls s).csc.maintenance = s.csc.maintenance ∧
    (tellOwner r n cls s).csc.freeze = s.csc.freeze ∧ (tellOwner r n cls s).csc.latch = s.csc.latch ∧
    (tellOwner r n cls s).csc.holdTimer = s.csc.holdTimer ∧
    (tellOwner r n cls s).csc.holdRunning = s.csc.holdRunning ∧ (tellOwner r n cls s).pending = s.pending := by
  unfold tellOwner
  (repeat' split) <;> simp

@[simp] theorem raiseDuress_keeps (r : Reader) (n : Nat) (cls : CredClass) (s : State) :
    (raiseDuress r n cls s).sys = s.sys ∧ (raiseDuress r n cls s).hpt.rx = s.hpt.rx ∧
    (raiseDuress r n cls s).hpt.buffer = s.hpt.buffer ∧ (raiseDuress r n cls s).hpt.replies = s.hpt.replies ∧
    (raiseDuress r n cls s).hpt.globalEnable = s.hpt.globalEnable ∧
    (raiseDuress r n cls s).hpt.classEnables = s.hpt.classEnables ∧
    (raiseDuress r n cls s).hpt.restartPending = s.hpt.restartPending ∧
    (raiseDuress r n cls s).hpt.sent = s.hpt.sent ∧ (raiseDuress r n cls s).ubc.addrs = s.ubc.addrs ∧
    (raiseDuress r n cls s).ubc.panicSel = s.ubc.panicSel ∧ (raiseDuress r n cls s).ubc.panicHigh = s.ubc.panicHigh ∧
    (raiseDuress r n cls s).ubc.unitErrors = s.ubc.unitErrors ∧
    (raiseDuress r n cls s).ubc.commands = s.ubc.commands ∧ (raiseDuress r n cls s).cru = s.cru ∧
    (raiseDuress r n cls s).acu = s.acu ∧ (raiseDuress r n cls s).bgr = s.bgr ∧ (raiseDuress r n cls s).tau = s.tau ∧
    (raiseDuress r n cls s).clc = s.clc ∧ (raiseDuress r n cls s).rcu = s.rcu ∧ (raiseDuress r n cls s).wcu = s.wcu ∧
    (raiseDuress r n cls s).csc = s.csc ∧ (raiseDuress r n cls s).hoc = s.hoc ∧
    (raiseDuress r n cls s).pending = s.pending := by
  unfold raiseDuress
  simp

@[simp] theorem present_keeps (r : Reader) (n : Nat) (c : Credential) (b : Bool) (s : State) :
    (present r n c b s).sys = s.sys ∧ (present r n c b s).hpt.rx = s.hpt.rx ∧
    (present r n c b s).hpt.buffer = s.hpt.buffer ∧ (present r n c b s).hpt.replies = s.hpt.replies ∧
    (present r n c b s).hpt.globalEnable = s.hpt.globalEnable ∧
    (present r n c b s).hpt.classEnables = s.hpt.classEnables ∧
    (present r n c b s).hpt.restartPending = s.hpt.restartPending ∧ (present r n c b s).hpt.sent = s.hpt.sent ∧
    (present r n c b s).ubc.addrs = s.ubc.addrs ∧ (present r n c b s).ubc.panicSel = s.ubc.panicSel ∧
    (present r n c b s).ubc.panicHigh = s.ubc.panicHigh ∧ (present r n c b s).ubc.unitErrors = s.ubc.unitErrors ∧
    (present r n c b s).cru.lifetime = s.cru.lifetime ∧ (present r n c b s).acu = s.acu ∧
    (present r n c b s).bgr = s.bgr ∧ (present r n c b s).tau = s.tau ∧ (present r n c b s).clc = s.clc ∧
    (present r n c b s).rcu = s.rcu ∧ (present r n c b s).wcu = s.wcu ∧
    (present r n c b s).csc.policy = s.csc.policy ∧ (present r n c b s).csc.maintenance = s.csc.maintenance ∧
    (present r n c b s).csc.freeze = s.csc.freeze ∧ (present r n c b s).csc.latch = s.csc.latch ∧
    (present r n c b s).csc.holdTimer = s.csc.holdTimer ∧ (present r n c b s).csc.holdRunning = s.csc.holdRunning ∧
    (present r n c b s).pending = s.pending := by
  unfold present
  (try dsimp only); (repeat' split) <;> simp

@[simp] theorem takeBadge_keeps (r : Reader) (n : Nat) (p : PinResult) (s : State) :
    (takeBadge r n p s).sys = s.sys ∧ (takeBadge r n p s).hpt.rx = s.hpt.rx ∧
    (takeBadge r n p s).hpt.buffer = s.hpt.buffer ∧ (takeBadge r n p s).hpt.replies = s.hpt.replies ∧
    (takeBadge r n p s).hpt.globalEnable = s.hpt.globalEnable ∧
    (takeBadge r n p s).hpt.classEnables = s.hpt.classEnables ∧
    (takeBadge r n p s).hpt.restartPending = s.hpt.restartPending ∧ (takeBadge r n p s).hpt.sent = s.hpt.sent ∧
    (takeBadge r n p s).ubc.addrs = s.ubc.addrs ∧ (takeBadge r n p s).ubc.panicSel = s.ubc.panicSel ∧
    (takeBadge r n p s).ubc.panicHigh = s.ubc.panicHigh ∧ (takeBadge r n p s).ubc.unitErrors = s.ubc.unitErrors ∧
    (takeBadge r n p s).cru.lifetime = s.cru.lifetime ∧ (takeBadge r n p s).acu = s.acu ∧
    (takeBadge r n p s).bgr = s.bgr ∧ (takeBadge r n p s).tau = s.tau ∧ (takeBadge r n p s).clc = s.clc ∧
    (takeBadge r n p s).rcu = s.rcu ∧ (takeBadge r n p s).wcu = s.wcu ∧
    (takeBadge r n p s).csc.policy = s.csc.policy ∧ (takeBadge r n p s).csc.maintenance = s.csc.maintenance ∧
    (takeBadge r n p s).csc.freeze = s.csc.freeze ∧ (takeBadge r n p s).csc.latch = s.csc.latch ∧
    (takeBadge r n p s).csc.holdTimer = s.csc.holdTimer ∧ (takeBadge r n p s).csc.holdRunning = s.csc.holdRunning ∧
    (takeBadge r n p s).pending = s.pending := by
  unfold takeBadge
  (repeat' split) <;> simp

@[simp] theorem expirePresence_keeps (r : Reader) (n : Nat) (s : State) :
    (expirePresence r n s).sys = s.sys ∧ (expirePresence r n s).hpt = s.hpt ∧ (expirePresence r n s).ubc = s.ubc ∧
    (expirePresence r n s).cru.creds = s.cru.creds ∧ (expirePresence r n s).cru.lifetime = s.cru.lifetime ∧
    (expirePresence r n s).acu = s.acu ∧ (expirePresence r n s).bgr = s.bgr ∧ (expirePresence r n s).tau = s.tau ∧
    (expirePresence r n s).clc = s.clc ∧ (expirePresence r n s).rcu = s.rcu ∧ (expirePresence r n s).wcu = s.wcu ∧
    (expirePresence r n s).csc = s.csc ∧ (expirePresence r n s).hoc = s.hoc ∧
    (expirePresence r n s).pending = s.pending := by
  unfold expirePresence
  simp

end Sys2Proof.Machine
end

