-- ==== Sys2Proof/Laws/Recon.lean ====
section
/-!
SUPPORT. What the operations of the Reconciliation Unit leave alone.
-/

namespace Sys2Proof.Machine

open Sys2Proof

-- One proof at a time: the package is compiled as one text under a memory limit.
set_option Elab.async false

@[simp] theorem beginValuation_keeps (s : State) :
    (beginValuation s).sys = s.sys ∧ (beginValuation s).hpt = s.hpt ∧ (beginValuation s).ubc = s.ubc ∧
    (beginValuation s).cru = s.cru ∧ (beginValuation s).acu = s.acu ∧ (beginValuation s).bgr = s.bgr ∧
    (beginValuation s).tau = s.tau ∧ (beginValuation s).clc = s.clc ∧ (beginValuation s).rcu.queue = s.rcu.queue ∧
    (beginValuation s).wcu = s.wcu ∧ (beginValuation s).csc = s.csc ∧ (beginValuation s).hoc = s.hoc ∧
    (beginValuation s).pending = s.pending := by
  unfold beginValuation
  (try dsimp only); (repeat' split) <;> simp

@[simp] theorem applyReport_keeps (c : Confirmation) (s : State) :
    (applyReport c s).sys = s.sys ∧ (applyReport c s).hpt = s.hpt ∧ (applyReport c s).ubc = s.ubc ∧
    (applyReport c s).cru = s.cru ∧ (applyReport c s).acu = s.acu ∧ (applyReport c s).bgr = s.bgr ∧
    (applyReport c s).tau.templates = s.tau.templates ∧ (applyReport c s).tau.postings = s.tau.postings ∧
    (applyReport c s).tau.skimQueue = s.tau.skimQueue ∧ (applyReport c s).clc = s.clc ∧
    (applyReport c s).rcu = s.rcu ∧ (applyReport c s).wcu = s.wcu ∧ (applyReport c s).csc = s.csc ∧
    (applyReport c s).hoc = s.hoc ∧ (applyReport c s).pending = s.pending := by
  unfold applyReport
  (repeat' split) <;> simp

@[simp] theorem applyConfirmation_keeps (c : Confirmation) (b : Bool) (s : State) :
    (applyConfirmation c b s).sys = s.sys ∧ (applyConfirmation c b s).hpt.rx = s.hpt.rx ∧
    (applyConfirmation c b s).hpt.buffer = s.hpt.buffer ∧ (applyConfirmation c b s).hpt.replies = s.hpt.replies ∧
    (applyConfirmation c b s).hpt.globalEnable = s.hpt.globalEnable ∧
    (applyConfirmation c b s).hpt.classEnables = s.hpt.classEnables ∧
    (applyConfirmation c b s).hpt.restartPending = s.hpt.restartPending ∧
    (applyConfirmation c b s).hpt.sent = s.hpt.sent ∧ (applyConfirmation c b s).ubc.addrs = s.ubc.addrs ∧
    (applyConfirmation c b s).ubc.panicSel = s.ubc.panicSel ∧
    (applyConfirmation c b s).ubc.panicHigh = s.ubc.panicHigh ∧ (applyConfirmation c b s).ubc.alarm = s.ubc.alarm ∧
    (applyConfirmation c b s).ubc.alarmTimer = s.ubc.alarmTimer ∧
    (applyConfirmation c b s).ubc.unitErrors = s.ubc.unitErrors ∧ (applyConfirmation c b s).cru = s.cru ∧
    (applyConfirmation c b s).acu.denoms = s.acu.denoms ∧ (applyConfirmation c b s).acu.clock = s.acu.clock ∧
    (applyConfirmation c b s).acu.day = s.acu.day ∧ (applyConfirmation c b s).acu.businessDate = s.acu.businessDate ∧
    (applyConfirmation c b s).acu.mode = s.acu.mode ∧ (applyConfirmation c b s).acu.bandFloor = s.acu.bandFloor ∧
    (applyConfirmation c b s).acu.bandRate = s.acu.bandRate ∧ (applyConfirmation c b s).bgr.ranges = s.bgr.ranges ∧
    (applyConfirmation c b s).tau.templates = s.tau.templates ∧
    (applyConfirmation c b s).tau.postings = s.tau.postings ∧
    (applyConfirmation c b s).tau.skimQueue = s.tau.skimQueue ∧ (applyConfirmation c b s).clc = s.clc ∧
    (applyConfirmation c b s).rcu = s.rcu ∧ (applyConfirmation c b s).wcu = s.wcu ∧
    (applyConfirmation c b s).csc.strongroom = s.csc.strongroom ∧
    (applyConfirmation c b s).csc.policy = s.csc.policy ∧
    (applyConfirmation c b s).csc.maintenance = s.csc.maintenance ∧
    (applyConfirmation c b s).csc.freeze = s.csc.freeze ∧ (applyConfirmation c b s).csc.latch = s.csc.latch ∧
    (applyConfirmation c b s).csc.holdTimer = s.csc.holdTimer ∧
    (applyConfirmation c b s).csc.holdRunning = s.csc.holdRunning ∧ (applyConfirmation c b s).hoc = s.hoc ∧
    (applyConfirmation c b s).pending = s.pending := by
  unfold applyConfirmation
  (try dsimp only); (repeat' split) <;> simp

@[simp] theorem confirm_keeps (c : Confirmation) (s : State) :
    ((confirm c s).1).sys = s.sys ∧ ((confirm c s).1).hpt.rx = s.hpt.rx ∧
    ((confirm c s).1).hpt.buffer = s.hpt.buffer ∧ ((confirm c s).1).hpt.replies = s.hpt.replies ∧
    ((confirm c s).1).hpt.globalEnable = s.hpt.globalEnable ∧
    ((confirm c s).1).hpt.classEnables = s.hpt.classEnables ∧
    ((confirm c s).1).hpt.restartPending = s.hpt.restartPending ∧ ((confirm c s).1).hpt.sent = s.hpt.sent ∧
    ((confirm c s).1).ubc.addrs = s.ubc.addrs ∧ ((confirm c s).1).ubc.panicSel = s.ubc.panicSel ∧
    ((confirm c s).1).ubc.panicHigh = s.ubc.panicHigh ∧ ((confirm c s).1).ubc.alarm = s.ubc.alarm ∧
    ((confirm c s).1).ubc.alarmTimer = s.ubc.alarmTimer ∧ ((confirm c s).1).ubc.unitErrors = s.ubc.unitErrors ∧
    ((confirm c s).1).cru = s.cru ∧ ((confirm c s).1).acu.denoms = s.acu.denoms ∧
    ((confirm c s).1).acu.clock = s.acu.clock ∧ ((confirm c s).1).acu.day = s.acu.day ∧
    ((confirm c s).1).acu.businessDate = s.acu.businessDate ∧ ((confirm c s).1).acu.mode = s.acu.mode ∧
    ((confirm c s).1).acu.bandFloor = s.acu.bandFloor ∧ ((confirm c s).1).acu.bandRate = s.acu.bandRate ∧
    ((confirm c s).1).bgr.ranges = s.bgr.ranges ∧ ((confirm c s).1).tau.templates = s.tau.templates ∧
    ((confirm c s).1).tau.postings = s.tau.postings ∧ ((confirm c s).1).tau.skimQueue = s.tau.skimQueue ∧
    ((confirm c s).1).clc = s.clc ∧ ((confirm c s).1).rcu = s.rcu ∧ ((confirm c s).1).wcu = s.wcu ∧
    ((confirm c s).1).csc.strongroom = s.csc.strongroom ∧ ((confirm c s).1).csc.policy = s.csc.policy ∧
    ((confirm c s).1).csc.maintenance = s.csc.maintenance ∧ ((confirm c s).1).csc.freeze = s.csc.freeze ∧
    ((confirm c s).1).csc.latch = s.csc.latch ∧ ((confirm c s).1).csc.holdTimer = s.csc.holdTimer ∧
    ((confirm c s).1).csc.holdRunning = s.csc.holdRunning ∧ ((confirm c s).1).hoc = s.hoc ∧
    ((confirm c s).1).pending = s.pending := by
  unfold confirm
  (repeat' split) <;> simp

@[simp] theorem notifyStockRange_keeps (r : Nat) (f : Option MoveFail) (s : State) :
    (notifyStockRange r f s).sys = s.sys ∧ (notifyStockRange r f s).hpt.rx = s.hpt.rx ∧
    (notifyStockRange r f s).hpt.buffer = s.hpt.buffer ∧ (notifyStockRange r f s).hpt.replies = s.hpt.replies ∧
    (notifyStockRange r f s).hpt.globalEnable = s.hpt.globalEnable ∧
    (notifyStockRange r f s).hpt.classEnables = s.hpt.classEnables ∧
    (notifyStockRange r f s).hpt.restartPending = s.hpt.restartPending ∧
    (notifyStockRange r f s).hpt.sent = s.hpt.sent ∧ (notifyStockRange r f s).ubc = s.ubc ∧
    (notifyStockRange r f s).cru = s.cru ∧ (notifyStockRange r f s).acu = s.acu ∧
    (notifyStockRange r f s).bgr = s.bgr ∧ (notifyStockRange r f s).tau = s.tau ∧
    (notifyStockRange r f s).clc = s.clc ∧ (notifyStockRange r f s).rcu = s.rcu ∧
    (notifyStockRange r f s).wcu = s.wcu ∧ (notifyStockRange r f s).csc = s.csc ∧
    (notifyStockRange r f s).hoc = s.hoc ∧ (notifyStockRange r f s).pending = s.pending := by
  unfold notifyStockRange
  (repeat' split) <;> simp

@[simp] theorem announceReport_keeps (c : Confirmation) (w : State) (s : State) :
    (announceReport c w s).sys = s.sys ∧ (announceReport c w s).hpt.rx = s.hpt.rx ∧
    (announceReport c w s).hpt.buffer = s.hpt.buffer ∧ (announceReport c w s).hpt.replies = s.hpt.replies ∧
    (announceReport c w s).hpt.globalEnable = s.hpt.globalEnable ∧
    (announceReport c w s).hpt.classEnables = s.hpt.classEnables ∧
    (announceReport c w s).hpt.restartPending = s.hpt.restartPending ∧ (announceReport c w s).hpt.sent = s.hpt.sent ∧
    (announceReport c w s).ubc.addrs = s.ubc.addrs ∧ (announceReport c w s).ubc.panicSel = s.ubc.panicSel ∧
    (announceReport c w s).ubc.panicHigh = s.ubc.panicHigh ∧ (announceReport c w s).ubc.alarm = s.ubc.alarm ∧
    (announceReport c w s).ubc.alarmTimer = s.ubc.alarmTimer ∧
    (announceReport c w s).ubc.unitErrors = s.ubc.unitErrors ∧ (announceReport c w s).cru = s.cru ∧
    (announceReport c w s).acu = s.acu ∧ (announceReport c w s).bgr = s.bgr ∧
    (announceReport c w s).tau.templates = s.tau.templates ∧ (announceReport c w s).tau.postings = s.tau.postings ∧
    (announceReport c w s).tau.skimQueue = s.tau.skimQueue ∧ (announceReport c w s).rcu = s.rcu ∧
    (announceReport c w s).wcu.auditHold = s.wcu.auditHold ∧ (announceReport c w s).csc = s.csc ∧
    (announceReport c w s).hoc = s.hoc ∧ (announceReport c w s).pending = s.pending := by
  unfold announceReport
  (repeat' split) <;> simp

@[simp] theorem notifyResult_keeps (b : Bag) (q : QueuedCount) (v : ValuationResult) (x : BagState) (f h : Bool) (s : State) :
    (notifyResult b q v x f h s).sys = s.sys ∧ (notifyResult b q v x f h s).hpt.rx = s.hpt.rx ∧
    (notifyResult b q v x f h s).hpt.buffer = s.hpt.buffer ∧
    (notifyResult b q v x f h s).hpt.replies = s.hpt.replies ∧
    (notifyResult b q v x f h s).hpt.globalEnable = s.hpt.globalEnable ∧
    (notifyResult b q v x f h s).hpt.classEnables = s.hpt.classEnables ∧
    (notifyResult b q v x f h s).hpt.restartPending = s.hpt.restartPending ∧
    (notifyResult b q v x f h s).hpt.sent = s.hpt.sent ∧ (notifyResult b q v x f h s).ubc = s.ubc ∧
    (notifyResult b q v x f h s).cru = s.cru ∧ (notifyResult b q v x f h s).acu = s.acu ∧
    (notifyResult b q v x f h s).bgr = s.bgr ∧ (notifyResult b q v x f h s).tau = s.tau ∧
    (notifyResult b q v x f h s).clc = s.clc ∧ (notifyResult b q v x f h s).rcu = s.rcu ∧
    (notifyResult b q v x f h s).wcu = s.wcu ∧ (notifyResult b q v x f h s).csc = s.csc ∧
    (notifyResult b q v x f h s).hoc = s.hoc ∧ (notifyResult b q v x f h s).pending = s.pending := by
  unfold notifyResult
  simp

@[simp] theorem leaveQueue_keeps (q : QueuedCount) (s : State) :
    (leaveQueue q s).sys = s.sys ∧ (leaveQueue q s).hpt = s.hpt ∧ (leaveQueue q s).ubc = s.ubc ∧
    (leaveQueue q s).cru = s.cru ∧ (leaveQueue q s).acu = s.acu ∧ (leaveQueue q s).bgr = s.bgr ∧
    (leaveQueue q s).tau = s.tau ∧ (leaveQueue q s).wcu = s.wcu ∧ (leaveQueue q s).csc = s.csc ∧
    (leaveQueue q s).hoc = s.hoc ∧ (leaveQueue q s).pending = s.pending := by
  unfold leaveQueue
  (try dsimp only); (repeat' split) <;> simp

@[simp] theorem completeCount_keeps (q : QueuedCount) (b : Bag) (c : Option Int) (s : State) :
    (completeCount q b c s).sys = s.sys ∧ (completeCount q b c s).hpt.rx = s.hpt.rx ∧
    (completeCount q b c s).hpt.buffer = s.hpt.buffer ∧ (completeCount q b c s).hpt.replies = s.hpt.replies ∧
    (completeCount q b c s).hpt.globalEnable = s.hpt.globalEnable ∧
    (completeCount q b c s).hpt.classEnables = s.hpt.classEnables ∧
    (completeCount q b c s).hpt.restartPending = s.hpt.restartPending ∧
    (completeCount q b c s).hpt.sent = s.hpt.sent ∧ (completeCount q b c s).ubc.addrs = s.ubc.addrs ∧
    (completeCount q b c s).ubc.panicSel = s.ubc.panicSel ∧ (completeCount q b c s).ubc.panicHigh = s.ubc.panicHigh ∧
    (completeCount q b c s).ubc.alarm = s.ubc.alarm ∧ (completeCount q b c s).ubc.alarmTimer = s.ubc.alarmTimer ∧
    (completeCount q b c s).ubc.unitErrors = s.ubc.unitErrors ∧ (completeCount q b c s).cru = s.cru ∧
    (completeCount q b c s).acu.denoms = s.acu.denoms ∧ (completeCount q b c s).acu.clock = s.acu.clock ∧
    (completeCount q b c s).acu.day = s.acu.day ∧ (completeCount q b c s).acu.businessDate = s.acu.businessDate ∧
    (completeCount q b c s).acu.mode = s.acu.mode ∧ (completeCount q b c s).acu.bandFloor = s.acu.bandFloor ∧
    (completeCount q b c s).acu.bandRate = s.acu.bandRate ∧ (completeCount q b c s).bgr.ranges = s.bgr.ranges ∧
    (completeCount q b c s).tau.templates = s.tau.templates ∧ (completeCount q b c s).tau.postings = s.tau.postings ∧
    (completeCount q b c s).tau.skimQueue = s.tau.skimQueue ∧
    (completeCount q b c s).wcu.auditHold = s.wcu.auditHold ∧
    (completeCount q b c s).csc.strongroom = s.csc.strongroom ∧ (completeCount q b c s).csc.policy = s.csc.policy ∧
    (completeCount q b c s).csc.maintenance = s.csc.maintenance ∧ (completeCount q b c s).csc.freeze = s.csc.freeze ∧
    (completeCount q b c s).csc.latch = s.csc.latch ∧ (completeCount q b c s).csc.holdTimer = s.csc.holdTimer ∧
    (completeCount q b c s).csc.holdRunning = s.csc.holdRunning ∧ (completeCount q b c s).hoc = s.hoc ∧
    (completeCount q b c s).pending = s.pending := by
  unfold completeCount
  (try dsimp only); (repeat' split) <;> simp

@[simp] theorem completeValuation_keeps (s : State) :
    (completeValuation s).sys = s.sys ∧ (completeValuation s).hpt.rx = s.hpt.rx ∧
    (completeValuation s).hpt.buffer = s.hpt.buffer ∧ (completeValuation s).hpt.replies = s.hpt.replies ∧
    (completeValuation s).hpt.globalEnable = s.hpt.globalEnable ∧
    (completeValuation s).hpt.classEnables = s.hpt.classEnables ∧
    (completeValuation s).hpt.restartPending = s.hpt.restartPending ∧ (completeValuation s).hpt.sent = s.hpt.sent ∧
    (completeValuation s).ubc.addrs = s.ubc.addrs ∧ (completeValuation s).ubc.panicSel = s.ubc.panicSel ∧
    (completeValuation s).ubc.panicHigh = s.ubc.panicHigh ∧ (completeValuation s).ubc.alarm = s.ubc.alarm ∧
    (completeValuation s).ubc.alarmTimer = s.ubc.alarmTimer ∧
    (completeValuation s).ubc.unitErrors = s.ubc.unitErrors ∧ (completeValuation s).cru = s.cru ∧
    (completeValuation s).acu.denoms = s.acu.denoms ∧ (completeValuation s).acu.clock = s.acu.clock ∧
    (completeValuation s).acu.day = s.acu.day ∧ (completeValuation s).acu.businessDate = s.acu.businessDate ∧
    (completeValuation s).acu.mode = s.acu.mode ∧ (completeValuation s).acu.bandFloor = s.acu.bandFloor ∧
    (completeValuation s).acu.bandRate = s.acu.bandRate ∧ (completeValuation s).bgr.ranges = s.bgr.ranges ∧
    (completeValuation s).tau.templates = s.tau.templates ∧ (completeValuation s).wcu.auditHold = s.wcu.auditHold ∧
    (completeValuation s).csc.strongroom = s.csc.strongroom ∧ (completeValuation s).csc.policy = s.csc.policy ∧
    (completeValuation s).csc.maintenance = s.csc.maintenance ∧ (completeValuation s).csc.freeze = s.csc.freeze ∧
    (completeValuation s).csc.latch = s.csc.latch ∧ (completeValuation s).csc.holdTimer = s.csc.holdTimer ∧
    (completeValuation s).csc.holdRunning = s.csc.holdRunning ∧ (completeValuation s).hoc = s.hoc ∧
    (completeValuation s).pending = s.pending := by
  unfold completeValuation
  (repeat' split) <;> simp

end Sys2Proof.Machine
end

