-- ==== Sys2Proof/Laws/HostPort.lean ====
section
/-!
SUPPORT. What the operations of the Host Port and the tick leave alone.
-/

namespace Sys2Proof.Machine

open Sys2Proof

-- One proof at a time: the package is compiled as one text under a memory limit.
set_option Elab.async false

@[simp] theorem badFrame_keeps (s : State) :
    (badFrame s).sys = s.sys ∧ (badFrame s).hpt.rx = s.hpt.rx ∧ (badFrame s).hpt.buffer = s.hpt.buffer ∧
    (badFrame s).hpt.notices = s.hpt.notices ∧ (badFrame s).hpt.globalEnable = s.hpt.globalEnable ∧
    (badFrame s).hpt.classEnables = s.hpt.classEnables ∧ (badFrame s).hpt.overflow = s.hpt.overflow ∧
    (badFrame s).hpt.dropped = s.hpt.dropped ∧ (badFrame s).hpt.restartPending = s.hpt.restartPending ∧
    (badFrame s).hpt.sent = s.hpt.sent ∧ (badFrame s).ubc = s.ubc ∧ (badFrame s).cru = s.cru ∧
    (badFrame s).acu = s.acu ∧ (badFrame s).bgr = s.bgr ∧ (badFrame s).tau = s.tau ∧ (badFrame s).clc = s.clc ∧
    (badFrame s).rcu = s.rcu ∧ (badFrame s).wcu = s.wcu ∧ (badFrame s).csc = s.csc ∧ (badFrame s).hoc = s.hoc ∧
    (badFrame s).pending = s.pending := by
  unfold badFrame
  simp

@[simp] theorem receiveRequest_keeps (tag kind : Nat) (l : List Byte) (s : State) :
    (receiveRequest tag kind l s).sys = s.sys ∧ (receiveRequest tag kind l s).hpt.rx = s.hpt.rx ∧
    (receiveRequest tag kind l s).hpt.notices = s.hpt.notices ∧
    (receiveRequest tag kind l s).hpt.globalEnable = s.hpt.globalEnable ∧
    (receiveRequest tag kind l s).hpt.classEnables = s.hpt.classEnables ∧
    (receiveRequest tag kind l s).hpt.overflow = s.hpt.overflow ∧
    (receiveRequest tag kind l s).hpt.dropped = s.hpt.dropped ∧
    (receiveRequest tag kind l s).hpt.restartPending = s.hpt.restartPending ∧
    (receiveRequest tag kind l s).hpt.sent = s.hpt.sent ∧ (receiveRequest tag kind l s).ubc = s.ubc ∧
    (receiveRequest tag kind l s).cru = s.cru ∧ (receiveRequest tag kind l s).acu = s.acu ∧
    (receiveRequest tag kind l s).bgr = s.bgr ∧ (receiveRequest tag kind l s).tau = s.tau ∧
    (receiveRequest tag kind l s).clc = s.clc ∧ (receiveRequest tag kind l s).rcu = s.rcu ∧
    (receiveRequest tag kind l s).wcu = s.wcu ∧ (receiveRequest tag kind l s).csc = s.csc ∧
    (receiveRequest tag kind l s).hoc = s.hoc ∧ (receiveRequest tag kind l s).pending = s.pending := by
  unfold receiveRequest
  (repeat' split) <;> simp

@[simp] theorem receiveFrame_keeps (l : List Byte) (s : State) :
    (receiveFrame l s).sys = s.sys ∧ (receiveFrame l s).hpt.rx = s.hpt.rx ∧
    (receiveFrame l s).hpt.notices = s.hpt.notices ∧ (receiveFrame l s).hpt.globalEnable = s.hpt.globalEnable ∧
    (receiveFrame l s).hpt.classEnables = s.hpt.classEnables ∧ (receiveFrame l s).hpt.overflow = s.hpt.overflow ∧
    (receiveFrame l s).hpt.dropped = s.hpt.dropped ∧ (receiveFrame l s).hpt.restartPending = s.hpt.restartPending ∧
    (receiveFrame l s).hpt.sent = s.hpt.sent ∧ (receiveFrame l s).ubc = s.ubc ∧ (receiveFrame l s).cru = s.cru ∧
    (receiveFrame l s).acu = s.acu ∧ (receiveFrame l s).bgr = s.bgr ∧ (receiveFrame l s).tau = s.tau ∧
    (receiveFrame l s).clc = s.clc ∧ (receiveFrame l s).rcu = s.rcu ∧ (receiveFrame l s).wcu = s.wcu ∧
    (receiveFrame l s).csc = s.csc ∧ (receiveFrame l s).hoc = s.hoc ∧ (receiveFrame l s).pending = s.pending := by
  unfold receiveFrame
  (try dsimp only); (repeat' split) <;> simp

@[simp] theorem abandonStale_keeps (s : State) :
    (abandonStale s).sys = s.sys ∧ (abandonStale s).hpt.buffer = s.hpt.buffer ∧
    (abandonStale s).hpt.notices = s.hpt.notices ∧ (abandonStale s).hpt.globalEnable = s.hpt.globalEnable ∧
    (abandonStale s).hpt.classEnables = s.hpt.classEnables ∧ (abandonStale s).hpt.overflow = s.hpt.overflow ∧
    (abandonStale s).hpt.dropped = s.hpt.dropped ∧ (abandonStale s).hpt.restartPending = s.hpt.restartPending ∧
    (abandonStale s).hpt.sent = s.hpt.sent ∧ (abandonStale s).ubc = s.ubc ∧ (abandonStale s).cru = s.cru ∧
    (abandonStale s).acu = s.acu ∧ (abandonStale s).bgr = s.bgr ∧ (abandonStale s).tau = s.tau ∧
    (abandonStale s).clc = s.clc ∧ (abandonStale s).rcu = s.rcu ∧ (abandonStale s).wcu = s.wcu ∧
    (abandonStale s).csc = s.csc ∧ (abandonStale s).hoc = s.hoc ∧ (abandonStale s).pending = s.pending := by
  unfold abandonStale
  (repeat' split) <;> simp

@[simp] theorem feedFrame_keeps (f : RxFrame) (b : Byte) (s : State) :
    (feedFrame f b s).sys = s.sys ∧ (feedFrame f b s).hpt.notices = s.hpt.notices ∧
    (feedFrame f b s).hpt.globalEnable = s.hpt.globalEnable ∧
    (feedFrame f b s).hpt.classEnables = s.hpt.classEnables ∧ (feedFrame f b s).hpt.overflow = s.hpt.overflow ∧
    (feedFrame f b s).hpt.dropped = s.hpt.dropped ∧ (feedFrame f b s).hpt.restartPending = s.hpt.restartPending ∧
    (feedFrame f b s).hpt.sent = s.hpt.sent ∧ (feedFrame f b s).ubc = s.ubc ∧ (feedFrame f b s).cru = s.cru ∧
    (feedFrame f b s).acu = s.acu ∧ (feedFrame f b s).bgr = s.bgr ∧ (feedFrame f b s).tau = s.tau ∧
    (feedFrame f b s).clc = s.clc ∧ (feedFrame f b s).rcu = s.rcu ∧ (feedFrame f b s).wcu = s.wcu ∧
    (feedFrame f b s).csc = s.csc ∧ (feedFrame f b s).hoc = s.hoc ∧ (feedFrame f b s).pending = s.pending := by
  unfold feedFrame
  (try dsimp only); (repeat' split) <;> simp

@[simp] theorem feedByte_keeps (b : Byte) (s : State) :
    (feedByte s b).sys = s.sys ∧ (feedByte s b).hpt.notices = s.hpt.notices ∧
    (feedByte s b).hpt.globalEnable = s.hpt.globalEnable ∧ (feedByte s b).hpt.classEnables = s.hpt.classEnables ∧
    (feedByte s b).hpt.overflow = s.hpt.overflow ∧ (feedByte s b).hpt.dropped = s.hpt.dropped ∧
    (feedByte s b).hpt.restartPending = s.hpt.restartPending ∧ (feedByte s b).hpt.sent = s.hpt.sent ∧
    (feedByte s b).ubc = s.ubc ∧ (feedByte s b).cru = s.cru ∧ (feedByte s b).acu = s.acu ∧
    (feedByte s b).bgr = s.bgr ∧ (feedByte s b).tau = s.tau ∧ (feedByte s b).clc = s.clc ∧
    (feedByte s b).rcu = s.rcu ∧ (feedByte s b).wcu = s.wcu ∧ (feedByte s b).csc = s.csc ∧
    (feedByte s b).hoc = s.hoc ∧ (feedByte s b).pending = s.pending := by
  unfold feedByte
  (try dsimp only); (repeat' split) <;> simp

@[simp] theorem sendMessage_keeps (s : State) :
    (sendMessage s).sys = s.sys ∧ (sendMessage s).hpt.rx = s.hpt.rx ∧ (sendMessage s).hpt.buffer = s.hpt.buffer ∧
    (sendMessage s).hpt.globalEnable = s.hpt.globalEnable ∧ (sendMessage s).hpt.classEnables = s.hpt.classEnables ∧
    (sendMessage s).hpt.overflow = s.hpt.overflow ∧ (sendMessage s).hpt.dropped = s.hpt.dropped ∧
    (sendMessage s).hpt.restartPending = s.hpt.restartPending ∧ (sendMessage s).ubc = s.ubc ∧
    (sendMessage s).cru = s.cru ∧ (sendMessage s).acu = s.acu ∧ (sendMessage s).bgr = s.bgr ∧
    (sendMessage s).tau = s.tau ∧ (sendMessage s).clc = s.clc ∧ (sendMessage s).rcu = s.rcu ∧
    (sendMessage s).wcu = s.wcu ∧ (sendMessage s).csc = s.csc ∧ (sendMessage s).hoc = s.hoc ∧
    (sendMessage s).pending = s.pending := by
  unfold sendMessage
  (try dsimp only); (repeat' split) <;> simp

@[simp] theorem tickTimers_keeps (s : State) :
    (tickTimers s).sys = s.sys ∧ (tickTimers s).hpt.buffer = s.hpt.buffer ∧
    (tickTimers s).hpt.replies = s.hpt.replies ∧ (tickTimers s).hpt.notices = s.hpt.notices ∧
    (tickTimers s).hpt.globalEnable = s.hpt.globalEnable ∧ (tickTimers s).hpt.classEnables = s.hpt.classEnables ∧
    (tickTimers s).hpt.overflow = s.hpt.overflow ∧ (tickTimers s).hpt.dropped = s.hpt.dropped ∧
    (tickTimers s).hpt.restartPending = s.hpt.restartPending ∧ (tickTimers s).hpt.sent = s.hpt.sent ∧
    (tickTimers s).ubc.addrs = s.ubc.addrs ∧ (tickTimers s).ubc.panicSel = s.ubc.panicSel ∧
    (tickTimers s).ubc.panicHigh = s.ubc.panicHigh ∧ (tickTimers s).ubc.alarm = s.ubc.alarm ∧
    (tickTimers s).ubc.unitErrors = s.ubc.unitErrors ∧ (tickTimers s).ubc.commands = s.ubc.commands ∧
    (tickTimers s).cru.creds = s.cru.creds ∧ (tickTimers s).cru.lifetime = s.cru.lifetime ∧
    (tickTimers s).acu = s.acu ∧ (tickTimers s).bgr = s.bgr ∧ (tickTimers s).tau = s.tau ∧
    (tickTimers s).clc = s.clc ∧ (tickTimers s).rcu = s.rcu ∧ (tickTimers s).wcu = s.wcu ∧
    (tickTimers s).csc.policy = s.csc.policy ∧ (tickTimers s).csc.maintenance = s.csc.maintenance ∧
    (tickTimers s).csc.freeze = s.csc.freeze ∧ (tickTimers s).csc.latch = s.csc.latch ∧
    (tickTimers s).csc.holdRunning = s.csc.holdRunning ∧ (tickTimers s).hoc.closedOrder = s.hoc.closedOrder ∧
    (tickTimers s).pending = s.pending := by
  (repeat' apply And.intro)
  all_goals rfl

end Sys2Proof.Machine
end

