-- ==== Sys2Proof/Laws/Starts.lean ====
section
/-!
SUPPORT. What the operations of a start leave alone.
-/

namespace Sys2Proof.Machine

open Sys2Proof

-- One proof at a time: the package is compiled as one text under a memory limit.
set_option Elab.async false

@[simp] theorem returnBags_keeps (l : List Nat) (s : State) :
    (returnBags l s).sys = s.sys ∧ (returnBags l s).hpt = s.hpt ∧ (returnBags l s).ubc = s.ubc ∧
    (returnBags l s).cru = s.cru ∧ (returnBags l s).acu = s.acu ∧ (returnBags l s).bgr.retired = s.bgr.retired ∧
    (returnBags l s).bgr.ranges = s.bgr.ranges ∧ (returnBags l s).tau = s.tau ∧ (returnBags l s).clc = s.clc ∧
    (returnBags l s).rcu = s.rcu ∧ (returnBags l s).wcu = s.wcu ∧ (returnBags l s).csc = s.csc ∧
    (returnBags l s).hoc = s.hoc ∧ (returnBags l s).pending = s.pending := by
  unfold returnBags
  exact ⟨(foldl_keeps (fun s : State => s.sys) _ (by intros; simp) _ _).trans (by simp),
    (foldl_keeps (fun s : State => s.hpt) _ (by intros; simp) _ _).trans (by simp),
    (foldl_keeps (fun s : State => s.ubc) _ (by intros; simp) _ _).trans (by simp),
    (foldl_keeps (fun s : State => s.cru) _ (by intros; simp) _ _).trans (by simp),
    (foldl_keeps (fun s : State => s.acu) _ (by intros; simp) _ _).trans (by simp),
    (foldl_keeps (fun s : State => s.bgr.retired) _ (by intros; simp) _ _).trans (by simp),
    (foldl_keeps (fun s : State => s.bgr.ranges) _ (by intros; simp) _ _).trans (by simp),
    (foldl_keeps (fun s : State => s.tau) _ (by intros; simp) _ _).trans (by simp),
    (foldl_keeps (fun s : State => s.clc) _ (by intros; simp) _ _).trans (by simp),
    (foldl_keeps (fun s : State => s.rcu) _ (by intros; simp) _ _).trans (by simp),
    (foldl_keeps (fun s : State => s.wcu) _ (by intros; simp) _ _).trans (by simp),
    (foldl_keeps (fun s : State => s.csc) _ (by intros; simp) _ _).trans (by simp),
    (foldl_keeps (fun s : State => s.hoc) _ (by intros; simp) _ _).trans (by simp),
    (foldl_keeps (fun s : State => s.pending) _ (by intros; simp) _ _).trans (by simp)⟩

@[simp] theorem abandonCounts_keeps (s : State) :
    (abandonCounts s).sys = s.sys ∧ (abandonCounts s).hpt = s.hpt ∧ (abandonCounts s).ubc = s.ubc ∧
    (abandonCounts s).cru = s.cru ∧ (abandonCounts s).acu.denoms = s.acu.denoms ∧
    (abandonCounts s).acu.stock = s.acu.stock ∧ (abandonCounts s).acu.accountability = s.acu.accountability ∧
    (abandonCounts s).acu.courier = s.acu.courier ∧ (abandonCounts s).acu.unattributed = s.acu.unattributed ∧
    (abandonCounts s).acu.suspects = s.acu.suspects ∧ (abandonCounts s).acu.journal = s.acu.journal ∧
    (abandonCounts s).acu.nextSeq = s.acu.nextSeq ∧ (abandonCounts s).acu.clock = s.acu.clock ∧
    (abandonCounts s).acu.day = s.acu.day ∧ (abandonCounts s).acu.businessDate = s.acu.businessDate ∧
    (abandonCounts s).acu.mode = s.acu.mode ∧ (abandonCounts s).acu.bandFloor = s.acu.bandFloor ∧
    (abandonCounts s).acu.bandRate = s.acu.bandRate ∧ (abandonCounts s).bgr.retired = s.bgr.retired ∧
    (abandonCounts s).bgr.ranges = s.bgr.ranges ∧ (abandonCounts s).tau = s.tau ∧ (abandonCounts s).wcu = s.wcu ∧
    (abandonCounts s).csc = s.csc ∧ (abandonCounts s).hoc = s.hoc ∧ (abandonCounts s).pending = s.pending := by
  unfold abandonCounts
  simp

@[simp] theorem resolveCustody_keeps (p : Bool) (s : State) :
    (resolveCustody p s).sys = s.sys ∧ (resolveCustody p s).hpt = s.hpt ∧ (resolveCustody p s).ubc = s.ubc ∧
    (resolveCustody p s).cru = s.cru ∧ (resolveCustody p s).acu = s.acu ∧ (resolveCustody p s).bgr = s.bgr ∧
    (resolveCustody p s).tau = s.tau ∧ (resolveCustody p s).clc = s.clc ∧ (resolveCustody p s).rcu = s.rcu ∧
    (resolveCustody p s).wcu = s.wcu ∧ (resolveCustody p s).csc.policy = s.csc.policy ∧
    (resolveCustody p s).csc.maintenance = s.csc.maintenance ∧ (resolveCustody p s).csc.latch = s.csc.latch ∧
    (resolveCustody p s).hoc = s.hoc ∧ (resolveCustody p s).pending = s.pending := by
  (repeat' apply And.intro)
  all_goals rfl

@[simp] theorem abortAtStart_keeps (s : State) :
    (abortAtStart s).sys = s.sys ∧ (abortAtStart s).hpt = s.hpt ∧ (abortAtStart s).ubc = s.ubc ∧
    (abortAtStart s).cru = s.cru ∧ (abortAtStart s).acu = s.acu ∧ (abortAtStart s).bgr = s.bgr ∧
    (abortAtStart s).tau = s.tau ∧ (abortAtStart s).clc = s.clc ∧ (abortAtStart s).rcu = s.rcu ∧
    (abortAtStart s).wcu = s.wcu ∧ (abortAtStart s).csc = s.csc ∧ (abortAtStart s).pending = s.pending := by
  unfold abortAtStart
  (repeat' split) <;> simp

@[simp] theorem sendStart_keeps (c : StartCause) (s : State) :
    (sendStart c s).sys = s.sys ∧ (sendStart c s).hpt.rx = s.hpt.rx ∧ (sendStart c s).hpt.notices = s.hpt.notices ∧
    (sendStart c s).hpt.buffer = s.hpt.buffer ∧ (sendStart c s).hpt.replies = s.hpt.replies ∧
    (sendStart c s).hpt.globalEnable = s.hpt.globalEnable ∧
    (sendStart c s).hpt.classEnables = s.hpt.classEnables ∧
    (sendStart c s).hpt.restartPending = s.hpt.restartPending ∧
    (sendStart c s).hpt.overflow = s.hpt.overflow ∧ (sendStart c s).hpt.dropped = s.hpt.dropped ∧
    (sendStart c s).ubc = s.ubc ∧ (sendStart c s).cru = s.cru ∧ (sendStart c s).acu = s.acu ∧
    (sendStart c s).bgr = s.bgr ∧ (sendStart c s).tau = s.tau ∧ (sendStart c s).clc = s.clc ∧
    (sendStart c s).rcu = s.rcu ∧ (sendStart c s).wcu = s.wcu ∧ (sendStart c s).csc = s.csc ∧
    (sendStart c s).hoc = s.hoc ∧ (sendStart c s).pending = s.pending := by
  unfold sendStart
  simp

@[simp] theorem sendAborted_keeps (w : Option (Nat × Manifest)) (s : State) :
    (sendAborted w s).sys = s.sys ∧ (sendAborted w s).hpt.rx = s.hpt.rx ∧ (sendAborted w s).hpt.notices = s.hpt.notices ∧
    (sendAborted w s).hpt.buffer = s.hpt.buffer ∧ (sendAborted w s).hpt.replies = s.hpt.replies ∧
    (sendAborted w s).hpt.globalEnable = s.hpt.globalEnable ∧
    (sendAborted w s).hpt.classEnables = s.hpt.classEnables ∧
    (sendAborted w s).hpt.restartPending = s.hpt.restartPending ∧
    (sendAborted w s).hpt.overflow = s.hpt.overflow ∧ (sendAborted w s).hpt.dropped = s.hpt.dropped ∧
    (sendAborted w s).ubc = s.ubc ∧ (sendAborted w s).cru = s.cru ∧ (sendAborted w s).acu = s.acu ∧
    (sendAborted w s).bgr = s.bgr ∧ (sendAborted w s).tau = s.tau ∧ (sendAborted w s).clc = s.clc ∧
    (sendAborted w s).rcu = s.rcu ∧ (sendAborted w s).wcu = s.wcu ∧ (sendAborted w s).csc = s.csc ∧
    (sendAborted w s).hoc = s.hoc ∧ (sendAborted w s).pending = s.pending := by
  unfold sendAborted
  (repeat' split) <;> simp

@[simp] theorem warmStart_keeps (c : StartCause) (s : State) :
    (warmStart c s).sys.storeValid = s.sys.storeValid ∧ (warmStart c s).hpt.notices = [] ∧
    (warmStart c s).ubc.panicSel = s.ubc.panicSel ∧ (warmStart c s).ubc.panicHigh = s.ubc.panicHigh ∧
    (warmStart c s).cru.creds = s.cru.creds ∧ (warmStart c s).cru.lifetime = s.cru.lifetime ∧
    (warmStart c s).acu.denoms = s.acu.denoms ∧ (warmStart c s).acu.stock = s.acu.stock ∧
    (warmStart c s).acu.accountability = s.acu.accountability ∧ (warmStart c s).acu.courier = s.acu.courier ∧
    (warmStart c s).acu.unattributed = s.acu.unattributed ∧ (warmStart c s).acu.suspects = s.acu.suspects ∧
    (warmStart c s).acu.journal = s.acu.journal ∧ (warmStart c s).acu.nextSeq = s.acu.nextSeq ∧
    (warmStart c s).acu.clock = s.acu.clock ∧ (warmStart c s).acu.day = s.acu.day ∧
    (warmStart c s).acu.businessDate = s.acu.businessDate ∧ (warmStart c s).acu.mode = s.acu.mode ∧
    (warmStart c s).acu.bandFloor = s.acu.bandFloor ∧ (warmStart c s).acu.bandRate = s.acu.bandRate ∧
    (warmStart c s).bgr.retired = s.bgr.retired ∧ (warmStart c s).bgr.ranges = s.bgr.ranges ∧
    (warmStart c s).tau = s.tau ∧ (warmStart c s).wcu = s.wcu ∧ (warmStart c s).csc.policy = s.csc.policy ∧
    (warmStart c s).csc.maintenance = s.csc.maintenance ∧ (warmStart c s).csc.latch = s.csc.latch ∧
    (warmStart c s).pending = s.pending := by
  unfold warmStart
  simp

@[simp] theorem coldStart_keeps (s : State) :
    (coldStart s).hpt.sent = s.hpt.sent ++ [.notice coldStartNotice] ∧ (coldStart s).hpt.notices = [] ∧ (coldStart s).ubc.panicHigh = s.ubc.panicHigh ∧
    (coldStart s).pending = s.pending := by
  (repeat' apply And.intro)
  all_goals rfl

@[simp] theorem startWith_keeps (c : StartCause) (b : Bool) (s : State) :
    (startWith c b s).hpt.notices = [] ∧ (startWith c b s).ubc.panicHigh = s.ubc.panicHigh ∧
    (startWith c b s).pending = s.pending := by
  unfold startWith
  (repeat' split) <;> simp

end Sys2Proof.Machine
end

