-- ==== Sys2Proof/Laws/Requests.lean ====
section
/-!
SUPPORT. Requests and unit records once and for all: when a request is taken and what it answers, what a chain of checks
that succeeds has checked, what the authority check reads, and how a rule is carried through a request.
-/

namespace Sys2Proof.Machine

open Sys2Proof

-- One proof at a time: the package is compiled as one text under a memory limit.
set_option Elab.async false

/-! ## Checks -/

@[simp] theorem require_true (st : Status) (l : List Field) : require true st l = .ok () := rfl

@[simp] theorem require_false (st : Status) (l : List Field) : require false st l = .error ⟨st, l⟩ := rfl

@[simp] theorem requireSome_some {α : Type} (a : α) (st : Status) (l : List Field) :
    requireSome (some a) st l = .ok a := rfl

@[simp] theorem requireSome_none {α : Type} (st : Status) (l : List Field) :
    requireSome (none : Option α) st l = .error ⟨st, l⟩ := rfl

@[simp] theorem check_ok_bind {α β : Type} (a : α) (f : α → Check β) : (Except.ok a >>= f : Check β) = f a := rfl

@[simp] theorem check_error_bind {α β : Type} (r : Refused) (f : α → Check β) :
    ((Except.error r : Check α) >>= f) = .error r := rfl

@[simp] theorem answerOk_eq (s : State) (l : List Field) : answerOk s l = .ok ⟨s, .ok, l⟩ := rfl

/-- A chain of checks that succeeds has passed its first one. -/
@[simp] theorem bind_ok_iff {α β : Type} (x : Check α) (f : α → Check β) (b : β) :
    (x >>= f) = .ok b ↔ ∃ a, x = .ok a ∧ f a = .ok b := by
  cases x <;> simp

@[simp] theorem require_ok_iff (p : Bool) (st : Status) (l : List Field) (u : Unit) :
    require p st l = .ok u ↔ p = true := by
  cases p <;> simp [require]

@[simp] theorem requireSome_ok_iff {α : Type} (x : Option α) (st : Status) (l : List Field) (a : α) :
    requireSome x st l = .ok a ↔ x = some a := by
  cases x <;> simp [requireSome]

/-! ## Who is present -/

/-- R76: a role of one credential passes when it is present at its reader with one of the role's classes. -/
theorem authority_one (r : Reader) (classes : List CredClass) (c : Nat) (s : State)
    (h : s.presentAs r c classes = true) : authority [(r, classes)] [c] s = .ok () := by
  unfold State.presentAs at h
  unfold authority authorityFailure roleFailure authorityFailure
  cases hp : s.presenceOf r c with
  | none => simp [hp] at h
  | some e =>
    have h' : e.cls ∈ classes := by simpa [hp] using h
    simp [h']

/-- R76: two roles pass when both credentials are present as they must be, and are not the same. -/
theorem authority_two (r q : Reader) (k l : List CredClass) (a b : Nat) (s : State) (ha : s.presentAs r a k = true)
    (hb : s.presentAs q b l = true) (hab : a ≠ b) : authority [(r, k), (q, l)] [a, b] s = .ok () := by
  unfold State.presentAs at ha hb
  cases hp : s.presenceOf r a with
  | none => simp [hp] at ha
  | some e =>
    cases hq : s.presenceOf q b with
    | none => simp [hq] at hb
    | some f =>
      have h1 : e.cls ∈ k := by simpa [hp] using ha
      have h2 : f.cls ∈ l := by simpa [hq] using hb
      have h3 : ¬ b = a := fun h => hab h.symm
      simp [authority, authorityFailure, roleFailure, hp, hq, h1, h2, h3]

/-- R76: a first credential that is not in the list of its reader fails with NOT_PRESENT at position 1. -/
theorem authority_absent (r : Reader) (k : List CredClass) (rs : List Role) (c : Nat) (cs : List Nat) (s : State)
    (h : s.presenceOf r c = none) :
    authority ((r, k) :: rs) (c :: cs) s = .error ⟨.noAuthority, [fNum 1 1, fNamed 1]⟩ := by
  simp [authority, authorityFailure, roleFailure, h, AuthReason.code]

/-- Taking a request leaves every block but the Host Port alone, so what reads another block reads the same. -/
theorem presentAs_takeFrom (s : State) (r : Reader) (c : Nat) (k : List CredClass) :
    (takeFrom s).presentAs r c k = s.presentAs r c k := by
  cases r <;> rfl

theorem presenceOf_takeFrom (s : State) (r : Reader) (c : Nat) :
    (takeFrom s).presenceOf r c = s.presenceOf r c := by
  cases r <;> rfl

/-! ## The roles the requests name, in the state a request is taken in -/

theorem supervisorAtOffice_ok (c : Nat) (s : State) (h : s.presentAs .office c [.supervisor] = true) :
    authority supervisorAtOffice [c] (takeFrom s) = .ok () :=
  authority_one .office [.supervisor] c (takeFrom s) h

theorem custodianAtOffice_ok (c : Nat) (s : State) (h : s.presentAs .office c custodianClass = true) :
    authority custodianAtOffice [c] (takeFrom s) = .ok () :=
  authority_one .office custodianClass c (takeFrom s) h

theorem auditorAtOffice_ok (c : Nat) (s : State) (h : s.presentAs .office c [.auditor] = true) :
    authority auditorAtOffice [c] (takeFrom s) = .ok () :=
  authority_one .office [.auditor] c (takeFrom s) h

theorem supervisorOrAuditor_ok (c : Nat) (s : State) (h : s.presentAs .office c [.supervisor, .auditor] = true) :
    authority supervisorOrAuditor [c] (takeFrom s) = .ok () :=
  authority_one .office [.supervisor, .auditor] c (takeFrom s) h

theorem twoSupervisors_ok (a b : Nat) (s : State) (ha : s.presentAs .office a [.supervisor] = true)
    (hb : s.presentAs .office b [.supervisor] = true) (hab : a ≠ b) :
    authority twoSupervisors [a, b] (takeFrom s) = .ok () :=
  authority_two .office .office [.supervisor] [.supervisor] a b (takeFrom s) ha hb hab

theorem cashierWithCustodian_ok (a b : Nat) (s : State) (ha : s.presentAs .office a [.cashier] = true)
    (hb : s.presentAs .office b custodianClass = true) (hab : a ≠ b) :
    authority cashierWithCustodian [a, b] (takeFrom s) = .ok () :=
  authority_two .office .office [.cashier] custodianClass a b (takeFrom s) ha hb hab

theorem twoCustodiansAtStrongroom_ok (a b : Nat) (s : State) (ha : s.presentAs .strongroom a custodianClass = true)
    (hb : s.presentAs .strongroom b custodianClass = true) (hab : a ≠ b) :
    authority twoCustodiansAtStrongroom [a, b] (takeFrom s) = .ok () :=
  authority_two .strongroom .strongroom custodianClass custodianClass a b (takeFrom s) ha hb hab

/-! ## Taking a request leaves what the blocks read -/

@[simp] theorem takeFrom_denom (s : State) (i : Nat) : (takeFrom s).denom i = s.denom i := rfl

@[simp] theorem takeFrom_slotStock (s : State) (i : Nat) : (takeFrom s).slotStock i = s.slotStock i := rfl

@[simp] theorem takeFrom_suspect (s : State) (i : Nat) : (takeFrom s).suspect i = s.suspect i := rfl

@[simp] theorem takeFrom_bag (s : State) (i : Nat) : (takeFrom s).bag i = s.bag i := rfl

@[simp] theorem takeFrom_tagRange (s : State) (i : Nat) : (takeFrom s).tagRange i = s.tagRange i := rfl

@[simp] theorem takeFrom_till (s : State) (i : Nat) : (takeFrom s).till i = s.till i := rfl

@[simp] theorem takeFrom_template (s : State) (i : Nat) : (takeFrom s).template i = s.template i := rfl

@[simp] theorem takeFrom_lane (s : State) (i : Nat) : (takeFrom s).lane i = s.lane i := rfl

@[simp] theorem takeFrom_watchEntry (s : State) (i : Nat) : (takeFrom s).watchEntry i = s.watchEntry i := rfl

@[simp] theorem takeFrom_safe (s : State) (i : Nat) : (takeFrom s).safe i = s.safe i := rfl

@[simp] theorem takeFrom_manifest (s : State) (i : Nat) : (takeFrom s).manifest i = s.manifest i := rfl

@[simp] theorem takeFrom_credential (s : State) (i : Nat) : (takeFrom s).credential i = s.credential i := rfl

@[simp] theorem takeFrom_slotHeld (s : State) (i : Nat) : (takeFrom s).slotHeld i = s.slotHeld i := rfl

@[simp] theorem takeFrom_liveAt (s : State) (p : Place) : (takeFrom s).liveAt p = s.liveAt p := rfl

@[simp] theorem takeFrom_rangeOf (s : State) (i : Nat) : (takeFrom s).rangeOf i = s.rangeOf i := rfl

@[simp] theorem takeFrom_tagInUse (s : State) (i : Nat) : (takeFrom s).tagInUse i = s.tagInUse i := rfl

@[simp] theorem takeFrom_attachable (s : State) (i : Nat) : (takeFrom s).attachable i = s.attachable i := rfl

@[simp] theorem takeFrom_nextWaiting (s : State) (i : Nat) : (takeFrom s).nextWaiting i = s.nextWaiting i := rfl

@[simp] theorem takeFrom_onOpenManifest (s : State) (i : Nat) : (takeFrom s).onOpenManifest i = s.onOpenManifest i := rfl

@[simp] theorem takeFrom_manifestsWhere (s : State) (p : Manifest → Bool) : (takeFrom s).manifestsWhere p = s.manifestsWhere p := rfl

@[simp] theorem takeFrom_refsWhere (s : State) (p : Bag → Bool) : (takeFrom s).refsWhere p = s.refsWhere p := rfl

@[simp] theorem takeFrom_hasRoom (s : State) (o : Origin) (n : Nat) : (takeFrom s).hasRoom o n = s.hasRoom o n := rfl

@[simp] theorem takeFrom_journalFree (s : State) : (takeFrom s).journalFree = s.journalFree := rfl

@[simp] theorem takeFrom_available (s : State) : (takeFrom s).available = s.available := rfl

@[simp] theorem takeFrom_countsPending (s : State) : (takeFrom s).countsPending = s.countsPending := rfl

@[simp] theorem takeFrom_stockValue (s : State) : (takeFrom s).stockValue = s.stockValue := rfl

@[simp] theorem takeFrom_bookSum (s : State) : (takeFrom s).bookSum = s.bookSum := rfl

@[simp] theorem takeFrom_inHandover (s : State) : (takeFrom s).inHandover = s.inHandover := rfl

@[simp] theorem takeFrom_visitDue (s : State) : (takeFrom s).visitDue = s.visitDue := rfl

@[simp] theorem takeFrom_manifestSlot (s : State) : (takeFrom s).manifestSlot = s.manifestSlot := rfl

@[simp] theorem takeFrom_credentialCount (s : State) : (takeFrom s).credentialCount = s.credentialCount := rfl

@[simp] theorem takeFrom_activeSupervisor (s : State) : (takeFrom s).activeSupervisor = s.activeSupervisor := rfl

@[simp] theorem takeFrom_canAllocate (s : State) : (takeFrom s).canAllocate = s.canAllocate := rfl

@[simp] theorem takeFrom_lowestFree (s : State) : (takeFrom s).lowestFree = s.lowestFree := rfl

@[simp] theorem takeFrom_countingBags (s : State) : (takeFrom s).countingBags = s.countingBags := rfl

@[simp] theorem takeFrom_runningLanes (s : State) : (takeFrom s).runningLanes = s.runningLanes := rfl

@[simp] theorem takeFrom_lastClosedVisit (s : State) : (takeFrom s).lastClosedVisit = s.lastClosedVisit := rfl

@[simp] theorem takeFrom_operating (s : State) : (takeFrom s).operating = s.operating := rfl

@[simp] theorem takeFrom_door (s : State) (d : DoorName) : (takeFrom s).door d = s.door d := by cases d <;> rfl

@[simp] theorem takeFrom_presence (s : State) (r : Reader) : (takeFrom s).presence r = s.presence r := by cases r <;> rfl

@[simp] theorem takeFrom_tagCheck (s : State) (g : Nat) (p : Purpose) : tagCheck g p (takeFrom s) = tagCheck g p s := rfl

/-! ## A request -/

/-- R196: a request that is next is taken, and its owner answers it. -/
theorem hostRequest_takes (i : Instr) (tag : Nat) (k : ReqKind) (body : State → Check Answered) (s : State)
    (h : takes i s = true) : hostRequest i tag k body s = .next (answerRequest tag k body s) := by
  unfold takes at h
  simp only [Bool.and_eq_true, Bool.not_eq_true'] at h
  simp [hostRequest, h.1.1, h.1.2, h.2]

/-- A request that is taken and passes its checks: its reply is formed on the state its owner leaves. -/
theorem hostRequest_ok (i : Instr) (tag : Nat) (k : ReqKind) (body : State → Check Answered) (s : State) (a : Answered)
    (h : takes i s = true) (hb : body (takeFrom s) = .ok a) :
    hostRequest i tag k body s = .next (reply tag k a.status a.fields a.state) := by
  rw [hostRequest_takes i tag k body s h]
  simp [answerRequest, hb, reply]

/-- A request that is taken and refused: its reply is formed and nothing else changes. -/
theorem hostRequest_error (i : Instr) (tag : Nat) (k : ReqKind) (body : State → Check Answered) (s : State) (r : Refused)
    (h : takes i s = true) (hb : body (takeFrom s) = .error r) :
    hostRequest i tag k body s = .next (reply tag k r.status r.fields (takeFrom s)) := by
  rw [hostRequest_takes i tag k body s h]
  simp [answerRequest, hb, reply]

/-- A rule that reads neither the input buffer nor the replies is kept by a request when its owner keeps it. -/
theorem hostRequest_rule (P : State → Prop) (i : Instr) (tag : Nat) (k : ReqKind) (body : State → Check Answered)
    (s t : State) (hs : P s) (harrive : P s → P (arrive i tag k.code s)) (htake : P s → P (takeFrom s))
    (hreply : ∀ u r, P u → P (formReply r u)) (hbody : ∀ u a, P u → body u = .ok a → P a.state)
    (h : hostRequest i tag k body s = .next t) : P t := by
  unfold hostRequest at h
  split at h
  · injection h with h; rw [← h]; exact hs
  · split at h
    · injection h with h; rw [← h]; exact harrive hs
    · injection h with h
      rw [← h]
      unfold answerRequest
      split
      · exact hreply _ _ (hbody _ _ (htake hs) (by assumption))
      · exact hreply _ _ (htake hs)

/-- A rule is kept by a unit record when its owner keeps it and the count of discarded records does not touch it. -/
theorem unitRecord_rule (P : State → Prop) (ok : Bool) (f : State → State) (s t : State) (hs : P s)
    (hdiscard : P s → P (discardRecord s)) (hf : ok = true → P s → P (f s)) (h : unitRecord ok f s = .next t) : P t := by
  unfold unitRecord at h
  split at h
  · injection h with h; rw [← h]; exact hs
  · split at h
    · injection h with h; rw [← h]; exact hdiscard hs
    · rename_i hn
      injection h with h; rw [← h]
      refine hf ?_ hs
      cases ok <;> simp_all

/-- A rule is kept by an event when its owner keeps it. -/
theorem event_rule (P : State → Prop) (f : State → State) (s t : State) (hs : P s) (hf : P s → P (f s))
    (h : event f s = .next t) : P t := by
  unfold event at h
  split at h <;> (injection h with h; rw [← h])
  · exact hf hs
  · exact hs

/-- A rule is kept by background work when its owner keeps it. -/
theorem background_rule (P : State → Prop) (f : State → State) (s t : State) (hs : P s) (hf : P s → P (f s))
    (h : background f s = .next t) : P t := by
  unfold background at h
  split at h <;> (injection h with h; rw [← h])
  · exact hf hs
  · exact hs

theorem event_operating (f : State → State) (s : State) (h : s.operating = true) : event f s = .next (f s) := by
  simp [event, h]

theorem unitRecord_operating (ok : Bool) (f : State → State) (s : State) (h : s.operating = true) (hok : ok = true) :
    unitRecord ok f s = .next (f s) := by
  unfold State.operating at h
  simp only [Bool.and_eq_true, Bool.not_eq_true'] at h
  simp [unitRecord, h.1, h.2, hok]

/-! ## Equalities from fields -/

theorem hpt_notices_eq (a b : Hpt) (h1 : b.rx = a.rx) (h2 : b.buffer = a.buffer) (h3 : b.replies = a.replies)
    (h4 : b.globalEnable = a.globalEnable) (h5 : b.classEnables = a.classEnables)
    (h6 : b.restartPending = a.restartPending) (h7 : b.sent = a.sent) :
    b = { a with notices := b.notices, overflow := b.overflow, dropped := b.dropped } := by
  cases a; cases b; simp_all

theorem ubc_commands_eq (a b : Ubc) (h1 : b.addrs = a.addrs) (h2 : b.panicSel = a.panicSel)
    (h3 : b.panicHigh = a.panicHigh) (h4 : b.alarm = a.alarm) (h5 : b.alarmTimer = a.alarmTimer)
    (h6 : b.unitErrors = a.unitErrors) : b = { a with commands := b.commands } := by
  cases a; cases b; simp_all

theorem csc_safes_eq (a b : Csc) (h1 : b.strongroom = a.strongroom) (h2 : b.policy = a.policy)
    (h3 : b.maintenance = a.maintenance) (h4 : b.freeze = a.freeze) (h5 : b.latch = a.latch)
    (h6 : b.holdTimer = a.holdTimer) (h7 : b.holdRunning = a.holdRunning) : b = { a with safes := b.safes } := by
  cases a; cases b; simp_all

/-- Two states whose blocks agree are one. -/
theorem State.eq_of_blocks (a b : State) (h1 : a.sys = b.sys) (h2 : a.hpt = b.hpt) (h3 : a.ubc = b.ubc)
    (h4 : a.cru = b.cru) (h5 : a.acu = b.acu) (h6 : a.bgr = b.bgr) (h7 : a.tau = b.tau) (h8 : a.clc = b.clc)
    (h9 : a.rcu = b.rcu) (h10 : a.wcu = b.wcu) (h11 : a.csc = b.csc) (h12 : a.hoc = b.hoc)
    (h13 : a.pending = b.pending) : a = b := by
  cases a; cases b; simp_all

end Sys2Proof.Machine
end

