-- ==== Sys2Proof/Laws/Chutes.lean ====
section
/-!
SUPPORT. The chutes of the drop safes (R169): what setting a cause does to each drop-safe record, and that what the
journal's room or the bag table does to the chutes is `onlyChutes` of Safety.
-/

namespace Sys2Proof.Machine

open Sys2Proof

-- One proof at a time: the package is compiled as one text under a memory limit.
set_option Elab.async false

/-! ## One cause of one safe -/

/-- A set with a cause set or cleared has it so. -/
@[simp] theorem ChuteCauses.has_put (c : ChuteCauses) (x : ChuteCause) (on : Bool) : (c.put x on).has x = on := by
  cases x <;> rfl

/-- A cause that stands as asked is left as it is. -/
theorem ChuteCauses.put_self (c : ChuteCauses) (x : ChuteCause) (on : Bool) (h : c.has x = on) : c.put x on = c := by
  subst h
  cases x <;> rfl

/-- R169: the record of the safe whose cause is set or cleared. -/
def safeWithCause (d : DropSafe) (c : ChuteCause) (on : Bool) : DropSafe :=
  { d with
    causes := d.causes.put c on
    chuteLocked := if d.causes.any = (d.causes.put c on).any then d.chuteLocked else (d.causes.put c on).any }

/-- R169: what setting or clearing a cause does to every drop-safe record. -/
theorem setChuteCause_safe (n m : Nat) (c : ChuteCause) (on : Bool) (s : State) :
    (setChuteCause n c on s).safe m = if m = n then safeWithCause (s.safe n) c on else s.safe m := by
  unfold setChuteCause
  by_cases h : (s.safe n).causes.has c = on
  · simp only [h, if_true]
    split
    · rename_i hm
      subst hm
      simp [safeWithCause, ChuteCauses.put_self _ _ _ h]
    · rfl
  · simp only [h, if_false]
    split
    · rename_i h2
      by_cases hm : m = n
      · subst hm
        simp [safeWithCause, State.safe, putSafe] at h2 ⊢
        simp [h2]
      · simp [State.safe, putSafe, hm]
    · rename_i h2
      by_cases hm : m = n
      · subst hm
        simp [safeWithCause, State.safe, putSafe] at h2 ⊢
        simp [h2]
      · simp [State.safe, putSafe, hm]

/-- R169: what a change of one cause on all six safes does to every record. -/
theorem setChuteCauseAll_safe (m : Nat) (c : ChuteCause) (on : Bool) (s : State) :
    (setChuteCauseAll c on s).safe m = if m ∈ safeNumbers then safeWithCause (s.safe m) c on else s.safe m := by
  have key : ∀ (l : List Nat) (s : State), l.Nodup →
      (l.foldl (fun s n => setChuteCause n c on s) s).safe m
        = if m ∈ l then safeWithCause (s.safe m) c on else s.safe m := by
    intro l
    induction l with
    | nil => intro s _; simp
    | cons n l ih =>
      intro s hl
      rw [List.nodup_cons] at hl
      rw [List.foldl_cons, ih _ hl.2, setChuteCause_safe]
      by_cases hm : m = n
      · subst hm
        simp [hl.1]
      · simp [hm]
  exact key safeNumbers s (by decide)

/-! ## Only the chutes change -/

theorem onlyChutes_refl (s : State) : onlyChutes s s := by
  refine ⟨rfl, rfl, rfl, fun n => ⟨rfl, rfl, rfl, rfl, rfl⟩⟩

/-- Changes outside the Host Port, the Unit Bus Controller and the custody records leave the chutes alone. -/
theorem onlyChutes_of_eq (s t : State) (h1 : t.hpt = s.hpt) (h2 : t.ubc = s.ubc) (h3 : t.csc = s.csc) :
    onlyChutes s t := by
  unfold onlyChutes State.safe
  simp [h1, h2, h3]

theorem onlyChutes_trans (s t u : State) (h1 : onlyChutes s t) (h2 : onlyChutes t u) : onlyChutes s u := by
  obtain ⟨a1, a2, a3, a4⟩ := h1
  obtain ⟨b1, b2, b3, b4⟩ := h2
  refine ⟨?_, ?_, ?_, fun n => ?_⟩
  · rw [b1, a1]
  · rw [b2, a2]
  · rw [b3, a3]
  · obtain ⟨c1, c2, c3, c4, c5⟩ := a4 n
    obtain ⟨d1, d2, d3, d4, d5⟩ := b4 n
    exact ⟨d1.trans c1, d2.trans c2, d3.trans c3, d4.trans c4, d5.trans c5⟩

/-- R33: the TABLE cause as it must be. -/
theorem syncTable_safe (m : Nat) (s : State) :
    (syncTable s).safe m
      = if m ∈ safeNumbers then safeWithCause (s.safe m) .table (decide (s.available ≤ 8)) else s.safe m :=
  setChuteCauseAll_safe m .table _ s

/-- R55: the JOURNAL cause as it must be. -/
theorem syncJournal_safe (m : Nat) (s : State) :
    (syncJournal s).safe m
      = if m ∈ safeNumbers then safeWithCause (s.safe m) .journal (decide (s.journalFree ≤ 8)) else s.safe m :=
  setChuteCauseAll_safe m .journal _ s

/-- A change of the TABLE or JOURNAL causes changes the chutes alone. -/
theorem onlyChutes_setAll (c : ChuteCause) (on : Bool) (s : State) (h : c = .table ∨ c = .journal) :
    onlyChutes s (setChuteCauseAll c on s) := by
  refine ⟨hpt_notices_eq _ _ (by simp) (by simp) (by simp) (by simp) (by simp) (by simp) (by simp),
    ubc_commands_eq _ _ (by simp) (by simp) (by simp) (by simp) (by simp) (by simp),
    csc_safes_eq _ _ (by simp) (by simp) (by simp) (by simp) (by simp) (by simp) (by simp), fun n => ?_⟩
  rw [setChuteCauseAll_safe]
  split
  · rcases h with rfl | rfl <;> exact ⟨rfl, rfl, rfl, rfl, rfl⟩
  · exact ⟨rfl, rfl, rfl, rfl, rfl⟩

theorem syncTable_onlyChutes (s : State) : onlyChutes s (syncTable s) := onlyChutes_setAll _ _ _ (.inl rfl)

theorem syncJournal_onlyChutes (s : State) : onlyChutes s (syncJournal s) := onlyChutes_setAll _ _ _ (.inr rfl)

/-- Filling a new bag record changes the bag table and, through the TABLE cause, the chutes (R33). -/
theorem recordBag_onlyChutes (r : Nat) (b : Bag) (s : State) : onlyChutes s (recordBag r b s) :=
  onlyChutes_trans s (putBag r b s) _ (onlyChutes_of_eq s (putBag r b s) rfl rfl rfl) (syncTable_onlyChutes _)

/-- So does retiring a bag. -/
theorem retireBag_onlyChutes (r : Nat) (b : Bag) (s : State) : onlyChutes s (retireBag r b s) := by
  unfold retireBag
  refine onlyChutes_trans _ _ _ ?_ (syncTable_onlyChutes _)
  exact onlyChutes_of_eq _ _ rfl rfl rfl

/-- So does freeing the retired bags at CLOSE_DAY. -/
theorem freeRetired_onlyChutes (s : State) : onlyChutes s (freeRetired s) := by
  unfold freeRetired
  refine onlyChutes_trans _ _ _ ?_ (syncTable_onlyChutes _)
  exact onlyChutes_of_eq _ _ rfl rfl rfl

/-- A movement changes the accounts and, through the JOURNAL cause, the chutes (R55). -/
theorem applyMovement_onlyChutes (m : Movement) (s : State) : onlyChutes s (applyMovement m s) := by
  unfold applyMovement
  refine onlyChutes_trans _ _ _ ?_ (syncJournal_onlyChutes _)
  exact onlyChutes_of_eq _ _ (by simp) (by simp) (by simp)

theorem makeReservation_onlyChutes (s : State) : onlyChutes s (makeReservation s) := by
  unfold makeReservation
  refine onlyChutes_trans _ _ _ ?_ (syncJournal_onlyChutes _)
  exact onlyChutes_of_eq _ _ rfl rfl rfl

theorem endReservation_onlyChutes (s : State) : onlyChutes s (endReservation s) := by
  unfold endReservation
  refine onlyChutes_trans _ _ _ ?_ (syncJournal_onlyChutes _)
  exact onlyChutes_of_eq _ _ rfl rfl rfl

theorem allocate_onlyChutes (s t : State) (r : Nat) (h : allocate s = some (r, t)) : onlyChutes s t := by
  have k := allocate_keeps s t r h
  exact onlyChutes_of_eq s t k.2.1 k.2.2.1 k.2.2.2.2.2.2.2.2.2.1

/-- R55: after a movement the JOURNAL cause of every safe stands as the free count asks. -/
theorem applyMovement_journalCause (m : Movement) (s : State) (n : Nat) (hn : n ∈ safeNumbers) :
    ((applyMovement m s).safe n).causes.journal = decide ((applyMovement m s).journalFree ≤ 8) := by
  unfold applyMovement
  rw [syncJournal_safe, if_pos hn]
  simp [safeWithCause, ChuteCauses.put, State.journalFree]

/-! ## Bag records -/

@[simp] theorem recordBag_bag (r q : Nat) (b : Bag) (s : State) :
    (recordBag r b s).bag q = if q = r then some b else s.bag q := by
  unfold recordBag State.bag
  simp [putBag, eq_comm]

@[simp] theorem retireBag_bag (r q : Nat) (b : Bag) (s : State) :
    (retireBag r b s).bag q = if q = r then some b else s.bag q := by
  unfold retireBag State.bag
  simp [putBag, eq_comm]

@[simp] theorem retireBag_retired (r : Nat) (b : Bag) (s : State) :
    (retireBag r b s).bgr.retired = s.bgr.retired ++ [r] := by
  unfold retireBag
  simp

end Sys2Proof.Machine
end

