-- ==== Sys2Proof/Laws/Effects.lean ====
section
/-!
SUPPORT. What the operations that send commands and notices do, in the words of the statements: a fault, a hold, a till
that leaves the skim queue, and the chute cause OPEN.
-/

namespace Sys2Proof.Machine

open Sys2Proof

/-- A notice depends on the Host Port alone. -/
theorem notify_hpt_congr (k : NoticeKind) (f : List Field) (s t : State) (h : s.hpt = t.hpt) :
    (notify k f s).hpt = (notify k f t).hpt := by
  unfold notify
  rw [h]
  split
  · split <;> rfl
  · exact h

/-- Adding a notice changes the Host Port alone. -/
theorem notify_eq (k : NoticeKind) (f : List Field) (s : State) : notify k f s = { s with hpt := (notify k f s).hpt } := by
  unfold notify
  split
  · split <;> rfl
  · rfl

theorem lane_notify (k : NoticeKind) (f : List Field) (m : Nat) (s : State) : (notify k f s).lane m = s.lane m := by
  rw [notify_eq]; rfl

/-- R122: a lane that faults. -/
theorem faultLane_faults (n : Nat) (c : FaultCause) (s : State) : faults n c s (faultLane n c s) := by
  unfold faults faultLane notifyFault
  have h : ∀ m, (putLane n { s.lane n with state := LaneState.fault, fault := some c } s).lane m =
      if m = n then { s.lane n with state := LaneState.fault, fault := some c } else s.lane m := fun m => by
    simp [putLane, State.lane, Table.get_set]
  refine ⟨?_, ?_, fun m hm => ?_, ?_, ?_⟩
  · rw [notify_eq]; split <;> rfl
  · rw [lane_notify]; split <;> exact (h n).trans (if_pos rfl)
  · rw [lane_notify]; split <;> exact (h m).trans (if_neg hm)
  · rw [notify_eq]; split <;> rfl
  · apply notify_hpt_congr; split <;> rfl

/-- R109: a hold cause added. -/
theorem addHold_holdSends (n : Nat) (c : HoldCause) (s : State) : holdSends n c s (addHold n c s) := by
  unfold holdSends addHold
  by_cases hc : (s.lane n).holds.has c = true
  · simp [hc]
  · have h : ∀ l : Lane, (putLane n l s).lane n = l := fun l => by simp [putLane, State.lane, Table.get_set]
    have h' : ∀ l : Lane, (if (s.lane n).state = .running then command (.lane n) .stop (putLane n l s)
        else putLane n l s).lane n = l := fun l => by split <;> exact h l
    simp only [hc, Bool.false_eq_true, if_false, and_true]
    rw [lane_notify, h']
    constructor
    · rw [notify_eq]
      split <;> rfl
    · exact notify_hpt_congr _ _ _ s (by split <;> rfl)

/-- The first item of a rising list that passes a test. -/
theorem find?_of_least (p : Nat → Bool) (l : List Nat) (rising : l.Pairwise (· < ·)) (m : Nat) (hm : m ∈ l) (pm : p m = true)
    (least : ∀ k ∈ l, k < m → p k = false) : l.find? p = some m := by
  induction l with
  | nil => cases hm
  | cons a l ih =>
    have h := List.pairwise_cons.mp rising
    rcases List.mem_cons.mp hm with rfl | hm'
    · exact List.find?_cons_of_pos pm
    · rw [List.find?_cons_of_neg (by simp [least a (by simp) (h.1 m hm')])]
      exact ih h.2 hm' (fun k hk => least k (List.mem_cons_of_mem _ hk))

/-- R98: a till that leaves the skim queue. -/
theorem leaveSkim_leavesSkim (n : Nat) (s : State) (room : s.tau.skimQueue.length ≤ 16) : leavesSkim n s (leaveSkim n s) := by
  unfold leavesSkim leaveSkim
  refine ⟨fun h => by rw [if_neg h], fun h => ?_⟩
  rw [if_pos h]
  have short : (s.tau.skimQueue.filter (fun k => decide (k ≠ n))).length < 16 :=
    lt_of_lt_of_le (List.length_filter_lt_length_iff_exists.mpr ⟨n, h, by simp⟩) room
  have stay : ∀ k, k ≠ n → (k ∈ s.tau.skimQueue.filter (fun k => decide (k ≠ n)) ↔ k ∈ s.tau.skimQueue) := fun k hk => by
    simp [hk]
  constructor
  · intro m hm hmn hover hnot least
    have hw : ({ s with tau.skimQueue := s.tau.skimQueue.filter (fun k => decide (k ≠ n)) } : State).nextWaiting n =
        some m := by
      refine find?_of_least _ _ List.pairwise_lt_range' m hm ?_ fun k hk hkm => ?_
      · have hover' : (Table.get Till.initial s.tau.tills m).overLimit = true := hover
        simp [State.till, hmn, hnot, hover']
      · by_cases hkn : k = n
        · simp [hkn]
        · by_cases ho : (s.till k).overLimit = true
          · simp [hkn, least k hk hkm hkn ho]
          · have ho' : (Table.get Till.initial s.tau.tills k).overLimit = false := by simpa [State.till] using ho
            simp [State.till, ho']
    have hq : m ∉ s.tau.skimQueue.filter (fun k => decide (k ≠ n)) := fun e => hnot ((stay m hmn).mp e)
    dsimp only at hw ⊢
    rw [hw]
    simp only [joinSkim]
    rw [if_neg (by simp only [not_or, not_le]; exact ⟨hq, short⟩)]
    split
    · rw [notify_eq]
    · rfl
  · intro hall
    have hw : ({ s with tau.skimQueue := s.tau.skimQueue.filter (fun k => decide (k ≠ n)) } : State).nextWaiting n =
        none := by
      refine List.find?_eq_none.mpr fun k hk => ?_
      by_cases hkn : k = n
      · simp [hkn]
      · by_cases ho : (s.till k).overLimit = true
        · simp [hkn, hall k hk hkn ho]
        · have ho' : (Table.get Till.initial s.tau.tills k).overLimit = false := by simpa [State.till] using ho
          simp [State.till, ho']
    dsimp only at hw ⊢
    rw [hw]

/-- R97, R98: the same when its flag is cleared first. -/
theorem clearOverLimit_leavesSkim (n : Nat) (s : State) (room : s.tau.skimQueue.length ≤ 16) :
    leavesSkim n s (clearOverLimit n s) := by
  have key := leaveSkim_leavesSkim n (putTill n { s.till n with overLimit := false } s) room
  have other : ∀ m, m ≠ n → (putTill n { s.till n with overLimit := false } s).till m = s.till m := fun m hm => by
    simp [putTill, State.till, Table.get_set, hm]
  refine ⟨key.1, fun h => ⟨fun m hm hmn hover hnot least => ?_, fun hall => ?_⟩⟩
  · refine (key.2 h).1 m hm hmn (by rw [other m hmn]; exact hover) hnot fun k hk hkm hkn ho => ?_
    exact least k hk hkm hkn (by rw [other k hkn] at ho; exact ho)
  · exact (key.2 h).2 fun m hm hmn ho => hall m hm hmn (by rw [other m hmn] at ho; exact ho)

/-! ## The chute cause OPEN -/

/-- R169: the command that the cause OPEN, set or cleared, brings with it. -/
theorem setChuteCause_opened_commands (n : Nat) (on : Bool) (s : State) :
    (setChuteCause n .opened on s).ubc =
      { s.ubc with commands := s.ubc.commands ++ s.ubc.sends (openCauseCommands (.drop n) on s) } := by
  have same : (s.safe n).causes.has .opened = on → (s.safe n).causes.put .opened on = (s.safe n).causes := fun h => by
    subst h; rfl
  unfold setChuteCause openCauseCommands
  dsimp only
  split
  · rename_i h; simp [same h, Ubc.sends]
  · split
    · simp [putSafe, Ubc.sends]
    · rename_i h; rw [notify_eq]; cases on <;> simp_all [command, putSafe, ChuteCauses.put, ChuteCauses.any]

/-- R169: the notice that goes with it. -/
theorem setChuteCause_opened_hpt (n : Nat) (on : Bool) (s : State) :
    (setChuteCause n .opened on s).hpt = (openCauseNotified (.drop n) on s).hpt := by
  have same : (s.safe n).causes.has .opened = on → (s.safe n).causes.put .opened on = (s.safe n).causes := fun h => by
    subst h; rfl
  unfold setChuteCause openCauseNotified
  dsimp only
  split
  · rename_i h; simp [same h]
  · split
    · rfl
    · rename_i h
      have hon : ((s.safe n).causes.put .opened on).any = on := by
        cases on <;> simp_all [ChuteCauses.put, ChuteCauses.any]
      simp only [hon]
      exact notify_hpt_congr _ _ _ s rfl

end Sys2Proof.Machine
end

