-- ==== Sys2Proof/Laws/Lockdown.lean ====
section
/-!
SUPPORT. What the operations of a setting of the latch do, door by door, chute by chute and lane by lane (R125, R169, R175),
and that the notices of the journal's room and of the bag table are CHUTE_LOCKED alone.
-/

namespace Sys2Proof.Machine

open Sys2Proof

-- One proof at a time: the package is compiled as one text under a memory limit.
set_option Elab.async false

/-! ## Notices one after another -/

@[simp] theorem notifyAll_nil (s : State) : notifyAll [] s = s := rfl

@[simp] theorem notifyAll_cons (n : Notice) (l : List Notice) (s : State) :
    notifyAll (n :: l) s = notifyAll l (notify n.kind n.fields s) := rfl

theorem notifyAll_append (l m : List Notice) (s : State) : notifyAll (l ++ m) s = notifyAll m (notifyAll l s) :=
  List.foldl_append ..

/-- Notices depend on the Host Port alone. -/
theorem notifyAll_hpt_congr (l : List Notice) (s t : State) (h : s.hpt = t.hpt) : (notifyAll l s).hpt = (notifyAll l t).hpt := by
  induction l generalizing s t with
  | nil => exact h
  | cons n l ih => exact ih _ _ (notify_hpt_congr _ _ _ _ h)

/-- The notices of one operation and then of another. -/
theorem notifyAll_trans (l m : List Notice) (s t u : State) (h1 : t.hpt = (notifyAll l s).hpt)
    (h2 : u.hpt = (notifyAll m t).hpt) : u.hpt = (notifyAll (l ++ m) s).hpt := by
  rw [notifyAll_append, h2]
  exact notifyAll_hpt_congr m _ _ h1

/-! ## The notices of chutes -/

/-- R169: setting or clearing a cause raises CHUTE_LOCKED or nothing. -/
theorem setChuteCause_notices (n : Nat) (c : ChuteCause) (on : Bool) (s : State) :
    ∃ l : List Notice, (∀ x ∈ l, x.kind = .chuteLocked) ∧ (setChuteCause n c on s).hpt = (notifyAll l s).hpt := by
  unfold setChuteCause
  dsimp only
  split
  · exact ⟨[], by simp, rfl⟩
  · split
    · exact ⟨[], by simp, rfl⟩
    · exact ⟨[⟨.chuteLocked, _⟩], by simp, notify_hpt_congr _ _ _ _ rfl⟩

/-- R33, R55: so does a change of one cause on all six safes. -/
theorem setChuteCauseAll_notices (c : ChuteCause) (on : Bool) (s : State) :
    ∃ l : List Notice, (∀ x ∈ l, x.kind = .chuteLocked) ∧ (setChuteCauseAll c on s).hpt = (notifyAll l s).hpt := by
  have key : ∀ (ns : List Nat) (s : State), ∃ l : List Notice, (∀ x ∈ l, x.kind = .chuteLocked) ∧
      (ns.foldl (fun s n => setChuteCause n c on s) s).hpt = (notifyAll l s).hpt := by
    intro ns
    induction ns with
    | nil => exact fun s => ⟨[], by simp, rfl⟩
    | cons n ns ih =>
      intro s
      obtain ⟨l, hl, h1⟩ := setChuteCause_notices n c on s
      obtain ⟨m, hm, h2⟩ := ih (setChuteCause n c on s)
      exact ⟨l ++ m, fun x hx => (List.mem_append.mp hx).elim (hl x) (hm x), notifyAll_trans l m _ _ _ h1 h2⟩
  exact key safeNumbers s

/-- R33: and the retirement of a bag. -/
theorem retireBag_notices (r : Nat) (b : Bag) (s : State) :
    ∃ l : List Notice, (∀ x ∈ l, x.kind = .chuteLocked) ∧ (retireBag r b s).hpt = (notifyAll l s).hpt := by
  obtain ⟨l, hl, h⟩ := setChuteCauseAll_notices .table
    (decide (({ putBag r b s with bgr.retired := s.bgr.retired ++ [r] } : State).available ≤ 8))
    { putBag r b s with bgr.retired := s.bgr.retired ++ [r] }
  exact ⟨l, hl, h.trans (notifyAll_hpt_congr l _ _ rfl)⟩

/-- R55: and the end of a reservation. -/
theorem endReservation_notices (s : State) :
    ∃ l : List Notice, (∀ x ∈ l, x.kind = .chuteLocked) ∧ (endReservation s).hpt = (notifyAll l s).hpt := by
  obtain ⟨l, hl, h⟩ := setChuteCauseAll_notices .journal
    (decide (({ s with acu.reserved := s.acu.reserved - 3 } : State).journalFree ≤ 8))
    { s with acu.reserved := s.acu.reserved - 3 }
  exact ⟨l, hl, h.trans (notifyAll_hpt_congr l _ _ rfl)⟩

/-- R55: and a movement. -/
theorem applyMovement_notices (m : Movement) (s : State) :
    ∃ l : List Notice, (∀ x ∈ l, x.kind = .chuteLocked) ∧ (applyMovement m s).hpt = (notifyAll l s).hpt := by
  unfold applyMovement syncJournal
  obtain ⟨l, hl, h⟩ := setChuteCauseAll_notices .journal _ _
  exact ⟨l, hl, h.trans (notifyAll_hpt_congr l _ _ (by simp))⟩

/-! ## R175 step 1: the doors that drop to SECURE -/

/-- A door that has dropped to SECURE. -/
def droppedDoor (x : Door) : Door :=
  { x with state := .secure, named := none, timer := none, lockReleased := false, ajarSent := false, openFor := 0 }

theorem dropToSecure_door (s : State) (d e : DoorName) :
    (dropToSecure s d).door e = if e = d then droppedDoor (s.door d) else s.door e := by
  unfold dropToSecure droppedDoor
  cases d <;> cases e <;> dsimp only <;> split <;>
    simp_all [State.door, State.safe, putSafe, command, Door.initial] <;> split <;> simp_all

theorem dropToSecure_safe (s : State) (d : DoorName) (n : Nat) :
    (dropToSecure s d).safe n = { s.safe n with door := (dropToSecure s d).door (.drop n) } := by
  unfold dropToSecure
  cases d <;> dsimp only <;> split <;> simp [State.door, State.safe, putSafe, command] <;> split <;> simp_all

theorem dropToSecure_commands (s : State) (d : DoorName) : (dropToSecure s d).ubc.commands =
    s.ubc.commands ++ s.ubc.sends (if (s.door d).lockReleased then [(.door d, .engage)] else []) := by
  unfold dropToSecure
  cases d <;> dsimp only <;> split <;> simp_all [command, putSafe]

/-- R175 step 1: each door given drops to SECURE, and the others stay. -/
theorem secureDoors_door (l : List DoorName) (hl : l.Nodup) (s : State) (e : DoorName) :
    (secureDoors l s).door e = if e ∈ l then droppedDoor (s.door e) else s.door e := by
  unfold secureDoors
  induction l generalizing s with
  | nil => simp
  | cons d l ih =>
    rw [List.nodup_cons] at hl
    rw [List.foldl_cons, ih hl.2, dropToSecure_door]
    by_cases he : e = d
    · subst he; simp [hl.1]
    · simp [he]

theorem secureDoors_safe (l : List DoorName) (s : State) (n : Nat) :
    (secureDoors l s).safe n = { s.safe n with door := (secureDoors l s).door (.drop n) } := by
  unfold secureDoors
  induction l generalizing s with
  | nil => rfl
  | cons d l ih => rw [List.foldl_cons, ih, dropToSecure_safe s d]

/-- R175 step 1: ENGAGE goes to each RELEASED lock of the doors given. -/
theorem secureDoors_commands (l : List DoorName) (hl : l.Nodup) (s : State) : (secureDoors l s).ubc.commands =
    s.ubc.commands ++ s.ubc.sends ((l.filter (fun d => (s.door d).lockReleased)).map (fun d => (.door d, .engage))) := by
  unfold secureDoors
  induction l generalizing s with
  | nil => simp
  | cons d l ih =>
    rw [List.nodup_cons] at hl
    have hd : l.filter (fun e => ((dropToSecure s d).door e).lockReleased) = l.filter (fun e => (s.door e).lockReleased) :=
      List.filter_congr fun e he => by
        have hne : e ≠ d := fun h => hl.1 (h ▸ he)
        rw [dropToSecure_door, if_neg hne]
    rw [List.foldl_cons, ih hl.2, hd, dropToSecure_commands, sends_of_addrs (u := (dropToSecure s d).ubc) (v := s.ubc) (by simp)]
    by_cases h : (s.door d).lockReleased = true
    · simp [h]
    · simp [h]

/-- R175: the doors on their way to opening, each once. -/
theorem movingDoors_nodup (s : State) : s.movingDoors.Nodup := List.Nodup.filter _ (by decide)

/-! ## R175 step 2: the chutes -/

/-- R169, R175: a drop safe with LOCKDOWN set and OPEN left to a door that stands open. -/
def lockedSafe (d : DropSafe) : DropSafe :=
  safeWithCause (safeWithCause d .lockdown true) .opened (decide (d.door.state ≠ .secure))

theorem lockChute_safe (s : State) (n m : Nat) :
    (lockChute s n).safe m = if m = n then lockedSafe (s.safe n) else s.safe m := by
  unfold lockChute lockedSafe
  rw [setChuteCause_safe, setChuteCause_safe]
  by_cases hm : m = n
  · subst hm; simp
  · simp [hm, setChuteCause_safe]

/-- R169: with LOCKDOWN set, the cause OPEN sends nothing. -/
theorem setOpened_quiet (n : Nat) (on : Bool) (s : State) (h : (s.safe n).causes.lockdown = true) :
    (setChuteCause n .opened on s).ubc = s.ubc ∧ (setChuteCause n .opened on s).hpt = s.hpt := by
  have hc : (s.safe n).causes.any = ((s.safe n).causes.put .opened on).any := by
    simp [ChuteCauses.any, ChuteCauses.put, h]
  unfold setChuteCause
  dsimp only
  split
  · exact ⟨rfl, rfl⟩
  · exact ⟨rfl, rfl⟩

/-- R169: LOCK and CHUTE_LOCKED for a chute that had no cause. -/
theorem setLockdown_sends (n : Nat) (s : State) :
    (setChuteCause n .lockdown true s).ubc.commands =
      s.ubc.commands ++ s.ubc.sends (if (s.safe n).causes.any then [] else [(.chute n, .lock)]) ∧
    (setChuteCause n .lockdown true s).hpt = (notifyAll (if (s.safe n).causes.any then [] else
      [⟨.chuteLocked, [fNum 1 n, fNamed 1, fSet [false, false, false, true, false]]⟩]) s).hpt := by
  have hon : ((s.safe n).causes.put .lockdown true).any = true := by simp [ChuteCauses.any, ChuteCauses.put]
  unfold setChuteCause
  dsimp only
  by_cases h : (s.safe n).causes.any = true
  · rw [hon, h]
    split <;> simp [putSafe]
  · have h0 : (s.safe n).causes = ⟨false, false, false, false, false⟩ := by
      cases hc : (s.safe n).causes with
      | mk a b c d e =>
        rw [hc] at h
        simp [ChuteCauses.any] at h
        simp [h]
    rw [hon, h0]
    simp only [ChuteCauses.has, ChuteCauses.any, ChuteCauses.put, Bool.false_eq_true, if_false, if_true, Bool.or_false]
    refine ⟨?_, notify_hpt_congr _ _ _ _ rfl⟩
    rw [notify_eq]
    simp [command, putSafe]

theorem lockChute_sends (s : State) (n : Nat) :
    (lockChute s n).ubc.commands =
      s.ubc.commands ++ s.ubc.sends (if (s.safe n).causes.any then [] else [(.chute n, .lock)]) ∧
    (lockChute s n).hpt = (notifyAll (if (s.safe n).causes.any then [] else
      [⟨.chuteLocked, [fNum 1 n, fNamed 1, fSet [false, false, false, true, false]]⟩]) s).hpt := by
  have h : ((setChuteCause n .lockdown true s).safe n).causes.lockdown = true := by
    rw [setChuteCause_safe, if_pos rfl]; rfl
  have q := setOpened_quiet n (decide ((s.safe n).door.state ≠ .secure)) _ h
  unfold lockChute
  rw [q.1, q.2]
  exact setLockdown_sends n s

/-- R175 step 2: every drop safe, its commands and its notices. -/
theorem lockChutes_does (s : State) :
    (∀ m, (lockChutes s).safe m = if m ∈ safeNumbers then lockedSafe (s.safe m) else s.safe m) ∧
    (lockChutes s).ubc.commands = s.ubc.commands ++ s.ubc.sends (s.chutesToLock.map (fun n => (.chute n, .lock))) ∧
    (lockChutes s).hpt = (notifyAll (s.chutesToLock.map (fun n =>
      ⟨.chuteLocked, [fNum 1 n, fNamed 1, fSet [false, false, false, true, false]]⟩)) s).hpt := by
  have key : ∀ (l : List Nat) (s : State), l.Nodup →
      (∀ m, (l.foldl lockChute s).safe m = if m ∈ l then lockedSafe (s.safe m) else s.safe m) ∧
      (l.foldl lockChute s).ubc.commands = s.ubc.commands ++
        s.ubc.sends ((l.filter (fun n => !(s.safe n).causes.any)).map (fun n => (.chute n, .lock))) ∧
      (l.foldl lockChute s).hpt = (notifyAll ((l.filter (fun n => !(s.safe n).causes.any)).map (fun n =>
        ⟨.chuteLocked, [fNum 1 n, fNamed 1, fSet [false, false, false, true, false]]⟩)) s).hpt := by
    intro l
    induction l with
    | nil => exact fun s _ => ⟨by simp, by simp, rfl⟩
    | cons n l ih =>
      intro s hl
      rw [List.nodup_cons] at hl
      obtain ⟨h1, h2, h3⟩ := ih (lockChute s n) hl.2
      obtain ⟨g2, g3⟩ := lockChute_sends s n
      have hf : l.filter (fun m => !((lockChute s n).safe m).causes.any) = l.filter (fun m => !(s.safe m).causes.any) :=
        List.filter_congr fun m hm => by
          have hne : m ≠ n := fun h => hl.1 (h ▸ hm)
          rw [lockChute_safe, if_neg hne]
      rw [hf] at h2 h3
      refine ⟨fun m => ?_, ?_, ?_⟩
      · rw [List.foldl_cons, h1, lockChute_safe]
        by_cases hm : m = n
        · subst hm; simp [hl.1]
        · simp [hm]
      · rw [List.foldl_cons, h2, g2, sends_of_addrs (u := (lockChute s n).ubc) (v := s.ubc) (by simp)]
        by_cases h : (s.safe n).causes.any = true <;> simp [h]
      · rw [List.foldl_cons, notifyAll_trans _ _ _ _ _ g3 h3]
        by_cases h : (s.safe n).causes.any = true <;> simp [h]
  unfold lockChutes State.chutesToLock
  exact key safeNumbers s (by decide)

/-- R176: UNLOCK and CHUTE_LOCKED for a chute that LOCKDOWN alone locked. -/
theorem clearLockdown_sends (n : Nat) (s : State) :
    (setChuteCause n .lockdown false s).ubc.commands = s.ubc.commands ++ s.ubc.sends
      (if (s.safe n).causes.any && !((s.safe n).causes.put .lockdown false).any then [(.chute n, .unlock)] else []) ∧
    (setChuteCause n .lockdown false s).hpt =
      (notifyAll (if (s.safe n).causes.any && !((s.safe n).causes.put .lockdown false).any then
        [⟨.chuteLocked, [fNum 1 n, fNamed 2, fSet [false, false, false, false, false]]⟩] else []) s).hpt := by
  unfold setChuteCause
  dsimp only
  by_cases h : (s.safe n).causes.lockdown = true
  · rw [if_neg (by simp [ChuteCauses.has, h])]
    by_cases h0 : ((s.safe n).causes.put .lockdown false).any = true
    · have h1 : (s.safe n).causes.any = true := by simp [ChuteCauses.any, h]
      simp [h0, h1, putSafe]
    · have h1 : (s.safe n).causes.any = true := by simp [ChuteCauses.any, h]
      have h2 : (s.safe n).causes.put .lockdown false = ⟨false, false, false, false, false⟩ := by
        cases hc : (s.safe n).causes.put .lockdown false with
        | mk a b c d e =>
          rw [hc] at h0
          simp [ChuteCauses.any] at h0
          simp [h0]
      rw [h1, h2]
      refine ⟨?_, notify_hpt_congr _ _ _ _ rfl⟩
      rw [notify_eq]
      simp [command, putSafe, ChuteCauses.any]
  · have hf : (s.safe n).causes.lockdown = false := by simpa using h
    have hp : (s.safe n).causes.put .lockdown false = (s.safe n).causes := ChuteCauses.put_self _ _ _ hf
    rw [if_pos (show (s.safe n).causes.has .lockdown = false from hf), hp]
    simp

/-- R176: the end of LOCKDOWN on every chute, its commands and its notices. -/
theorem clearLockdown_does (s : State) :
    (setChuteCauseAll .lockdown false s).ubc.commands =
      s.ubc.commands ++ s.ubc.sends (s.chutesToUnlock.map (fun n => (.chute n, .unlock))) ∧
    (setChuteCauseAll .lockdown false s).hpt = (notifyAll (s.chutesToUnlock.map (fun n =>
      ⟨.chuteLocked, [fNum 1 n, fNamed 2, fSet [false, false, false, false, false]]⟩)) s).hpt := by
  have key : ∀ (l : List Nat) (s : State), l.Nodup →
      let f : State → Nat → Bool := fun s n => (s.safe n).causes.any && !((s.safe n).causes.put .lockdown false).any
      (l.foldl (fun s n => setChuteCause n .lockdown false s) s).ubc.commands =
        s.ubc.commands ++ s.ubc.sends ((l.filter (f s)).map (fun n => (.chute n, .unlock))) ∧
      (l.foldl (fun s n => setChuteCause n .lockdown false s) s).hpt = (notifyAll ((l.filter (f s)).map (fun n =>
        ⟨.chuteLocked, [fNum 1 n, fNamed 2, fSet [false, false, false, false, false]]⟩)) s).hpt := by
    intro l
    induction l with
    | nil => exact fun s _ => ⟨by simp, rfl⟩
    | cons n l ih =>
      intro s hl f
      rw [List.nodup_cons] at hl
      obtain ⟨h2, h3⟩ := ih (setChuteCause n .lockdown false s) hl.2
      obtain ⟨g2, g3⟩ := clearLockdown_sends n s
      have hf : l.filter (f (setChuteCause n .lockdown false s)) = l.filter (f s) := List.filter_congr fun m hm => by
        have hne : m ≠ n := fun h => hl.1 (h ▸ hm)
        dsimp only [f]
        rw [setChuteCause_safe, if_neg hne]
      dsimp only [f] at hf
      rw [hf] at h2 h3
      refine ⟨?_, ?_⟩
      · rw [List.foldl_cons, h2, g2, sends_of_addrs (u := (setChuteCause n .lockdown false s).ubc) (v := s.ubc) (by simp)]
        cases h : (s.safe n).causes.any && !((s.safe n).causes.put .lockdown false).any <;> simp [f, h]
      · rw [List.foldl_cons, notifyAll_trans _ _ _ _ _ g3 h3]
        cases h : (s.safe n).causes.any && !((s.safe n).causes.put .lockdown false).any <;> simp [f, h]
  unfold setChuteCauseAll State.chutesToUnlock
  exact key safeNumbers s (by decide)

/-! ## R175 steps 5 and 6: the notices of the latch and of the manifest -/

/-- R175: LOCKDOWN_SET of a latch set from clear. -/
theorem notifyLockdown_sends (c : LockdownCause) (l : List DoorName) (s u : State) (h : s.hpt = u.hpt) :
    (notifyLockdown c false l s).hpt =
      (notifyAll [⟨.lockdownSet, [fNamed c.code, fNamed 0, .many (l.map doorAtoms)]⟩] u).hpt :=
  notify_hpt_congr _ _ _ _ h

/-- R192: MANIFEST_CLOSED of the manifest in HANDOVER. -/
theorem abortHandover_sends (s : State) :
    (abortHandover s).hpt = (notifyAll ((s.inHandover.map (fun x => (⟨.manifestClosed,
      closedFields x.1 { x.2 with state := .aborted, timer := none, cause := some .lockdown }⟩ : Notice))).toList) s).hpt := by
  unfold abortHandover
  cases s.inHandover with
  | none => rfl
  | some x => exact notify_hpt_congr _ _ _ _ rfl

/-! ## R125: the lanes -/

/-- R125: a lane that LOCKDOWN is added to. -/
def lockedLane (l : Lane) : Lane := { l with state := .held, holds := { l.holds with lockdown := true } }

/-- R125: whether LOCKDOWN is added to a lane. -/
def takesLockdown (l : Lane) : Bool :=
  (decide (l.state = .running) || decide (l.state = .ready) || decide (l.state = .held)) && !l.holds.lockdown

/-- R125: LOCKDOWN added to one lane. -/
theorem addLockdown_does (n : Nat) (s : State) (u : State)
    (hu : u = if (s.lane n).state = .running ∨ (s.lane n).state = .ready ∨ (s.lane n).state = .held then addHold n .lockdown s
      else s) :
    (∀ m, u.lane m = if m = n ∧ takesLockdown (s.lane n) = true then lockedLane (s.lane n) else s.lane m) ∧
    u.ubc.commands = s.ubc.commands ++ s.ubc.sends
      (if takesLockdown (s.lane n) = true ∧ (s.lane n).state = .running then [(.lane n, .stop)] else []) ∧
    u.hpt = (notifyAll (if takesLockdown (s.lane n) = true then [⟨.hold, [fLane (some n), fNamed (codeIn HoldCause.list .lockdown),
      fNamed (codeIn LaneState.list .held), fSet { (s.lane n).holds with lockdown := true }.toList]⟩] else []) s).hpt := by
  subst hu
  by_cases hw : (s.lane n).state = .running ∨ (s.lane n).state = .ready ∨ (s.lane n).state = .held
  · rw [if_pos hw]
    have ht : takesLockdown (s.lane n) = !(s.lane n).holds.lockdown := by
      unfold takesLockdown
      rcases hw with h | h | h <;> simp [h]
    unfold addHold
    by_cases hh : (s.lane n).holds.lockdown = true
    · have hc : (s.lane n).holds.has .lockdown = true := hh
      simp [hc, ht, hh]
    · have hc : ¬ (s.lane n).holds.has .lockdown = true := hh
      have ha : (if (s.lane n).state = .running ∨ (s.lane n).state = .ready then LaneState.held else (s.lane n).state) =
          .held := by
        rcases hw with h | h | h <;> simp [h]
      rw [if_neg hc]
      simp only [ha, ht, hh, Bool.not_false, and_true, true_and, if_true]
      refine ⟨fun m => ?_, ?_, ?_⟩
      · rw [lane_notify]
        have hl : ∀ v : State, (if (s.lane n).state = .running then command (.lane n) .stop v else v).lane m = v.lane m :=
          fun v => by split <;> rfl
        rw [hl]
        by_cases hm : m = n
        · subst hm; simp [lockedLane, HoldSet.put]
        · simp [hm]
      · rw [notify_eq]
        by_cases hr : (s.lane n).state = .running <;> simp [hr, command, putLane]
      · exact notify_hpt_congr _ _ _ _ (by split <;> rfl)
  · rw [if_neg hw]
    have ht : takesLockdown (s.lane n) = false := by
      unfold takesLockdown
      simp only [not_or] at hw
      simp [hw]
    simp [ht]

/-- R125: every lane, its commands and its notices. -/
theorem lockdownLanes_does (s : State) :
    (∀ m, (lockdownLanes s).lane m = if m ∈ laneNumbers ∧ takesLockdown (s.lane m) = true then lockedLane (s.lane m) else s.lane m) ∧
    (lockdownLanes s).ubc.commands = s.ubc.commands ++ s.ubc.sends
      ((s.lanesToHold.filter (fun n => decide ((s.lane n).state = .running))).map (fun n => (.lane n, .stop))) ∧
    (lockdownLanes s).hpt = (notifyAll (s.lanesToHold.map (fun n => ⟨.hold, [fLane (some n),
      fNamed (codeIn HoldCause.list .lockdown), fNamed (codeIn LaneState.list .held),
      fSet { (s.lane n).holds with lockdown := true }.toList]⟩)) s).hpt := by
  have key : ∀ (l : List Nat) (s : State), l.Nodup →
      let f : State → Nat → State := fun s n =>
        if (s.lane n).state = .running ∨ (s.lane n).state = .ready ∨ (s.lane n).state = .held then addHold n .lockdown s else s
      (∀ m, (l.foldl f s).lane m = if m ∈ l ∧ takesLockdown (s.lane m) = true then lockedLane (s.lane m) else s.lane m) ∧
      (l.foldl f s).ubc.commands = s.ubc.commands ++ s.ubc.sends
        (((l.filter (fun n => takesLockdown (s.lane n))).filter (fun n => decide ((s.lane n).state = .running))).map
          (fun n => (.lane n, .stop))) ∧
      (l.foldl f s).hpt = (notifyAll ((l.filter (fun n => takesLockdown (s.lane n))).map (fun n => ⟨.hold, [fLane (some n),
        fNamed (codeIn HoldCause.list .lockdown), fNamed (codeIn LaneState.list .held),
        fSet { (s.lane n).holds with lockdown := true }.toList]⟩)) s).hpt := by
    intro l
    induction l with
    | nil => exact fun s _ => ⟨by simp, by simp, rfl⟩
    | cons n l ih =>
      intro s hl f
      rw [List.nodup_cons] at hl
      obtain ⟨g1, g2, g3⟩ := addLockdown_does n s (f s n) rfl
      obtain ⟨h1, h2, h3⟩ := ih (f s n) hl.2
      have same : ∀ m ∈ l, (f s n).lane m = s.lane m := fun m hm => by
        have hne : m ≠ n := fun h => hl.1 (h ▸ hm)
        rw [g1, if_neg fun h => hne h.1]
      have hf : l.filter (fun m => takesLockdown ((f s n).lane m)) = l.filter (fun m => takesLockdown (s.lane m)) :=
        List.filter_congr fun m hm => by rw [same m hm]
      have hr : (l.filter (fun m => takesLockdown (s.lane m))).filter (fun m => decide (((f s n).lane m).state = .running)) =
          (l.filter (fun m => takesLockdown (s.lane m))).filter (fun m => decide ((s.lane m).state = .running)) :=
        List.filter_congr fun m hm => by rw [same m (List.mem_filter.mp hm).1]
      have hn : (l.filter (fun m => takesLockdown (s.lane m))).map (fun m => (⟨.hold, [fLane (some m),
          fNamed (codeIn HoldCause.list .lockdown), fNamed (codeIn LaneState.list .held),
          fSet { ((f s n).lane m).holds with lockdown := true }.toList]⟩ : Notice)) =
          (l.filter (fun m => takesLockdown (s.lane m))).map (fun m => (⟨.hold, [fLane (some m),
          fNamed (codeIn HoldCause.list .lockdown), fNamed (codeIn LaneState.list .held),
          fSet { (s.lane m).holds with lockdown := true }.toList]⟩ : Notice)) :=
        List.map_congr_left fun m hm => by rw [same m (List.mem_filter.mp hm).1]
      have hu : (f s n).ubc.addrs = s.ubc.addrs := by
        dsimp only [f]; split <;> simp
      rw [hf, hr] at h2
      rw [hf, hn] at h3
      refine ⟨fun m => ?_, ?_, ?_⟩
      · rw [List.foldl_cons, h1, g1]
        by_cases hm : m = n
        · subst hm; simp [hl.1]
        · simp [hm]
      · rw [List.foldl_cons, h2, g2, sends_of_addrs hu]
        by_cases h : takesLockdown (s.lane n) = true <;> by_cases r : (s.lane n).state = .running <;> simp [h, r]
      · rw [List.foldl_cons, notifyAll_trans _ _ _ _ _ g3 h3]
        by_cases h : takesLockdown (s.lane n) = true <;> simp [h]
  unfold lockdownLanes State.lanesToHold
  exact key laneNumbers s (by decide)

end Sys2Proof.Machine
end

