-- ==== Sys2Proof/Laws/Doors.lean ====
section
/-!
SUPPORT. What the operations of the Custody Controller do to the door records, and that each keeps `doorRule`: a door's
lock, timer, contact and names are as its state has them (R159, R163 to R168, R175).
-/

namespace Sys2Proof.Machine

open Sys2Proof

-- One proof at a time: the package is compiled as one text under a memory limit.
set_option Elab.async false

/-! ## The door records -/

theorem setChuteCause_door (n : Nat) (c : ChuteCause) (on : Bool) (s : State) (d : DoorName) :
    (setChuteCause n c on s).door d = s.door d := by
  cases d with
  | strongroom => simp [State.door]
  | other => rfl
  | drop m =>
    show ((setChuteCause n c on s).safe m).door = (s.safe m).door
    rw [setChuteCause_safe]
    split
    · rename_i h; subst h; rfl
    · rfl

theorem setChuteCauseAll_door (c : ChuteCause) (on : Bool) (s : State) (d : DoorName) :
    (setChuteCauseAll c on s).door d = s.door d :=
  foldl_keeps (fun s : State => s.door d) _ (fun s n => setChuteCause_door n c on s d) safeNumbers s

theorem putSafe_door (n : Nat) (x : DropSafe) (s : State) (e : DoorName) :
    (putSafe n x s).door e = if e = .drop n then x.door else s.door e := by
  cases e with
  | strongroom => rfl
  | other => rfl
  | drop m =>
    show ((putSafe n x s).safe m).door = _
    rw [putSafe_safe]
    by_cases h : m = n <;> simp [h, State.door]

theorem putDoor_door (d : DoorName) (x : Door) (s : State) (e : DoorName) (hd : d ≠ .other) :
    (putDoor d x s).door e = if e = d then x else s.door e := by
  cases d with
  | strongroom => cases e <;> simp [putDoor, State.door, State.safe]
  | other => exact absurd rfl hd
  | drop n =>
    show (setChuteCause n _ _ (putSafe n _ s)).door e = _
    rw [setChuteCause_door, putSafe_door]

/-- The doors of R159 and R167 are the valid ones. -/
theorem mem_allDoors (d : DoorName) : d ∈ allDoors ↔ validDoor d = true := by
  cases d with
  | strongroom => decide
  | other => decide
  | drop n => simp [allDoors, safeNumbers, validDoor, validSafe]; omega

/-! ## `doorRule` -/

theorem doorRule_iff (s : State) :
    doorRule s = true ↔ (∀ d ∈ allDoors, doorHeld d (s.door d) = true) ∧ (s.csc.holdRunning = true → s.csc.latch = true) := by
  unfold doorRule
  rw [Bool.and_eq_true, List.all_eq_true]
  cases s.csc.holdRunning <;> simp

/-- A state with the same doors, latch and hold keeps the rule. -/
theorem doorRule_congr (s t : State) (h : doorRule s = true) (doors : ∀ d ∈ allDoors, t.door d = s.door d)
    (latch : t.csc.latch = s.csc.latch) (hold : t.csc.holdRunning = s.csc.holdRunning) : doorRule t = true := by
  rw [doorRule_iff] at h ⊢
  exact ⟨fun d hd => by rw [doors d hd]; exact h.1 d hd, by rw [latch, hold]; exact h.2⟩

/-- The rule at every door but one. -/
def doorRuleBut (d : DoorName) (s : State) : Prop :=
  (∀ e ∈ allDoors, e ≠ d → doorHeld e (s.door e) = true) ∧ (s.csc.holdRunning = true → s.csc.latch = true)

theorem doorRuleBut_of (d : DoorName) (s : State) (h : doorRule s = true) : doorRuleBut d s :=
  ⟨fun e he _ => ((doorRule_iff s).mp h).1 e he, ((doorRule_iff s).mp h).2⟩

/-- Writing the door leaves the rule at the others. -/
theorem putDoor_but (d : DoorName) (x : Door) (s : State) (h : doorRuleBut d s) : doorRuleBut d (putDoor d x s) := by
  by_cases hd : d = .other
  · subst hd; exact h
  · exact ⟨fun e he hed => by rw [putDoor_door d x s e hd, if_neg hed]; exact h.1 e he hed, by simpa using h.2⟩

theorem command_but (d : DoorName) (p : UnitPos) (c : UnitCmd) (s : State) (h : doorRuleBut d s) :
    doorRuleBut d (command p c s) :=
  ⟨fun e he hed => by rw [show (command p c s).door e = s.door e by cases e <;> rfl]; exact h.1 e he hed, h.2⟩

/-- A door written as its state has it completes the rule. -/
theorem putDoor_doorRule (d : DoorName) (x : Door) (s : State) (h : doorRuleBut d s) (hd : validDoor d = true)
    (hx : doorHeld d x = true) : doorRule (putDoor d x s) = true := by
  have hn : d ≠ .other := fun e => by subst e; cases hd
  rw [doorRule_iff]
  refine ⟨fun e he => ?_, by simpa using h.2⟩
  rw [putDoor_door d x s e hn]
  by_cases hed : e = d
  · rw [if_pos hed, hed]; exact hx
  · rw [if_neg hed]; exact h.1 e he hed

/-- What the rule says of one door. -/
theorem doorRule_held (s : State) (d : DoorName) (h : doorRule s = true) (hd : validDoor d = true) :
    doorHeld d (s.door d) = true :=
  ((doorRule_iff s).mp h).1 d ((mem_allDoors d).mpr hd)

theorem command_door (p : UnitPos) (c : UnitCmd) (s : State) (d : DoorName) : (command p c s).door d = s.door d := by
  cases d <;> rfl

theorem command_doorRule (p : UnitPos) (c : UnitCmd) (s : State) (h : doorRule s = true) : doorRule (command p c s) = true :=
  doorRule_congr s _ h (fun d _ => command_door p c s d) rfl rfl

theorem notify_doorRule (k : NoticeKind) (l : List Field) (s : State) (h : doorRule s = true) : doorRule (notify k l s) = true :=
  doorRule_congr s _ h (fun d _ => by cases d <;> simp [State.door, State.safe]) (by simp) (by simp)

theorem driveAlarm_doorRule (s : State) (h : doorRule s = true) : doorRule (driveAlarm s) = true :=
  doorRule_congr s _ h (fun d _ => by cases d <;> rfl) rfl rfl

/-! ## Each operation on a door -/

/-- R163, R164, R166: a door whose contact is CLOSED returns to SECURE. -/
theorem secureDoor_doorRule (d : DoorName) (s : State) (h : doorRuleBut d s) (hd : validDoor d = true)
    (hc : (s.door d).contactOpen = false) : doorRule (secureDoor d s) = true := by
  unfold secureDoor
  refine putDoor_doorRule d _ _ ?_ hd ?_
  · split
    · exact command_but _ _ _ _ h
    · exact h
  · cases d <;> simp [doorHeld, namesRule, hc]

/-- A door that may be on its way to opening: CLOSED, not ajar, and with the names that a grant records. -/
def grantable (d : DoorName) (x : Door) : Prop :=
  x.contactOpen = false ∧ x.ajarSent = false ∧ (d = .strongroom → x.named.isSome = true) ∧ (d ≠ .strongroom → x.named = none)

/-- A door on its way to opening is one. -/
theorem grantable_of (d : DoorName) (x : Door) (hd : validDoor d = true) (h : doorHeld d x = true)
    (hs : x.state = .delay ∨ x.state = .confirm ∨ x.state = .released) : grantable d x := by
  unfold grantable
  cases d with
  | strongroom => rcases hs with hs | hs | hs <;> simp_all [doorHeld, namesRule]
  | drop n => rcases hs with hs | hs | hs <;> simp_all [doorHeld, namesRule]
  | other => cases hd

/-- R160, R162, R168: such a door is released. -/
theorem releaseDoor_doorRule (d : DoorName) (s : State) (h : doorRuleBut d s) (hd : validDoor d = true)
    (g : grantable d (s.door d)) : doorRule (releaseDoor d s) = true := by
  unfold releaseDoor
  refine putDoor_doorRule d _ _ (command_but _ _ _ _ h) hd ?_
  unfold grantable at g
  cases d with
  | strongroom => simp_all [doorHeld, namesRule]
  | drop n => simp_all [doorHeld, namesRule]
  | other => cases hd

/-- R160, R161: the strongroom, its lock ENGAGED, enters CONFIRM. -/
theorem confirmDoor_doorRule (s : State) (h : doorRuleBut .strongroom s) (g : grantable .strongroom (s.door .strongroom))
    (hl : (s.door .strongroom).lockReleased = false) : doorRule (confirmDoor s) = true := by
  unfold confirmDoor
  refine putDoor_doorRule _ _ _ h rfl ?_
  unfold grantable at g
  simp_all [doorHeld, namesRule]

/-- R160, R161, R168: a delay, or its end. -/
theorem endDelay_doorRule (d : DoorName) (s : State) (h : doorRuleBut d s) (hd : validDoor d = true)
    (g : grantable d (s.door d)) (hl : (s.door d).lockReleased = false) : doorRule (endDelay d s) = true := by
  cases d with
  | strongroom => exact confirmDoor_doorRule s h g hl
  | drop n => exact releaseDoor_doorRule _ s h hd g
  | other => cases hd

theorem grantDelay_doorRule (d : DoorName) (secs : Nat) (s : State) (h : doorRuleBut d s) (hd : validDoor d = true)
    (g : grantable d (s.door d)) (hl : (s.door d).lockReleased = false) : doorRule (grantDelay d secs s) = true := by
  unfold grantDelay
  split
  · exact endDelay_doorRule d s h hd g hl
  · refine putDoor_doorRule d _ _ h hd ?_
    unfold grantable at g
    cases d with
    | strongroom => simp_all [doorHeld, namesRule]
    | drop n => simp_all [doorHeld, namesRule]
    | other => cases hd

/-- R163, R165: a door stands open. -/
theorem openDoor_doorRule (d : DoorName) (s : State) (h : doorRuleBut d s) (hd : validDoor d = true)
    (hn : d ≠ .strongroom → (s.door d).named = none) : doorRule (openDoor d s) = true := by
  unfold openDoor
  refine putDoor_doorRule d _ _ h hd ?_
  cases d with
  | strongroom => simp [doorHeld, namesRule]
  | drop n => simp [doorHeld, namesRule, hn]
  | other => cases hd

/-- R163 to R165, R168: a DOOR record. -/
theorem takeDoor_doorRule (d : DoorName) (b : Bool) (s : State) (h : doorRule s = true) (hd : validDoor d = true) :
    doorRule (takeDoor d b s) = true := by
  have hn : d ≠ .other := fun e => by subst e; cases hd
  have k := doorRule_held s d h hd
  have hb := doorRuleBut_of d s h
  have forced : doorRule (forceDoor d s) = true := by
    unfold forceDoor
    refine notify_doorRule _ _ _ (driveAlarm_doorRule _ (openDoor_doorRule d _ (putDoor_but d _ s hb) hd fun _ => ?_))
    rw [putDoor_door d _ s d hn, if_pos rfl]
  cases b with
  | true =>
    show doorRule (doorOpened d s) = true
    unfold doorOpened
    split
    · exact openDoor_doorRule d s hb hd (fun hne => by
        cases d with
        | strongroom => exact absurd rfl hne
        | drop n => simp_all [doorHeld, namesRule]
        | other => cases hd)
    · refine putDoor_doorRule d _ _ hb hd ?_
      cases d with
      | strongroom => simp_all [doorHeld, namesRule]
      | drop n => simp_all [doorHeld, namesRule]
      | other => cases hd
    all_goals exact forced
  | false =>
    show doorRule (doorClosed d s) = true
    unfold doorClosed
    dsimp only
    split
    · exact secureDoor_doorRule d _ (putDoor_but d _ s hb) hd (by rw [putDoor_door d _ s d hn, if_pos rfl])
    · refine putDoor_doorRule d _ _ hb hd ?_
      cases d with
      | strongroom => simp_all [doorHeld, namesRule]
      | drop n => simp_all [doorHeld, namesRule]
      | other => cases hd

/-! ## The timers of a door -/

/-- R161, R168: the end of a delay. -/
theorem expireDelay_doorRule (d : DoorName) (s : State) (h : doorRule s = true) (hd : validDoor d = true) :
    doorRule (expireDelay d s) = true := by
  unfold expireDelay doorExpired
  split
  · rename_i he
    simp only [Bool.and_eq_true, decide_eq_true_eq] at he
    have k := doorRule_held s d h hd
    refine endDelay_doorRule d s (doorRuleBut_of d s h) hd (grantable_of d _ hd k (.inl he.1)) ?_
    cases d <;> simp_all [doorHeld]
  · exact h

/-- R162: the end of the Confirm Window. -/
theorem expireConfirm_doorRule (s : State) (h : doorRule s = true) : doorRule (expireConfirm s) = true := by
  unfold expireConfirm doorExpired
  split
  · rename_i he
    simp only [Bool.and_eq_true, decide_eq_true_eq] at he
    have k := doorRule_held s .strongroom h rfl
    exact secureDoor_doorRule _ s (doorRuleBut_of _ s h) rfl (grantable_of _ _ rfl k (.inr (.inl he.1))).1
  · exact h

/-- R163: the end of the Release Window. -/
theorem expireRelease_doorRule (d : DoorName) (s : State) (h : doorRule s = true) (hd : validDoor d = true) :
    doorRule (expireRelease d s) = true := by
  unfold expireRelease doorExpired
  split
  · rename_i he
    simp only [Bool.and_eq_true, decide_eq_true_eq] at he
    have k := doorRule_held s d h hd
    exact secureDoor_doorRule d s (doorRuleBut_of d s h) hd (grantable_of d _ hd k (.inr (.inr he.1))).1
  · exact h

/-- R164: the end of the Open Limit. -/
theorem expireOpen_doorRule (d : DoorName) (s : State) (h : doorRule s = true) (hd : validDoor d = true) :
    doorRule (expireOpen d s) = true := by
  unfold expireOpen doorExpired
  split
  · rename_i he
    simp only [Bool.and_eq_true, decide_eq_true_eq] at he
    have k := doorRule_held s d h hd
    refine notify_doorRule _ _ _ (putDoor_doorRule d _ s (doorRuleBut_of d s h) hd ?_)
    cases d with
    | strongroom => simp_all [doorHeld, namesRule]
    | drop n => simp_all [doorHeld, namesRule]
    | other => cases hd
  · exact h

/-- R159, R167: a tick. -/
theorem tickDoor_held (d : DoorName) (x : Door) (h : doorHeld d x = true) : doorHeld d (tickDoor x) = true := by
  have ht : (tickTimer x.timer).isSome = x.timer.isSome := by cases x.timer <;> rfl
  unfold tickDoor
  cases d <;> simp_all [doorHeld, namesRule]

/-- R178: a door at a start. -/
theorem resolveDoor_held (d : DoorName) (k : Nat) (x : Door) : doorHeld d (resolveDoor k x) = true := by
  unfold resolveDoor
  split <;> cases d <;> simp [doorHeld, namesRule]

/-! ## Requests, presentations and the latch -/

/-- R162: a presentation at STRONGROOM. -/
theorem presentedAtStrongroom_doorRule (n : Nat) (s : State) (h : doorRule s = true) :
    doorRule (presentedAtStrongroom n s) = true := by
  have k := doorRule_held s .strongroom h rfl
  unfold presentedAtStrongroom
  dsimp only
  split
  · rename_i hst _
    split
    · exact releaseDoor_doorRule _ s (doorRuleBut_of _ s h) rfl (grantable_of _ _ rfl k (.inr (.inl hst)))
    · exact h
  · exact h

/-- R160 row 1, R168: the two credentials of a strongroom grant are its names; a drop safe's has none. -/
theorem grantedNames_rule (d : DoorName) (creds : List Nat) (h : doorCredsOk d creds = true) :
    (d = .strongroom → (grantedNames d creds).isSome = true) ∧ (d ≠ .strongroom → grantedNames d creds = none) := by
  cases d with
  | strongroom =>
    obtain ⟨a, b, rfl⟩ := List.length_eq_two.mp (of_decide_eq_true h)
    exact ⟨fun _ => rfl, fun e => absurd rfl e⟩
  | drop n => exact ⟨fun e => (by cases e), fun _ => rfl⟩
  | other => cases h

/-- R160, R168: a REQUEST_DOOR that is granted. -/
theorem requestDoor_doorRule (d : DoorName) (creds : List Nat) (s : State) (a : Answered) (h : doorRule s = true)
    (hr : requestDoor d creds s = .ok a) : doorRule a.state = true := by
  by_cases p : (validDoor d && doorCredsOk d creds) = true
  case neg => rw [requestDoor, Bool.eq_false_iff.mpr p] at hr; cases hr
  have p' := Bool.and_eq_true_iff.mp p
  have hn : d ≠ .other := fun e => by subst e; cases p'.1
  have k := doorRule_held s d h p'.1
  have named := grantedNames_rule d creds p'.2
  by_cases q : (s.door d).state = .secure
  case neg =>
    unfold requestDoor require at hr
    simp only [bind, Except.bind, q] at hr
    repeat' split at hr
    all_goals cases hr
    all_goals simp_all
  generalize hx : ({ s.door d with named := grantedNames d creds } : Door) = x at *
  have door1 : (putDoor d x s).door d = x := by rw [putDoor_door d _ s d hn, if_pos rfl]
  have but1 := putDoor_but d x s (doorRuleBut_of d s h)
  have g : grantable d ((putDoor d x s).door d) := by
    rw [door1, ← hx]
    have k2 : (s.door d).contactOpen = false ∧ (s.door d).ajarSent = false := by cases d <;> simp_all [doorHeld]
    exact ⟨k2.1, k2.2, named⟩
  have l : ((putDoor d x s).door d).lockReleased = false := by
    rw [door1, ← hx]
    cases d <;> simp_all [doorHeld]
  unfold requestDoor require requireSome at hr
  simp only [bind, Except.bind, answerOk, hx] at hr
  repeat' split at hr
  all_goals cases hr
  · exact releaseDoor_doorRule d _ but1 p'.1 g
  · exact grantDelay_doorRule d _ _ but1 p'.1 g l

/-- R166: a CANCEL_DOOR that is taken. -/
theorem cancelDoor_doorRule (d : DoorName) (s : State) (a : Answered) (h : doorRule s = true) (hr : cancelDoor d s = .ok a) :
    doorRule a.state = true := by
  unfold cancelDoor require at hr
  simp only [bind, Except.bind, answerOk] at hr
  repeat' split at hr
  all_goals cases hr
  rename_i hd _ _ hs
  have v : validDoor d = true := by simpa using hd
  have st : (s.door d).state = .delay ∨ (s.door d).state = .confirm ∨ (s.door d).state = .released := by
    simpa [or_assoc, imp_iff_not_or] using hs
  exact secureDoor_doorRule d s (doorRuleBut_of d s h) v (grantable_of d _ v (doorRule_held s d h v) st).1

/-- R175 step 2: the chutes leave the doors. -/
theorem lockChutes_door (s : State) (d : DoorName) : (lockChutes s).door d = s.door d :=
  foldl_keeps (fun s : State => s.door d) _ (fun s n => by
    show (lockChute s n).door d = s.door d
    unfold lockChute
    rw [setChuteCause_door, setChuteCause_door]) safeNumbers s

/-- R175 step 1: a door as a setting of the latch leaves it. -/
theorem setLatch_door (c : LockdownCause) (s : State) (d : DoorName) :
    (setLatch c s).door d = if d ∈ s.movingDoors then droppedDoor (s.door d) else s.door d := by
  have e : (setLatch c s).door d =
      (lockChutes (secureDoors s.movingDoors { s with csc.latch := true })).door d := by
    unfold setLatch notifyLockdown startHold driveAlarm
    cases d <;> simp [State.door, State.safe]
  have f : ({ s with csc.latch := true } : State).door d = s.door d := by cases d <;> rfl
  rw [e, lockChutes_door, secureDoors_door _ (movingDoors_nodup s), f]

/-- R175: a setting of the latch. -/
theorem setLatch_doorRule (c : LockdownCause) (s : State) (h : doorRule s = true) : doorRule (setLatch c s) = true := by
  rw [doorRule_iff] at h ⊢
  refine ⟨fun d hd => ?_, fun _ => ?_⟩
  · have k := h.1 d hd
    rw [setLatch_door]
    split
    · rename_i hm
      have hv := (mem_allDoors d).mp hd
      have hs : (s.door d).state = .delay ∨ (s.door d).state = .confirm ∨ (s.door d).state = .released := by
        have := (List.mem_filter.mp hm).2
        simp_all [or_assoc]
      have g := (grantable_of d _ hv k hs).1
      cases d <;> simp [doorHeld, namesRule, droppedDoor, g]
    · exact k
  · unfold setLatch notifyLockdown startHold driveAlarm
    simp

end Sys2Proof.Machine
end

