-- ==== Sys2Proof/Laws/Hatch.lean ====
section
/-!
SUPPORT. A presentation: the state that the owner of the reader is told in, and the manifest that the start test of HATCH
chooses (R72, R73, R185).
-/

namespace Sys2Proof.Machine

open Sys2Proof

-- One proof at a time: the package is compiled as one text under a memory limit.
set_option Elab.async false

/-- R72, R73: what a presentation changes before the owner of the reader is told. -/
theorem presented_keeps (r : Reader) (n : Nat) (c : Credential) (p : PinResult) (s : State) :
    (presented r n c p s).hoc = s.hoc ∧ (presented r n c p s).csc = s.csc ∧ (presented r n c p s).acu = s.acu ∧
      (presented r n c p s).bgr = s.bgr := by
  unfold presented
  dsimp only
  split <;> simp

/-- R72, R73: a BADGE that is OK or DURESS, of an ACTIVE credential, tells the owner of the reader. -/
theorem badge_presents (r : Reader) (s : State) (n : Nat) (c : Credential) (p : PinResult) (op : s.operating = true)
    (hn : n ≤ 999999) (hc : s.credential n = some c) (hs : c.suspended = false) (hp : p ≠ .fail) :
    exec (.badge r n p) s = .next (tellOwner r n c.cls (presented r n c p s)) := by
  have k : takeBadge r n p s = tellOwner r n c.cls (presented r n c p s) := by
    unfold takeBadge
    rw [hc]
    simp only [hs]
    cases p <;> first | exact absurd rfl hp | rfl
  simp only [State.operating, Bool.and_eq_true, Bool.not_eq_true'] at op
  show execBadge r n p s = _
  unfold execBadge
  simp [unitRecord, op.1, op.2, hn, k]

/-- R182: a choice of manifests has them in the order of their entries. -/
theorem manifestsWhere_rising (s : State) (p : Manifest → Bool) : (s.manifestsWhere p).Pairwise (fun a b => a.1 < b.1) := by
  unfold State.manifestsWhere
  rw [List.pairwise_filterMap]
  have h : manifestNumbers.Pairwise (· < ·) := by decide
  refine h.imp fun hab x hx y hy => ?_
  simp only [Option.map_eq_some_iff] at hx hy
  obtain ⟨_, _, rfl⟩ := hx
  obtain ⟨_, _, rfl⟩ := hy
  exact hab

/-- R185: the start test chooses none of no manifest. -/
theorem earliestManifest_none (l : List (Nat × Manifest)) (h : earliestManifest l = none) : l = [] := by
  cases l with
  | nil => rfl
  | cons x l => unfold earliestManifest at h; split at h <;> [cases h; (split at h <;> cases h)]

/-- R185: the manifest chosen is one of those given. -/
theorem earliestManifest_mem (l : List (Nat × Manifest)) (y : Nat × Manifest) (h : earliestManifest l = some y) : y ∈ l := by
  induction l generalizing y with
  | nil => cases h
  | cons x l ih =>
    unfold earliestManifest at h
    split at h
    · cases h; exact .head _
    · rename_i hz
      split at h <;> cases h
      · exact .tail _ (ih _ hz)
      · exact .head _

/-- R185: the manifest with the earliest window start, the lowest-numbered entry of those, is chosen. -/
theorem earliestManifest_is (l : List (Nat × Manifest)) (i : Nat) (m : Manifest) (rising : l.Pairwise (fun a b => a.1 < b.1))
    (hm : (i, m) ∈ l) (least : ∀ x ∈ l, clockKey m.opens < clockKey x.2.opens ∨
      clockKey m.opens = clockKey x.2.opens ∧ i ≤ x.1) : earliestManifest l = some (i, m) := by
  induction l with
  | nil => cases hm
  | cons x l ih =>
    rw [List.pairwise_cons] at rising
    unfold earliestManifest
    by_cases hx : (i, m) = x
    · subst hx
      split
      · rfl
      · rename_i z hz
        have := least z (.tail _ (earliestManifest_mem _ _ hz))
        rw [if_neg]
        dsimp only
        omega
    · have hl : (i, m) ∈ l := (List.mem_cons.mp hm).resolve_left hx
      rw [ih rising.2 hl fun w hw => least w (.tail _ hw)]
      have a := least x (.head _)
      have b := rising.1 _ hl
      dsimp only at b ⊢
      rw [if_pos]
      omega

end Sys2Proof.Machine
end

