-- ==== Sys2Proof/Laws/PerInstr.lean ====
section
/-!
SUPPORT. One lemma for each command: a well-formed request carries a tag from 1 to 255 (R195), since tag 0 marks notices
(R198).
-/

namespace Sys2Proof.Laws

open Sys2Proof

-- One proof at a time: the package is compiled as one text under a memory limit.
set_option Elab.async false

/-- R195: the tag that a request carries; the other commands carry none. -/
def requestTag : Instr → Option Nat
  | .setNotices tag _ _ => some tag
  | .status tag => some tag
  | .restart tag _ => some tag
  | .setClock tag _ _ _ => some tag
  | .setDenominations tag _ _ => some tag
  | .setBand tag _ _ _ => some tag
  | .openDay tag _ _ _ => some tag
  | .closeDay tag _ _ => some tag
  | .openOffice tag _ => some tag
  | .closeOffice tag _ => some tag
  | .takeJournal tag _ => some tag
  | .queryStock tag => some tag
  | .enrol tag _ _ _ => some tag
  | .revoke tag _ _ => some tag
  | .reinstate tag _ _ => some tag
  | .setPresenceLifetime tag _ _ => some tag
  | .setTagRange tag _ _ _ _ _ _ => some tag
  | .moveBag tag _ _ _ => some tag
  | .queryBag tag _ _ _ => some tag
  | .setTill tag _ _ _ => some tag
  | .setTemplate tag _ _ _ => some tag
  | .makeFloat tag _ _ _ _ => some tag
  | .unmakeFloat tag _ _ => some tag
  | .issueFloat tag _ _ _ => some tag
  | .receiveTakings tag _ _ _ _ _ => some tag
  | .post tag _ _ _ _ => some tag
  | .releaseTill tag _ _ => some tag
  | .queryTill tag _ => some tag
  | .loadLane tag _ _ _ _ => some tag
  | .start tag _ _ => some tag
  | .stop tag _ => some tag
  | .resume tag _ _ => some tag
  | .closeBatch tag _ _ _ => some tag
  | .abortBatch tag _ _ => some tag
  | .clearFault tag _ _ => some tag
  | .queryLane tag _ _ => some tag
  | .countManual tag _ _ _ => some tag
  | .resolveDispute tag _ _ _ _ _ => some tag
  | .mergeBag tag _ _ => some tag
  | .setWatch tag _ _ _ _ _ _ _ => some tag
  | .rearm tag _ _ => some tag
  | .auditHold tag _ => some tag
  | .auditRelease tag _ => some tag
  | .queryWatch tag _ _ => some tag
  | .requestDoor tag _ _ => some tag
  | .cancelDoor tag _ => some tag
  | .setDoorPolicy tag _ _ => some tag
  | .setMaintenance tag _ _ => some tag
  | .freezeSettings tag _ => some tag
  | .clearDropSafe tag _ _ => some tag
  | .lockdown tag => some tag
  | .releaseLockdown tag _ _ => some tag
  | .setPanicEdge tag _ _ => some tag
  | .makeDeposit tag _ _ _ => some tag
  | .createManifest tag _ _ _ _ _ _ _ _ => some tag
  | .cancelManifest tag _ _ => some tag
  | .queryManifest tag _ _ => some tag
  | .frameReceived _ => none
  | .frameTimeout => none
  | .messageSend => none
  | .note _ _ _ _ => none
  | .pocket _ _ => none
  | .jam _ => none
  | .badge _ _ _ => none
  | .door _ _ => none
  | .drop _ _ => none
  | .hatchScan _ => none
  | .unitRecordDiscarded _ _ _ => none
  | .panicEdge _ => none
  | .resetAsserted => none
  | .lineStart _ => none
  | .coldStart => none
  | .powerStart => none
  | .restartStart _ => none
  | .clockTick => none
  | .presenceExpiry _ _ => none
  | .delayExpiry => none
  | .dropDelayExpiry _ => none
  | .confirmWindowExpiry => none
  | .releaseWindowExpiry _ => none
  | .openLimitExpiry _ => none
  | .lockdownHoldExpiry => none
  | .handoverWindowExpiry => none
  | .alarmPeriodExpiry => none
  | .postingApplication => none
  | .valuationBegin => none
  | .valuationCompletion => none
  | .lossOfSupply _ => none

/-- A well-formed command that carries a tag carries one from 1 to 255. -/
def RequestTag.Statement (i : Instr) : Prop :=
  wellFormed i = true → ∀ t, requestTag i = some t → 1 ≤ t ∧ t ≤ 255

/-! ## One lemma for each command -/

theorem RequestTag.setNotices (tag : Nat) (global : Bool) (classes : NoticeEnables) :
    RequestTag.Statement (.setNotices tag global classes) := by
  intro h t e
  cases e
  simp only [wellFormed, WellFormed.tag, Bool.and_eq_true, decide_eq_true_eq] at h
  omega

theorem RequestTag.status (tag : Nat) :
    RequestTag.Statement (.status tag) := by
  intro h t e
  cases e
  simp only [wellFormed, WellFormed.tag, Bool.and_eq_true, decide_eq_true_eq] at h
  omega

theorem RequestTag.restart (tag cred : Nat) :
    RequestTag.Statement (.restart tag cred) := by
  intro h t e
  cases e
  simp only [wellFormed, WellFormed.tag, Bool.and_eq_true, decide_eq_true_eq] at h
  omega

theorem RequestTag.setClock (tag : Nat) (date : Date) (secs : Nat) (cred : Option Nat) :
    RequestTag.Statement (.setClock tag date secs cred) := by
  intro h t e
  cases e
  simp only [wellFormed, WellFormed.tag, Bool.and_eq_true, decide_eq_true_eq] at h
  omega

theorem RequestTag.setDenominations (tag : Nat) (entries : List DenomEntry) (cred : Nat) :
    RequestTag.Statement (.setDenominations tag entries cred) := by
  intro h t e
  cases e
  simp only [wellFormed, WellFormed.tag, Bool.and_eq_true, decide_eq_true_eq] at h
  omega

theorem RequestTag.setBand (tag : Nat) (floor : AmountArg) (rate cred : Nat) :
    RequestTag.Statement (.setBand tag floor rate cred) := by
  intro h t e
  cases e
  simp only [wellFormed, WellFormed.tag, Bool.and_eq_true, decide_eq_true_eq] at h
  omega

theorem RequestTag.openDay (tag : Nat) (date : Date) (lines : List StockLine) (cred : Nat) :
    RequestTag.Statement (.openDay tag date lines cred) := by
  intro h t e
  cases e
  simp only [wellFormed, WellFormed.tag, Bool.and_eq_true, decide_eq_true_eq] at h
  omega

theorem RequestTag.closeDay (tag : Nat) (handOuts : List SlotLine) (cred : Nat) :
    RequestTag.Statement (.closeDay tag handOuts cred) := by
  intro h t e
  cases e
  simp only [wellFormed, WellFormed.tag, Bool.and_eq_true, decide_eq_true_eq] at h
  omega

theorem RequestTag.openOffice (tag cred : Nat) :
    RequestTag.Statement (.openOffice tag cred) := by
  intro h t e
  cases e
  simp only [wellFormed, WellFormed.tag, Bool.and_eq_true, decide_eq_true_eq] at h
  omega

theorem RequestTag.closeOffice (tag cred : Nat) :
    RequestTag.Statement (.closeOffice tag cred) := by
  intro h t e
  cases e
  simp only [wellFormed, WellFormed.tag, Bool.and_eq_true, decide_eq_true_eq] at h
  omega

theorem RequestTag.takeJournal (tag k : Nat) :
    RequestTag.Statement (.takeJournal tag k) := by
  intro h t e
  cases e
  simp only [wellFormed, WellFormed.tag, Bool.and_eq_true, decide_eq_true_eq] at h
  omega

theorem RequestTag.queryStock (tag : Nat) :
    RequestTag.Statement (.queryStock tag) := by
  intro h t e
  cases e
  simp only [wellFormed, WellFormed.tag, Bool.and_eq_true, decide_eq_true_eq] at h
  omega

theorem RequestTag.enrol (tag number : Nat) (cls : Option CredClass) (cred : Nat) :
    RequestTag.Statement (.enrol tag number cls cred) := by
  intro h t e
  cases e
  simp only [wellFormed, WellFormed.tag, Bool.and_eq_true, decide_eq_true_eq] at h
  omega

theorem RequestTag.revoke (tag number cred : Nat) :
    RequestTag.Statement (.revoke tag number cred) := by
  intro h t e
  cases e
  simp only [wellFormed, WellFormed.tag, Bool.and_eq_true, decide_eq_true_eq] at h
  omega

theorem RequestTag.reinstate (tag number cred : Nat) :
    RequestTag.Statement (.reinstate tag number cred) := by
  intro h t e
  cases e
  simp only [wellFormed, WellFormed.tag, Bool.and_eq_true, decide_eq_true_eq] at h
  omega

theorem RequestTag.setPresenceLifetime (tag secs cred : Nat) :
    RequestTag.Statement (.setPresenceLifetime tag secs cred) := by
  intro h t e
  cases e
  simp only [wellFormed, WellFormed.tag, Bool.and_eq_true, decide_eq_true_eq] at h
  omega

theorem RequestTag.setTagRange (tag entry : Nat) (enable : Bool) (first last : Option Nat) (purpose : Option RangePurpose)
    (cred : Nat) :
    RequestTag.Statement (.setTagRange tag entry enable first last purpose cred) := by
  intro h t e
  cases e
  simp only [wellFormed, WellFormed.tag, Bool.and_eq_true, decide_eq_true_eq] at h
  omega

theorem RequestTag.moveBag (tag ref : Nat) (dest : Option MoveDest) (cred : Nat) :
    RequestTag.Statement (.moveBag tag ref dest cred) := by
  intro h t e
  cases e
  simp only [wellFormed, WellFormed.tag, Bool.and_eq_true, decide_eq_true_eq] at h
  omega

theorem RequestTag.queryBag (tag ref : Nat) (tagNo : Option Nat) (part : Option Nat) :
    RequestTag.Statement (.queryBag tag ref tagNo part) := by
  intro h t e
  cases e
  simp only [wellFormed, WellFormed.tag, Bool.and_eq_true, decide_eq_true_eq] at h
  omega

theorem RequestTag.setTill (tag till : Nat) (limit : AmountArg) (cred : Nat) :
    RequestTag.Statement (.setTill tag till limit cred) := by
  intro h t e
  cases e
  simp only [wellFormed, WellFormed.tag, Bool.and_eq_true, decide_eq_true_eq] at h
  omega

theorem RequestTag.setTemplate (tag template : Nat) (lines : List SlotLine) (cred : Nat) :
    RequestTag.Statement (.setTemplate tag template lines cred) := by
  intro h t e
  cases e
  simp only [wellFormed, WellFormed.tag, Bool.and_eq_true, decide_eq_true_eq] at h
  omega

theorem RequestTag.makeFloat (tag till template tagNo cred : Nat) :
    RequestTag.Statement (.makeFloat tag till template tagNo cred) := by
  intro h t e
  cases e
  simp only [wellFormed, WellFormed.tag, Bool.and_eq_true, decide_eq_true_eq] at h
  omega

theorem RequestTag.unmakeFloat (tag till cred : Nat) :
    RequestTag.Statement (.unmakeFloat tag till cred) := by
  intro h t e
  cases e
  simp only [wellFormed, WellFormed.tag, Bool.and_eq_true, decide_eq_true_eq] at h
  omega

theorem RequestTag.issueFloat (tag till cashier custodian : Nat) :
    RequestTag.Statement (.issueFloat tag till cashier custodian) := by
  intro h t e
  cases e
  simp only [wellFormed, WellFormed.tag, Bool.and_eq_true, decide_eq_true_eq] at h
  omega

theorem RequestTag.receiveTakings (tag till tagNo : Nat) (declared : AmountArg) (cashier custodian : Nat) :
    RequestTag.Statement (.receiveTakings tag till tagNo declared cashier custodian) := by
  intro h t e
  cases e
  simp only [wellFormed, WellFormed.tag, Bool.and_eq_true, decide_eq_true_eq] at h
  omega

theorem RequestTag.post (tag till : Nat) (kind : Option PostingKind) (amount : AmountArg) (skimTag : Option Nat) :
    RequestTag.Statement (.post tag till kind amount skimTag) := by
  intro h t e
  cases e
  simp only [wellFormed, WellFormed.tag, Bool.and_eq_true, decide_eq_true_eq] at h
  omega

theorem RequestTag.releaseTill (tag till cred : Nat) :
    RequestTag.Statement (.releaseTill tag till cred) := by
  intro h t e
  cases e
  simp only [wellFormed, WellFormed.tag, Bool.and_eq_true, decide_eq_true_eq] at h
  omega

theorem RequestTag.queryTill (tag till : Nat) :
    RequestTag.Statement (.queryTill tag till) := by
  intro h t e
  cases e
  simp only [wellFormed, WellFormed.tag, Bool.and_eq_true, decide_eq_true_eq] at h
  omega

theorem RequestTag.loadLane (tag lane ref : Nat) (urgent : Bool) (cred : Nat) :
    RequestTag.Statement (.loadLane tag lane ref urgent cred) := by
  intro h t e
  cases e
  simp only [wellFormed, WellFormed.tag, Bool.and_eq_true, decide_eq_true_eq] at h
  omega

theorem RequestTag.start (tag lane cred : Nat) :
    RequestTag.Statement (.start tag lane cred) := by
  intro h t e
  cases e
  simp only [wellFormed, WellFormed.tag, Bool.and_eq_true, decide_eq_true_eq] at h
  omega

theorem RequestTag.stop (tag lane : Nat) :
    RequestTag.Statement (.stop tag lane) := by
  intro h t e
  cases e
  simp only [wellFormed, WellFormed.tag, Bool.and_eq_true, decide_eq_true_eq] at h
  omega

theorem RequestTag.resume (tag lane cred : Nat) :
    RequestTag.Statement (.resume tag lane cred) := by
  intro h t e
  cases e
  simp only [wellFormed, WellFormed.tag, Bool.and_eq_true, decide_eq_true_eq] at h
  omega

theorem RequestTag.closeBatch (tag lane : Nat) (coins : Option (Table Nat)) (cred : Nat) :
    RequestTag.Statement (.closeBatch tag lane coins cred) := by
  intro h t e
  cases e
  simp only [wellFormed, WellFormed.tag, Bool.and_eq_true, decide_eq_true_eq] at h
  omega

theorem RequestTag.abortBatch (tag lane cred : Nat) :
    RequestTag.Statement (.abortBatch tag lane cred) := by
  intro h t e
  cases e
  simp only [wellFormed, WellFormed.tag, Bool.and_eq_true, decide_eq_true_eq] at h
  omega

theorem RequestTag.clearFault (tag lane cred : Nat) :
    RequestTag.Statement (.clearFault tag lane cred) := by
  intro h t e
  cases e
  simp only [wellFormed, WellFormed.tag, Bool.and_eq_true, decide_eq_true_eq] at h
  omega

theorem RequestTag.queryLane (tag lane : Nat) (part : Option Nat) :
    RequestTag.Statement (.queryLane tag lane part) := by
  intro h t e
  cases e
  simp only [wellFormed, WellFormed.tag, Bool.and_eq_true, decide_eq_true_eq] at h
  omega

theorem RequestTag.countManual (tag ref : Nat) (tally : Tally) (cred : Nat) :
    RequestTag.Statement (.countManual tag ref tally cred) := by
  intro h t e
  cases e
  simp only [wellFormed, WellFormed.tag, Bool.and_eq_true, decide_eq_true_eq] at h
  omega

theorem RequestTag.resolveDispute (tag ref : Nat) (choice : Option DisputeChoice) (tally : Option Tally)
    (cred1 cred2 : Nat) :
    RequestTag.Statement (.resolveDispute tag ref choice tally cred1 cred2) := by
  intro h t e
  cases e
  simp only [wellFormed, WellFormed.tag, Bool.and_eq_true, decide_eq_true_eq] at h
  omega

theorem RequestTag.mergeBag (tag ref cred : Nat) :
    RequestTag.Statement (.mergeBag tag ref cred) := by
  intro h t e
  cases e
  simp only [wellFormed, WellFormed.tag, Bool.and_eq_true, decide_eq_true_eq] at h
  omega

theorem RequestTag.setWatch (tag entry : Nat) (enable : Bool) (cred : Nat) (level1 level2 : Option Condition)
    (same : Bool) (action : Option WatchAction) :
    RequestTag.Statement (.setWatch tag entry enable cred level1 level2 same action) := by
  intro h t e
  cases e
  simp only [wellFormed, WellFormed.tag, Bool.and_eq_true, decide_eq_true_eq] at h
  omega

theorem RequestTag.rearm (tag entry cred : Nat) :
    RequestTag.Statement (.rearm tag entry cred) := by
  intro h t e
  cases e
  simp only [wellFormed, WellFormed.tag, Bool.and_eq_true, decide_eq_true_eq] at h
  omega

theorem RequestTag.auditHold (tag cred : Nat) :
    RequestTag.Statement (.auditHold tag cred) := by
  intro h t e
  cases e
  simp only [wellFormed, WellFormed.tag, Bool.and_eq_true, decide_eq_true_eq] at h
  omega

theorem RequestTag.auditRelease (tag cred : Nat) :
    RequestTag.Statement (.auditRelease tag cred) := by
  intro h t e
  cases e
  simp only [wellFormed, WellFormed.tag, Bool.and_eq_true, decide_eq_true_eq] at h
  omega

theorem RequestTag.queryWatch (tag : Nat) (entry : Option Nat) (part : Option Nat) :
    RequestTag.Statement (.queryWatch tag entry part) := by
  intro h t e
  cases e
  simp only [wellFormed, WellFormed.tag, Bool.and_eq_true, decide_eq_true_eq] at h
  omega

theorem RequestTag.requestDoor (tag : Nat) (door : DoorName) (creds : List Nat) :
    RequestTag.Statement (.requestDoor tag door creds) := by
  intro h t e
  cases e
  simp only [wellFormed, WellFormed.tag, Bool.and_eq_true, decide_eq_true_eq] at h
  omega

theorem RequestTag.cancelDoor (tag : Nat) (door : DoorName) :
    RequestTag.Statement (.cancelDoor tag door) := by
  intro h t e
  cases e
  simp only [wellFormed, WellFormed.tag, Bool.and_eq_true, decide_eq_true_eq] at h
  omega

theorem RequestTag.setDoorPolicy (tag : Nat) (timings : PolicyArgs) (cred : Nat) :
    RequestTag.Statement (.setDoorPolicy tag timings cred) := by
  intro h t e
  cases e
  simp only [wellFormed, WellFormed.tag, Bool.and_eq_true, decide_eq_true_eq] at h
  omega

theorem RequestTag.setMaintenance (tag : Nat) (choice : Option Bool) (cred : Nat) :
    RequestTag.Statement (.setMaintenance tag choice cred) := by
  intro h t e
  cases e
  simp only [wellFormed, WellFormed.tag, Bool.and_eq_true, decide_eq_true_eq] at h
  omega

theorem RequestTag.freezeSettings (tag cred : Nat) :
    RequestTag.Statement (.freezeSettings tag cred) := by
  intro h t e
  cases e
  simp only [wellFormed, WellFormed.tag, Bool.and_eq_true, decide_eq_true_eq] at h
  omega

theorem RequestTag.clearDropSafe (tag safe cred : Nat) :
    RequestTag.Statement (.clearDropSafe tag safe cred) := by
  intro h t e
  cases e
  simp only [wellFormed, WellFormed.tag, Bool.and_eq_true, decide_eq_true_eq] at h
  omega

theorem RequestTag.lockdown (tag : Nat) :
    RequestTag.Statement (.lockdown tag) := by
  intro h t e
  cases e
  simp only [wellFormed, WellFormed.tag, Bool.and_eq_true, decide_eq_true_eq] at h
  omega

theorem RequestTag.releaseLockdown (tag cred1 cred2 : Nat) :
    RequestTag.Statement (.releaseLockdown tag cred1 cred2) := by
  intro h t e
  cases e
  simp only [wellFormed, WellFormed.tag, Bool.and_eq_true, decide_eq_true_eq] at h
  omega

theorem RequestTag.setPanicEdge (tag : Nat) (choice : Option EdgeSelect) (cred : Nat) :
    RequestTag.Statement (.setPanicEdge tag choice cred) := by
  intro h t e
  cases e
  simp only [wellFormed, WellFormed.tag, Bool.and_eq_true, decide_eq_true_eq] at h
  omega

theorem RequestTag.makeDeposit (tag tagNo : Nat) (lines : List DepositLine) (cred : Nat) :
    RequestTag.Statement (.makeDeposit tag tagNo lines cred) := by
  intro h t e
  cases e
  simp only [wellFormed, WellFormed.tag, Bool.and_eq_true, decide_eq_true_eq] at h
  omega

theorem RequestTag.createManifest (tag visit courier : Nat) (opens closes : ClockTime) (window : Option Nat)
    (outbound : List Nat) (inbound : List InboundArg) (cred : Nat) :
    RequestTag.Statement (.createManifest tag visit courier opens closes window outbound inbound cred) := by
  intro h t e
  cases e
  simp only [wellFormed, WellFormed.tag, Bool.and_eq_true, decide_eq_true_eq] at h
  omega

theorem RequestTag.cancelManifest (tag visit cred : Nat) :
    RequestTag.Statement (.cancelManifest tag visit cred) := by
  intro h t e
  cases e
  simp only [wellFormed, WellFormed.tag, Bool.and_eq_true, decide_eq_true_eq] at h
  omega

theorem RequestTag.queryManifest (tag : Nat) (entry : Option Nat) (part : Option Nat) :
    RequestTag.Statement (.queryManifest tag entry part) := by
  intro h t e
  cases e
  simp only [wellFormed, WellFormed.tag, Bool.and_eq_true, decide_eq_true_eq] at h
  omega

theorem RequestTag.frameReceived (bytes : List Byte) :
    RequestTag.Statement (.frameReceived bytes) := by
  intro _ t h; cases h

theorem RequestTag.frameTimeout :
    RequestTag.Statement .frameTimeout := by
  intro _ t h; cases h

theorem RequestTag.messageSend :
    RequestTag.Statement .messageSend := by
  intro _ t h; cases h

theorem RequestTag.note (lane : Nat) (slot : Option Nat) (fitness : Fitness) (suspect : Bool) :
    RequestTag.Statement (.note lane slot fitness suspect) := by
  intro _ t h; cases h

theorem RequestTag.pocket (lane : Nat) (which : Pocket) :
    RequestTag.Statement (.pocket lane which) := by
  intro _ t h; cases h

theorem RequestTag.jam (lane : Nat) :
    RequestTag.Statement (.jam lane) := by
  intro _ t h; cases h

theorem RequestTag.badge (reader : Reader) (number : Nat) (pin : PinResult) :
    RequestTag.Statement (.badge reader number pin) := by
  intro _ t h; cases h

theorem RequestTag.door (door : DoorName) (isOpen : Bool) :
    RequestTag.Statement (.door door isOpen) := by
  intro _ t h; cases h

theorem RequestTag.drop (safe : Nat) (tagNo : Option Nat) :
    RequestTag.Statement (.drop safe tagNo) := by
  intro _ t h; cases h

theorem RequestTag.hatchScan (tagNo : Option Nat) :
    RequestTag.Statement (.hatchScan tagNo) := by
  intro _ t h; cases h

theorem RequestTag.unitRecordDiscarded (addr : Nat) (type : RecordType) (fieldsOk : Bool) :
    RequestTag.Statement (.unitRecordDiscarded addr type fieldsOk) := by
  intro _ t h; cases h

theorem RequestTag.panicEdge (edge : Edge) :
    RequestTag.Statement (.panicEdge edge) := by
  intro _ t h; cases h

theorem RequestTag.resetAsserted :
    RequestTag.Statement .resetAsserted := by
  intro _ t h; cases h

theorem RequestTag.lineStart (storeOk : Bool) :
    RequestTag.Statement (.lineStart storeOk) := by
  intro _ t h; cases h

theorem RequestTag.coldStart :
    RequestTag.Statement .coldStart := by
  intro _ t h; cases h

theorem RequestTag.powerStart :
    RequestTag.Statement .powerStart := by
  intro _ t h; cases h

theorem RequestTag.restartStart (storeOk : Bool) :
    RequestTag.Statement (.restartStart storeOk) := by
  intro _ t h; cases h

theorem RequestTag.clockTick :
    RequestTag.Statement .clockTick := by
  intro _ t h; cases h

theorem RequestTag.presenceExpiry (reader : Reader) (number : Nat) :
    RequestTag.Statement (.presenceExpiry reader number) := by
  intro _ t h; cases h

theorem RequestTag.delayExpiry :
    RequestTag.Statement .delayExpiry := by
  intro _ t h; cases h

theorem RequestTag.dropDelayExpiry (safe : Nat) :
    RequestTag.Statement (.dropDelayExpiry safe) := by
  intro _ t h; cases h

theorem RequestTag.confirmWindowExpiry :
    RequestTag.Statement .confirmWindowExpiry := by
  intro _ t h; cases h

theorem RequestTag.releaseWindowExpiry (door : DoorName) :
    RequestTag.Statement (.releaseWindowExpiry door) := by
  intro _ t h; cases h

theorem RequestTag.openLimitExpiry (door : DoorName) :
    RequestTag.Statement (.openLimitExpiry door) := by
  intro _ t h; cases h

theorem RequestTag.lockdownHoldExpiry :
    RequestTag.Statement .lockdownHoldExpiry := by
  intro _ t h; cases h

theorem RequestTag.handoverWindowExpiry :
    RequestTag.Statement .handoverWindowExpiry := by
  intro _ t h; cases h

theorem RequestTag.alarmPeriodExpiry :
    RequestTag.Statement .alarmPeriodExpiry := by
  intro _ t h; cases h

theorem RequestTag.postingApplication :
    RequestTag.Statement .postingApplication := by
  intro _ t h; cases h

theorem RequestTag.valuationBegin :
    RequestTag.Statement .valuationBegin := by
  intro _ t h; cases h

theorem RequestTag.valuationCompletion :
    RequestTag.Statement .valuationCompletion := by
  intro _ t h; cases h

theorem RequestTag.lossOfSupply (backupLost : Bool) :
    RequestTag.Statement (.lossOfSupply backupLost) := by
  intro _ t h; cases h

end Sys2Proof.Laws
end

