-- ==== Sys2Proof/Tests/Slice0.lean ====
section
/-!
SUPPORT. The model's own tests: a term that each check of well-formedness refuses; for every statement, states and
operands that meet the hypotheses of each of its clauses; and single steps on a small office.
-/

namespace Sys2Proof.Tests

open Sys2Proof Sys2Proof.Machine

-- One proof at a time: the package is compiled as one text under a memory limit.
set_option Elab.async false

/-! ## A small office -/

/-- The bag record that `newBag` fills in with its declared value as its book value. -/
def bagOf (g : Nat) (p : Purpose) (src : Source) (v : Int) : Bag := newBag g p src none v (some v)

/-- An office in its business day: slot 0 holds notes of 5.00 in straps of 100, slot 1 notes of 20.00 in straps of 50 and
slot 6 coins of 1.00.  Credentials 1 and 2 are SUPERVISORs, 3 a CUSTODIAN, 4 an AUDITOR, 5 and 7 CASHIERs, 6 a COURIER. -/
def office : State :=
  { State.reset with
    acu.clock := some ⟨⟨2026, 3, 2⟩, 36000⟩, acu.day := .dayOpen, acu.businessDate := some ⟨2026, 3, 2⟩
    acu.mode := .opened, acu.accountability := 101500
    acu.denoms := [(0, .note 500 100), (1, .note 2000 50), (6, .coin 100)]
    acu.stock := [(0, ⟨100, 20, 3, 0⟩), (6, ⟨0, 0, 0, 400⟩)]
    cru.creds := [(1, some ⟨.supervisor, false, 0⟩), (2, some ⟨.supervisor, false, 0⟩), (3, some ⟨.custodian, false, 0⟩),
      (4, some ⟨.auditor, false, 1⟩), (5, some ⟨.cashier, false, 2⟩), (6, some ⟨.courier, false, 0⟩),
      (7, some ⟨.cashier, true, 3⟩)]
    cru.office := [⟨1, .supervisor, 60⟩, ⟨2, .supervisor, 50⟩, ⟨3, .custodian, 0⟩, ⟨5, .cashier, 30⟩]
    cru.strongroom := [⟨1, .supervisor, 60⟩, ⟨3, .custodian, 60⟩]
    bgr.ranges := [(0, ⟨true, 1, 99, .float⟩), (1, ⟨true, 100, 199, .takings⟩), (2, ⟨true, 200, 299, .skim⟩),
      (3, ⟨true, 300, 399, .deposit⟩), (4, ⟨true, 400, 499, .changeIn⟩), (5, ⟨true, 500, 599, .void⟩)] }

/-- The unit commands sent, each with its position; the address is an open value. -/
def unitCommands (s : State) : List (UnitPos × UnitCmd) := s.ubc.commands.map (fun x => (x.pos, x.cmd))

/-- The state that a command leaves. -/
def after (i : Instr) (s : State) : State :=
  match exec i s with
  | .next t => t
  | .fault _ => s
  | .refused _ => s

/-- Whether an outcome is a next state. -/
def answersNext : Host.Outcome State Fault Refusal → Bool
  | .next _ => true
  | .fault _ => false
  | .refused _ => false

/-- The status of the newest reply. -/
def lastStatus (s : State) : Option Status := s.hpt.replies.getLast?.map Reply.status

/-- The fields of the newest reply. -/
def lastFields (s : State) : List Field := (s.hpt.replies.getLast?.map Reply.fields).getD []

/-- The office with its one drop safe's worth of bags: `n` INTACT SKIM bags at the BENCH. -/
def withBags (n : Nat) (s : State) : State :=
  { s with bgr.bags := (List.range' 1 n).map (fun r => (r, some (bagOf (200 + r) .skim .unknown 0))) }

/-- The office with its AUDITOR at OFFICE in place of the CASHIER. -/
def audited : State := { office with cru.office := [⟨1, .supervisor, 60⟩, ⟨4, .auditor, 60⟩] }

/-- The office after hours, every lane OFF, with the lockdown latch set or clear. -/
def closed (latch : Bool) : State :=
  { office with
    acu.mode := .afterHours, csc.latch := latch, ubc.alarm := latch
    csc.holdRunning := latch, csc.holdTimer := if latch then 900 else 0 }

/-- The office with lane `n` as given. -/
def withLane (n : Nat) (l : Lane) : State := putLane n l office

/-- A batch of bag 1 with `fit` notes of slot 0. -/
def batchOf (fit : Nat) (strap full : Nat) : Batch :=
  ⟨1, ⟨[(0, ⟨fit, 0, 0, 0⟩)], 0⟩, [(0, strap), (1, 50)], [(0, full)], false, false, false⟩

/-- A lane in a state, with a batch, pocket counts and a hold set. -/
def laneOf (st : LaneState) (b : Option Batch) (stacker reject : Nat) (h : HoldSet) : Lane :=
  ⟨st, b, [], stacker, reject, h, if st = .fault ∨ st = .faultLocked then some .jam else none, decide (st = .faultLocked)⟩

/-- The hold set with OPERATOR only. -/
def heldByOperator : HoldSet := { HoldSet.empty with operator := true }

/-- The office with the strongroom door in a state with a timer. -/
def withStrongroom (st : DoorState) (timer : Option Nat) (s : State) : State :=
  { s with csc.strongroom :=
      ⟨st, if st = .delay ∨ st = .confirm then some (1, 3) else none, timer, decide (st = .released), false, false, 0⟩ }

/-- The office with drop safe `n`'s door in a state with a timer. -/
def withSafe (n : Nat) (st : DoorState) (timer : Option Nat) (s : State) : State :=
  putSafe n ⟨⟨st, none, timer, decide (st = .released), decide (st = .opened), false, 0⟩, 0,
    ⟨false, false, false, false, decide (st ≠ .secure)⟩, decide (st ≠ .secure)⟩ s

/-- A till that is ISSUED to cashier 5 with a float of 100.00. -/
def issuedTill : Till :=
  { Till.initial with state := .issued, cashier := some 5, floatValue := 10000, expected := 10000 }

/-- A visit of courier 6 with a window around the office's time. -/
def visitOf (st : ManifestState) (out : List OutItem) (inb : List InItem) (timer : Option Nat) : Manifest :=
  ⟨41, 6, ⟨⟨2026, 3, 2⟩, 35000⟩, ⟨⟨2026, 3, 2⟩, 40000⟩, 900, out, inb, st, none, timer, none⟩

/-! ## Well-formedness: a term that each check refuses -/

/-- A request with a tag outside 1 to 255. -/
theorem test_wf_tag : wellFormed (.status 0) = false ∧ wellFormed (.status 256) = false ∧ wellFormed (.status 255) = true := by
  decide

/-- A packed number that its field does not hold. -/
theorem test_wf_packed : wellFormed (.start 1 100 3) = false ∧ wellFormed (.start 1 3 1000000) = false ∧
    wellFormed (.setClock 1 ⟨2026, 3, 2⟩ 5 (some 1000000)) = false ∧ wellFormed (.start 1 3 999999) = true := by decide

/-- A list longer than its count byte can say. -/
theorem test_wf_list : wellFormed (.closeDay 1 (List.replicate 256 ⟨0, 1⟩) 1) = false ∧
    wellFormed (.closeDay 1 (List.replicate 255 ⟨0, 1⟩) 1) = true := by decide +kernel

/-- An Amount past twelve digits. -/
theorem test_wf_amount : wellFormed (.setTill 1 1 (some 1000000000000) 1) = false ∧
    wellFormed (.setTill 1 1 (some (-999999999999)) 1) = true ∧ wellFormed (.setTill 1 1 none 1) = true := by decide

/-- A date and a clock reading past their digits. -/
theorem test_wf_clock : wellFormed (.setClock 1 ⟨10000, 3, 2⟩ 5 none) = false ∧
    wellFormed (.setClock 1 ⟨2026, 100, 2⟩ 5 none) = false ∧ wellFormed (.setClock 1 ⟨2026, 3, 100⟩ 5 none) = false ∧
    wellFormed (.createManifest 1 1 6 ⟨⟨2026, 3, 2⟩, 1000000⟩ ⟨⟨2026, 3, 2⟩, 1⟩ none [] [] 1) = false := by decide

/-- Lines and entries with a field past its digits. -/
theorem test_wf_lines : wellFormed (.setTemplate 1 0 [⟨100, 1⟩] 1) = false ∧
    wellFormed (.setDenominations 1 [⟨0, .note, 500, 10000⟩] 1) = false ∧
    wellFormed (.openDay 1 ⟨2026, 3, 2⟩ [⟨0, some 1000000, none, none, none⟩] 1) = false ∧
    wellFormed (.makeDeposit 1 300 [⟨0, none, some 1000000, none⟩] 1) = false ∧
    wellFormed (.createManifest 1 1 6 ⟨⟨2026, 3, 2⟩, 1⟩ ⟨⟨2026, 3, 2⟩, 2⟩ none [] [⟨100000000, some 1⟩] 1) = false := by
  decide

/-- A tally with a count past its digits, a slot past 7, or slots out of order. -/
theorem test_wf_tally : wellFormed (.countManual 1 1 ⟨[(0, ⟨1000000, 0, 0, 0⟩)], 0⟩ 3) = false ∧
    wellFormed (.countManual 1 1 ⟨[(8, ⟨1, 0, 0, 0⟩)], 0⟩ 3) = false ∧
    wellFormed (.countManual 1 1 ⟨[(1, ⟨1, 0, 0, 0⟩), (0, ⟨1, 0, 0, 0⟩)], 0⟩ 3) = false ∧
    wellFormed (.countManual 1 1 ⟨[], 1000000⟩ 3) = false ∧ wellFormed (.closeBatch 1 0 (some [(9, 1)]) 3) = false := by decide

/-- A condition whose source number, declarer or test its fields do not hold. -/
theorem test_wf_condition :
    wellFormed (.setWatch 1 0 true 1 (some ⟨some .bag, none, some 10000, none, none, ⟨true, false, false, false, false⟩, .any⟩)
      none false (some .notice)) = false ∧
    wellFormed (.setWatch 1 0 true 1 (some ⟨some .bag, none, none, some 1000000, none, ⟨true, false, false, false, false⟩, .any⟩)
      none false (some .notice)) = false ∧
    wellFormed (.setWatch 1 0 true 1 none (some ⟨some .bag, none, none, none, none, ⟨true, false, false, false, false⟩,
      .inside (some 0) (some 1000000000000)⟩) false (some .notice)) = false := by decide

/-- A door, a policy timing, a lane, a drop safe and a tag that do not exist or do not fit. -/
theorem test_wf_units : wellFormed (.requestDoor 1 (.drop 100) [3]) = false ∧ wellFormed (.door (.drop 7) true) = false ∧
    wellFormed (.door .other true) = false ∧ wellFormed (.door (.drop 6) true) = true ∧
    wellFormed (.setDoorPolicy 1 ⟨some 1000000, none, none, none, none, none, none⟩ 1) = false ∧
    wellFormed (.jam 4) = false ∧ wellFormed (.drop 0 none) = false ∧ wellFormed (.drop 1 (some 0)) = false ∧
    wellFormed (.hatchScan (some 100000000)) = false ∧ wellFormed (.hatchScan none) = true := by decide

/-- No row of the table has bits, so no word spells a command. -/
theorem test_no_word_is_a_command : decodeTableWord 8 0 = none ∧ decodeTableWord 32 12345 = none := by decide

/-! ## Hypotheses met: the queue, the starts and the rules every step keeps -/

theorem test_empty_queue : office.pending = [] := by decide

/-- A lane running and a door in its delay, with LOCKDOWN at the front of the queue: every rule's premises. -/
def busy : State :=
  { putLane 2 (laneOf .running (some (batchOf 3 97 0)) 3 0 HoldSet.empty) (withStrongroom .delay (some 20) office) with
    pending := [.lockdown 9], acu.journal := [⟨1, none, .dayOpen, none, none, 101500, 101500⟩], acu.nextSeq := 2 }

theorem test_rules_premises : freezeRule busy = true ∧ lockdownRule busy = true ∧ doorRule busy = true ∧ chuteRule busy = true ∧
    alarmRule busy = true ∧ journalRule busy = true ∧ ledgerRule busy = true ∧ boundsRule busy = true ∧
    tablesRule busy = true ∧ answersNext (step busy) = true := by decide +kernel

/-- R159: a door in each of its states, and a RELEASED door with its lock ENGAGED, a SECURE one with its lock RELEASED and a
strongroom in CONFIRM with no names, which no step leaves. -/
theorem test_door_rule :
    (doorHeld .strongroom ⟨.secure, none, none, false, false, false, 0⟩ = true ∧
      doorHeld .strongroom ⟨.confirm, some (1, 3), some 0, false, false, false, 0⟩ = true ∧
      doorHeld (.drop 6) ⟨.released, none, some 60, true, false, false, 0⟩ = true ∧
      doorHeld (.drop 6) ⟨.opened, none, none, true, true, true, 900⟩ = true) ∧
    (doorHeld (.drop 6) ⟨.released, none, some 60, false, false, false, 0⟩ = false ∧
      doorHeld (.drop 6) ⟨.secure, none, none, true, false, false, 0⟩ = false ∧
      doorHeld .strongroom ⟨.confirm, none, some 0, false, false, false, 0⟩ = false) := by decide

/-- The value of `n` notes of slot 0, counted. -/
def notesOf (n : Nat) : Tally := ⟨[(0, ⟨n, 0, 0, 0⟩)], 0⟩

/-- A bag of each kind that the books rest on: 1 in a lane's batch and 2 in a MANUAL entry, COUNTING; 3 the float of till 7;
4 CONFIRMED by its tally; 5 a deposit on a manifest; 6 dropped undeclared; 7 retired. -/
def working : State :=
  { withLane 2 (laneOf .running (some (batchOf 3 97 0)) 3 0 HoldSet.empty) with
    acu.accountability := 101500 + 5000 + 2500 + 16000 + 2000 + 50000, acu.reserved := 3
    bgr.bags := [(1, some { bagOf 101 .takings (.till 8 1) 5000 with state := .counting, custody := .lane 2 }),
      (2, some { bagOf 201 .skim (.till 8 1) 2500 with state := .counting }), (3, some (bagOf 99 .float (.till 7 1) 16000)),
      (4, some { bagOf 202 .skim .unknown 2000 with state := .confirmed, tally := some (notesOf 4) }),
      (5, some (bagOf 300 .deposit .office 50000)),
      (6, some { bagOf 222 .skim .unknown 0 with custody := .drop 2, flags := ⟨false, false, false, true⟩ }),
      (7, some { bagOf 102 .takings (.till 7 1) 700 with state := .emptied })]
    bgr.retired := [7]
    tau.tills := [(7, { Till.initial with
      state := .floatReady, before := some .idle, floatBag := some 3, floatLines := [⟨0, 30⟩, ⟨6, 10⟩] })]
    tau.templates := [(2, [⟨0, 30⟩, ⟨6, 10⟩])]
    rcu.queue := [.manual 2 (notesOf 5)], rcu.engine := some ⟨notesOf 5, some 2500⟩
    hoc.manifests := [(0, some (visitOf .planned [⟨5, some 300, false⟩] [] none))]
    pending := [.mergeBag 1 4 3] }

/-- The books of a small day's work hold, and a merge of the CONFIRMED bag, the front of the queue, keeps them. -/
theorem test_books_premises : booksRule working = true ∧ tablesRule working = true ∧ journalRule working = true ∧
    answersNext (step working) = true ∧ lastStatus (after (.mergeBag 1 4 3) working) = some .ok ∧
    booksRule (after (.mergeBag 1 4 3) working) = true ∧
    (after (.mergeBag 1 4 3) working).stockValue = 103500 := by decide +kernel

/-! ## Hypotheses met: Amounts -/

theorem test_magnitudes : addMagnitudes 999999999998 1 = some 999999999999 ∧ addMagnitudes 999999999999 1 = none ∧
    (1 ≤ 999999999999 ∧ subMagnitudes 1000 1 = 999) ∧ amountInRange (-999999999999) = true ∧
    addAmount 999999999999 (-999999999999) = some 0 ∧ addAmount (-999999999999) (-1) = none := by decide

theorem test_valuation : 999999 ≤ 999999 ∧ valueTally ⟨[(0, ⟨180, 20, 1, 0⟩), (6, ⟨0, 0, 0, 50⟩)], 3⟩ office = some 105000 := by
  decide

/-- The office with faces of 9,999.99, at which a sum passes the range of an Amount. -/
def dear : State := { office with acu.denoms := [(0, .note 999999 100), (6, .coin 999999)] }

/-- A NOTE slot with 999,999 notes, with one more, and a sum past the range. -/
theorem test_valuation_range : valueTally ⟨[(0, ⟨999998, 1, 0, 0⟩)], 0⟩ dear = some 999998000001 ∧
    valueTally ⟨[(0, ⟨999999, 1, 0, 0⟩)], 0⟩ dear = none ∧ (999999999999 : Int) < 999998000001 + 999998000001 ∧
    valueTally ⟨[(0, ⟨999999, 0, 0, 0⟩), (6, ⟨0, 0, 0, 999999⟩)], 0⟩ dear = none := by decide +kernel

theorem test_classification : (0 : Int) ≤ 0 ∧ (0 : Int) ≤ 1000 ∧ classify 0 0 = .exact ∧ classify 1000 1000 = .within ∧
    classify 1001 1000 = .over ∧ classify (-1001) 1000 = .short ∧ classify 1 0 = .over ∧ bandOf 1000 5 (-300000) = 1500 ∧
    bandOf 1000 5 200000 = 1000 ∧ subAmount 999999999999 (-1) = none ∧ subAmount 5 7 = some (-2) := by decide

/-- The strap counter at its last note and at its load. -/
theorem test_strap_law_premises :
    (10 ≤ 100 ∧ 1 ≤ Table.get 0 (batchOf 99 1 0).straps 0 ∧ Table.get 0 (batchOf 99 1 0).straps 0 ≤ 100 ∧
      Table.get 0 (batchOf 99 1 0).full 0 * 100 + (100 - Table.get 0 (batchOf 99 1 0).straps 0) =
        (tallySlot (batchOf 99 1 0).tally 0).fit) ∧
    (1 ≤ Table.get 0 (batchOf 100 100 1).straps 0 ∧ Table.get 0 (batchOf 100 100 1).straps 0 ≤ 100 ∧
      Table.get 0 (batchOf 100 100 1).full 0 * 100 + (100 - Table.get 0 (batchOf 100 100 1).straps 0) =
        (tallySlot (batchOf 100 100 1).tally 0).fit) := by decide

theorem test_identical : identicalTallies ⟨[(0, ⟨1, 2, 3, 0⟩)], 0⟩ ⟨[(0, ⟨1, 2, 3, 0⟩)], 9⟩ = true ∧
    identicalTallies ⟨[(7, ⟨1, 2, 3, 0⟩)], 0⟩ ⟨[(7, ⟨1, 2, 4, 0⟩)], 0⟩ = false := by decide

/-! ## Hypotheses met: the bag table -/

theorem test_tag_check : office.rangeOf 600 = none ∧ office.rangeOf 500 = some ⟨true, 500, 599, .void⟩ ∧
    office.rangeOf 99 = some ⟨true, 1, 99, .float⟩ ∧ tablesRule office = true ∧ office.tagInUse 99 = false ∧
    (withBags 3 office).tagInUse 203 = true ∧ tagCheck 600 .float office = .unlisted ∧ tagCheck 500 .float office = .void ∧
    tagCheck 100 .float office = .wrongPurpose ∧ tagCheck 203 .skim (withBags 3 office) = .duplicate ∧
    tagCheck 99 .float office = .ok := by decide

/-- A full bag table, with the retired list given. -/
def fullTable (retired : List Nat) : State := withBags 1024 { office with bgr.retired := retired }

theorem test_allocation_free : office.lowestFree = some 1 ∧ (withBags 4 office).lowestFree = some 5 := by decide +kernel

/-- A table that lists every key from `a` on reads as listed. -/
theorem get_of_listed {α : Type} (d : α) (f : Nat → α) (n : Nat) : ∀ a r, a ≤ r → r < a + n →
    Table.get d ((List.range' a n).map (fun k => (k, f k))) r = f r := by
  induction n with
  | zero => intro a r h1 h2; omega
  | succ n ih =>
    intro a r h1 h2
    rw [List.range'_succ, List.map_cons, Table.get]
    by_cases h : a = r
    · rw [if_pos h, h]
    · rw [if_neg h]; exact ih (a + 1) r (by omega) (by omega)

/-- With no slot free, the lowest-numbered free slot is none. -/
theorem test_allocation_full (retired : List Nat) : (fullTable retired).lowestFree = none := by
  unfold State.lowestFree
  rw [List.find?_eq_none]
  intro r h
  simp only [bagNumbers, List.mem_range'_1] at h
  have e : (fullTable retired).bag r = some (bagOf (200 + r) .skim .unknown 0) :=
    get_of_listed none (fun k => some (bagOf (200 + k) .skim .unknown 0)) 1024 1 r h.1 h.2
  simp [e]

theorem test_allocation_retired : (fullTable [7, 5]).bgr.retired = [7, 5] ∧ (fullTable []).bgr.retired = [] ∧
    (fullTable []).operating = true := ⟨rfl, rfl, rfl⟩

/-! ## Hypotheses met: the Host Port -/

/-- The office with four requests in the input buffer. -/
def fullBuffer : State := { office with hpt.buffer := [.status 1, .status 2, .status 3, .status 4] }

theorem test_refused_premises : takes (.start 9 0 5) office = true ∧ ∃ r, startLane 0 5 (takeFrom office) = .error r :=
  ⟨by decide, _, rfl⟩

theorem test_waiting_premises : takes (.status 2) fullBuffer = false ∧ takes (.status 1) fullBuffer = true ∧
    takes (.status 1) { office with hpt.restartPending := true } = false ∧
    takes (.status 1) { office with sys.resetAsserted := true } = false := by decide

/-- The office after a RESTART answered OK. -/
def restarting : State := { office with hpt.restartPending := true }

theorem test_restarting_premises : restarting.operating = true ∧
    (takes (.status 9) { restarting with hpt.buffer := fullBuffer.hpt.buffer } = false ∧ ¬ fullBuffer.hpt.buffer.length < 4 ∧
      (after (.status 9) { restarting with hpt.buffer := fullBuffer.hpt.buffer }).hpt.replies = []) ∧
    (after .frameTimeout { restarting with hpt.rx := some ⟨[1], 2⟩ }).hpt = restarting.hpt ∧
    (after .messageSend { restarting with hpt.notices := [⟨.start, []⟩] }).hpt.sent = office.hpt.sent := by decide +kernel

/-- A credential that is absent, and one that is there with a class outside the role's set. -/
theorem test_absent_premises : takes (.openOffice 1 4) office = true ∧ office.presenceOf .office 4 = none ∧
    officeRole (.openOffice 1 4) = some ⟨1, .openOffice, 4, custodianClass⟩ ∧
    lastFields (after (.openOffice 1 4) office) = [fNum 1 1, fNamed 1] ∧
    (takes (.openOffice 1 5) office = true ∧ office.presenceOf .office 5 = some ⟨5, .cashier, 30⟩ ∧
      CredClass.cashier ∉ custodianClass ∧ lastFields (after (.openOffice 1 5) office) = [fNum 1 1, fNamed 2]) ∧
    (office.acu.clock ≠ none ∧ lastFields (after (.setClock 1 ⟨2026, 3, 2⟩ 0 (some 4)) office) = [fNum 1 1, fNamed 1] ∧
      lastFields (after (.setClock 1 ⟨2026, 3, 2⟩ 0 (some 3)) office) = [fNum 1 1, fNamed 2]) ∧
    (office.activeSupervisor = true ∧ lastFields (after (.enrol 1 8 (some .supervisor) 4) office) = [fNum 1 1, fNamed 1] ∧
      lastFields (after (.enrol 1 8 (some .cashier) 3) office) = [fNum 1 1, fNamed 2]) ∧
    (office.csc.latch = false ∧ (office.safe 6).door.state = .secure ∧
      lastFields (after (.requestDoor 1 (.drop 6) [4]) office) = [fNum 1 1, fNamed 1] ∧
      lastFields (after (.requestDoor 1 (.drop 6) [5]) office) = [fNum 1 1, fNamed 2]) := by decide +kernel

theorem test_host_requests : takes (.setNotices 1 false NoticeEnables.all) office = true ∧ takes (.status 1) office = true ∧
    takes (.restart 1 2) office = true ∧ office.presentAs .office 2 [.supervisor] = true ∧
    lastStatus (after (.restart 1 2) office) = some .ok := by decide

theorem test_queries : takes (.queryStock 1) office = true ∧ (takes (.queryLane 1 3 none) office = true ∧ 3 ≤ 3 ∧
      lastStatus (after (.queryLane 1 3 none) office) = some .ok) ∧
    (takes (.queryBag 1 2 none none) (withBags 2 office) = true ∧ (withBags 2 office).bag 2 = some (bagOf 202 .skim .unknown 0) ∧
      lastStatus (after (.queryBag 1 2 none none) (withBags 2 office)) = some .ok) ∧
    (takes (.queryBag 1 0 (some 202) none) (withBags 2 office) = true ∧
      (withBags 2 office).refsWhere (fun b => decide (b.tagNo = some 202)) = [2] ∧
      lastStatus (after (.queryBag 1 0 (some 202) none) (withBags 2 office)) = some .ok) ∧
    (takes (.queryWatch 1 none none) office = true ∧ takes (.queryWatch 1 (some 7) none) office = true ∧
      lastStatus (after (.queryWatch 1 (some 7) none) office) = some .ok) ∧
    (takes (.queryManifest 1 none none) office = true ∧ takes (.queryManifest 1 (some 3) none) office = true ∧
      lastStatus (after (.queryManifest 1 none none) office) = some .ok) := by decide +kernel

/-- A frame that spells TAKE_JOURNAL of 8 entries with tag 7. -/
theorem test_good_frame_premises : office.operating = true ∧ office.hpt.rx = none ∧ office.hpt.buffer.length < 4 ∧
    parseBody 7 .takeJournal [8] = some (.takeJournal 7 8) ∧
    (after (.frameReceived (frameBytes 7 ReqKind.takeJournal.code [8])) office).hpt.buffer = [.takeJournal 7 8] := by
  decide +kernel

theorem test_bad_frame_premises : office.hpt.rx = none ∧ leadByte ≠ 0 ∧ 240 < (241 : Byte).toNat ∧
    [0, 0] ≠ checkBytes [1, 7, 11, 8] ∧ (0 : Byte) = 0#8 ∧ parseBody 7 .takeJournal [] = none ∧ 57 < 58 ∧
    ({ office with hpt.rx := some ⟨[1], 2⟩ }).hpt.rx = some ⟨[1], 2⟩ ∧
    lastStatus (after (.frameReceived (frameBytes 7 58 [])) office) = some .badKind ∧
    lastStatus (after (.frameReceived (frameBytes 7 ReqKind.takeJournal.code [])) office) = some .badField ∧
    lastStatus (after .frameTimeout { office with hpt.rx := some ⟨[1], 2⟩ }) = some .badFrame := by decide +kernel

theorem test_messages_premises : (State.reset.hpt.replies = [] ∧ State.reset.hpt.notices = [] ∧ State.reset.hpt.sent.length = 1) ∧
    ({ office with hpt.replies := [⟨1, 1, .ok, []⟩] } : State).hpt.replies = [⟨1, 1, .ok, []⟩] ∧
    ({ office with hpt.notices := [] } : State).hpt.notices = [] ∧ office.hpt.globalEnable = true ∧
    classEnabled office.hpt.classEnables .chuteLocked = true ∧
    32 ≤ ({ office with hpt.notices := List.replicate 32 ⟨.start, []⟩ } : State).hpt.notices.length ∧
    ({ office with hpt.globalEnable := false } : State).hpt.globalEnable = false := by decide

/-! ## Hypotheses met: settings and the Accounts Unit -/

theorem test_clock_and_band : (takes (.setClock 1 ⟨2099, 12, 31⟩ 86399 none) State.reset = true ∧
      validClock ⟨⟨2099, 12, 31⟩, 86399⟩ = true ∧ State.reset.acu.clock = none) ∧
    (takes (.setClock 1 ⟨2028, 2, 29⟩ 0 (some 1)) office = true ∧ validClock ⟨⟨2028, 2, 29⟩, 0⟩ = true ∧
      office.presentAs .office 1 [.supervisor] = true) ∧
    (takes (.setBand 1 (some (-5)) 999999 1) office = true ∧ office.csc.freeze = false ∧ amountInRange (-5) = true ∧
      (after (.setBand 1 (some (-5)) 999999 1) office).acu.bandRate = 50 ∧
      (after (.setBand 1 (some (-5)) 999999 1) office).acu.bandFloor = 0) := by decide

/-- The office before its first business day. -/
def beforeDay : State :=
  { office with
    acu.day := .noDay, acu.businessDate := none, acu.stock := [], acu.accountability := 0 }

theorem test_set_denominations :
    takes (.setDenominations 1 [⟨7, .note, 999999, 9⟩, ⟨1, .unused, 0, 0⟩] 1) beforeDay = true ∧
    beforeDay.presentAs .office 1 [.supervisor] = true ∧ beforeDay.acu.day ≠ .dayOpen ∧ beforeDay.csc.freeze = false ∧
    beforeDay.countsPending = false ∧ (∀ e ∈ [(⟨7, .note, 999999, 9⟩ : DenomEntry), ⟨1, .unused, 0, 0⟩],
      denomEntryOk e = true ∧ rewriteOk beforeDay e = true) ∧
    lastStatus (after (.setDenominations 1 [⟨7, .note, 999999, 9⟩, ⟨1, .unused, 0, 0⟩] 1) beforeDay) = some .ok := by decide

/-- A leap day, the end of a year and the last second of 2099. -/
theorem test_clock_ticks : nextSecond ⟨⟨2028, 2, 28⟩, 86399⟩ = ⟨⟨2028, 2, 29⟩, 0⟩ ∧
    nextSecond ⟨⟨2026, 12, 31⟩, 86399⟩ = ⟨⟨2027, 1, 1⟩, 0⟩ ∧
    nextSecond ⟨⟨2099, 12, 31⟩, 86399⟩ = ⟨⟨2099, 12, 31⟩, 86399⟩ ∧ validClock ⟨⟨2099, 12, 31⟩, 86399⟩ = true ∧
    validClock ⟨⟨2026, 3, 2⟩, 0⟩ = true ∧ ({ office with sys.powered := false } : State).operating = false ∧
    office.operating = true ∧ (closed true).csc.holdRunning = true ∧ (after .clockTick (closed true)).csc.holdTimer = 899 := by
  decide +kernel

theorem test_open_day : takes (.openDay 1 ⟨2026, 3, 2⟩ [⟨0, some 200, some 5, some 0, none⟩] 1) beforeDay = true ∧
    beforeDay.presentAs .office 1 [.supervisor] = true ∧ beforeDay.acu.clock.isSome = true ∧ beforeDay.acu.day ≠ .dayOpen ∧
    openDayFieldsOk ⟨2026, 3, 2⟩ [⟨0, some 200, some 5, some 0, none⟩] beforeDay = true ∧
    amountInRange (openingValue [⟨0, some 200, some 5, some 0, none⟩] beforeDay) = true ∧ 9 ≤ beforeDay.journalFree ∧
    stockCheck (openingMovement [⟨0, some 200, some 5, some 0, none⟩] beforeDay) beforeDay = none ∧
    lastStatus (after (.openDay 1 ⟨2026, 3, 2⟩ [⟨0, some 200, some 5, some 0, none⟩] 1)
      { beforeDay with acu.accountability := 999999999999 }) = some .amountRange ∧
    (after (.openDay 1 ⟨2026, 3, 2⟩ [⟨0, some 200, some 5, some 0, none⟩] 1) beforeDay).acu.accountability = 102500 := by
  decide +kernel

/-- The office with 4 suspect notes of slot 0, a till RECONCILED and a bag EMPTIED. -/
def evening : State :=
  putBag 1 { bagOf 101 .takings (.till 7 1) 500 with state := .emptied }
    (putTill 7 { Till.initial with state := .reconciled, session := 3 }
      { office with acu.suspects := [(0, 4)], bgr.retired := [1] })

theorem test_close_day : takes (.closeDay 1 [⟨0, 4⟩] 1) evening = true ∧ evening.presentAs .office 1 [.supervisor] = true ∧
    evening.acu.day = .dayOpen ∧ handOutsOk [⟨0, 4⟩] evening = true ∧ (∀ n ∈ laneNumbers, (evening.lane n).batch = none) ∧
    evening.inHandover = none ∧ evening.liveAt .bench = false ∧ 9 ≤ evening.journalFree ∧
    (after (.closeDay 1 [⟨0, 4⟩] 1) evening).till 7 = { evening.till 7 with state := .idle, session := 1 } ∧ 129 ∉ tillNumbers ∧
    ((after (.closeDay 1 [⟨0, 4⟩] 1) evening).bag 1).isNone = true := by decide +kernel

/-- The office with all four lanes IDLE. -/
def lanesIdle : State :=
  [0, 1, 2, 3].foldl (fun s n => putLane n { Lane.initial with state := .idle } s) office

theorem test_office_mode : (closed false).presentAs .office 3 custodianClass = true ∧
    (takes (.openOffice 1 3) (closed false) = true ∧ (closed false).acu.mode = .afterHours ∧ (closed false).csc.latch = false) ∧
    (takes (.closeOffice 1 3) lanesIdle = true ∧ lanesIdle.acu.mode = .opened ∧
      (∀ n ∈ laneNumbers, (lanesIdle.lane n).state = .idle) ∧ lanesIdle.inHandover = none ∧
      lanesIdle.liveAt .bench = false ∧ (∀ d ∈ allDoors, (lanesIdle.door d).state = .secure)) := by decide +kernel

theorem test_take_journal : takes (.takeJournal 1 1) busy = true ∧ takes (.takeJournal 1 8) office = true ∧
    (after (.takeJournal 1 1) busy).acu.journal = [] ∧ lastStatus (after (.takeJournal 1 9) office) = some .badField ∧
    lastStatus (after (.takeJournal 1 0) office) = some .badField := by decide +kernel

/-- A movement of no entry, one, two and three, with each charge and origin, and with stock and suspects. -/
theorem test_movement_premises :
    ((applyMovement ⟨.host, [⟨0, 100, -20, 0, 0⟩], none, [(0, 4)],
      [⟨.variance, some 1, none, 5, 5⟩, ⟨.variance, some 1, none, 5, -7⟩, ⟨.bagToStock, some 1, none, 5, 0⟩]⟩
      office).acu.journal.map JournalEntry.accountability) = [101505, 101498, 101498] ∧
    (applyMovement ⟨.host, [⟨0, 100, -20, 0, 0⟩], none, [(0, 4)], []⟩ office).slotStock 0 = ⟨200, 0, 3, 0⟩ ∧
    (applyMovement ⟨.reserved, [], none, [], []⟩ { office with acu.reserved := 3 }).acu.reserved = 0 ∧
    (applyMovement ⟨.field, [], some (.till 7, 5), [], [⟨.bagIn, some 1, some 7, 5, 5⟩]⟩ office).acu.accountability = 101505 ∧
    ((applyMovement ⟨.field, [], some (.courier, 5), [], [⟨.variance, some 1, none, 5, 5⟩, ⟨.bagToStock, some 1, none, 5, 0⟩]⟩
      office).acu.journal.map JournalEntry.seq) = [1, 2] ∧
    (applyMovement ⟨.field, [], some (.unattributed, -5), [], []⟩ office).acu.unattributed.amount = -5 := by decide +kernel

/-! ## Hypotheses met: credentials and readers -/

theorem test_credential_requests :
    (takes (.enrol 1 8 (some .auditor) 1) office = true ∧ office.credential 8 = none ∧ office.credentialCount < 96 ∧
      office.presentAs .office 1 [.supervisor] = true) ∧
    (takes (.enrol 1 999999 (some .supervisor) 0) State.reset = true ∧ State.reset.credential 999999 = none ∧
      State.reset.activeSupervisor = false) ∧
    (takes (.revoke 1 5 1) office = true ∧ office.credential 5 = some ⟨.cashier, false, 2⟩) ∧
    (takes (.reinstate 1 7 1) office = true ∧ office.credential 7 = some ⟨.cashier, true, 3⟩) ∧
    (takes (.setPresenceLifetime 1 65535 1) office = true ∧
      (after (.setPresenceLifetime 1 65535 1) office).cru.lifetime = 300) := by decide

/-- The first and the third failed PIN, a suspended credential and an unknown one. -/
theorem test_badge_premises : office.operating = true ∧ office.credential 0 = none ∧
    office.credential 7 = some ⟨.cashier, true, 3⟩ ∧ (office.credential 4 = some ⟨.auditor, false, 1⟩ ∧ 1 + 1 < 3) ∧
    (office.credential 5 = some ⟨.cashier, false, 2⟩ ∧ 3 ≤ 2 + 1) ∧
    (after (.badge .hatch 5 .fail) office).credential 5 = some ⟨.cashier, true, 3⟩ ∧
    (after (.badge .hatch 5 .fail) office).presenceOf .office 5 = none := by decide

/-- A presentation to an empty list, to a full one and of a credential that is in it, and one under duress. -/
theorem test_presentation_premises : office.credential 4 = some ⟨.auditor, false, 1⟩ ∧
    (office.presence .hatch).length < 4 ∧ (after (.badge .hatch 4 .duress) office).ubc.alarm = true ∧
    (after (.badge .office 4 .duress) office).hpt.notices = [⟨.duress, [fNamed 1, fNum 3 4, fNamed (codeIn CredClass.list .auditor)]⟩] ∧
    (after (.badge .office 3 .ok) office).presence .office =
      [⟨1, .supervisor, 60⟩, ⟨2, .supervisor, 50⟩, ⟨5, .cashier, 30⟩, ⟨3, .custodian, 60⟩] ∧
    4 ≤ (office.presence .office).length ∧ (∀ e ∈ office.presence .office, e.number ≠ 4) ∧
    (after (.badge .office 4 .ok) office).presence .office =
      [⟨2, .supervisor, 50⟩, ⟨3, .custodian, 0⟩, ⟨5, .cashier, 30⟩, ⟨4, .auditor, 60⟩] := by decide +kernel

theorem test_presence_expiry : office.operating = true ∧
    (after (.presenceExpiry .office 3) office).presenceOf .office 3 = none ∧
    (after (.presenceExpiry .office 1) office).presence .office = office.presence .office := by decide

/-! ## Hypotheses met: bags, tills, floats, takings and postings -/

/-- The office with its strongroom door OPEN and bag 1 at the BENCH. -/
def strongroomOpen : State := withBags 1 (withStrongroom .opened (some 900) office)

theorem test_tag_ranges_and_moves :
    (takes (.setTagRange 1 7 true (some 600) (some 99999999) (some .skim) 1) office = true ∧
      (∀ j ∈ slotNumbers, j ≠ 7 → (office.tagRange j).enabled = true →
        99999999 < (office.tagRange j).first ∨ (office.tagRange j).last < 600)) ∧
    (takes (.setTagRange 1 0 false none none none 1) office = true ∧ office.csc.freeze = false) ∧
    (takes (.moveBag 1 1 (some .strongroom) 3) strongroomOpen = true ∧
      strongroomOpen.presentAs .office 3 custodianClass = true ∧
      strongroomOpen.bag 1 = some (bagOf 201 .skim .unknown 0) ∧ strongroomOpen.csc.strongroom.state = .opened ∧
      ((after (.moveBag 1 1 (some .strongroom) 3) strongroomOpen).bag 1).map Bag.custody = some .strongroom) := by decide +kernel

/-- The office with till 7 ISSUED, holding 1500.01 of cash. -/
def tillOver : State := putTill 7 { issuedTill with hold := true, sales := 140001, expected := 150001 } office

theorem test_till_settings : office.presentAs .office 1 [.supervisor] = true ∧
    (takes (.setTemplate 1 7 [⟨0, 30⟩, ⟨6, 1⟩] 1) office = true ∧
      (∀ x ∈ [(⟨0, 30⟩ : SlotLine), ⟨6, 1⟩], office.denom x.slot ≠ .unused)) ∧
    (amountInRange (linesValue [⟨0, 999999⟩] dear) = true ∧ amountInRange (linesValue [⟨0, 999999⟩, ⟨6, 999999⟩] dear) = false ∧
      takes (.setTemplate 1 7 [⟨0, 999999⟩, ⟨6, 999999⟩] 1) dear = true) ∧
    (takes (.setTill 1 128 (some 0) 1) office = true ∧ (office.till 128).state ≠ .issued) ∧
    (takes (.setTill 1 7 (some 150000) 1) tillOver = true ∧ (tillOver.till 7).state = .issued ∧
      ({ tillOver.till 7 with limit := 150000 } : Till).isOver = true ∧ 7 ∉ tillOver.tau.skimQueue ∧
      (after (.setTill 1 7 (some 150000) 1) tillOver).tau.skimQueue = [7]) ∧
    ({ tillOver.till 7 with limit := 150001 } : Till).isOver = false ∧
    (takes (.releaseTill 1 7 1) tillOver = true ∧ (tillOver.till 7).hold = true) := by decide +kernel

/-- The office with till 7 ISSUED at the head of a skim queue of three, and tills 8 and 9 over their limits: 8 waits. -/
def skimming : State :=
  putTill 8 { issuedTill with overLimit := true } (putTill 9 { issuedTill with overLimit := true }
    { tillOver with tau.skimQueue := [7, 9, 20] })

/-- A till that leaves the skim queue from its head, and lets the lowest-numbered waiting till in; one that leaves with none
waiting; one that joins as the fourth, with SKIM_ALERT; and one that finds the queue full. -/
theorem test_skim_queue :
    (({ skimming.till 7 with limit := 150001 } : Till).isOver = false ∧ 7 ∈ skimming.tau.skimQueue ∧
      skimming.tau.skimQueue.length ≤ 16 ∧ 8 ∈ tillNumbers ∧ (skimming.till 8).overLimit = true ∧
      8 ∉ skimming.tau.skimQueue ∧
      (∀ k ∈ tillNumbers, k < 8 → k ≠ 7 → (skimming.till k).overLimit = true → k ∈ skimming.tau.skimQueue) ∧
      (after (.setTill 1 7 (some 150001) 1) skimming).tau.skimQueue = [9, 20, 8] ∧
      (after (.receiveTakings 1 7 101 (some 5) 5 3) skimming).tau.skimQueue = [9, 20, 8]) ∧
    ((∀ m ∈ tillNumbers, m ≠ 7 → (({ skimming with tau.skimQueue := [8, 7, 9] } : State).till m).overLimit = true →
        m ∈ [8, 7, 9]) ∧
      (after (.setTill 1 7 (some 150001) 1) { skimming with tau.skimQueue := [8, 7, 9] }).tau.skimQueue = [8, 9]) ∧
    ((after (.setTill 1 7 (some 150000) 1) { skimming with tau.skimQueue := [8, 9, 20] }).hpt.notices =
        [⟨.skimAlert, [fTill (some 7), fNum 1 4, fNum 1 4]⟩] ∧
      (after (.setTill 1 7 (some 150000) 1) { skimming with tau.skimQueue := List.range' 20 16 }).tau.skimQueue =
        List.range' 20 16) := by decide +kernel

/-- The office with a template of 30 notes of slot 0 and 10 coins of slot 6, and loose and strapped notes to break. -/
def withTemplate : State := { office with tau.templates := [(2, [⟨0, 30⟩, ⟨6, 10⟩])] }

theorem test_make_float : takes (.makeFloat 1 7 2 99 3) withTemplate = true ∧
    withTemplate.presentAs .office 3 custodianClass = true ∧ withTemplate.template 2 ≠ [] ∧
    withTemplate.acu.day = .dayOpen ∧ (withTemplate.till 7).state = .idle ∧ (withTemplate.till 7).hold = false ∧
    (∀ l ∈ withTemplate.template 2, withTemplate.denom l.slot ≠ .unused) ∧ tagCheck 99 .float withTemplate = .ok ∧
    9 ≤ withTemplate.journalFree ∧ 8 < withTemplate.available ∧
    (allocate (takeFrom withTemplate)).map Prod.fst = some 1 ∧
    takeLine ⟨0, 30⟩ withTemplate = some (⟨0, -100, 70, 0, 0⟩, 1) ∧
    takeLine ⟨6, 10⟩ withTemplate = some (⟨6, 0, 0, 0, -10⟩, 0) ∧ takeLine ⟨0, 20⟩ withTemplate = some (⟨0, 0, -20, 0, 0⟩, 0) ∧
    (after (.makeFloat 1 7 2 99 3) withTemplate).slotStock 0 = ⟨0, 90, 3, 0⟩ := by decide +kernel

theorem test_make_float_lines : ∃ l, takeLines (withTemplate.template 2) withTemplate = .ok l := ⟨_, rfl⟩

/-- The office with the float of 30 notes and 10 coins made up for till 7 in bag 1. -/
def floatReady : State :=
  putBag 1 (bagOf 99 .float (.till 7 1) 16000)
    (putTill 7 { Till.initial with
        state := .floatReady, before := some .idle, floatBag := some 1, floatLines := [⟨0, 30⟩, ⟨6, 10⟩] } office)

theorem test_unmake_float : takes (.unmakeFloat 1 7 3) floatReady = true ∧ (floatReady.till 7).state = .floatReady ∧
    (floatReady.till 7).floatBag = some 1 ∧ floatReady.bag 1 = some (bagOf 99 .float (.till 7 1) 16000) ∧
    9 ≤ floatReady.journalFree ∧
    stockCheck ⟨.host, (floatReady.till 7).floatLines.map (giveLine floatReady), none, [],
      [⟨.unmake, some 1, some 7, 16000, 0⟩]⟩ floatReady = none ∧
    lastStatus (after (.unmakeFloat 1 7 3) floatReady) = some .ok ∧
    (after (.unmakeFloat 1 7 3) floatReady).slotStock 0 = ⟨100, 50, 3, 0⟩ := by decide +kernel

theorem test_issue_float : takes (.issueFloat 1 7 5 3) floatReady = true ∧
    floatReady.presentAs .office 5 [.cashier] = true ∧ floatReady.presentAs .office 3 custodianClass = true ∧
    (floatReady.till 7).hold = false ∧ ((floatReady.bag 1).map Bag.custody) = some .bench ∧
    (after (.issueFloat 1 7 5 3) floatReady).acu.accountability = 85500 := by decide +kernel

/-- ISSUE_FLOAT over the cash limit: till 7 joins a queue of three as its fourth, with SKIM_ALERT, waits when the queue is full,
and at its limit leaves the place it holds to waiting till 8. -/
theorem test_issue_float_skim :
    (((floatReady.till 7).issue 5 16000).isOver = false ∧ (after (.issueFloat 1 7 5 3) floatReady).tau.skimQueue = []) ∧
    (({ floatReady.till 7 with limit := 15999 } : Till).issue 5 16000).isOver = true ∧
    (let s := putTill 7 { floatReady.till 7 with limit := 15999 } { floatReady with tau.skimQueue := [1, 2, 3] }
     (after (.issueFloat 1 7 5 3) s).tau.skimQueue = [1, 2, 3, 7] ∧
       (after (.issueFloat 1 7 5 3) s).hpt.notices = skimAlerts [1, 2, 3] [1, 2, 3, 7] ∧
       skimAlerts [1, 2, 3] [1, 2, 3, 7] = [⟨.skimAlert, [fTill (some 7), fNum 1 4, fNum 1 4]⟩]) ∧
    (let s := putTill 7 { floatReady.till 7 with limit := 15999 } { floatReady with tau.skimQueue := List.range' 20 16 }
     (after (.issueFloat 1 7 5 3) s).tau.skimQueue = List.range' 20 16 ∧ (after (.issueFloat 1 7 5 3) s).hpt.notices = []) ∧
    (let s := putTill 7 { floatReady.till 7 with limit := 16000 }
       (putTill 8 { issuedTill with overLimit := true } { floatReady with tau.skimQueue := [7, 20] })
     (after (.issueFloat 1 7 5 3) s).tau.skimQueue = [20, 8]) := by decide +kernel

/-- The office with till 7 ISSUED. -/
def tillOut : State := putTill 7 issuedTill office

theorem test_receive_takings : takes (.receiveTakings 1 7 101 (some 999999) 5 3) tillOut = true ∧
    (tillOut.till 7).state = .issued ∧ tagCheck 101 .takings tillOut = .ok ∧ 9 ≤ tillOut.journalFree ∧
    amountInRange (tillOut.acu.accountability + 999999) = true ∧ 8 < tillOut.available ∧
    (allocate (takeFrom tillOut)).map Prod.fst = some 1 ∧
    ((after (.receiveTakings 1 7 101 (some 999999) 5 3) tillOut).till 7).state = .takingsIn := by decide +kernel

/-- The office with till 7 ISSUED and a posting of a kind waiting for till `n`. -/
def withPosting (n : Nat) (k : PostingKind) (g : Option Nat) (s : State) : State :=
  { s with tau.postings := [⟨n, k, 2500, g⟩] }

theorem test_post_and_query : takes (.post 1 128 (some .skim) (some 1) (some 99999999)) office = true ∧
    office.tau.postings.length < 64 ∧ (takes (.queryTill 1 7) (withPosting 8 .sale none tillOut) = true ∧
      (∀ p ∈ (withPosting 8 .sale none tillOut).tau.postings, p.till ≠ 7)) ∧
    ((after (.queryTill 1 7) (withPosting 7 .sale none tillOut)).till 7).sales = 2500 := by decide +kernel

/-- A posting to a till in session, a RECONCILED one and an IDLE one, and a SKIM that no bag can attach. -/
theorem test_posting_premises :
    ((withPosting 7 .refund none tillOut).till 7).state.inSession = true ∧
    ((withPosting 7 .sale none evening).till 7).state = .reconciled ∧
    ((withPosting 8 .sale none office).till 8).state = .idle ∧
    ((withPosting 7 .skim (some 222) tillOut).attachable 222 = none ∧
      ((withPosting 7 .skim (some 222) tillOut).till 7).pendingSkims.length < 4) ∧
    ((after .postingApplication (withPosting 7 .refund none tillOut)).till 7).expected = 7500 ∧
    ((after .postingApplication (withPosting 7 .sale none evening)).till 7).late = 2500 ∧
    (after .postingApplication (withPosting 8 .sale none office)).acu.unattributed.amount = 2500 ∧
    ((after .postingApplication (withPosting 7 .skim (some 222) tillOut)).till 7).pendingSkims = [⟨222, 2500, 1⟩] := by
  decide +kernel

/-- The office with till 7 in session, a SKIM of 25.00 with tag 222 waiting for it and bag 1 in a state, undeclared with that
tag. -/
def attaching (st : BagState) : State :=
  withPosting 7 .skim (some 222) (putBag 1 { bagOf 222 .skim .unknown 700 with state := st, flags := ⟨false, false, false, true⟩ } tillOut)

/-- A SKIM posting that attaches an INTACT bag and a CONFIRMED one, one that finds no room, and one past 4 pending skims. -/
theorem test_attachment_premises : (attaching .intact).attachable 222 = some 1 ∧ 1 ≤ (attaching .intact).journalFree ∧
    amountInRange ((attaching .intact).acu.accountability + 2500) = true ∧
    ((after .postingApplication (attaching .intact)).bag 1).map Bag.book = some 2500 ∧
    ((after .postingApplication (attaching .intact)).till 7).outstanding = 1 ∧ (attaching .confirmed).attachable 222 = some 1 ∧
    ((after .postingApplication (attaching .confirmed)).till 7).counted = 700 ∧
    (amountInRange (({ attaching .intact with acu.accountability := 999999999999 } : State).acu.accountability + 2500) = false ∧
      (after .postingApplication { attaching .intact with acu.accountability := 999999999999 }).hpt.notices =
        [⟨.orphanPosting, [fTill (some 7), fNamed (codeIn PostingKind.list .skim), fAmount 2500, fTag (some 222), fNamed 3]⟩]) ∧
    (after .postingApplication (withPosting 7 .skim (some 222)
      (putTill 7 { issuedTill with pendingSkims := List.replicate 4 ⟨201, 1, 1⟩ } office))).hpt.notices =
        [⟨.orphanPosting, [fTill (some 7), fNamed (codeIn PostingKind.list .skim), fAmount 2500, fTag (some 222), fNamed 2]⟩] := by
  decide +kernel

theorem test_expected_premises : issuedTill.range = false ∧ issuedTill.expectedTotal = some 10000 ∧
    ({ issuedTill with sales := 999999999999 } : Till).expectedTotal = none ∧ amountInRange (issuedTill.sales + 1) = true ∧
    amountInRange (({ issuedTill with sales := 999999999999 } : Till).sales + 1) = false := by decide

/-- Each accumulator, the counted total, a late posting's figures and a charge past their ranges, with the true sign. -/
theorem test_overflow_premises :
    ({ issuedTill with refunds := 999999999999 } : Till).accumulate .refund 1 =
      { issuedTill with refunds := 999999999999, range := true } ∧
    ({ issuedTill with skims := 999999999999 } : Till).accumulate .skim 1 =
      { issuedTill with skims := 999999999999, range := true } ∧
    ({ issuedTill with sales := 5 } : Till).expectedTotal = some 10005 ∧
    amountInRange (-999999999999 + signedEffect .refund 1) = false ∧
    ({ issuedTill with late := -999999999999, variance := some 5 } : Till).addLate (-1) =
      { issuedTill with late := -999999999999, variance := some 4, day := ⟨-1, false⟩ } ∧
    (⟨-999999999999, false⟩ : VarAccount).charge (-1) = ⟨-999999999999, true⟩ ∧
    (⟨999999999999, false⟩ : VarAccount).charge 1 = ⟨999999999999, true⟩ ∧
    ({ issuedTill with counted := 999999999999 } : Till).count 1 =
      { issuedTill with counted := 999999999999, countedRange := true } := by decide

/-- A report to another session, one that leaves a bag outstanding, the last one, and the last one of a RANGE till. -/
theorem test_report_premises : issuedTill.session ≠ 2 ∧
    (issuedTill.session = 1 ∧ issuedTill.state = .issued ∧ amountInRange (issuedTill.counted + 5) = true) ∧
    (reportedTillAfter { issuedTill with state := .takingsIn, outstanding := 1 } 1 10005 office).variance = some 5 ∧
    (reportedTillAfter { issuedTill with state := .takingsIn, outstanding := 1 } 1 10005 office).classification = some .within ∧
    (reportedTillAfter { issuedTill with state := .takingsIn, outstanding := 1, range := true } 1 10005 office).classification =
      some .range := by decide

/-! ## Hypotheses met: counting lanes -/

/-- The office with a SKIM bag 1 at the BENCH and lane 3 as given. -/
def laneAndBag (l : Lane) : State := withBags 1 (putLane 3 l office)

theorem test_load_lane :
    (takes (.loadLane 1 3 1 false 3) (laneAndBag (laneOf .idle none 0 0 HoldSet.empty)) = true ∧
      office.presentAs .office 3 custodianClass = true ∧
      (laneAndBag (laneOf .idle none 0 0 HoldSet.empty)).bag 1 = some (bagOf 201 .skim .unknown 0) ∧
      (after (.loadLane 1 3 1 false 3) (laneAndBag (laneOf .idle none 0 0 HoldSet.empty))).lane 3 =
        { Lane.initial with
          state := .ready, batch := some ⟨1, Tally.initial, [(0, 100), (1, 50)], [], false, false, false⟩ }) ∧
    (takes (.loadLane 1 3 1 true 3) (laneAndBag (laneOf .held (some (batchOf 5 95 0)) 0 0 heldByOperator)) = true ∧
      (laneOf .held (some (batchOf 5 95 0)) 0 0 heldByOperator).stack.length < 3 ∧
      ((after (.loadLane 1 3 1 true 3) (laneAndBag (laneOf .held (some (batchOf 5 95 0)) 0 0 heldByOperator))).lane 3).stack =
        [⟨batchOf 5 95 0, heldByOperator⟩]) := by decide +kernel

theorem test_start_stop_resume : office.presentAs .office 3 custodianClass = true ∧
    (takes (.start 1 0 3) (withLane 0 (laneOf .ready (some (batchOf 0 100 0)) 0 0 HoldSet.empty)) = true ∧
      ((withLane 0 (laneOf .ready (some (batchOf 0 100 0)) 0 0 HoldSet.empty)).lane 0).state = .ready ∧
      office.csc.latch = false) ∧
    (takes (.stop 1 3) (withLane 3 (laneOf .running (some (batchOf 0 100 0)) 0 0 HoldSet.empty)) = true ∧
      ((after (.stop 1 3) (withLane 3 (laneOf .running (some (batchOf 0 100 0)) 0 0 HoldSet.empty))).lane 3).holds =
        heldByOperator) ∧
    (takes (.resume 1 3 3) (withLane 3 (laneOf .held (some (batchOf 0 100 0)) 0 0 heldByOperator)) = true ∧
      ((after (.resume 1 3 3) (withLane 3 (laneOf .held (some (batchOf 0 100 0)) 0 0 heldByOperator))).lane 3).state = .ready) := by
  decide +kernel

/-- Lane 3 running with `stacker` notes in its stacker and a batch. -/
def counting (stacker : Nat) : State := withLane 3 (laneOf .running (some (batchOf 5 95 0)) stacker 48 HoldSet.empty)

/-- A NOTE at each count of the stacker where the clauses meet; an unreadable one, one of a slot that holds coins and one
past the slots; and one at a lane with no batch. -/
theorem test_note_premises : office.operating = true ∧ ((counting 198).lane 3).stacker < 199 ∧
    ((counting 198).lane 3).reject < 49 ∧ office.denom 0 = .note 500 100 ∧
    (tallySlot (batchOf 5 95 0).tally 0).fit < 999999 ∧ 220 ≤ ((counting 220).lane 3).stacker ∧
    ((counting 199).lane 3).stacker = 199 ∧ ((counting 199).lane 3).holds.stackerFull = false ∧
    (office.denom 6).strap? = none ∧ (office.lane 3).batch = none ∧
    ((after (.note 3 (some 0) .fit false) (counting 198)).lane 3).stacker = 199 ∧
    ((after (.note 3 (some 0) .fit false) (counting 199)).lane 3).state = .held ∧
    ((after (.note 3 (some 0) .fit false) (counting 220)).lane 3).fault = some .overflow ∧
    ((after (.note 3 (some 0) .unfit true) (counting 5)).lane 3).reject = 49 ∧
    (((after (.note 3 (some 6) .fit false) (counting 5)).lane 3).batch.map (fun b => b.tally.unreadable)) = some 1 ∧
    (((after (.note 3 (some 8) .fit false) (counting 5)).lane 3).batch.map (fun b => b.tally.unreadable)) = some 1 ∧
    (((after (.note 3 none .fit true) (counting 5)).lane 3).batch.map (fun b => b.tally.unreadable)) = some 1 ∧
    (after (.note 3 (some 0) .fit false) office).lane 3 = office.lane 3 := by decide +kernel

/-- Lane 3 CLOSING with full pockets or a count at 999,999, and with the strap counter at `strap`. -/
def countingAt (stacker reject strap : Nat) (c : SlotCount) (unreadable : Nat) : State :=
  withLane 3 (laneOf .closing (some ⟨1, ⟨[(0, c)], unreadable⟩, [(0, strap), (1, 50)], [(0, 4)], false, false, false⟩)
    stacker reject HoldSet.empty)

/-- A NOTE at the strap counter 1 and 2, at the stacker counts from 200 to 219, at the 50th reject note and past it, and at
each count of 999,999. -/
theorem test_note_boundaries :
    (((after (.note 3 (some 0) .fit false) (countingAt 200 0 1 ⟨5, 0, 0, 0⟩ 0)).lane 3).batch.map
      (fun b => (b.straps, b.full, b.lateNotes))) = some ([(0, 100), (1, 50)], [(0, 5)], true) ∧
    (((after (.note 3 (some 0) .fit false) (countingAt 219 0 2 ⟨5, 0, 0, 0⟩ 0)).lane 3).batch.map Batch.straps) =
      some [(0, 1), (1, 50)] ∧
    ((after (.note 3 (some 0) .fit false) (countingAt 219 0 2 ⟨5, 0, 0, 0⟩ 0)).lane 3).stacker = 220 ∧
    ((after (.note 3 (some 0) .fit true) (countingAt 0 49 2 ⟨5, 0, 0, 0⟩ 0)).lane 3).holds.rejectFull = true ∧
    ((after (.note 3 (some 0) .fit true) (countingAt 0 50 2 ⟨5, 0, 0, 0⟩ 0)).lane 3).fault = some .overflow ∧
    ((after (.note 3 (some 0) .fit true) (countingAt 0 49 2 ⟨5, 0, 999999, 0⟩ 0)).lane 3).fault = some .countRange ∧
    ((after (.note 3 (some 0) .fit false) (countingAt 0 0 2 ⟨999999, 0, 0, 0⟩ 0)).lane 3).fault = some .countRange ∧
    ((after (.note 3 (some 0) .unfit false) (countingAt 0 0 2 ⟨0, 999999, 0, 0⟩ 0)).lane 3).fault = some .countRange ∧
    ((after (.note 3 none .unfit false) (countingAt 0 49 2 ⟨0, 0, 0, 0⟩ 999998)).lane 3).reject = 50 ∧
    ((after (.note 3 none .unfit false) (countingAt 0 50 2 ⟨0, 0, 0, 0⟩ 0)).lane 3).fault = some .overflow ∧
    ((after (.note 3 none .unfit false) (countingAt 0 0 2 ⟨0, 0, 0, 0⟩ 999999)).lane 3).fault = some .countRange := by
  decide +kernel

/-- A hold and each fault of a RUNNING lane stops its transport; one whose set holds the cause already sends nothing. -/
theorem test_note_commands :
    unitCommands (after (.note 3 (some 0) .fit false) (counting 199)) = unitCommands office ++ [(.lane 3, .stop)] ∧
    (after (.note 3 (some 0) .fit false) (counting 199)).hpt.notices.map Notice.kind = [.hold] ∧
    unitCommands (after (.note 3 (some 0) .fit false) (counting 220)) = unitCommands office ++ [(.lane 3, .stop)] ∧
    (after (.note 3 (some 0) .fit false) (withLane 3 (laneOf .held (some (batchOf 5 95 0)) 199 0
      { HoldSet.empty with stackerFull := true }))).hpt.notices = [] ∧
    (after (.note 3 none .fit true) (withLane 3 (laneOf .running (some (batchOf 5 95 0)) 0 50 HoldSet.empty))).hpt.notices =
      [⟨.fault, [fLane (some 3), fNamed (codeIn FaultCause.list .overflow), fNamed (codeIn LaneState.list .fault),
        fRef (some 1), fNamed 0]⟩] := by decide +kernel

theorem test_pockets_and_jams : office.operating = true ∧
    ((after (.pocket 3 .stacker) (withLane 3
      (laneOf .held (some (batchOf 5 95 0)) 200 0 { HoldSet.empty with stackerFull := true }))).lane 3).state = .ready ∧
    ((after (.jam 3) (counting 5)).lane 3).fault = some .jam ∧
    ((after (.jam 3) (withLane 3 (laneOf .fault none 0 0 HoldSet.empty))).lane 3).state = .faultLocked ∧
    (after (.jam 3) office).lane 3 = office.lane 3 := by decide +kernel

/-- Lane 3 HELD with a batch of bag 1, which is COUNTING there. -/
def heldBatch : State :=
  putBag 1 { bagOf 201 .skim .unknown 0 with state := .counting, custody := .lane 3 }
    (withLane 3 (laneOf .held (some (batchOf 5 95 0)) 5 1 heldByOperator))

theorem test_close_batch : takes (.closeBatch 1 3 (some [(6, 7)]) 3) heldBatch = true ∧
    heldBatch.presentAs .office 3 custodianClass = true ∧ coinsOk [(6, 7)] heldBatch = true ∧
    (heldBatch.lane 3).state = .held ∧ (heldBatch.lane 3).batch = some (batchOf 5 95 0) ∧ heldBatch.rcu.queue.length < 6 ∧
    heldBatch.acu.day = .dayOpen ∧ 11 ≤ heldBatch.journalFree ∧
    (after (.closeBatch 1 3 (some [(6, 7)]) 3) heldBatch).rcu.queue = [.lane 3] := by decide +kernel

/-- A lane with a FAULT, locked or not, with a batch or without. -/
def faulted (st : LaneState) (b : Option Batch) : State := withLane 3 (laneOf st b 0 0 HoldSet.empty)

theorem test_abort_and_clear :
    (takes (.abortBatch 1 3 3) heldBatch = true ∧ (heldBatch.bag 1).isSome = true ∧
      ((after (.abortBatch 1 3 3) heldBatch).bag 1) = some (bagOf 201 .skim .unknown 0)) ∧
    (takes (.clearFault 1 3 3) (faulted .fault none) = true ∧ ((faulted .fault none).lane 3).state = .fault ∧
      ((after (.clearFault 1 3 3) (faulted .fault none)).lane 3).state = .idle) ∧
    (takes (.clearFault 1 3 1) (faulted .faultLocked (some (batchOf 5 95 0))) = true ∧
      office.presentAs .office 1 [.supervisor] = true ∧ (batchOf 5 95 0).queued = false ∧
      ((after (.clearFault 1 3 1) (faulted .faultLocked (some (batchOf 5 95 0)))).lane 3).state = .held) := by decide +kernel

/-! ## Hypotheses met: reconciliation and the Watch Unit -/

/-- A tally of 10 notes of slot 0 and 1 suspect. -/
def tenNotes : Tally := ⟨[(0, ⟨10, 0, 1, 0⟩)], 0⟩

/-- A manual count of bag 1 in the queue, its valuation begun. -/
def valuing (b : Bag) : State :=
  { putBag 1 { b with state := .counting } office with
    rcu := ⟨[.manual 1 tenNotes], some ⟨tenNotes, valueTally tenNotes office⟩⟩, acu.reserved := 3 }

theorem test_count_manual : takes (.countManual 1 1 tenNotes 3) (withBags 1 office) = true ∧ tallyOk tenNotes office = true ∧
    (withBags 1 office).rcu.queue.length < 6 ∧ 11 ≤ (withBags 1 office).journalFree ∧
    (withBags 1 office).bag 1 = some (bagOf 201 .skim .unknown 0) ∧
    (({ valuing (bagOf 201 .skim .unknown 0) with rcu.engine := none } : State).rcu.queue = [.manual 1 tenNotes]) ∧
    ({ heldBatch with rcu.queue := [.lane 3] } : State).rcu.engine = none ∧
    ((after .valuationBegin { heldBatch with rcu.queue := [.lane 3] }).rcu.engine.map Valuation.counted) = some (some 2500) := by
  decide +kernel

theorem test_outcomes : outcomeOf (bagOf 201 .skim .unknown 0) tenNotes .range false true = .disputed ∧
    outcomeOf (bagOf 201 .skim .unknown 0) tenNotes .exact true false = .quarantined ∧
    outcomeOf (bagOf 201 .skim .unknown 0) tenNotes .exact false false = .confirmed ∧
    (identicalTallies tenNotes tenNotes = true ∧
      outcomeOf { bagOf 201 .skim .unknown 0 with tally := some tenNotes } tenNotes .over false false = .confirmed) ∧
    (identicalTallies Tally.initial tenNotes = false ∧
      outcomeOf { bagOf 201 .skim .unknown 0 with tally := some Tally.initial } tenNotes .exact false false = .quarantined ∧
      outcomeOf { bagOf 201 .skim .unknown 0 with tally := some Tally.initial, recount := 1 } tenNotes .exact false false =
        .disputed) := by decide

/-- A first count that is short, a count that confirms and is merged, and each kind of source. -/
theorem test_valuation_completes : (valuing (bagOf 201 .skim .unknown 5000)).rcu.queue = [.manual 1 tenNotes] ∧
    (valuing (bagOf 201 .skim .unknown 5000)).rcu.engine = some ⟨tenNotes, some 5000⟩ ∧
    (∀ n ∈ slotNumbers, (office.watchEntry n).state = .off) ∧
    ((after .valuationCompletion (valuing (bagOf 201 .skim .unknown 50000))).bag 1).map Bag.state = some .quarantined ∧
    ((after .valuationCompletion (valuing (bagOf 201 .skim .unknown 5000))).bag 1).map Bag.state = some .emptied ∧
    (after .valuationCompletion (valuing (bagOf 201 .skim .unknown 4900))).acu.unattributed.amount = 100 ∧
    (after .valuationCompletion (valuing (bagOf 401 .changeIn (.courier 41) 5100))).acu.courier.amount = -100 ∧
    ((after .valuationCompletion (putTill 7 { issuedTill with outstanding := 1 }
      (valuing (bagOf 201 .skim (.till 7 1) 4900)))).till 7).counted = 5000 := by decide +kernel

/-- Bag 1 CONFIRMED with its tally. -/
def confirmedBag : State :=
  putBag 1 { bagOf 201 .skim .unknown 5000 with state := .confirmed, tally := some tenNotes } office

theorem test_merge_bag : takes (.mergeBag 1 1 3) confirmedBag = true ∧ confirmedBag.presentAs .office 3 custodianClass = true ∧
    confirmedBag.bag 1 = some { bagOf 201 .skim .unknown 5000 with state := .confirmed, tally := some tenNotes } ∧
    checkMovement (mergeMovement 1 { bagOf 201 .skim .unknown 5000 with state := .confirmed, tally := some tenNotes }
      confirmedBag) confirmedBag = none ∧
    (after (.mergeBag 1 1 3) confirmedBag).slotStock 0 = ⟨100, 30, 3, 0⟩ := by decide +kernel

/-- Bag 1 DISPUTED with two tallies. -/
def disputedBag (src : Source) : State :=
  putBag 1 { bagOf 201 .skim src 5000 with
    state := .disputed, tally := some tenNotes, previous := some Tally.initial, recount := 2 } office

theorem test_resolve_dispute : takes (.resolveDispute 1 1 (some .first) none 1 2) (disputedBag .unknown) = true ∧
    office.presentAs .office 1 [.supervisor] = true ∧ office.presentAs .office 2 [.supervisor] = true ∧
    manualTallyOk .first none (disputedBag .unknown) = true ∧ manualTallyOk .manual (some tenNotes) office = true ∧
    chosenTally { bagOf 201 .skim .unknown 5000 with
      state := .disputed, tally := some tenNotes, previous := some Tally.initial, recount := 2 } .first none =
        some Tally.initial ∧
    valueTally Tally.initial (disputedBag .unknown) = some 0 ∧ subAmount 0 5000 = some (-5000) ∧
    amountInRange (office.acu.accountability + -5000) = true ∧ 11 ≤ (disputedBag .unknown).journalFree ∧
    (after (.resolveDispute 1 1 (some .first) none 1 2) (disputedBag .unknown)).acu.accountability = 96500 ∧
    ((after (.resolveDispute 1 1 (some .manual) (some tenNotes) 1 2) (putTill 7 { issuedTill with outstanding := 1 }
      (disputedBag (.till 7 1)))).till 7).counted = 5000 := by decide +kernel

/-- A condition on every bag result that is not RANGE. -/
def anyBag : Condition := ⟨some .bag, none, none, none, none, ⟨true, true, true, true, false⟩, .any⟩

/-- A watch entry in a state, with a level-2 condition or without. -/
def watchOf (st : WatchState) (l2 : Option Condition) (same : Bool) : WatchEntry :=
  ⟨st, some anyBag, l2, same, some .notice, if st = .armed2 ∧ same then some ⟨.courier, some 41⟩ else none, none⟩

/-- The office with the AUDITOR present and watch entry 7 armed, with the Audit Hold set or clear. -/
def watched (hold : Bool) : State := putWatch 7 (watchOf .armed1 none false) { audited with wcu.auditHold := hold }

theorem test_watch_requests :
    (takes (.setWatch 1 7 true 1 (some anyBag) (some anyBag) true (some .recount)) (watched false) = true ∧
      (watched false).presentAs .office 1 [.supervisor, .auditor] = true ∧ (watched false).wcu.auditHold = false ∧
      conditionOk anyBag = true) ∧
    (takes (.setWatch 1 0 false 4 none none false none) (watched true) = true ∧
      (watched true).presentAs .office 4 [.auditor] = true) ∧
    (takes (.rearm 1 7 1) (watched false) = true ∧ ((watched false).watchEntry 7).state ≠ .off) ∧
    ((watched true).presentAs .office 1 [.supervisor] = true ∧ (watched true).wcu.auditHold = true ∧
      takes (.rearm 1 7 1) (watched true) = true) ∧
    (takes (.auditHold 1 4) (watched false) = true ∧ takes (.auditRelease 1 4) (watched true) = true) := by decide

/-- Bag 1 counted on lane 3 as 5 notes of slot 0, its valuation begun, the lane CLOSING or in a FAULT. -/
def valuingLane (st : LaneState) (late : Bool) (book : Int) : State :=
  { putBag 1 { bagOf 201 .skim .unknown book with state := .counting, custody := .lane 3 }
      (withLane 3 (laneOf st (some { batchOf 5 95 0 with queued := true, lateNotes := late }) 5 0 HoldSet.empty)) with
    rcu := ⟨[.lane 3], some ⟨⟨[(0, ⟨5, 0, 0, 0⟩)], 0⟩, some 2500⟩⟩, acu.reserved := 3 }

/-- A LANE entry that confirms, one with late notes, one of a faulted lane, one that an armed RECOUNT entry matches, and one
whose tally stock cannot take. -/
theorem test_lane_valuation_premises :
    valueTally ⟨[(0, ⟨5, 0, 0, 0⟩)], 0⟩ office = some 2500 ∧
    (((after .valuationCompletion (valuingLane .closing false 2500)).bag 1).map Bag.state = some .emptied ∧
      ((after .valuationCompletion (valuingLane .closing false 2500)).lane 3).state = .idle) ∧
    ((after .valuationCompletion (valuingLane .closing true 2500)).bag 1).map Bag.state = some .quarantined ∧
    (((after .valuationCompletion (valuingLane .fault false 2500)).lane 3).state = .fault ∧
      ((after .valuationCompletion (valuingLane .fault false 2500)).lane 3).batch = none) ∧
    ((after .valuationCompletion (putWatch 7 { watchOf .armed1 none false with action := some .recount }
      (valuingLane .closing false 2500))).bag 1).map Bag.state = some .quarantined ∧
    (mergeFits ⟨[(0, ⟨5, 0, 0, 0⟩)], 0⟩ { office with acu.stock := [(0, ⟨0, 999995, 0, 0⟩)] } = false ∧
      mergeFits ⟨[(0, ⟨5, 0, 0, 0⟩)], 0⟩ { office with acu.stock := [(0, ⟨0, 999994, 0, 0⟩)] } = true ∧
      ((after .valuationCompletion { valuingLane .closing false 2500 with acu.stock := [(0, ⟨0, 999995, 0, 0⟩)] }).bag 1).map
        Bag.state = some .confirmed) := by decide +kernel

/-- The kinds of the notices that an event raises. -/
def noticesOf (i : Instr) (s : State) : List NoticeKind := ((after i s).hpt.notices.drop s.hpt.notices.length).map Notice.kind

/-- Bag 1 of till 7 counted by hand, the till TAKINGS_IN with that bag alone outstanding. -/
def lastBag (book : Int) : State :=
  putTill 7 { issuedTill with state := .takingsIn, outstanding := 1 } (valuing (bagOf 101 .takings (.till 7 1) book))

/-- R139: the entries of a completion that merges with a variance and without, that is held, and that makes a till result; each
with the accountability after it. -/
theorem test_valuation_entries :
    ((after .valuationCompletion (valuing (bagOf 201 .skim .unknown 4900))).acu.journal =
      writtenEntries [⟨.variance, some 1, none, 100, 100⟩, ⟨.bagToStock, some 1, none, 5000, 0⟩] 1 office.acu.clock 101500) ∧
    ((after .valuationCompletion (valuing (bagOf 201 .skim .unknown 5000))).acu.journal =
      writtenEntries [⟨.bagToStock, some 1, none, 5000, 0⟩] 1 office.acu.clock 101500) ∧
    ((after .valuationCompletion { valuing (bagOf 201 .skim .unknown 4900) with acu.stock := [(0, ⟨0, 999995, 0, 0⟩)] }).acu.journal
      = [⟨1, office.acu.clock, .variance, some 1, none, 100, 101600⟩]) ∧
    (((lastBag 4900).till 7).resultDue 1 = true ∧ (after .valuationCompletion (lastBag 4900)).acu.journal =
      [⟨1, office.acu.clock, .variance, some 1, some 7, 100, 101600⟩, ⟨2, office.acu.clock, .bagToStock, some 1, some 7, 5000, 101600⟩,
       ⟨3, office.acu.clock, .tillResult, none, some 7, -5000, 101600⟩]) := by decide +kernel

/-- R141: the notices of a completion: QUARANTINED, held, with a WATCH before it, and with a till result, whose own WATCH follows
the till's RESULT. -/
theorem test_valuation_notices :
    noticesOf .valuationCompletion (valuing (bagOf 201 .skim .unknown 50000)) = [.result] ∧
    (after .valuationCompletion (valuing (bagOf 201 .skim .unknown 50000))).hpt.notices =
      [⟨.result, [fNamed 1, fRef (some 1), fLane none, fNamed 1, fAmountOpt (some 5000), fAmountOpt (some (-45000)),
        fAmountOpt (some 1000), fNamed 4, fNamed 3, fNum 1 0, fSet [false, false, false, false]]⟩] ∧
    (noticesOf .valuationCompletion { valuing (bagOf 201 .skim .unknown 4900) with acu.stock := [(0, ⟨0, 999995, 0, 0⟩)] } =
        [.stockRange, .result] ∧
      firstHeld tenNotes { office with acu.stock := [(0, ⟨0, 999995, 0, 0⟩)] } = some 0 ∧
      firstHeld ⟨[(0, ⟨10, 0, 1, 0⟩), (6, ⟨0, 0, 0, 1⟩)], 0⟩ { office with acu.stock := [(6, ⟨0, 0, 0, 999999⟩)] } = some 6) ∧
    noticesOf .valuationCompletion (putWatch 7 (watchOf .armed1 none false) (valuing (bagOf 201 .skim .unknown 5000))) =
      [.watch, .result] ∧
    noticesOf .valuationCompletion (putWatch 0 { watchOf .armed1 none false with level1 := some { anyBag with result := some .till } }
      (lastBag 4900)) = [.result, .result, .watch] := by decide +kernel

/-- RESOLVE_DISPUTE whose tally stock cannot take, and the counts in range that it starts from. -/
theorem test_merge_fits_premises :
    (∀ i ∈ slotNumbers, (office.slotStock i).strapped ≤ 999999 ∧ (office.slotStock i).loose ≤ 999999 ∧
      (office.slotStock i).unfit ≤ 999999 ∧ (office.slotStock i).coin ≤ 999999) ∧
    (office.denom 0 = .note 500 100 ∧ (office.slotStock 0).strapped % 100 = 0) ∧ mergeFits tenNotes office = true ∧
    mergeFits tenNotes { office with acu.suspects := [(0, 999999)] } = false ∧
    ((after (.resolveDispute 1 1 (some .latest) none 1 2) { disputedBag .unknown with acu.suspects := [(0, 999999)] }).bag 1).map
      Bag.state = some .confirmed := by decide +kernel

/-- A result of a bag from visit 41. -/
def bagResult : WatchResult := ⟨.bag, some 1, .courier, some 41, none, some .changeIn, .short, some (-100)⟩

/-- An entry ARMED1 with and without a level 2, ARMED2 with the same source, and results that match and that do not. -/
theorem test_offer_premises : levelMatches (some anyBag) bagResult = true ∧
    levelMatches (some anyBag) { bagResult with kind := .till } = false ∧
    ((offer bagResult (putWatch 7 (watchOf .armed1 none false) office)).1.watchEntry 7).state = .fired ∧
    ((offer bagResult (putWatch 7 (watchOf .armed1 (some anyBag) true) office)).1.watchEntry 7).captured =
      some ⟨.courier, some 41⟩ ∧
    ((offer bagResult (putWatch 7 (watchOf .armed2 (some anyBag) true) office)).1.watchEntry 7).state = .fired ∧
    ((offer { bagResult with kind := .till } (putWatch 7 (watchOf .armed2 (some anyBag) true) office)).1.watchEntry 7).state =
      .armed2 := by decide +kernel

/-- R147: each match field against a result that carries it, another and none, and each test at its bounds. -/
theorem test_condition_matches :
    levelMatches (some { anyBag with sourceNumber := some 41 }) bagResult = true ∧
    levelMatches (some { anyBag with sourceNumber := some 42 }) bagResult = false ∧
    levelMatches (some { anyBag with sourceNumber := some 41 }) { bagResult with sourceNumber := none } = false ∧
    levelMatches (some { anyBag with sourceKind := some .till }) bagResult = false ∧
    levelMatches (some { anyBag with declarer := some 5 }) bagResult = false ∧
    levelMatches (some { anyBag with purpose := some .changeIn }) bagResult = true ∧
    levelMatches (some anyBag) { bagResult with cls := .range, variance := none } = false ∧ levelMatches none bagResult = false ∧
    (testPasses (.inside (some (-5)) (some 5)) (some (-5)) = true ∧ testPasses (.inside (some (-5)) (some 5)) (some 6) = false ∧
      testPasses (.outside (some (-5)) (some 5)) (some 5) = false ∧ testPasses (.outside (some (-5)) (some 5)) (some (-6)) = true ∧
      testPasses (.equal (some 5)) (some 5) = true ∧ testPasses (.equal (some 5)) (some (-5)) = false ∧
      testPasses (.equal (some 5)) none = false ∧ testPasses .any none = true) := by decide

/-- A till result of till 7. -/
def tillResult : WatchResult := ⟨.till, none, .till, some 7, some 5, none, .short, some (-100)⟩

/-- An entry that any result fires, with an action. -/
def acting (a : WatchAction) : WatchEntry :=
  { watchOf .armed1 none false with level1 := some { anyBag with result := some .till }, action := some a }

/-- An entry of another source under SAME SOURCE, and an entry that fires with each action. -/
theorem test_firing_premises :
    ((offer { bagResult with sourceNumber := some 42 } (putWatch 7 (watchOf .armed2 (some anyBag) true) office)).1.watchEntry 7).state =
      .armed2 ∧
    (firings tillResult (putWatch 0 (acting .holdTill) (putWatch 7 (acting .notice) office))).map Firing.entry = [0, 7] ∧
    (((offer tillResult (putWatch 0 (acting .holdTill) office)).1.till 7).hold = true ∧
      ((offer tillResult (putWatch 0 (acting .holdTill) office)).1.hpt.notices.map
        (fun x => x.fields.drop 11)) = [[fTill (some 7), fNamed 0]]) ∧
    ((offer { tillResult with sourceKind := .courier } (putWatch 0 (acting .holdTill) office)).1.hpt.notices.map
      (fun x => x.fields.drop 11)) = [[fTill none, fNamed 1]] ∧
    ((offer tillResult (putWatch 0 (acting .recount) office)).2 = [.recount] ∧
      ((offer tillResult (putWatch 0 (acting .recount) office)).1.hpt.notices.map (fun x => x.fields.drop 11)) = [[fNamed 2]]) ∧
    (((offer tillResult (putWatch 0 (acting .haltLanes) (counting 5))).1.lane 3).state = .held ∧
      (unitCommands (offer tillResult (putWatch 0 (acting .haltLanes) (counting 5))).1).getLast? = some (.lane 3, .stop) ∧
      ((offer tillResult (putWatch 0 (acting .haltLanes) (counting 5))).1.hpt.notices.getLast?.map (fun x => x.fields.drop 11)) =
        some [.many [[.packed 1 3]], fNamed 0]) := by decide +kernel

/-! ## Hypotheses met: doors, safes and lockdown -/

/-- The office after hours with a PLANNED visit of courier 6 whose window covers the time. -/
def visitDue : State := putManifest 3 (visitOf .planned [] [] none) (closed false)

theorem test_request_strongroom :
    (takes (.requestDoor 1 .strongroom [1, 3]) (closed true) = true ∧ (closed true).csc.latch = true) ∧
    (office.csc.latch = false ∧ office.csc.strongroom.state = .secure ∧
      office.presentAs .strongroom 1 custodianClass = true ∧ office.presentAs .strongroom 3 custodianClass = true ∧
      takes (.requestDoor 1 .strongroom [1, 3]) office = true) ∧
    ({ office with csc.maintenance := true } : State).csc.maintenance = true ∧
    (office.csc.maintenance = false ∧ office.acu.mode = .opened) ∧
    (visitDue.acu.mode = .afterHours ∧ visitDue.visitDue = true ∧ visitDue.csc.policy.courierDelay = 120) ∧
    ((closed false).acu.mode = .afterHours ∧ (closed false).visitDue = false) ∧
    lastStatus (after (.requestDoor 1 .strongroom [1, 3]) (closed false)) = some .hours ∧
    (after (.requestDoor 1 .strongroom [1, 3]) visitDue).csc.strongroom.timer = some 120 ∧
    (after (.requestDoor 1 .strongroom [1, 3]) { office with csc.policy.dayDelay := 0 }).csc.strongroom.state = .confirm ∧
    (after (.requestDoor 1 .strongroom [1, 3]) { office with csc.maintenance := true }).csc.strongroom.state = .released := by
  decide +kernel

theorem test_drop_doors_and_cancel :
    (takes (.requestDoor 1 (.drop 6) [3]) office = true ∧ office.csc.latch = false ∧ (office.safe 6).door.state = .secure ∧
      office.presentAs .office 3 custodianClass = true ∧ office.acu.mode = .opened ∧
      ((after (.requestDoor 1 (.drop 6) [3]) office).safe 6).door.timer = some 300) ∧
    (takes (.cancelDoor 1 .strongroom) (withStrongroom .confirm (some 5) office) = true ∧
      validDoor .strongroom = true ∧ ((withStrongroom .confirm (some 5) office).door .strongroom).state = .confirm) ∧
    (takes (.cancelDoor 1 (.drop 1)) (withSafe 1 .released (some 5) office) = true ∧
      ((withSafe 1 .released (some 5) office).door (.drop 1)).state = .released ∧
      ((after (.cancelDoor 1 (.drop 1)) (withSafe 1 .released (some 5) office)).safe 1).chuteLocked = false) := by
  decide +kernel

/-- The office with the strongroom door and drop safe 6 in a state whose timer stands at 0. -/
def timedOut (st : DoorState) : State := withSafe 6 st (some 0) (withStrongroom st (some 0) office)

theorem test_door_expiries : office.operating = true ∧
    ((timedOut .delay).csc.strongroom.state = .delay ∧ (timedOut .delay).csc.strongroom.timer = some 0) ∧
    ((timedOut .delay).safe 6).door.timer = some 0 ∧
    ((timedOut .confirm).csc.strongroom.state = .confirm ∧ (timedOut .confirm).csc.strongroom.lockReleased = false) ∧
    (validDoor (.drop 6) = true ∧ ((timedOut .released).door (.drop 6)).state = .released ∧
      ((timedOut .released).door (.drop 6)).timer = some 0) ∧
    ((timedOut .opened).door .strongroom).timer = some 0 ∧ office.csc.strongroom.timer ≠ some 0 ∧
    ((withSafe 1 .delay (some 1) office).safe 1).door.timer ≠ some 0 ∧
    (after .delayExpiry (timedOut .delay)).csc.strongroom.state = .confirm ∧
    ((after (.dropDelayExpiry 6) (timedOut .delay)).safe 6).door.state = .released ∧
    (after .confirmWindowExpiry (timedOut .confirm)).csc.strongroom.state = .secure ∧
    (after (.releaseWindowExpiry .strongroom) (timedOut .released)).csc.strongroom.state = .secure ∧
    ((after (.openLimitExpiry (.drop 6)) (timedOut .opened)).safe 6).door.ajarSent = true := by decide +kernel

/-- The unit commands that an event adds. -/
def commandsOf (i : Instr) (s : State) : List (UnitPos × UnitCmd) := (unitCommands (after i s)).drop s.ubc.commands.length

/-- Each expiry of a door commands its lock, and then the chute of its drop safe. -/
theorem test_door_expiry_commands :
    commandsOf (.dropDelayExpiry 6) (timedOut .delay) = [(.door (.drop 6), .release)] ∧
    commandsOf (.dropDelayExpiry 6) (putSafe 6 { (timedOut .delay).safe 6 with causes := DropSafe.initial.causes } office) =
      [(.door (.drop 6), .release), (.chute 6, .lock)] ∧
    commandsOf (.releaseWindowExpiry .strongroom) (timedOut .released) = [(.door .strongroom, .engage)] ∧
    commandsOf (.releaseWindowExpiry (.drop 6)) (timedOut .released) = [(.door (.drop 6), .engage), (.chute 6, .unlock)] ∧
    commandsOf (.openLimitExpiry .strongroom) (timedOut .opened) = [] := by decide +kernel

/-- R201: a command goes to the address of its position, and a COLD start's commands to those that the straps give. -/
theorem test_command_address :
    (command (.chute 2) .lock State.reset).ubc.commands =
      coldCommands ++ [⟨.chute 2, some (Config.strapAddress 15), .lock⟩] ∧
    (command .hatch .reject State.reset).ubc.commands = coldCommands ++ [⟨.hatch, some (Config.strapAddress 20), .reject⟩] :=
  ⟨rfl, rfl⟩

theorem test_door_contacts : validDoor .strongroom = true ∧ validDoor (.drop 6) = true ∧
    ((timedOut .released).door .strongroom).state = .released ∧ (office.door (.drop 1)).state = .secure ∧
    ((timedOut .opened).door (.drop 6)).state = .opened ∧
    ((after (.door .strongroom true) (timedOut .released)).csc.strongroom.state = .opened) ∧
    (after (.door (.drop 1) true) office).ubc.alarm = true ∧
    ((after (.door (.drop 6) false) (timedOut .opened)).safe 6).door.state = .secure ∧
    (after (.door (.drop 1) false) office).safe 1 = office.safe 1 := by decide +kernel

/-- R165, R168: the commands and notices of a forced door, of a door that closes and of a request for a drop safe, where its
causes are as they should be. -/
theorem test_door_commands :
    chuteRule office = true ∧ chuteRule (timedOut .opened) = true ∧ chuteRule (timedOut .delay) = true ∧
    commandsOf (.door (.drop 1) true) office = [(.chute 1, .lock)] ∧
    (after (.door (.drop 1) true) office).hpt.notices =
      [⟨.chuteLocked, [fNum 1 1, fNamed 1, fSet [false, false, false, false, true]]⟩, ⟨.forced, [fDoor (.drop 1), fNamed 1]⟩] ∧
    (commandsOf (.door .strongroom true) (timedOut .delay) = [] ∧
      (after (.door .strongroom true) (timedOut .delay)).hpt.notices = [⟨.forced, [fDoor .strongroom, fNamed 2]⟩]) ∧
    commandsOf (.door (.drop 6) false) (timedOut .opened) = [(.chute 6, .unlock)] ∧
    commandsOf (.door .strongroom false) { timedOut .opened with csc.strongroom.lockReleased := true } =
      [(.door .strongroom, .engage)] ∧
    commandsOf (.door (.drop 6) true) (timedOut .released) = [] ∧
    commandsOf (.requestDoor 1 (.drop 6) [3]) office = [(.chute 6, .lock)] ∧
    commandsOf (.requestDoor 1 (.drop 6) [3]) { office with csc.maintenance := true } =
      [(.door (.drop 6), .release), (.chute 6, .lock)] ∧
    commandsOf (.cancelDoor 1 (.drop 6)) (timedOut .released) = [(.door (.drop 6), .engage), (.chute 6, .unlock)] := by
  decide +kernel

theorem test_confirm_premises : (withStrongroom .confirm (some 9) office).csc.strongroom.named = some (1, 3) ∧
    office.credential 3 = some ⟨.custodian, false, 0⟩ ∧ office.credential 2 = some ⟨.supervisor, false, 0⟩ ∧
    (after (.badge .strongroom 3 .ok) (withStrongroom .confirm (some 9) office)).csc.strongroom.state = .released ∧
    (after (.badge .strongroom 2 .ok) (withStrongroom .confirm (some 9) office)).csc.strongroom.state = .confirm ∧
    (after (.badge .strongroom 3 .duress) (withStrongroom .confirm (some 9) office)).csc.strongroom.state = .released ∧
    (after (.badge .strongroom 3 .duress) (withStrongroom .confirm (some 9) office)).ubc.alarm = true := by
  decide +kernel

theorem test_custody_settings : office.presentAs .office 1 [.supervisor] = true ∧
    (takes (.setDoorPolicy 1 ⟨some 0, none, none, some 1, none, none, some 65535⟩ 1) office = true ∧
      office.csc.freeze = false ∧ carriedTimings ⟨some 0, none, none, some 1, none, none, some 65535⟩ ≠ [] ∧
      (after (.setDoorPolicy 1 ⟨some 0, none, none, some 1, none, none, some 65535⟩ 1) office).csc.policy =
        ⟨0, 120, 300, 30, 60, 900, 7200⟩) ∧
    takes (.setMaintenance 1 (some true) 1) office = true ∧
    (takes (.setMaintenance 1 (some true) 1) { office with csc.freeze := true } = true ∧
      lastStatus (after (.setMaintenance 1 (some true) 1) { office with csc.freeze := true }) = some .frozen) ∧
    (takes (.freezeSettings 1 1) office = true ∧ takes (.freezeSettings 1 1) { office with csc.freeze := true } = true) ∧
    takes (.setPanicEdge 1 (some .both) 1) office = true := by decide

theorem test_undeclared_drop : office.operating = true ∧ (allocate office).map Prod.fst = some 1 ∧
    office.tau.postings = [] ∧ (∀ m ∈ tillNumbers, (office.till m).pendingSkims = []) ∧
    ((after (.drop 6 none) office).bag 1).map Bag.flags = some ⟨true, false, false, true⟩ ∧
    ((after (.drop 6 (some 222)) office).bag 1).map Bag.flags = some ⟨false, false, false, true⟩ ∧
    ((after (.drop 6 none) (withSafe 6 .secure none office)).safe 6).count = 1 := by decide +kernel

/-- The office with a pending skim of 20.00 at till 7. -/
def pendingSkim : State := putTill 7 { issuedTill with pendingSkims := [⟨222, 2000, 1⟩] } office

/-- The skim queue after a posting that brings a till under its limit, one that takes it over, a SKIM that attaches a bag of a
TAKINGS_IN till, and a drop of a pending skim. -/
theorem test_skim_queue_postings :
    (after .postingApplication (withPosting 7 .refund none
      (putTill 7 { issuedTill with limit := 10000 } skimming))).tau.skimQueue = [9, 20, 8] ∧
    (after .postingApplication (withPosting 7 .sale none
      (putTill 7 { issuedTill with limit := 10000 } { skimming with tau.skimQueue := [] }))).tau.skimQueue = [7] ∧
    (after .postingApplication (withPosting 7 .skim (some 222)
      (putBag 1 { bagOf 222 .skim .unknown 700 with flags := ⟨false, false, false, true⟩ }
        (putTill 7 { issuedTill with state := .takingsIn } skimming)))).tau.skimQueue = [9, 20, 8] ∧
    (after (.drop 2 (some 222)) { pendingSkim with tau.skimQueue := [7, 20] }).tau.skimQueue = [20] := by decide +kernel

theorem test_declared_drop : pendingSkim.operating = true ∧ (allocate pendingSkim).map Prod.fst = some 1 ∧
    pendingSkim.tau.postings = [] ∧ findPending 222 pendingSkim = some ⟨7, ⟨222, 2000, 1⟩⟩ ∧ 1 ≤ pendingSkim.journalFree ∧
    amountInRange (pendingSkim.acu.accountability + 2000) = true ∧
    (after (.drop 1 (some 222)) pendingSkim).acu.accountability = 103500 := by decide +kernel

/-- The flags of a dropped bag with each result of the tag check. -/
theorem test_drop_flags : dropFlags none office = ⟨true, false, false, false⟩ ∧
    dropFlags (some 222) office = ⟨false, false, false, false⟩ ∧ dropFlags (some 700) office = ⟨true, false, false, false⟩ ∧
    dropFlags (some 203) (withBags 3 office) = ⟨false, true, false, false⟩ ∧
    dropFlags (some 500) office = ⟨false, false, true, false⟩ ∧ dropFlags (some 99) office = ⟨false, false, true, false⟩ := by
  decide +kernel

/-- A DROP whose pending skim finds no room, and one that a queued SKIM posting names. -/
theorem test_skim_search :
    (amountInRange (({ pendingSkim with acu.accountability := 999999999999 } : State).acu.accountability + 2000) = false ∧
      ((after (.drop 1 (some 222)) { pendingSkim with acu.accountability := 999999999999 }).till 7).pendingSkims = [] ∧
      ((after (.drop 1 (some 222)) { pendingSkim with acu.accountability := 999999999999 }).bag 1).map Bag.book = some 0) ∧
    ((withPosting 7 .skim (some 222) tillOut).tau.postings.find? (fun p => decide (p.kind = .skim) && decide (p.tagNo = some 222)) =
        some ⟨7, .skim, 2500, some 222⟩ ∧
      (withPosting 7 .skim (some 222) tillOut).attachable 222 = none ∧
      ((after (.drop 1 (some 222)) (withPosting 7 .skim (some 222) tillOut)).bag 1).map Bag.book = some 2500 ∧
      ((after (.drop 1 (some 222)) (withPosting 7 .skim (some 222) tillOut)).till 7).skims = 2500) := by decide +kernel

/-- With no slot free and nothing retired an allocation fails. -/
theorem allocate_none (s : State) (h : s.lowestFree = none) (r : s.bgr.retired = []) : allocate s = none := by
  unfold allocate
  rw [h]
  simp only [r]

/-- A full table with nothing retired: a DROP is then an overrun. -/
theorem test_overrun_premises : allocate (fullTable []) = none :=
  allocate_none _ (test_allocation_full []) test_allocation_retired.2.1

/-- Drop safe 2 OPEN with a bag in it. -/
def safeOpen : State := putBag 1 { bagOf 222 .skim .unknown 0 with custody := .drop 2 } (withSafe 2 .opened (some 90) office)

theorem test_clear_drop_safe : takes (.clearDropSafe 1 2 3) safeOpen = true ∧
    safeOpen.presentAs .office 3 custodianClass = true ∧ (safeOpen.safe 2).door.state = .opened ∧
    ((after (.clearDropSafe 1 2 3) safeOpen).bag 1).map Bag.custody = some .bench := by decide +kernel

theorem test_lockdown_premises : takes (.lockdown 1) busy = true ∧
    (office.operating = true ∧ selects office.ubc.panicSel .falling = true ∧ selects office.ubc.panicSel .rising = false) ∧
    busy.csc.latch = false ∧ (busy.lane 2).state = .running ∧ (busy.lane 2).holds.lockdown = false ∧
    ((busy.safe 3).chuteLocked = (busy.safe 3).causes.any ∧ ((lockdown .request busy).safe 3).chuteLocked = true) ∧
    (putManifest 1 (visitOf .handover [] [] (some 9)) office).inHandover = some (1, visitOf .handover [] [] (some 9)) ∧
    (closed true).csc.latch = true ∧ (lockdown .request busy).csc.strongroom.state = .secure ∧
    ((lockdown .panic (putManifest 1 (visitOf .handover [] [] (some 9)) office)).manifest 1).map Manifest.state =
      some .aborted := by decide +kernel

/-- The strongroom RELEASED, drop safe 2 in DELAY, safe 6 OPEN, lanes READY, HELD with LOCKDOWN already, RUNNING and IDLE, and
visit 41 in HANDOVER. -/
def atWork : State :=
  putLane 0 (laneOf .ready (some (batchOf 0 100 0)) 0 0 HoldSet.empty)
    (putLane 1 (laneOf .held (some (batchOf 0 100 0)) 0 0 { HoldSet.empty with lockdown := true })
      (putLane 2 (laneOf .running (some (batchOf 3 97 0)) 3 0 HoldSet.empty)
        (putManifest 1 (visitOf .handover [] [] (some 9))
          (withSafe 2 .delay (some 5) (withSafe 6 .opened (some 5)
            { office with csc.strongroom := ⟨.released, some (1, 3), some 5, true, false, false, 0⟩ })))))

/-- R175: what a setting of the latch does to each of those, with its commands and notices; and a renewal. -/
theorem test_lockdown_effects : doorRule atWork = true ∧ atWork.csc.latch = false ∧
    commandsOf (.lockdown 1) atWork = lockdownCommands atWork ∧
    lockdownCommands atWork =
      [(.door .strongroom, .engage), (.chute 1, .lock), (.chute 3, .lock), (.chute 4, .lock), (.chute 5, .lock), (.lane 2, .stop)] ∧
    (after (.lockdown 1) atWork).hpt.notices = lockdownNotices .request atWork ∧
    noticesOf (.lockdown 1) atWork = [.chuteLocked, .chuteLocked, .chuteLocked, .chuteLocked, .lockdownSet, .hold, .hold,
      .manifestClosed] ∧
    ((after (.lockdown 1) atWork).csc.strongroom = Door.initial ∧
      ((after (.lockdown 1) atWork).safe 2).causes = ⟨false, false, false, true, false⟩ ∧
      (after (.lockdown 1) atWork).safe 6 = { atWork.safe 6 with causes := ⟨false, false, false, true, true⟩ }) ∧
    ((after (.lockdown 1) atWork).lane 0).state = .held ∧ (after (.lockdown 1) atWork).lane 1 = atWork.lane 1 ∧
    (after (.lockdown 1) atWork).lane 3 = atWork.lane 3 ∧
    commandsOf (.lockdown 1) (closed true) = [] ∧
    (after (.lockdown 1) (closed true)).hpt.notices = [⟨.lockdownSet, [fNamed 2, fNamed 1, .many []]⟩] := by decide +kernel

/-- R176: a release unlocks the chutes that LOCKDOWN alone locked, then sends LOCKDOWN_CLEARED. -/
theorem test_lockdown_release_effects :
    (let s := { lockdown .request atWork with csc.holdRunning := false }
     takes (.releaseLockdown 1 1 2) s = true ∧ s.chutesToUnlock = [1, 2, 3, 4, 5] ∧
       commandsOf (.releaseLockdown 1 1 2) s = s.chutesToUnlock.map (fun n => (.chute n, .unlock)) ∧
       noticesOf (.releaseLockdown 1 1 2) s = List.replicate 5 .chuteLocked ++ [.lockdownCleared]) ∧
    lastStatus (after (.releaseLockdown 1 1 2) (closed false)) = some .wrongState := by decide +kernel

theorem test_lockdown_release :
    ({ closed true with csc.holdTimer := 0 } : State).csc.holdRunning = true ∧
    ({ closed true with ubc.alarmTimer := some 0 } : State).ubc.alarmTimer = some 0 ∧
    (takes (.releaseLockdown 1 1 2) (closed true) = true ∧ (closed true).presentAs .office 1 [.supervisor] = true ∧
      (closed true).presentAs .office 2 [.supervisor] = true ∧ (closed true).csc.latch = true) ∧
    lastStatus (after (.releaseLockdown 1 1 2) (closed true)) = some .holdRunning ∧
    (after (.releaseLockdown 1 1 2) { closed true with csc.holdRunning := false }).csc.latch = false ∧
    (after .lockdownHoldExpiry { closed true with csc.holdTimer := 0 }).csc.holdRunning = false ∧
    (after .alarmPeriodExpiry { closed false with ubc.alarm := true, ubc.alarmTimer := some 0 }).ubc.alarm = false := by
  decide +kernel

/-! ## Hypotheses met: deposits, manifests and handover -/

theorem test_make_deposit : takes (.makeDeposit 1 300 [⟨0, some 100, some 3, none⟩, ⟨6, none, none, some 400⟩] 3) office = true ∧
    (∀ x ∈ [(⟨0, some 100, some 3, none⟩ : DepositLine), ⟨6, none, none, some 400⟩],
      depositCountsOk x = true ∧ depositLineSuits office x = true ∧ depositLineCovered office x = true) ∧
    tagCheck 300 .deposit office = .ok ∧ 9 ≤ office.journalFree ∧ 8 < office.available ∧
    (allocate (takeFrom office)).map Prod.fst = some 1 ∧
    (after (.makeDeposit 1 300 [⟨0, some 100, some 3, none⟩, ⟨6, none, none, some 400⟩] 3) office).acu.stock =
      [(0, ⟨0, 20, 0, 0⟩)] := by decide +kernel

/-- The office with a DEPOSIT bag 1 at the BENCH. -/
def deposited : State := putBag 1 (bagOf 300 .deposit .office 51500) office

/-- The present time and the end of a visit's window. -/
def visitEnd : ClockTime := ⟨⟨2026, 3, 2⟩, 40000⟩

theorem test_create_manifest :
    takes (.createManifest 1 41 6 ⟨⟨2026, 3, 2⟩, 35000⟩ visitEnd (some 5) [1] [⟨401, some 20000⟩] 1) deposited = true ∧
    deposited.presentAs .office 1 [.supervisor] = true ∧ deposited.acu.clock = some ⟨⟨2026, 3, 2⟩, 36000⟩ ∧
    manifestFieldsOk 41 ⟨⟨2026, 3, 2⟩, 35000⟩ visitEnd ⟨⟨2026, 3, 2⟩, 36000⟩ (some 5) [1] [⟨401, some 20000⟩] = true ∧
    (deposited.credential 6).map Credential.cls = some .courier ∧ (∀ k ∈ manifestNumbers, deposited.manifest k = none) ∧
    depositReady deposited 1 = true ∧ inboundFailure deposited [⟨401, some 20000⟩] [] = none ∧
    deposited.manifestSlot = some 0 ∧
    ((after (.createManifest 1 41 6 ⟨⟨2026, 3, 2⟩, 35000⟩ visitEnd (some 5) [1] [⟨401, some 20000⟩] 1) deposited).manifest 0).map
      Manifest.window = some 300 := by decide +kernel

/-- A free entry behind one that is taken, and no free entry with entry 3 closed first. -/
theorem test_manifest_slot : (putManifest 0 (visitOf .planned [] [] none) office).manifestSlot = some 1 ∧
    ([0, 1, 2, 3].foldl (fun s n => putManifest n (visitOf .cancelled [] [] none) s)
      { office with hoc.closedOrder := [3, 0, 1, 2] }).manifestSlot = some 3 := by decide +kernel

/-- Visit 41 in HANDOVER as entry 2, with bag 1 outbound and tag 401 inbound. -/
def handingOver : State :=
  putManifest 2 (visitOf .handover [⟨1, some 300, false⟩] [⟨401, 20000, none⟩] (some 0)) deposited

theorem test_cancel_manifest : takes (.cancelManifest 1 41 1) handingOver = true ∧
    ((handingOver.manifestsWhere (fun x => x.isOpen && decide (x.visit = 41))).map Prod.fst) = [2] ∧
    ((visitDue.manifestsWhere (fun x => x.isOpen && decide (x.visit = 41))).map Prod.fst) = [3] ∧
    ((after (.cancelManifest 1 41 1) handingOver).manifest 2).map Manifest.state = some .aborted ∧
    ((after (.cancelManifest 1 41 1) visitDue).manifest 3).map Manifest.state = some .cancelled := by decide +kernel

/-- A custodian at HATCH and a PLANNED visit with bag 1 staged. -/
def staged : State :=
  { putManifest 0 (visitOf .planned [⟨1, some 300, false⟩] [] none) deposited with cru.hatch := [⟨3, .custodian, 5⟩] }

/-- Visit 41 in HANDOVER with both of its bags scanned. -/
def scanned : State := putManifest 2 (visitOf .handover [⟨1, some 300, true⟩] [⟨401, 20000, some 2⟩] (some 9)) deposited

/-- The newest notice that an event leaves. -/
def lastNotice (i : Instr) (s : State) : Option Notice := (after i s).hpt.notices.getLast?

/-- R185: each row of the start test: no PLANNED manifest of the courier, no custodian, no window that covers the time, the latch
set, a bag not staged, and a start by the courier's presentation and by the custodian's. -/
theorem test_start_test :
    (staged.operating = true ∧ staged.credential 6 = some ⟨.courier, false, 0⟩ ∧ staged.inHandover = none ∧
      staged.manifestsWhere (fun x => decide (x.state = .planned) && decide (x.courier = 6)) =
        [(0, visitOf .planned [⟨1, some 300, false⟩] [] none)] ∧
      windowCovers ⟨⟨2026, 3, 2⟩, 35000⟩ visitEnd staged = true ∧ (staged.bag 1).map Bag.custody = some .bench) ∧
    (lastNotice (.badge .hatch 6 .ok) office = some ⟨.unexpectedCourier, [fNum 3 6, fNamed 1, fNamed 0]⟩ ∧
      lastNotice (.badge .hatch 3 .ok) { office with cru.hatch := [⟨6, .courier, 5⟩] } = none) ∧
    (lastNotice (.badge .hatch 6 .ok) { staged with cru.hatch := [] } = none ∧
      (presented .hatch 6 ⟨.courier, false, 0⟩ .ok { staged with cru.hatch := [] }).newestAtHatch (fun e => isCustodian e.cls) =
        none ∧
      (after (.badge .hatch 6 .ok) { staged with cru.hatch := [] }).hoc = staged.hoc) ∧
    lastNotice (.badge .hatch 6 .ok) { staged with acu.clock := some ⟨⟨2026, 3, 2⟩, 40001⟩ } =
      some ⟨.unexpectedCourier, [fNum 3 6, fNamed 2, fNamed 1, .many [[.packed 2 41]]]⟩ ∧
    lastNotice (.badge .hatch 6 .ok) { staged with csc.latch := true } =
      some ⟨.unexpectedCourier, [fNum 3 6, fNamed 3, fNamed 1, .many [[.packed 2 41]]]⟩ ∧
    lastNotice (.badge .hatch 6 .ok) (putBag 1 { bagOf 300 .deposit .office 51500 with custody := .strongroom } staged) =
      some ⟨.stagingIncomplete, [fNum 2 41, .many [.packed 2 1 :: placeAtoms .strongroom]]⟩ ∧
    ((after (.badge .hatch 6 .ok) staged).manifest 0).map Manifest.state = some .handover ∧
    (let s := { staged with cru.hatch := [⟨1, .supervisor, 9⟩, ⟨6, .courier, 5⟩] }
     (presented .hatch 3 ⟨.custodian, false, 0⟩ .duress s).newestAtHatch (fun e => isCustodian e.cls) = some ⟨3, .custodian, 60⟩ ∧
       ((after (.badge .hatch 3 .duress) s).manifest 0).bind Manifest.custodian = some 3) ∧
    (lastNotice (.badge .hatch 4 .ok) staged = none ∧
      (after (.badge .hatch 4 .ok) staged).hoc = staged.hoc ∧ lastNotice (.badge .hatch 3 .ok) staged = none ∧
      (after (.badge .hatch 3 .ok) staged).hoc = staged.hoc) := by decide +kernel

/-- R185: of two visits of the courier the one with the earlier window start is chosen, and of two that start together the lower
entry. -/
theorem test_chosen_manifest :
    (let s := putManifest 2 { visitOf .planned [] [] none with visit := 42, opens := ⟨⟨2026, 3, 2⟩, 34999⟩ } staged
     ((after (.badge .hatch 6 .ok) s).manifest 2).map Manifest.state = some .handover ∧
       ((after (.badge .hatch 6 .ok) s).manifest 0).map Manifest.state = some .planned) ∧
    (let s := putManifest 2 { visitOf .planned [] [] none with visit := 42 } staged
     ((after (.badge .hatch 6 .ok) s).manifest 0).map Manifest.state = some .handover) := by decide +kernel

theorem test_handover_premises :
    (handingOver.inHandover.map Prod.fst = some 2 ∧
      ((after (.badge .hatch 6 .ok) handingOver).manifest 2).map Manifest.state = some .short ∧
      ((after (.badge .hatch 6 .ok) scanned).manifest 2).map Manifest.state = some .complete ∧
      lastNotice (.badge .hatch 6 .ok) handingOver = some ⟨.manifestClosed, [fNum 1 2, fNum 2 41, fNamed 4, fNamed 1, fNum 1 0,
        fNum 1 1, fNum 1 0, fNum 1 1, .many [[.packed 2 1]]]⟩) ∧
    ((after (.badge .hatch 3 .ok) handingOver).hoc = handingOver.hoc ∧ lastNotice (.badge .hatch 3 .ok) handingOver = none) ∧
    ((handingOver.inHandover.map (fun x => x.2.timer)) = some (some 0) ∧
      ((after .handoverWindowExpiry handingOver).manifest 2).map Manifest.state = some .expired ∧
      noticesOf .handoverWindowExpiry handingOver = [.manifestClosed] ∧
      (after .handoverWindowExpiry scanned).hoc = scanned.hoc) ∧
    noticesOf (.cancelManifest 1 41 1) handingOver = [.manifestClosed] := by decide +kernel

theorem test_scan_premises : (office.inHandover = none ∧ (unitCommands (after (.hatchScan (some 300)) office)).getLast? = some (.hatch, .reject)) ∧
    (handingOver.bag 1 = some (bagOf 300 .deposit .office 51500) ∧ 1 ≤ handingOver.journalFree ∧
      amountInRange (handingOver.acu.accountability - 51500) = true ∧
      ((after (.hatchScan (some 300)) handingOver).bag 1).map Bag.state = some .despatched) ∧
    (8 < handingOver.available ∧ (allocate handingOver).map Prod.fst = some 2 ∧
      ((after (.hatchScan (some 401)) handingOver).bag 2).map Bag.source = some (.courier 41)) ∧
    (unitCommands (after (.hatchScan none) handingOver)).getLast? = some (.hatch, .reject) ∧
    (unitCommands (after (.hatchScan (some 402)) handingOver)).getLast? = some (.hatch, .reject) := by decide +kernel

/-- The fields of the newest SCAN_REFUSED or DUPLICATE_SCAN, with its kind. -/
def lastScan (s : State) : Option (NoticeKind × List Field) := s.hpt.notices.getLast?.map (fun n => (n.kind, n.fields))

/-- The handover with its journal full. -/
def journalFull : State := { handingOver with acu.journal := List.replicate 256 ⟨1, none, .bagIn, none, none, 0, 0⟩ }

/-- Second scans, and each refusal of an outbound and of an inbound scan. -/
theorem test_refused_scans :
    (lastScan (after (.hatchScan (some 300)) scanned) = some (.duplicateScan, [fNum 4 300, fRef (some 1)]) ∧
      lastScan (after (.hatchScan (some 401)) scanned) = some (.duplicateScan, [fNum 4 401, fRef (some 2)])) ∧
    lastScan (after (.hatchScan (some 300)) (putBag 1 { bagOf 300 .deposit .office 51500 with custody := .strongroom } handingOver)) =
      some (.scanRefused, [fTag (some 300), fRef (some 1), fNamed 1]) ∧
    (journalFull.journalFree = 0 ∧
      lastScan (after (.hatchScan (some 300)) journalFull) = some (.scanRefused, [fTag (some 300), fRef (some 1), fNamed 2]) ∧
      lastScan (after (.hatchScan (some 401)) journalFull) = some (.scanRefused, [fTag (some 401), fRef none, fNamed 2])) ∧
    (amountInRange (-999999999999 - 51500) = false ∧ lastScan (after (.hatchScan (some 300))
      { handingOver with acu.accountability := -999999999999 }) = some (.scanRefused, [fTag (some 300), fRef (some 1), fNamed 4])) ∧
    (amountInRange (999999999999 + 20000) = false ∧ lastScan (after (.hatchScan (some 401))
      { handingOver with acu.accountability := 999999999999 }) = some (.scanRefused, [fTag (some 401), fRef none, fNamed 4])) := by
  decide +kernel

/-- The handover with the bag table full. -/
theorem test_full_scan_premises : ({ handingOver with bgr.bags := (fullTable []).bgr.bags } : State).available = 0 ∧
    ({ handingOver with bgr.bags := (fullTable []).bgr.bags } : State).inHandover.isSome = true := by
  refine ⟨?_, rfl⟩
  have r : handingOver.bgr.retired = [] := rfl
  simp [State.available, r, fullTable, withBags]

/-- 11.7: a field always carried has no presence byte, and one carried only in some cases has one. -/
theorem test_presence_bytes :
    outAtoms (visitOf .planned [] [] none) office ⟨1, some 300, true⟩ =
      [.packed 2 1, .packed 4 300, .byte 1] ++ placeAtoms .inTransit ++ [.byte (codeIn BagState.list .despatched), .byte 0] ∧
    (laneFields Lane.initial office)[8]? = some (.one [.byte 0]) ∧
    (heldBatch.lane 3).batch.isSome = true ∧ (laneFields (heldBatch.lane 3) heldBatch)[8]? = some (.one [.byte 1]) := by
  decide +kernel

/-! ## Hypotheses met: the starts, RESET and the supply -/

theorem test_warm_start_premises : office.sys.storeValid = true ∧ office.sys.powered = true ∧
    (({ office with hpt.restartPending := true } : State).operating = true ∧
      ({ office with hpt.restartPending := true } : State).hpt.restartPending = true) ∧
    handingOver.inHandover.isSome = true ∧ (after .powerStart (timedOut .released)).csc.strongroom.state = .secure ∧
    (heldBatch.countingBags = [1] ∧ (valuing (bagOf 201 .skim .unknown 5000)).countingBags = [1] ∧ office.countingBags = []) ∧
    (after .powerStart handingOver).hpt.sent.getLast? = some (.notice ⟨.manifestClosed,
      closedFields 2 { visitOf .aborted [⟨1, some 300, false⟩] [⟨401, 20000, none⟩] none with cause := some .start }⟩) ∧
    ((after (.lineStart true) heldBatch).bag 1) = some (bagOf 201 .skim .unknown 0) ∧
    (after (.restartStart true) { office with hpt.restartPending := true }).sys.lastCause = .restart := by decide +kernel

theorem test_reset_and_supply : ({ office with sys.storeValid := false } : State).sys.storeValid = false ∧
    office.ubc.addrs.length = 21 ∧ (∀ p < 21, positionSends p .unknown = false) ∧
    ({ office with sys.resetAsserted := true } : State).sys.resetAsserted = true ∧
    (after (.unitRecordDiscarded 5 .unknown false) office).ubc.unitErrors = 1 ∧
    (after (.lossOfSupply true) office).sys.powered = false ∧
    (∀ i ∈ [Instr.messageSend, .jam 2, .postingApplication, .status 1, .lineStart true],
      (after i { busy with sys.powered := false }).hpt = busy.hpt ∧
        (after i { busy with sys.powered := false }).clc = busy.clc) ∧
    (after (.panicEdge .falling) { office with sys.powered := false }).ubc.panicHigh = false ∧
    (after (.jam 0) { office with sys.resetAsserted := true }).ubc.unitErrors = 1 := by decide +kernel

end Sys2Proof.Tests
end

section
/-!
Identical tallies (R8): the comparison runs over the slots and reads the four counts of each, and the valuation of R13 and
R14 reads a tally through the same slots only.
-/

namespace Sys2Proof.Machine

open Sys2Proof

/-- The slots are numbered 0 to 7. -/
theorem mem_slotNumbers_iff (i : Nat) : i ∈ slotNumbers ↔ i ≤ 7 := by
  simp only [slotNumbers, List.mem_cons, List.not_mem_nil, or_false]
  omega

/-- R6: the four counts are all a slot of a tally holds. -/
theorem slotCount_eq_iff (c d : SlotCount) :
    c = d ↔ c.fit = d.fit ∧ c.unfit = d.unfit ∧ c.suspect = d.suspect ∧ c.coin = d.coin := by
  cases c
  cases d
  simp only [SlotCount.mk.injEq]

theorem identicalTallies_iff_slots_eq (a b : Tally) :
    identicalTallies a b = true ↔ ∀ i ∈ slotNumbers, tallySlot a i = tallySlot b i := by
  simp only [identicalTallies, List.all_eq_true, decide_eq_true_eq]

/-- R13, R14: nothing of a tally but its slots enters the counted value. -/
theorem valueTally_eq_of_slots_eq {a b : Tally} (same : ∀ i ∈ slotNumbers, tallySlot a i = tallySlot b i) (s : State) :
    valueTally a s = valueTally b s := by
  have terms : slotNumbers.map (fun i => (s.denom i, tallySlot a i)) = slotNumbers.map (fun i => (s.denom i, tallySlot b i)) :=
    List.map_congr_left (fun i hi => by rw [same i hi])
  rw [valueTally, valueTally, terms]

end Sys2Proof.Machine

namespace Sys2Proof.Proofs.Tallies

open Sys2Proof Sys2Proof.Machine

/-- Settles O15: the comparison is equality slot by slot, which is equality of the four counts and fixes what the valuation
reads. -/
theorem identicalTallies : Obligations.IdenticalTallies := by
  unfold Obligations.IdenticalTallies
  intro a b
  constructor
  · simp only [identicalTallies_iff_slots_eq, mem_slotNumbers_iff, slotCount_eq_iff]
  · intro identical s
    exact valueTally_eq_of_slots_eq ((identicalTallies_iff_slots_eq a b).mp identical) s

end Sys2Proof.Proofs.Tallies
end

section
/-!
The outcome of a completed valuation (R136, R137): one equation for each way through the table, and the recount number after
a recount whose tally differs.
-/

namespace Sys2Proof.Machine

open Sys2Proof

section Outcome

variable {b : Bag} {t old : Tally} {cls : Classification} {late fired : Bool}

/-- R136: a recount is compared with the latest tally, unless it is RANGE. -/
theorem identicalRecount_of_tally (counted : cls ≠ .range) (recount : b.tally = some old) :
    identicalRecount b t cls = identicalTallies old t := by
  simp only [identicalRecount, recount, counted, ne_eq, not_false_eq_true, decide_true, Bool.true_and]

/-- R136: a recount that differs raises the recount number, which stays 2 once it is 2. -/
theorem recountAfter_of_differs (counted : cls ≠ .range) (recount : b.tally = some old)
    (differs : identicalTallies old t = false) : recountAfter b t cls = min 2 (b.recount + 1) := by
  have notIdentical : identicalRecount b t cls = false := (identicalRecount_of_tally counted recount).trans differs
  simp [recountAfter, counted, recount, notIdentical]

/-- R137 row 6: the recount number is now 2 exactly when an earlier recount had already differed. -/
theorem recountAfter_eq_two_iff_of_differs (counted : cls ≠ .range) (recount : b.tally = some old)
    (differs : identicalTallies old t = false) : recountAfter b t cls = 2 ↔ 1 ≤ b.recount := by
  rw [recountAfter_of_differs counted recount differs]
  omega

/-- R137 row 1. -/
theorem outcomeOf_range : outcomeOf b t .range late fired = .disputed := by
  rw [outcomeOf, if_pos rfl]

/-- R137 row 2. -/
theorem outcomeOf_of_late_or_fired (counted : cls ≠ .range) (cause : late = true ∨ fired = true) :
    outcomeOf b t cls late fired = .quarantined := by
  rw [outcomeOf, if_neg counted, if_pos (by simpa using cause)]

/-- R137 rows 3 and 4. -/
theorem outcomeOf_firstCount (counted : cls ≠ .range) (first : b.tally = none) :
    outcomeOf b t cls false false = if cls = .exact ∨ cls = .within then .confirmed else .quarantined := by
  rw [outcomeOf, if_neg counted, if_neg (by decide), if_pos first]

/-- R137 rows 5 to 7: the rows of a recount, over the comparison of R8 and the recount number after R136. -/
theorem outcomeOf_recount (counted : cls ≠ .range) (recount : b.tally = some old) :
    outcomeOf b t cls false false =
      if identicalTallies old t then .confirmed else if recountAfter b t cls = 2 then .disputed else .quarantined := by
  have notFirst : b.tally ≠ none := by simp [recount]
  rw [outcomeOf, if_neg counted, if_neg (by decide), if_neg notFirst, identicalRecount_of_tally counted recount]

/-- R137 row 5. -/
theorem outcomeOf_recount_identical (counted : cls ≠ .range) (recount : b.tally = some old)
    (identical : identicalTallies old t = true) : outcomeOf b t cls false false = .confirmed := by
  rw [outcomeOf_recount counted recount, if_pos identical]

/-- R137 rows 6 and 7: a recount that differs, by the recount number the bag came with. -/
theorem outcomeOf_recount_differs (counted : cls ≠ .range) (recount : b.tally = some old)
    (differs : identicalTallies old t = false) :
    outcomeOf b t cls false false = if 1 ≤ b.recount then .disputed else .quarantined := by
  simp only [outcomeOf_recount counted recount, differs, Bool.false_eq_true, if_false,
    recountAfter_eq_two_iff_of_differs counted recount differs]

end Outcome

end Sys2Proof.Machine

namespace Sys2Proof.Proofs.Outcomes

open Sys2Proof Sys2Proof.Machine

/-- Settles O44: row by row, with a row's negated conditions as the premises of the rows after it. -/
theorem outcomeTable : Obligations.OutcomeTable := by
  unfold Obligations.OutcomeTable
  intro b y c late fired
  refine ⟨?range, ?lateOrFired, ?firstCount, ?recount⟩
  case range =>
    rintro rfl
    exact outcomeOf_range
  case lateOrFired => exact outcomeOf_of_late_or_fired
  case firstCount =>
    rintro counted rfl rfl first
    exact outcomeOf_firstCount counted first
  case recount =>
    rintro counted rfl rfl old recount
    refine ⟨outcomeOf_recount_identical counted recount, fun differs fresh => ?_, fun differs raised => ?_⟩
    · rw [outcomeOf_recount_differs counted recount differs, if_neg (by omega)]
    · rw [outcomeOf_recount_differs counted recount differs, if_pos raised]

end Sys2Proof.Proofs.Outcomes
end

section
/-!
What a command can do to the part, said once: `requestOf` lists the requests, `Accepted` the change that each accepted request
makes, `Happens` that of every other command, and `step_keeps` carries a rule through a step.
-/

namespace Sys2Proof.Machine

open Sys2Proof

set_option Elab.async false

/-! ## The requests -/

/-- A request command as `hostRequest` takes it. -/
structure RequestForm where
  tag  : Nat
  kind : ReqKind
  body : State → Check Answered

/-- 11.3: the requests among the commands. -/
def requestOf : Instr → Option RequestForm
  | .setNotices tag g e => some ⟨tag, .setNotices, setNotices g e⟩
  | .status tag => some ⟨tag, .status, status⟩
  | .restart tag cred => some ⟨tag, .restart, restart cred⟩
  | .setClock tag d x cred => some ⟨tag, .setClock, setClock d x cred⟩
  | .setDenominations tag l cred => some ⟨tag, .setDenominations, setDenominations l cred⟩
  | .setBand tag f r cred => some ⟨tag, .setBand, setBand f r cred⟩
  | .openDay tag d l cred => some ⟨tag, .openDay, openDay d l cred⟩
  | .closeDay tag l cred => some ⟨tag, .closeDay, closeDay l cred⟩
  | .openOffice tag cred => some ⟨tag, .openOffice, openOffice cred⟩
  | .closeOffice tag cred => some ⟨tag, .closeOffice, closeOffice cred⟩
  | .takeJournal tag k => some ⟨tag, .takeJournal, takeJournal k⟩
  | .queryStock tag => some ⟨tag, .queryStock, queryStock⟩
  | .enrol tag n k cred => some ⟨tag, .enrol, enrol n k cred⟩
  | .revoke tag n cred => some ⟨tag, .revoke, revoke n cred⟩
  | .reinstate tag n cred => some ⟨tag, .reinstate, reinstate n cred⟩
  | .setPresenceLifetime tag x cred => some ⟨tag, .setPresenceLifetime, setPresenceLifetime x cred⟩
  | .setTagRange tag i on a b p cred => some ⟨tag, .setTagRange, setTagRange i on a b p cred⟩
  | .moveBag tag r d cred => some ⟨tag, .moveBag, moveBag r d cred⟩
  | .queryBag tag r g part => some ⟨tag, .queryBag, queryBag r g part⟩
  | .setTill tag n l cred => some ⟨tag, .setTill, setTill n l cred⟩
  | .setTemplate tag n l cred => some ⟨tag, .setTemplate, setTemplate n l cred⟩
  | .makeFloat tag n m g cred => some ⟨tag, .makeFloat, makeFloat n m g cred⟩
  | .unmakeFloat tag n cred => some ⟨tag, .unmakeFloat, unmakeFloat n cred⟩
  | .issueFloat tag n a b => some ⟨tag, .issueFloat, issueFloat n a b⟩
  | .receiveTakings tag n g v a b => some ⟨tag, .receiveTakings, receiveTakings n g v a b⟩
  | .post tag n k v g => some ⟨tag, .post, postEntry n k v g⟩
  | .releaseTill tag n cred => some ⟨tag, .releaseTill, releaseTill n cred⟩
  | .queryTill tag n => some ⟨tag, .queryTill, queryTill n⟩
  | .loadLane tag n r u cred => some ⟨tag, .loadLane, loadLane n r u cred⟩
  | .start tag n cred => some ⟨tag, .start, startLane n cred⟩
  | .stop tag n => some ⟨tag, .stop, stopLane n⟩
  | .resume tag n cred => some ⟨tag, .resume, resumeLane n cred⟩
  | .closeBatch tag n c cred => some ⟨tag, .closeBatch, closeBatch n c cred⟩
  | .abortBatch tag n cred => some ⟨tag, .abortBatch, abortBatch n cred⟩
  | .clearFault tag n cred => some ⟨tag, .clearFault, clearFault n cred⟩
  | .queryLane tag n part => some ⟨tag, .queryLane, queryLane n part⟩
  | .countManual tag r y cred => some ⟨tag, .countManual, countManual r y cred⟩
  | .resolveDispute tag r k y a b => some ⟨tag, .resolveDispute, resolveDispute r k y a b⟩
  | .mergeBag tag r cred => some ⟨tag, .mergeBag, mergeBag r cred⟩
  | .setWatch tag n on cred x y same act => some ⟨tag, .setWatch, setWatch n on cred x y same act⟩
  | .rearm tag n cred => some ⟨tag, .rearm, rearmWatch n cred⟩
  | .auditHold tag cred => some ⟨tag, .auditHold, setAuditHold cred⟩
  | .auditRelease tag cred => some ⟨tag, .auditRelease, clearAuditHold cred⟩
  | .queryWatch tag n part => some ⟨tag, .queryWatch, queryWatch n part⟩
  | .requestDoor tag d creds => some ⟨tag, .requestDoor, requestDoor d creds⟩
  | .cancelDoor tag d => some ⟨tag, .cancelDoor, cancelDoor d⟩
  | .setDoorPolicy tag p cred => some ⟨tag, .setDoorPolicy, setDoorPolicy p cred⟩
  | .setMaintenance tag c cred => some ⟨tag, .setMaintenance, setMaintenance c cred⟩
  | .freezeSettings tag cred => some ⟨tag, .freezeSettings, freezeSettings cred⟩
  | .clearDropSafe tag n cred => some ⟨tag, .clearDropSafe, clearDropSafe n cred⟩
  | .lockdown tag => some ⟨tag, .lockdown, requestLockdown⟩
  | .releaseLockdown tag a b => some ⟨tag, .releaseLockdown, releaseLockdown a b⟩
  | .setPanicEdge tag c cred => some ⟨tag, .setPanicEdge, setPanicEdge c cred⟩
  | .makeDeposit tag g l cred => some ⟨tag, .makeDeposit, makeDeposit g l cred⟩
  | .createManifest tag v k o c w out inb cred => some ⟨tag, .createManifest, createManifest v k o c w out inb cred⟩
  | .cancelManifest tag v cred => some ⟨tag, .cancelManifest, cancelManifest v cred⟩
  | .queryManifest tag n part => some ⟨tag, .queryManifest, queryManifest n part⟩
  | _ => none

theorem exec_of_requestOf (i : Instr) (q : RequestForm) (s : State) (h : requestOf i = some q) :
    exec i s = hostRequest i q.tag q.kind q.body s := by
  cases i <;> simp only [requestOf, Option.some.injEq, reduceCtorEq] at h <;> subst h <;> rfl

/-! ## What an accepted request does -/

/-- R60: the state that OPEN_DAY leaves. -/
def dayOpened (date : Date) (lines : List StockLine) (s : State) : State :=
  { applyMovement (openingMovement lines s) s with acu.day := .dayOpen, acu.businessDate := some date }

/-- R62: the records of the accounts and of the tills over the close of a day. -/
def dayFigures (handOuts : List SlotLine) (s : State) : State :=
  { s with
    acu.courier := ⟨0, false⟩, acu.unattributed := ⟨0, false⟩, acu.day := .dayClosed
    acu.suspects := handOuts.foldl handOut s.acu.suspects
    tau.tills := Table.update Till.initial Till.closeDay tillNumbers s.tau.tills }

/-- R62: the state that CLOSE_DAY leaves. -/
def dayClosedState (handOuts : List SlotLine) (s : State) : State :=
  applyMovement (entriesOnly .host [⟨.dayClose, none, none, 0, 0⟩]) (freeRetired (dayFigures handOuts s))

/-- R83: the session that a float made for a till begins. -/
def floatSession (t : Till) : Nat := if t.state = .reconciled then t.session + 1 else t.session

/-- R83: the till that MAKE_FLOAT leaves, with float bag `r`. -/
def floatTill (r : Nat) (lines : List SlotLine) (t : Till) : Till :=
  { t with state := .floatReady, before := some t.state, floatBag := some r, floatLines := lines, session := floatSession t }

/-- R83: the movement of MAKE_FLOAT. -/
def floatMovement (n r : Nat) (lines : List SlotLine) (taken : List (StockChange × Nat)) (s : State) : Movement :=
  ⟨.host, taken.map Prod.fst, none, [], [⟨.stockToBag, some r, some n, linesValue lines s, 0⟩]⟩

/-- R83: the state that MAKE_FLOAT leaves; `s1` is the state after the allocation of `r`. -/
def floatMade (n r tagNo : Nat) (lines : List SlotLine) (taken : List (StockChange × Nat)) (s s1 : State) : State :=
  putTill n (floatTill r lines (s.till n))
    (applyMovement (floatMovement n r lines taken s)
      (recordBag r (newBag tagNo .float (.till n (floatSession (s.till n))) none (linesValue lines s) none) s1))

/-- R84: the till that UNMAKE_FLOAT leaves. -/
def unmadeTill (t : Till) : Till :=
  { t with
    state := t.before.getD .idle, before := none, floatBag := none, floatLines := []
    session := if t.before = some .reconciled then t.session - 1 else t.session }

/-- R84: the movement of UNMAKE_FLOAT. -/
def unmakeMovement (n r : Nat) (b : Bag) (s : State) : Movement :=
  ⟨.host, (s.till n).floatLines.map (giveLine s), none, [], [⟨.unmake, some r, some n, b.book, 0⟩]⟩

/-- R85: the movement of ISSUE_FLOAT. -/
def issueMovement (n r : Nat) (b : Bag) : Movement := entriesOnly .host [⟨.bagOut, some r, some n, -b.book, -b.book⟩]

/-- R86: the state that RECEIVE_TAKINGS leaves; `s1` is the state after the allocation of `r`. -/
def takingsReceived (n r tagNo cashier : Nat) (v : Int) (s s1 : State) : State :=
  clearOverLimit n (putTill n { s.till n with state := .takingsIn, outstanding := (s.till n).outstanding + 1 }
    (applyMovement (entriesOnly .host [⟨.bagIn, some r, some n, v, v⟩])
      (recordBag r (newBag tagNo .takings (.till n (s.till n).session) (some cashier) v (some v)) s1)))

/-- R106, R107: the lane that a LOAD_LANE leaves on a lane that is not IDLE: its batch joins the stack. -/
def pushedLane (ref : Nat) (s : State) (l : Lane) : Lane :=
  { l with
    state := .ready, batch := some (newBatch ref true s)
    stack := (l.batch.map (fun x => (⟨x, l.holds⟩ : Suspended))).toList ++ l.stack, holds := HoldSet.empty }

/-- R118: the lane that a CLOSE_BATCH leaves. -/
def closingLane (coins : Option (Table Nat)) (l : Lane) : Lane :=
  { l with
    state := .closing
    batch := l.batch.map (fun x => { x with tally := withCoins x.tally (coins.getD []), queued := true })
    holds := { l.holds with operator := false, watch := false, lockdown := false } }

/-- R171: the state that CLEAR_DROP_SAFE leaves. -/
def safeCleared (n : Nat) (s : State) : State :=
  let s1 := (s.refsWhere (fun b => b.state.live && decide (b.custody = .drop n))).foldl benchBag s
  setChuteCause n .full false (putSafe n { s1.safe n with count := 0 } s1)

/-- R181: the movement of MAKE_DEPOSIT. -/
def depositMovement (r : Nat) (lines : List DepositLine) (s : State) : Movement :=
  ⟨.host, lines.map depositChange, none, [], [⟨.stockToBag, some r, none, depositValue lines s, 0⟩]⟩

/-- R183: the manifest that CREATE_MANIFEST writes. -/
def newManifest (visit courier : Nat) (opens closes : ClockTime) (window : Option Nat) (outbound : List Nat)
    (inbound : List InboundArg) (s : State) : Manifest :=
  ⟨visit, courier, opens, closes, heldWindow window, outItems outbound s, inItems inbound, .planned, none, none, none⟩

/-- R183: the state with a new manifest at entry `n`, which is no longer a closed one. -/
def manifestCreated (n : Nat) (m : Manifest) (s : State) : State :=
  { putManifest n m s with hoc.closedOrder := s.hoc.closedOrder.filter (fun k => decide (k ≠ n)) }

/-- The change of the state that an accepted request makes, with what its checks have found. -/
inductive Accepted (s : State) : State → Prop where
  | queried : Accepted s s
  | notices (g : Bool) (e : NoticeEnables) : Accepted s { s with hpt.globalEnable := g, hpt.classEnables := e }
  | status : Accepted s { s with hpt.overflow := false, hpt.dropped := 0, ubc.unitErrors := 0 }
  | restart : Accepted s { s with hpt.restartPending := true }
  | clock (c : ClockTime) : Accepted s { s with acu.clock := some c }
  | denominations (entries : List DenomEntry) (idle : s.countsPending = false) (entriesOk : entries.all denomEntryOk = true)
      (once : distinct (entries.map DenomEntry.slot) = true) (free : firstFailing (rewriteOk s) entries = none) :
      Accepted s { s with
        acu.denoms := entries.foldl (fun t e => Table.set Denom.unused t e.slot (entryDenom e)) s.acu.denoms }
  | band (v : Int) (k : Nat) : Accepted s { s with acu.bandFloor := v, acu.bandRate := k }
  | dayOpened (date : Date) (lines : List StockLine) (day : s.acu.day ≠ .dayOpen)
      (linesOk : openDayFieldsOk date lines s = true) (opening : requireOpening lines s = .ok ()) :
      Accepted s (dayOpened date lines s)
  | dayClosed (handOuts : List SlotLine) (room : s.hasRoom .host 1 = true)
      (outs : handOutsOk handOuts s = true) : Accepted s (dayClosedState handOuts s)
  | officeOpened (latch : s.csc.latch = false) : Accepted s (lanesOn { s with acu.mode := .opened })
  | officeClosed : Accepted s (lanesOff { s with acu.mode := .afterHours })
  | journalTaken (k : Nat) : Accepted s (syncJournal { s with acu.journal := s.acu.journal.drop k })
  | enrolled (n : Nat) (k : CredClass) (room : s.credentialCount < 96) : Accepted s (putCredential n (some ⟨k, false, 0⟩) s)
  | revoked (n : Nat) : Accepted s (leaveReaders n (putCredential n none s))
  | reinstated (n : Nat) (c : Credential) (listed : s.credential n = some c) :
      Accepted s (putCredential n (some ⟨c.cls, false, 0⟩) s)
  | lifetime (k : Nat) : Accepted s { s with cru.lifetime := k }
  | range (i : Nat) (e : TagRange) : Accepted s (putRange i e s)
  | bagMoved (r : Nat) (b : Bag) (d : MoveDest) (found : s.bag r = some b) (still : b.state ≠ .counting) :
      Accepted s (putBag r { b with custody := destPlace d } s)
  | limit (n : Nat) (v : Int) : Accepted s (overLimitTest n (putTill n { s.till n with limit := v } s))
  | template (n : Nat) (lines : List SlotLine) (slots : ∀ l ∈ lines, l.slot ≤ 7)
      (once : distinct (lines.map SlotLine.slot) = true) :
      Accepted s { s with tau.templates := Table.set [] s.tau.templates n lines }
  | floatMade (n m r tagNo : Nat) (taken : List (StockChange × Nat)) (s1 : State) (till : validTill n = true)
      (state : (s.till n).state = .idle ∨ (s.till n).state = .reconciled)
      (room : s.hasRoom .host 1 = true) (lines : takeLines (s.template m) s = .ok taken)
      (slot : allocate s = some (r, s1)) (space : s.canAllocate = true) :
      Accepted s (floatMade n r tagNo (s.template m) taken s s1)
  | floatUnmade (n r : Nat) (b : Bag) (till : validTill n = true) (state : (s.till n).state = .floatReady)
      (bag : s.floatBag n = some (r, b)) (room : s.hasRoom .host 1 = true)
      (fits : stockCheck (unmakeMovement n r b s) s = none) :
      Accepted s (putTill n (unmadeTill (s.till n))
        (retireBag r { b with state := .emptied } (applyMovement (unmakeMovement n r b s) s)))
  | floatIssued (n r cashier : Nat) (b : Bag) (till : validTill n = true) (state : (s.till n).state = .floatReady)
      (bag : s.floatBag n = some (r, b)) (room : s.hasRoom .host 1 = true) :
      Accepted s (overLimitTest n (putTill n ((s.till n).issue cashier b.book)
        (retireBag r { b with state := .issued, custody := .till n } (applyMovement (issueMovement n r b) s))))
  | takings (n r tagNo cashier : Nat) (v : Int) (s1 : State) (till : validTill n = true)
      (state : (s.till n).state = .issued) (room : s.hasRoom .host 1 = true)
      (slot : allocate s = some (r, s1)) (space : s.canAllocate = true) :
      Accepted s (takingsReceived n r tagNo cashier v s s1)
  | posted (p : Posting) (till : validTill p.till = true) (room : s.tau.postings.length < 64) :
      Accepted s { s with tau.postings := s.tau.postings ++ [p] }
  | tillReleased (n : Nat) : Accepted s (putTill n { s.till n with hold := false } s)
  | snooped (n : Nat) : Accepted s (snoopTill n s)
  | laneLoaded (n ref : Nat) (urgent : Bool) (b : Bag) (lane : n ≤ 3) (found : s.bag ref = some b)
      (state : b.state = .intact ∨ b.state = .quarantined) (custody : b.custody = .bench)
      (purpose : b.purpose = .takings ∨ b.purpose = .skim ∨ b.purpose = .changeIn)
      (idle : (s.lane n).state = .idle) :
      Accepted s (putLane n { s.lane n with state := .ready, batch := some (newBatch ref urgent s), holds := HoldSet.empty }
        (bagToLane n ref b s))
  | lanePushed (n ref : Nat) (b : Bag) (lane : n ≤ 3) (found : s.bag ref = some b)
      (state : b.state = .intact ∨ b.state = .quarantined) (custody : b.custody = .bench)
      (purpose : b.purpose = .takings ∨ b.purpose = .skim ∨ b.purpose = .changeIn)
      (atWork : (s.lane n).state = .ready ∨ (s.lane n).state = .held) :
      Accepted s (putLane n (pushedLane ref s (s.lane n)) (bagToLane n ref b s))
  | laneStarted (n : Nat) (lane : n ≤ 3) (ready : (s.lane n).state = .ready) (latch : s.csc.latch = false) :
      Accepted s (command (.lane n) .run (putLane n { s.lane n with state := .running } s))
  | laneStopped (n : Nat) (lane : n ≤ 3) (atWork : (s.lane n).state = .running ∨ (s.lane n).state = .held) :
      Accepted s (addHold n .operator s)
  | laneResumed (n : Nat) (lane : n ≤ 3) (held : (s.lane n).state = .held) :
      Accepted s (putLane n (settleHeld { s.lane n with holds := resumedHolds (s.lane n).holds s.csc.latch }) s)
  | batchClosed (n : Nat) (coins : Option (Table Nat)) (lane : n ≤ 3)
      (atWork : (s.lane n).state = .ready ∨ (s.lane n).state = .held) (queue : s.rcu.queue.length < 6)
      (room : s.hasRoom .host 3 = true) :
      Accepted s (makeReservation (putLane n (closingLane coins (s.lane n)) { s with rcu.queue := s.rcu.queue ++ [.lane n] }))
  | batchAborted (n : Nat) (lane : n ≤ 3) (atWork : (s.lane n).state = .ready ∨ (s.lane n).state = .held) :
      Accepted s (putLane n (popOrIdle (s.lane n)) (returnBag (((s.lane n).batch.map Batch.ref).getD 0) s))
  | faultCleared (n : Nat) (lane : n ≤ 3) (faulty : (s.lane n).state = .fault ∨ (s.lane n).state = .faultLocked)
      (free : ((s.lane n).batch.map Batch.queued).getD false = false) : Accepted s (putLane n (clearedLane (s.lane n)) s)
  | countQueued (ref : Nat) (b : Bag) (tally : Tally) (found : s.bag ref = some b)
      (purpose : countedPurpose b.purpose = true) (state : b.state = .intact ∨ b.state = .quarantined)
      (queue : s.rcu.queue.length < 6) (room : s.hasRoom .host 3 = true) :
      Accepted s (makeReservation (putBag ref { b with state := .counting }
        { s with rcu.queue := s.rcu.queue ++ [.manual ref tally] }))
  | disputeSettled (ref : Nat) (b : Bag) (t : Tally) (found : s.bag ref = some b) (disputed : b.state = .disputed)
      (day : s.acu.day = .dayOpen) : Accepted s (settleDispute ref b t (snoopFor b s)).state
  | merged (ref : Nat) (b : Bag) (found : s.bag ref = some b) (confirmed : b.state = .confirmed)
      (fits : checkMovement (mergeMovement ref b s) s = none) :
      Accepted s (retireBag ref { b with state := .emptied } (applyMovement (mergeMovement ref b s) s))
  | watchWritten (n : Nat) (e : WatchEntry) : Accepted s (putWatch n e s)
  | auditHold (on : Bool) : Accepted s { s with wcu.auditHold := on }
  | doorRequested (d : DoorName) (creds : List Nat) (a : Answered) (granted : requestDoor d creds s = .ok a) :
      Accepted s a.state
  | doorCancelled (d : DoorName) (door : validDoor d = true)
      (moving : (s.door d).state = .delay ∨ (s.door d).state = .confirm ∨ (s.door d).state = .released) :
      Accepted s (secureDoor d s)
  | policy (p : DoorPolicy) : Accepted s { s with csc.policy := p }
  | maintenance (on : Bool) (thawed : s.csc.freeze = false) : Accepted s { s with csc.maintenance := on }
  | frozen : Accepted s { s with csc.freeze := true, csc.maintenance := false }
  | safeCleared (n : Nat) (safe : validSafe n = true) : Accepted s (safeCleared n s)
  | lockdown : Accepted s (lockdown .request s)
  | lockdownReleased (fields : List Field) (latch : s.csc.latch = true) (ended : s.csc.holdRunning = false) :
      Accepted s (settleAlarm (notify .lockdownCleared fields
        (setChuteCauseAll .lockdown false { s with csc.latch := false })))
  | panicSelect (e : EdgeSelect) : Accepted s { s with ubc.panicSel := e }
  | deposited (r tagNo : Nat) (lines : List DepositLine) (s1 : State)
      (lineSlots : ∀ l ∈ lines, l.slot ≤ 7) (once : distinct (lines.map DepositLine.slot) = true)
      (suits : firstFailing (depositLineSuits s) lines = none)
      (covered : lines.find? (fun l => !depositLineCovered s l) = none) (room : s.hasRoom .host 1 = true)
      (slot : allocate s = some (r, s1)) (space : s.canAllocate = true) :
      Accepted s (applyMovement (depositMovement r lines s)
        (recordBag r (newBag tagNo .deposit .office none (depositValue lines s) none) s1))
  | manifestCreated (n visit courier : Nat) (opens closes : ClockTime) (window : Option Nat) (outbound : List Nat)
      (inbound : List InboundArg) (once : distinct outbound = true)
      (ready : firstFailing (depositReady s) outbound = none) (entry : s.manifestSlot = some n) :
      Accepted s (manifestCreated n (newManifest visit courier opens closes window outbound inbound s) s)
  | manifestCancelled (n : Nat) (m : Manifest) (st : ManifestState) (st' : st = .aborted ∨ st = .cancelled)
      (found : (n, m) ∈ s.manifestsWhere Manifest.isOpen) : Accepted s (closeManifest n m st .host s)

/-! ## Each request's checks -/

section Checks

variable {s : State} {a : Answered}

theorem bind_unit_ok_iff {β : Type} (c : Check Unit) (f : Unit → Check β) (b : β) :
    (c >>= f) = .ok b ↔ c = .ok () ∧ f () = .ok b := by
  rw [bind_ok_iff]
  exact ⟨fun ⟨_, hc, hf⟩ => ⟨hc, hf⟩, fun ⟨hc, hf⟩ => ⟨(), hc, hf⟩⟩

/-- A chain of checks that succeeds has passed its first one, and succeeds from there. -/
theorem check_of_bind {f : Unit → Check Answered} {c : Check Unit} (h : (c >>= f) = .ok a) :
    c = .ok () ∧ f () = .ok a := (bind_unit_ok_iff c f a).mp h

theorem require_of_bind {p : Bool} {st : Status} {l : List Field} {f : Unit → Check Answered}
    (h : (require p st l >>= f) = .ok a) : p = true ∧ f () = .ok a := by
  simpa only [bind_unit_ok_iff, require_ok_iff] using h

theorem requireSome_of_bind {α : Type} {x : Option α} {st : Status} {l : List Field} {f : α → Check Answered}
    (h : (requireSome x st l >>= f) = .ok a) : ∃ v, x = some v ∧ f v = .ok a := by
  simpa only [bind_ok_iff, requireSome_ok_iff] using h

theorem bind_some_ok_iff {α β : Type} (x : Option α) (st : Status) (l : List Field) (f : α → Check β) (b : β) :
    (requireSome x st l >>= f) = .ok b ↔ ∃ v, x = some v ∧ f v = .ok b := by
  simp only [bind_ok_iff, requireSome_ok_iff]

set_option linter.unusedSimpArgs false

theorem setNotices_accepted {g e} (h : setNotices g e s = .ok a) : Accepted s a.state := by
  obtain rfl := Except.ok.inj h
  dsimp only
  exact .notices g e

theorem status_accepted (h : status s = .ok a) : Accepted s a.state := by
  obtain rfl := Except.ok.inj h
  dsimp only
  exact .status

theorem restart_accepted {cred} (h : restart cred s = .ok a) : Accepted s a.state := by
  simp only [restart, bind_unit_ok_iff, answerOk_eq, Except.ok.injEq] at h
  obtain ⟨-, rfl⟩ := h
  dsimp only
  exact .restart

theorem setClock_accepted {d x cred} (h : setClock d x cred s = .ok a) : Accepted s a.state := by
  simp only [setClock, bind_unit_ok_iff, require_ok_iff, answerOk_eq, Except.ok.injEq] at h
  obtain ⟨-, -, rfl⟩ := h
  dsimp only
  exact .clock _

theorem setDenominations_accepted {l cred} (h : setDenominations l cred s = .ok a) : Accepted s a.state := by
  obtain ⟨-, h⟩ := check_of_bind h
  obtain ⟨-, h⟩ := require_of_bind h
  obtain ⟨-, h⟩ := require_of_bind h
  obtain ⟨idle, h⟩ := require_of_bind h
  obtain ⟨entries, h⟩ := require_of_bind h
  obtain ⟨held, h⟩ := require_of_bind h
  obtain rfl := Except.ok.inj h
  dsimp only
  simp only [Bool.and_eq_true] at entries
  obtain ⟨⟨⟨-, -⟩, ok⟩, once⟩ := entries
  exact .denominations l (by simpa using idle) ok once (Option.isNone_iff_eq_none.mp held)

theorem setBand_accepted {f r cred} (h : setBand f r cred s = .ok a) : Accepted s a.state := by
  simp only [setBand, bind_unit_ok_iff, bind_some_ok_iff, require_ok_iff, answerOk_eq, Except.ok.injEq] at h
  obtain ⟨-, -, v, -, -, rfl⟩ := h
  dsimp only
  exact .band _ _

theorem openDay_accepted {d l cred} (h : openDay d l cred s = .ok a) : Accepted s a.state := by
  obtain ⟨-, h⟩ := check_of_bind h
  obtain ⟨-, h⟩ := require_of_bind h
  obtain ⟨day, h⟩ := require_of_bind h
  obtain ⟨lines, h⟩ := require_of_bind h
  obtain ⟨-, h⟩ := require_of_bind h
  obtain ⟨opening, h⟩ := check_of_bind h
  obtain rfl := Except.ok.inj h
  dsimp only
  exact .dayOpened d l (of_decide_eq_true day) lines opening

theorem closeDay_accepted {l cred} (h : closeDay l cred s = .ok a) : Accepted s a.state := by
  obtain ⟨-, h⟩ := check_of_bind h
  obtain ⟨-, h⟩ := require_of_bind h
  obtain ⟨outs, h⟩ := require_of_bind h
  obtain ⟨-, h⟩ := require_of_bind h
  obtain ⟨-, h⟩ := require_of_bind h
  obtain ⟨-, h⟩ := require_of_bind h
  obtain ⟨room, h⟩ := require_of_bind h
  obtain rfl := Except.ok.inj h
  dsimp only
  exact .dayClosed l room outs

theorem openOffice_accepted {cred} (h : openOffice cred s = .ok a) : Accepted s a.state := by
  simp only [openOffice, bind_unit_ok_iff, require_ok_iff, answerOk_eq, Except.ok.injEq] at h
  obtain ⟨-, -, latch, rfl⟩ := h
  dsimp only
  exact .officeOpened (by simpa using latch)

theorem closeOffice_accepted {cred} (h : closeOffice cred s = .ok a) : Accepted s a.state := by
  simp only [closeOffice, bind_unit_ok_iff, require_ok_iff, answerOk_eq, Except.ok.injEq] at h
  obtain ⟨-, -, -, -, -, -, rfl⟩ := h
  dsimp only
  exact .officeClosed

theorem takeJournal_accepted {k} (h : takeJournal k s = .ok a) : Accepted s a.state := by
  simp only [takeJournal, bind_unit_ok_iff, require_ok_iff, answerOk_eq, Except.ok.injEq] at h
  obtain ⟨-, rfl⟩ := h
  dsimp only
  exact .journalTaken k

theorem queryStock_accepted (h : queryStock s = .ok a) : Accepted s a.state := by
  obtain rfl := Except.ok.inj h
  dsimp only
  exact .queried

theorem enrol_accepted {n k cred} (h : enrol n k cred s = .ok a) : Accepted s a.state := by
  simp only [enrol, bind_unit_ok_iff, bind_some_ok_iff, require_ok_iff] at h
  obtain ⟨-, cls, -, -, h⟩ := h
  split at h
  · cases h
  · simp only [bind_unit_ok_iff, require_ok_iff, answerOk_eq, Except.ok.injEq] at h
    obtain ⟨room, rfl⟩ := h
    dsimp only
    exact .enrolled n cls (of_decide_eq_true room)

theorem revoke_accepted {n cred} (h : revoke n cred s = .ok a) : Accepted s a.state := by
  obtain ⟨-, h⟩ := check_of_bind h
  obtain ⟨-, h⟩ := require_of_bind h
  obtain ⟨-, h⟩ := require_of_bind h
  obtain rfl := Except.ok.inj h
  dsimp only
  exact .revoked n

theorem reinstate_accepted {n cred} (h : reinstate n cred s = .ok a) : Accepted s a.state := by
  simp only [reinstate, bind_unit_ok_iff, bind_some_ok_iff, require_ok_iff, answerOk_eq,
    Except.ok.injEq] at h
  obtain ⟨-, -, c, listed, -, rfl⟩ := h
  dsimp only
  exact .reinstated n c listed

theorem setPresenceLifetime_accepted {x cred} (h : setPresenceLifetime x cred s = .ok a) : Accepted s a.state := by
  simp only [setPresenceLifetime, bind_unit_ok_iff, require_ok_iff, answerOk_eq, Except.ok.injEq] at h
  obtain ⟨-, -, rfl⟩ := h
  dsimp only
  exact .lifetime _

theorem setTagRange_accepted {i on x y p cred} (h : setTagRange i on x y p cred s = .ok a) : Accepted s a.state := by
  simp only [setTagRange, bind_unit_ok_iff, require_ok_iff] at h
  obtain ⟨-, -, -, h⟩ := h
  split at h
  · simp only [enableRange, bind_unit_ok_iff, bind_some_ok_iff, require_ok_iff, answerOk_eq,
      Except.ok.injEq] at h
    obtain ⟨x, -, y, -, p, -, -, -, rfl⟩ := h
    dsimp only
    exact .range i _
  · obtain rfl := Except.ok.inj h
    exact .range i _

theorem moveBag_accepted {r d cred} (h : moveBag r d cred s = .ok a) : Accepted s a.state := by
  simp only [moveBag, bind_unit_ok_iff, bind_some_ok_iff, require_ok_iff, answerOk_eq, Except.ok.injEq,
    Bool.and_eq_true, decide_eq_true_eq] at h
  obtain ⟨-, -, dest, -, b, found, -, ⟨-, still⟩, -, -, rfl⟩ := h
  dsimp only
  exact .bagMoved r b dest found still

theorem queryBag_accepted {r g part} (h : queryBag r g part s = .ok a) : Accepted s a.state := by
  simp only [queryBag] at h
  split at h
  · simp only [queryByRef, bind_ok_iff (α := Bag), bind_ok_iff (α := List Field), answerOk_eq, Except.ok.injEq] at h
    obtain ⟨-, -, -, -, rfl⟩ := h
    dsimp only
    exact .queried
  · split at h
    · simp only [queryByTag, bind_unit_ok_iff, bind_ok_iff (α := List Field), answerOk_eq, Except.ok.injEq] at h
      obtain ⟨-, -, -, -, rfl⟩ := h
      dsimp only
      exact .queried
    · cases h

theorem setTill_accepted {n l cred} (h : setTill n l cred s = .ok a) : Accepted s a.state := by
  obtain ⟨-, h⟩ := check_of_bind h
  obtain ⟨-, h⟩ := require_of_bind h
  obtain ⟨v, -, h⟩ := requireSome_of_bind h
  obtain rfl := Except.ok.inj h
  dsimp only
  exact .limit n v

theorem setTemplate_accepted {n l cred} (h : setTemplate n l cred s = .ok a) : Accepted s a.state := by
  simp only [setTemplate, bind_unit_ok_iff, require_ok_iff, answerOk_eq, Except.ok.injEq, Bool.and_eq_true,
    List.all_eq_true, decide_eq_true_eq] at h
  obtain ⟨-, ⟨⟨-, lines⟩, once⟩, rfl⟩ := h
  dsimp only
  exact .template n l (fun x hx => (lines x hx).1.1.1) once

/-- R29: an allocation that a request may make. -/
theorem requireAllocation_ok {x : Nat × State} (h : requireAllocation s = .ok x) :
    s.canAllocate = true ∧ allocate s = some (x.1, x.2) := by
  simpa only [requireAllocation, bind_unit_ok_iff, require_ok_iff, requireSome_ok_iff] using h

theorem makeFloat_accepted {n m g cred} (h : makeFloat n m g cred s = .ok a) : Accepted s a.state := by
  obtain ⟨-, h⟩ := check_of_bind h
  obtain ⟨till, h⟩ := require_of_bind h
  obtain ⟨-, h⟩ := require_of_bind h
  obtain ⟨-, h⟩ := require_of_bind h
  obtain ⟨-, h⟩ := require_of_bind h
  obtain ⟨state, h⟩ := require_of_bind h
  obtain ⟨-, h⟩ := require_of_bind h
  obtain ⟨-, h⟩ := require_of_bind h
  obtain ⟨-, h⟩ := require_of_bind h
  obtain ⟨-, h⟩ := check_of_bind h
  obtain ⟨room, h⟩ := require_of_bind h
  obtain ⟨taken, lines, h⟩ := (bind_ok_iff _ _ _).mp h
  obtain ⟨⟨r, s1⟩, slot, h⟩ := (bind_ok_iff _ _ _).mp h
  obtain rfl := Except.ok.inj h
  dsimp only
  obtain ⟨space, slot⟩ := requireAllocation_ok slot
  exact .floatMade n m r g taken s1 till (by simpa using state) room lines slot space

theorem unmakeFloat_accepted {n cred} (h : unmakeFloat n cred s = .ok a) : Accepted s a.state := by
  obtain ⟨-, h⟩ := check_of_bind h
  obtain ⟨till, h⟩ := require_of_bind h
  obtain ⟨state, h⟩ := require_of_bind h
  obtain ⟨⟨r, b⟩, bag, h⟩ := requireSome_of_bind h
  obtain ⟨-, h⟩ := require_of_bind h
  obtain ⟨room, h⟩ := require_of_bind h
  obtain ⟨fits, h⟩ := require_of_bind h
  obtain rfl := Except.ok.inj h
  dsimp only
  simp only [Bool.and_eq_true, decide_eq_true_eq] at state
  exact .floatUnmade n r b till state.2 bag room (Option.isNone_iff_eq_none.mp fits)

theorem issueFloat_accepted {n x y} (h : issueFloat n x y s = .ok a) : Accepted s a.state := by
  obtain ⟨-, h⟩ := check_of_bind h
  obtain ⟨till, h⟩ := require_of_bind h
  obtain ⟨-, h⟩ := require_of_bind h
  obtain ⟨state, h⟩ := require_of_bind h
  obtain ⟨-, h⟩ := require_of_bind h
  obtain ⟨⟨r, b⟩, bag, h⟩ := requireSome_of_bind h
  obtain ⟨-, h⟩ := require_of_bind h
  obtain ⟨room, h⟩ := require_of_bind h
  obtain rfl := Except.ok.inj h
  dsimp only
  exact .floatIssued n r x b till (of_decide_eq_true state) bag room

theorem receiveTakings_accepted {n g v x y} (h : receiveTakings n g v x y s = .ok a) : Accepted s a.state := by
  obtain ⟨-, h⟩ := check_of_bind h
  obtain ⟨till, h⟩ := require_of_bind h
  obtain ⟨-, h⟩ := require_of_bind h
  obtain ⟨w, -, h⟩ := requireSome_of_bind h
  obtain ⟨-, h⟩ := require_of_bind h
  obtain ⟨state, h⟩ := require_of_bind h
  obtain ⟨-, h⟩ := check_of_bind h
  obtain ⟨room, h⟩ := require_of_bind h
  obtain ⟨-, h⟩ := require_of_bind h
  obtain ⟨⟨r, s1⟩, slot, h⟩ := (bind_ok_iff _ _ _).mp h
  obtain rfl := Except.ok.inj h
  dsimp only
  obtain ⟨space, slot⟩ := requireAllocation_ok slot
  exact .takings n r g x w s1 till (of_decide_eq_true state) room slot space

theorem postEntry_accepted {n k v g} (h : postEntry n k v g s = .ok a) : Accepted s a.state := by
  obtain ⟨till, h⟩ := require_of_bind h
  obtain ⟨k, -, h⟩ := requireSome_of_bind h
  obtain ⟨v, -, h⟩ := requireSome_of_bind h
  obtain ⟨-, h⟩ := require_of_bind h
  obtain ⟨room, h⟩ := require_of_bind h
  obtain rfl := Except.ok.inj h
  dsimp only
  exact .posted _ till (of_decide_eq_true room)

theorem releaseTill_accepted {n cred} (h : releaseTill n cred s = .ok a) : Accepted s a.state := by
  simp only [releaseTill, bind_unit_ok_iff, require_ok_iff, answerOk_eq, Except.ok.injEq] at h
  obtain ⟨-, -, -, rfl⟩ := h
  dsimp only
  exact .tillReleased n

theorem queryTill_accepted {n} (h : queryTill n s = .ok a) : Accepted s a.state := by
  simp only [queryTill, bind_unit_ok_iff, require_ok_iff, answerOk_eq, Except.ok.injEq] at h
  obtain ⟨-, rfl⟩ := h
  dsimp only
  exact .snooped n

theorem loadLane_accepted {n ref u cred} (h : loadLane n ref u cred s = .ok a) : Accepted s a.state := by
  obtain ⟨-, h⟩ := check_of_bind h
  obtain ⟨lane, h⟩ := require_of_bind h
  obtain ⟨b, found, h⟩ := requireSome_of_bind h
  obtain ⟨-, h⟩ := require_of_bind h
  obtain ⟨off, h⟩ := require_of_bind h
  obtain ⟨fault, h⟩ := require_of_bind h
  obtain ⟨busy, h⟩ := require_of_bind h
  obtain ⟨-, h⟩ := require_of_bind h
  obtain ⟨-, h⟩ := require_of_bind h
  obtain ⟨purpose, h⟩ := require_of_bind h
  obtain ⟨state, h⟩ := require_of_bind h
  obtain ⟨custody, h⟩ := require_of_bind h
  simp only [Bool.and_eq_true, Bool.or_eq_true, decide_eq_true_eq, or_assoc] at lane off fault busy purpose state custody
  split at h
  next idle =>
    obtain rfl := Except.ok.inj h
    dsimp only
    exact .laneLoaded n ref u b lane.1 found state custody purpose idle
  next notIdle =>
    obtain rfl := Except.ok.inj h
    dsimp only
    refine .lanePushed n ref b lane.1 found state custody purpose ?_
    cases atWork : (s.lane n).state <;> simp_all

theorem startLane_accepted {n cred} (h : startLane n cred s = .ok a) : Accepted s a.state := by
  simp only [startLane, bind_unit_ok_iff, require_ok_iff, answerOk_eq, Except.ok.injEq, decide_eq_true_eq] at h
  obtain ⟨-, lane, ready, latch, rfl⟩ := h
  dsimp only
  exact .laneStarted n lane ready (by simpa using latch)

theorem stopLane_accepted {n} (h : stopLane n s = .ok a) : Accepted s a.state := by
  simp only [stopLane, bind_unit_ok_iff, require_ok_iff, answerOk_eq, Except.ok.injEq, Bool.or_eq_true,
    decide_eq_true_eq] at h
  obtain ⟨lane, atWork, rfl⟩ := h
  dsimp only
  exact .laneStopped n lane atWork

theorem resumeLane_accepted {n cred} (h : resumeLane n cred s = .ok a) : Accepted s a.state := by
  simp only [resumeLane, bind_unit_ok_iff, require_ok_iff, answerOk_eq, Except.ok.injEq, decide_eq_true_eq] at h
  obtain ⟨-, lane, held, rfl⟩ := h
  dsimp only
  exact .laneResumed n lane held

theorem closeBatch_accepted {n c cred} (h : closeBatch n c cred s = .ok a) : Accepted s a.state := by
  obtain ⟨-, h⟩ := check_of_bind h
  obtain ⟨lane, h⟩ := require_of_bind h
  obtain ⟨off, h⟩ := require_of_bind h
  obtain ⟨idle, h⟩ := require_of_bind h
  obtain ⟨fault, h⟩ := require_of_bind h
  obtain ⟨busy, h⟩ := require_of_bind h
  obtain ⟨queue, h⟩ := require_of_bind h
  obtain ⟨room, h⟩ := check_of_bind h
  obtain rfl := Except.ok.inj h
  dsimp only
  simp only [Bool.and_eq_true, decide_eq_true_eq] at lane off idle fault busy queue
  simp only [requireReservation, bind_unit_ok_iff, require_ok_iff] at room
  refine .batchClosed n c lane.1 ?_ queue room.2
  cases atWork : (s.lane n).state <;> simp_all

theorem abortBatch_accepted {n cred} (h : abortBatch n cred s = .ok a) : Accepted s a.state := by
  obtain ⟨-, h⟩ := check_of_bind h
  obtain ⟨lane, h⟩ := require_of_bind h
  obtain ⟨off, h⟩ := require_of_bind h
  obtain ⟨idle, h⟩ := require_of_bind h
  obtain ⟨busy, h⟩ := require_of_bind h
  obtain ⟨fault, h⟩ := require_of_bind h
  obtain rfl := Except.ok.inj h
  dsimp only
  simp only [Bool.and_eq_true, decide_eq_true_eq] at lane off idle fault busy
  refine .batchAborted n lane ?_
  cases atWork : (s.lane n).state <;> simp_all

theorem clearFault_accepted {n cred} (h : clearFault n cred s = .ok a) : Accepted s a.state := by
  obtain ⟨-, h⟩ := check_of_bind h
  obtain ⟨-, h⟩ := require_of_bind h
  obtain ⟨lane, h⟩ := require_of_bind h
  obtain ⟨faulty, h⟩ := require_of_bind h
  obtain ⟨free, h⟩ := require_of_bind h
  obtain rfl := Except.ok.inj h
  dsimp only
  exact .faultCleared n (of_decide_eq_true lane) (by simpa using faulty) (by simpa using free)

theorem queryLane_accepted {n part} (h : queryLane n part s = .ok a) : Accepted s a.state := by
  simp only [queryLane, bind_unit_ok_iff, bind_ok_iff (α := List Field), answerOk_eq, Except.ok.injEq] at h
  obtain ⟨-, -, -, rfl⟩ := h
  dsimp only
  exact .queried

theorem countManual_accepted {r y cred} (h : countManual r y cred s = .ok a) : Accepted s a.state := by
  obtain ⟨-, h⟩ := check_of_bind h
  obtain ⟨-, h⟩ := require_of_bind h
  obtain ⟨b, found, h⟩ := requireSome_of_bind h
  obtain ⟨purpose, h⟩ := require_of_bind h
  obtain ⟨state, h⟩ := require_of_bind h
  obtain ⟨-, h⟩ := require_of_bind h
  obtain ⟨queue, h⟩ := require_of_bind h
  obtain ⟨room, h⟩ := check_of_bind h
  obtain rfl := Except.ok.inj h
  dsimp only
  simp only [requireReservation, bind_unit_ok_iff, require_ok_iff] at room
  exact .countQueued r b y found purpose (by simpa using state) (of_decide_eq_true queue) room.2

theorem resolveDispute_accepted {r k y x z} (h : resolveDispute r k y x z s = .ok a) : Accepted s a.state := by
  obtain ⟨-, h⟩ := check_of_bind h
  obtain ⟨-, h⟩ := require_of_bind h
  obtain ⟨k, -, h⟩ := requireSome_of_bind h
  obtain ⟨-, h⟩ := require_of_bind h
  obtain ⟨b, found, h⟩ := requireSome_of_bind h
  obtain ⟨disputed, h⟩ := require_of_bind h
  obtain ⟨t, -, h⟩ := requireSome_of_bind h
  obtain ⟨day, h⟩ := require_of_bind h
  obtain rfl := Except.ok.inj h
  exact .disputeSettled r b t found (of_decide_eq_true disputed) (of_decide_eq_true day)

theorem mergeBag_accepted {r cred} (h : mergeBag r cred s = .ok a) : Accepted s a.state := by
  obtain ⟨-, h⟩ := check_of_bind h
  obtain ⟨b, found, h⟩ := (bind_ok_iff _ _ _).mp h
  obtain ⟨confirmed, h⟩ := require_of_bind h
  simp only [requireBag, bind_unit_ok_iff, requireSome_ok_iff] at found
  split at h
  next => cases h
  next fits =>
    obtain rfl := Except.ok.inj h
    dsimp only
    exact .merged r b found.2 (of_decide_eq_true confirmed) fits

theorem setWatch_accepted {n on x y z w cred} (h : setWatch n on cred x y z w s = .ok a) : Accepted s a.state := by
  simp only [setWatch, bind_unit_ok_iff, answerOk_eq] at h
  obtain ⟨-, -, -, h⟩ := h
  split at h
  · simp only [bind_unit_ok_iff, Except.ok.injEq] at h
    obtain ⟨-, rfl⟩ := h
    dsimp only
    exact .watchWritten n _
  · obtain rfl := Except.ok.inj h
    exact .watchWritten n _

theorem rearmWatch_accepted {n cred} (h : rearmWatch n cred s = .ok a) : Accepted s a.state := by
  simp only [rearmWatch, bind_unit_ok_iff, answerOk_eq, Except.ok.injEq] at h
  obtain ⟨-, -, -, -, rfl⟩ := h
  dsimp only
  exact .watchWritten n _

theorem setAuditHold_accepted {cred} (h : setAuditHold cred s = .ok a) : Accepted s a.state := by
  simp only [setAuditHold, bind_unit_ok_iff, answerOk_eq, Except.ok.injEq] at h
  obtain ⟨-, -, rfl⟩ := h
  dsimp only
  exact .auditHold true

theorem clearAuditHold_accepted {cred} (h : clearAuditHold cred s = .ok a) : Accepted s a.state := by
  simp only [clearAuditHold, bind_unit_ok_iff, answerOk_eq, Except.ok.injEq] at h
  obtain ⟨-, -, rfl⟩ := h
  dsimp only
  exact .auditHold false

theorem queryWatch_accepted {n part} (h : queryWatch n part s = .ok a) : Accepted s a.state := by
  simp only [queryWatch, bind_unit_ok_iff, bind_ok_iff (α := List Field), answerOk_eq, Except.ok.injEq] at h
  obtain ⟨-, -, -, rfl⟩ := h
  dsimp only
  exact .queried

theorem cancelDoor_accepted {d} (h : cancelDoor d s = .ok a) : Accepted s a.state := by
  simp only [cancelDoor, bind_unit_ok_iff, require_ok_iff, answerOk_eq, Except.ok.injEq, Bool.or_eq_true,
    decide_eq_true_eq, or_assoc] at h
  obtain ⟨door, moving, rfl⟩ := h
  dsimp only
  exact .doorCancelled d door moving

theorem setDoorPolicy_accepted {p cred} (h : setDoorPolicy p cred s = .ok a) : Accepted s a.state := by
  simp only [setDoorPolicy, bind_unit_ok_iff, answerOk_eq, Except.ok.injEq] at h
  obtain ⟨-, -, -, rfl⟩ := h
  dsimp only
  exact .policy _

theorem setMaintenance_accepted {c cred} (h : setMaintenance c cred s = .ok a) : Accepted s a.state := by
  simp only [setMaintenance, bind_unit_ok_iff, bind_some_ok_iff, require_ok_iff, answerOk_eq, Except.ok.injEq] at h
  obtain ⟨-, thawed, on, -, rfl⟩ := h
  dsimp only
  exact .maintenance on (by simpa using thawed)

theorem freezeSettings_accepted {cred} (h : freezeSettings cred s = .ok a) : Accepted s a.state := by
  simp only [freezeSettings, bind_unit_ok_iff, answerOk_eq, Except.ok.injEq] at h
  obtain ⟨-, -, rfl⟩ := h
  dsimp only
  exact .frozen

theorem clearDropSafe_accepted {n cred} (h : clearDropSafe n cred s = .ok a) : Accepted s a.state := by
  obtain ⟨-, h⟩ := check_of_bind h
  obtain ⟨safe, h⟩ := require_of_bind h
  obtain ⟨-, h⟩ := require_of_bind h
  obtain rfl := Except.ok.inj h
  dsimp only
  exact .safeCleared n safe

theorem requestLockdown_accepted (h : requestLockdown s = .ok a) : Accepted s a.state := by
  obtain rfl := Except.ok.inj h
  dsimp only
  exact .lockdown

theorem releaseLockdown_accepted {x y} (h : releaseLockdown x y s = .ok a) : Accepted s a.state := by
  obtain ⟨-, h⟩ := check_of_bind h
  obtain ⟨latch, h⟩ := require_of_bind h
  obtain ⟨ended, h⟩ := require_of_bind h
  obtain rfl := Except.ok.inj h
  dsimp only
  exact .lockdownReleased _ latch (by simpa using ended)

theorem setPanicEdge_accepted {c cred} (h : setPanicEdge c cred s = .ok a) : Accepted s a.state := by
  simp only [setPanicEdge, bind_unit_ok_iff, bind_some_ok_iff, answerOk_eq, Except.ok.injEq] at h
  obtain ⟨-, e, -, rfl⟩ := h
  dsimp only
  exact .panicSelect e

theorem makeDeposit_accepted {g l cred} (h : makeDeposit g l cred s = .ok a) : Accepted s a.state := by
  obtain ⟨-, h⟩ := check_of_bind h
  obtain ⟨fields, h⟩ := require_of_bind h
  obtain ⟨-, h⟩ := require_of_bind h
  obtain ⟨suits, h⟩ := require_of_bind h
  obtain ⟨-, h⟩ := check_of_bind h
  obtain ⟨room, h⟩ := require_of_bind h
  obtain ⟨covered, h⟩ := require_of_bind h
  obtain ⟨⟨r, s1⟩, slot, h⟩ := (bind_ok_iff _ _ _).mp h
  obtain rfl := Except.ok.inj h
  dsimp only
  obtain ⟨space, slot⟩ := requireAllocation_ok slot
  simp only [Bool.and_eq_true, List.all_eq_true, decide_eq_true_eq] at fields
  obtain ⟨⟨-, lines⟩, once⟩ := fields
  exact .deposited r g l s1 (fun x hx => (lines x hx).1) once (Option.isNone_iff_eq_none.mp suits)
    (Option.isNone_iff_eq_none.mp covered) room slot space

theorem createManifest_accepted {v k o c w out inb cred} (h : createManifest v k o c w out inb cred s = .ok a) : Accepted s a.state := by
  obtain ⟨-, h⟩ := check_of_bind h
  obtain ⟨now, -, h⟩ := requireSome_of_bind h
  obtain ⟨fields, h⟩ := require_of_bind h
  obtain ⟨-, h⟩ := require_of_bind h
  obtain ⟨-, h⟩ := require_of_bind h
  obtain ⟨-, h⟩ := require_of_bind h
  obtain ⟨ready, h⟩ := require_of_bind h
  split at h
  next => cases h
  next =>
    obtain ⟨n, entry, h⟩ := requireSome_of_bind h
    obtain rfl := Except.ok.inj h
    dsimp only
    simp only [manifestFieldsOk, Bool.and_eq_true] at fields
    obtain ⟨⟨⟨⟨-, once⟩, -⟩, -⟩, -⟩ := fields
    exact .manifestCreated n v k o c w out inb once (Option.isNone_iff_eq_none.mp ready) entry

/-- R183, R184: an open manifest with a given visit number is an open manifest. -/
theorem manifestsWhere_open {p : Manifest → Bool} {x : Nat × Manifest}
    (h : x ∈ s.manifestsWhere (fun m => m.isOpen && p m)) : x ∈ s.manifestsWhere Manifest.isOpen := by
  simp only [State.manifestsWhere, List.mem_filterMap, Option.map_eq_some_iff, Option.filter_eq_some_iff,
    Bool.and_eq_true] at h ⊢
  obtain ⟨n, hn, m, ⟨found, isOpen, -⟩, rfl⟩ := h
  exact ⟨n, hn, m, ⟨found, isOpen⟩, rfl⟩

theorem cancelManifest_accepted {v cred} (h : cancelManifest v cred s = .ok a) : Accepted s a.state := by
  obtain ⟨-, h⟩ := check_of_bind h
  obtain ⟨-, h⟩ := require_of_bind h
  obtain ⟨⟨n, m⟩, found, h⟩ := requireSome_of_bind h
  obtain rfl := Except.ok.inj h
  dsimp only
  refine .manifestCancelled n m _ ?_ (manifestsWhere_open (List.mem_of_head? found))
  split <;> simp

theorem queryManifest_accepted {n part} (h : queryManifest n part s = .ok a) : Accepted s a.state := by
  simp only [queryManifest, bind_unit_ok_iff, bind_ok_iff (α := List Field), answerOk_eq, Except.ok.injEq] at h
  obtain ⟨-, -, -, rfl⟩ := h
  dsimp only
  exact .queried

/-- Whatever a request's checks find, an accepted one makes one of the changes above. -/
theorem accepted_of_ok {i : Instr} {q : RequestForm} (hq : requestOf i = some q) (h : q.body s = .ok a) :
    Accepted s a.state := by
  cases i <;> simp only [requestOf, Option.some.injEq, reduceCtorEq] at hq <;> subst hq
  case setNotices => exact setNotices_accepted h
  case status => exact status_accepted h
  case restart => exact restart_accepted h
  case setClock => exact setClock_accepted h
  case setDenominations => exact setDenominations_accepted h
  case setBand => exact setBand_accepted h
  case openDay => exact openDay_accepted h
  case closeDay => exact closeDay_accepted h
  case openOffice => exact openOffice_accepted h
  case closeOffice => exact closeOffice_accepted h
  case takeJournal => exact takeJournal_accepted h
  case queryStock => exact queryStock_accepted h
  case enrol => exact enrol_accepted h
  case revoke => exact revoke_accepted h
  case reinstate => exact reinstate_accepted h
  case setPresenceLifetime => exact setPresenceLifetime_accepted h
  case setTagRange => exact setTagRange_accepted h
  case moveBag => exact moveBag_accepted h
  case queryBag => exact queryBag_accepted h
  case setTill => exact setTill_accepted h
  case setTemplate => exact setTemplate_accepted h
  case makeFloat => exact makeFloat_accepted h
  case unmakeFloat => exact unmakeFloat_accepted h
  case issueFloat => exact issueFloat_accepted h
  case receiveTakings => exact receiveTakings_accepted h
  case post => exact postEntry_accepted h
  case releaseTill => exact releaseTill_accepted h
  case queryTill => exact queryTill_accepted h
  case loadLane => exact loadLane_accepted h
  case start => exact startLane_accepted h
  case stop => exact stopLane_accepted h
  case resume => exact resumeLane_accepted h
  case closeBatch => exact closeBatch_accepted h
  case abortBatch => exact abortBatch_accepted h
  case clearFault => exact clearFault_accepted h
  case queryLane => exact queryLane_accepted h
  case countManual => exact countManual_accepted h
  case resolveDispute => exact resolveDispute_accepted h
  case mergeBag => exact mergeBag_accepted h
  case setWatch => exact setWatch_accepted h
  case rearm => exact rearmWatch_accepted h
  case auditHold => exact setAuditHold_accepted h
  case auditRelease => exact clearAuditHold_accepted h
  case queryWatch => exact queryWatch_accepted h
  case requestDoor => exact (.doorRequested _ _ a h)
  case cancelDoor => exact cancelDoor_accepted h
  case setDoorPolicy => exact setDoorPolicy_accepted h
  case setMaintenance => exact setMaintenance_accepted h
  case freezeSettings => exact freezeSettings_accepted h
  case clearDropSafe => exact clearDropSafe_accepted h
  case lockdown => exact requestLockdown_accepted h
  case releaseLockdown => exact releaseLockdown_accepted h
  case setPanicEdge => exact setPanicEdge_accepted h
  case makeDeposit => exact makeDeposit_accepted h
  case createManifest => exact createManifest_accepted h
  case cancelManifest => exact cancelManifest_accepted h
  case queryManifest => exact queryManifest_accepted h

end Checks

/-! ## What every other command does -/

/-- The change of the state that a command makes that is no request: an event, a unit record, a line, a start, a tick or the
part's own work. -/
inductive Happens (s : State) : State → Prop where
  | nothing : Happens s s
  | discarded : Happens s (discardRecord s)
  | panicLevel (e : Edge) : Happens s { s with ubc.panicHigh := levelAfter e }
  | bytes (l : List Byte) : Happens s (l.foldl feedByte s)
  | stale : Happens s (abandonStale s)
  | sent : Happens s (sendMessage s)
  | note (n : Nat) (slot : Option Nat) (f : Fitness) (x : Bool) (lane : n ≤ 3) : Happens s (takeNote n slot f x s)
  | pocket (n : Nat) (p : Pocket) (lane : n ≤ 3) : Happens s (emptyPocket n p s)
  | jam (n : Nat) (lane : n ≤ 3) : Happens s (takeJam n s)
  | badge (r : Reader) (n : Nat) (p : PinResult) : Happens s (takeBadge r n p s)
  | door (d : DoorName) (isOpen : Bool) (door : validDoor d = true) : Happens s (takeDoor d isOpen s)
  | drop (n : Nat) (tagNo : Option Nat) (safe : validSafe n = true) : Happens s (takeDrop n tagNo s)
  | scan (tagNo : Option Nat) : Happens s (takeScan tagNo s)
  | panic (e : Edge) : Happens s (panicEdge e s)
  | resetAsserted : Happens s { s with sys.resetAsserted := true }
  | cold : Happens s (coldStart s)
  | warm (c : StartCause) : Happens s (warmStart c s)
  | restartCold : Happens s (coldStart (sendReplies s))
  | restartWarm : Happens s (warmStart .restart (sendReplies s))
  | supplyLost (valid : Bool) : Happens s { s with sys.powered := false, sys.storeValid := valid }
  | clockTick : Happens s (tickClock s)
  | tick : Happens s (tickClock (tickTimers s))
  | presenceExpiry (r : Reader) (n : Nat) : Happens s (expirePresence r n s)
  | delay (d : DoorName) (door : validDoor d = true) : Happens s (expireDelay d s)
  | confirm : Happens s (expireConfirm s)
  | release (d : DoorName) (door : validDoor d = true) : Happens s (expireRelease d s)
  | openLimit (d : DoorName) (door : validDoor d = true) : Happens s (expireOpen d s)
  | holdExpiry : Happens s (expireHold s)
  | handoverExpiry : Happens s (expireHandover s)
  | alarmExpiry : Happens s (expireAlarm s)
  | posting : Happens s (applyOldest s)
  | begun : Happens s (beginValuation s)
  | completed : Happens s (completeValuation s)

section Events

variable {s t : State}

theorem event_happens {f : State → State} (hf : Happens s (f s)) (h : event f s = .next t) : Happens s t := by
  simp only [event] at h
  split at h <;> cases h
  · exact hf
  · exact .nothing

theorem background_happens {f : State → State} (hf : Happens s (f s)) (h : background f s = .next t) : Happens s t := by
  simp only [background] at h
  split at h <;> cases h
  · exact hf
  · exact .nothing

theorem unitRecord_happens {ok : Bool} {f : State → State} (hf : ok = true → Happens s (f s))
    (h : unitRecord ok f s = .next t) : Happens s t := by
  simp only [unitRecord] at h
  split at h
  · cases h
    exact .nothing
  · split at h
    · cases h
      exact .discarded
    · next taken =>
        cases h
        refine hf ?_
        cases ok <;> simp_all

theorem startWith_happens (c : StartCause) (ok : Bool) : Happens s (startWith c ok s) := by
  simp only [startWith]
  split
  · exact .warm c
  · exact .cold

/-- A command that is no request makes one of the changes above. -/
theorem happens_of_next {i : Instr} (hq : requestOf i = none) (h : exec i s = .next t) : Happens s t := by
  cases i <;> simp only [requestOf, reduceCtorEq] at hq
  case frameReceived bytes => exact event_happens (f := fun s => bytes.foldl feedByte s) (.bytes bytes) h
  case frameTimeout => exact event_happens .stale h
  case messageSend => exact event_happens .sent h
  case note n slot f x => exact unitRecord_happens (fun lane => .note n slot f x (of_decide_eq_true lane)) h
  case pocket n p => exact unitRecord_happens (fun lane => .pocket n p (of_decide_eq_true lane)) h
  case jam n => exact unitRecord_happens (fun lane => .jam n (of_decide_eq_true lane)) h
  case badge r n p => exact unitRecord_happens (fun _ => .badge r n p) h
  case door d isOpen => exact unitRecord_happens (fun door => .door d isOpen door) h
  case drop n tagNo =>
    refine unitRecord_happens (fun ok => .drop n tagNo ?_) h
    simp only [Bool.and_eq_true] at ok
    exact ok.1
  case hatchScan tagNo => exact unitRecord_happens (fun _ => .scan tagNo) h
  case unitRecordDiscarded => exact unitRecord_happens (fun _ => .nothing) h
  case panicEdge e =>
    simp only [exec, execPanicEdge] at h
    split at h <;> cases h
    · exact .panic e
    · exact .panicLevel e
  case resetAsserted =>
    simp only [exec, execResetAsserted] at h
    cases h
    split
    · exact .resetAsserted
    · exact .nothing
  case lineStart ok =>
    simp only [exec, execLineStart] at h
    cases h
    split
    · exact startWith_happens .line ok
    · exact .nothing
  case coldStart =>
    cases h
    exact .cold
  case powerStart =>
    cases h
    exact startWith_happens .power true
  case restartStart ok =>
    simp only [exec, execRestartStart] at h
    split at h <;> cases h
    · simp only [startWith]
      split
      · exact .restartWarm
      · exact .restartCold
    · exact .nothing
  case clockTick =>
    simp only [exec, execClockTick] at h
    cases h
    split
    · exact .tick
    · exact .clockTick
  case presenceExpiry r n => exact event_happens (.presenceExpiry r n) h
  case delayExpiry => exact event_happens (.delay .strongroom rfl) h
  case dropDelayExpiry n =>
    simp only [exec, execDropDelayExpiry] at h
    split at h
    · next safe => exact event_happens (.delay (.drop n) safe) h
    · cases h
      exact .nothing
  case confirmWindowExpiry => exact event_happens .confirm h
  case releaseWindowExpiry d =>
    simp only [exec, execReleaseWindowExpiry] at h
    split at h
    · next door => exact event_happens (.release d door) h
    · cases h
      exact .nothing
  case openLimitExpiry d =>
    simp only [exec, execOpenLimitExpiry] at h
    split at h
    · next door => exact event_happens (.openLimit d door) h
    · cases h
      exact .nothing
  case lockdownHoldExpiry => exact event_happens .holdExpiry h
  case handoverWindowExpiry => exact event_happens .handoverExpiry h
  case alarmPeriodExpiry => exact event_happens .alarmExpiry h
  case postingApplication => exact background_happens .posting h
  case valuationBegin => exact background_happens .begun h
  case valuationCompletion => exact background_happens .completed h
  case lossOfSupply lost =>
    simp only [exec, execLossOfSupply] at h
    cases h
    exact .supplyLost _

end Events

/-! ## A rule through a step -/

/-- What a rule has to meet to be kept by every step. -/
structure Kept (P : State → Prop) : Prop where
  queue    : ∀ s l, P s → P { s with pending := l }
  arrives  : ∀ i tag kind s, P s → P (arrive i tag kind s)
  taken    : ∀ s, P s → P (takeFrom s)
  replied  : ∀ s r, P s → P (formReply r s)
  accepted : ∀ s t, P s → Accepted s t → P t
  happens  : ∀ s t, P s → Happens s t → P t

/-- A command keeps a rule that its arrival, the changes of an accepted request and those of the other commands keep. -/
theorem Kept.exec {P : State → Prop} (k : Kept P) {i : Instr} {s t : State} (hs : P s) (h : exec i s = .next t) : P t := by
  cases hq : requestOf i with
  | none => exact k.happens s t hs (happens_of_next hq h)
  | some q =>
    rw [exec_of_requestOf i q s hq] at h
    exact hostRequest_rule P i q.tag q.kind q.body s t hs (k.arrives i q.tag q.kind.code s) (k.taken s)
      (fun u r hu => k.replied u r hu) (fun u a hu ok => k.accepted u a.state hu (accepted_of_ok hq ok)) h

theorem Kept.step {P : State → Prop} (k : Kept P) {s t : State} (hs : P s) (h : step s = .next t) : P t := by
  unfold Machine.step at h
  split at h
  · cases h
    exact hs
  · exact k.exec (k.queue s _ hs) h

end Sys2Proof.Machine
end

section
/-!
The three rules that every write of a record keeps by itself: the canonical form of the tables, the sizes of the queues and the
numbering of the journal.  `Preserves` is closed under each write and so under every operation made of writes.
-/

namespace Sys2Proof.Machine

open Sys2Proof

set_option Elab.async false

/-- `t` keeps of `s` the canonical form of the tables, the sizes and the numbering of the journal. -/
structure Preserves (s t : State) : Prop where
  tables : tablesRule s = true → tablesRule t = true
  bounds : boundsRule s = true → boundsRule t = true
  ledger : ledgerRule s = true → ledgerRule t = true

/-! ## Single writes -/

section Writes

variable {s t : State}

theorem Preserves.refl (s : State) : Preserves s s := ⟨id, id, id⟩

theorem Preserves.trans {u : State} (h : Preserves s t) (g : Preserves t u) : Preserves s u :=
  ⟨g.tables ∘ h.tables, g.bounds ∘ h.bounds, g.ledger ∘ h.ledger⟩

theorem Preserves.fold {β : Type} {f : State → β → State} (hf : ∀ u b, Preserves u (f u b)) (l : List β)
    (h : Preserves s t) : Preserves s (l.foldl f t) := by
  induction l generalizing t with
  | nil => exact h
  | cons b rest ih => exact ih (h.trans (hf t b))

theorem Preserves.ite {c : Prop} [Decidable c] {u v : State} (yes : c → Preserves s u) (no : ¬c → Preserves s v) :
    Preserves s (if c then u else v) := by
  split
  · next hc => exact yes hc
  · next hc => exact no hc

theorem notify_notices_le (k : NoticeKind) (l : List Field) (s : State) (h : s.hpt.notices.length ≤ 32)
    (hd : s.hpt.dropped ≤ 65535) : (notify k l s).hpt.notices.length ≤ 32 ∧ (notify k l s).hpt.dropped ≤ 65535 := by
  simp only [notify]
  split
  · split
    · simp only [List.length_append, List.length_singleton]
      omega
    · simp only
      omega
  · exact ⟨h, hd⟩

theorem Preserves.notify (h : Preserves s t) (k : NoticeKind) (l : List Field) : Preserves s (notify k l t) := by
  refine h.trans ⟨?_, ?_, ?_⟩
  · simp [tablesRule]
  · simp only [boundsRule, Bool.and_eq_true, decide_eq_true_eq]
    rintro ⟨⟨⟨⟨⟨⟨⟨⟨⟨⟨⟨notices, buffer⟩, dropped⟩, errors⟩, postings⟩, skims⟩, once⟩, queue⟩, creds⟩, office⟩, strongroom⟩, hatch⟩
    obtain ⟨notices', dropped'⟩ := notify_notices_le k l t notices dropped
    simp [*]
  · simp [ledgerRule]

theorem Preserves.command (h : Preserves s t) (p : UnitPos) (c : UnitCmd) : Preserves s (command p c t) := by
  refine h.trans ⟨?_, ?_, ?_⟩ <;> simp +contextual [tablesRule, boundsRule, ledgerRule]

theorem Preserves.driveAlarm (h : Preserves s t) : Preserves s (driveAlarm t) := by
  refine h.trans ⟨?_, ?_, ?_⟩ <;> simp +contextual [tablesRule, boundsRule, ledgerRule]

theorem Preserves.discardRecord (h : Preserves s t) : Preserves s (discardRecord t) := by
  refine h.trans ⟨?_, ?_, ?_⟩ <;> simp +contextual [tablesRule, boundsRule, ledgerRule]

theorem Preserves.putBag (h : Preserves s t) (r : Nat) (b : Bag) : Preserves s (putBag r b t) := by
  refine h.trans ⟨?_, ?_, ?_⟩ <;> simp +contextual [tablesRule, boundsRule, ledgerRule, Table.wf_set]

theorem Preserves.putTill (h : Preserves s t) (n : Nat) (x : Till) : Preserves s (putTill n x t) := by
  refine h.trans ⟨?_, ?_, ?_⟩ <;> simp +contextual [tablesRule, boundsRule, ledgerRule, Table.wf_set]

theorem Preserves.putLane (h : Preserves s t) (n : Nat) (l : Lane) : Preserves s (putLane n l t) := by
  refine h.trans ⟨?_, ?_, ?_⟩ <;> simp +contextual [tablesRule, boundsRule, ledgerRule, Table.wf_set]

theorem Preserves.putWatch (h : Preserves s t) (n : Nat) (e : WatchEntry) : Preserves s (putWatch n e t) := by
  refine h.trans ⟨?_, ?_, ?_⟩ <;> simp +contextual [tablesRule, boundsRule, ledgerRule, Table.wf_set]

theorem Preserves.moveEntries (h : Preserves s t) (r : WatchResult) : Preserves s (moveEntries r t) := by
  refine h.trans ⟨?_, ?_, ?_⟩ <;> simp +contextual [tablesRule, boundsRule, ledgerRule, Table.wf_update]

theorem Preserves.putSafe (h : Preserves s t) (n : Nat) (d : DropSafe) : Preserves s (putSafe n d t) := by
  refine h.trans ⟨?_, ?_, ?_⟩ <;> simp +contextual [tablesRule, boundsRule, ledgerRule, Table.wf_set]

theorem Preserves.putManifest (h : Preserves s t) (n : Nat) (m : Manifest) : Preserves s (putManifest n m t) := by
  refine h.trans ⟨?_, ?_, ?_⟩ <;> simp +contextual [tablesRule, boundsRule, ledgerRule, Table.wf_set]

theorem Preserves.putRange (h : Preserves s t) (i : Nat) (e : TagRange) : Preserves s (putRange i e t) := by
  refine h.trans ⟨?_, ?_, ?_⟩ <;> simp +contextual [tablesRule, boundsRule, ledgerRule, Table.wf_set]

/-- The custody records but for the drop safes. -/
theorem Preserves.csc (h : Preserves s t) {u : State} (same : u = { t with csc := u.csc }) (safes : u.csc.safes = t.csc.safes) :
    Preserves s u := by
  rw [same]
  clear same
  refine h.trans ⟨?_, ?_, ?_⟩ <;> simp +contextual [tablesRule, boundsRule, ledgerRule, safes]

/-- The records of the Unit Bus Controller, with a unit error count no greater. -/
theorem Preserves.ubc (h : Preserves s t) {u : State} (same : u = { t with ubc := u.ubc })
    (errors : u.ubc.unitErrors ≤ t.ubc.unitErrors) : Preserves s u := by
  rw [same]
  clear same
  refine h.trans ⟨?_, ?_, ?_⟩ <;> simp only [tablesRule, boundsRule, ledgerRule, Bool.and_eq_true, decide_eq_true_eq, imp_self]
  rintro ⟨⟨⟨⟨⟨⟨⟨⟨⟨⟨⟨notices, buffer⟩, dropped⟩, errs⟩, postings⟩, skims⟩, once⟩, queue⟩, creds⟩, office⟩, strongroom⟩, hatch⟩
  exact ⟨⟨⟨⟨⟨⟨⟨⟨⟨⟨⟨notices, buffer⟩, dropped⟩, errors.trans errs⟩, postings⟩, skims⟩, once⟩, queue⟩, creds⟩, office⟩, strongroom⟩,
    hatch⟩

theorem Preserves.sys (h : Preserves s t) {u : State} (same : u = { t with sys := u.sys }) : Preserves s u := by
  rw [same]
  clear same
  exact h.trans ⟨id, id, id⟩

/-- The records of the Host Port, no fuller than before. -/
theorem Preserves.hpt (h : Preserves s t) {u : State} (same : u = { t with hpt := u.hpt })
    (notices : u.hpt.notices.length ≤ t.hpt.notices.length)
    (buffer : t.hpt.buffer.length ≤ 4 → u.hpt.buffer.length ≤ 4) (dropped : u.hpt.dropped ≤ t.hpt.dropped) :
    Preserves s u := by
  rw [same]
  clear same
  refine h.trans ⟨?_, ?_, ?_⟩ <;> simp only [tablesRule, boundsRule, ledgerRule, Bool.and_eq_true, decide_eq_true_eq, imp_self]
  rintro ⟨⟨⟨⟨⟨⟨⟨⟨⟨⟨⟨ns, bs⟩, ds⟩, errs⟩, postings⟩, skims⟩, once⟩, queue⟩, creds⟩, office⟩, strongroom⟩, hatch⟩
  refine ⟨⟨⟨⟨⟨⟨⟨⟨⟨⟨⟨?_, buffer bs⟩, ?_⟩, errs⟩, postings⟩, skims⟩, once⟩, queue⟩, creds⟩, office⟩, strongroom⟩, hatch⟩ <;> omega

/-- The records of the Accounts Unit but for the journal: a stock and a suspect register in canonical form. -/
theorem Preserves.figures (h : Preserves s t) {u : State} (same : u = { t with acu := u.acu })
    (denoms : Table.wf .unused t.acu.denoms = true → Table.wf .unused u.acu.denoms = true)
    (stock : Table.wf SlotStock.initial t.acu.stock = true → Table.wf SlotStock.initial u.acu.stock = true)
    (suspects : Table.wf 0 t.acu.suspects = true → Table.wf 0 u.acu.suspects = true)
    (journal : u.acu.journal = t.acu.journal) (seq : u.acu.nextSeq = t.acu.nextSeq)
    (acc : u.acu.accountability = t.acu.accountability) : Preserves s u := by
  rw [same]
  clear same
  refine h.trans ⟨?_, ?_, ?_⟩
  · simp only [tablesRule, Bool.and_eq_true]
    rintro ⟨⟨⟨⟨⟨⟨⟨⟨⟨⟨⟨h1, h2⟩, h3⟩, h4⟩, h5⟩, h6⟩, h7⟩, h8⟩, h9⟩, h10⟩, h11⟩, h12⟩
    simp [*]
  · exact id
  · simp [ledgerRule, journal, seq, acc]

theorem consecutive_append (l : List JournalEntry) (e : JournalEntry) (h : consecutive l e.seq = true) :
    consecutive (l ++ [e]) (seqAfter e.seq) = true := by
  induction l with
  | nil => simp [consecutive]
  | cons x rest ih =>
    cases rest with
    | nil => simpa [consecutive] using h
    | cons y more =>
      simp only [consecutive, Bool.and_eq_true] at h
      simp only [List.cons_append, consecutive, Bool.and_eq_true] at ih ⊢
      exact ⟨h.1, ih h.2⟩

theorem consecutive_tail (x : JournalEntry) (l : List JournalEntry) (n : Nat) (h : consecutive (x :: l) n = true) :
    consecutive l n = true := by
  cases l with
  | nil => rfl
  | cons y rest =>
    simp only [consecutive, Bool.and_eq_true] at h
    exact h.2

theorem consecutive_drop (l : List JournalEntry) (n k : Nat) (h : consecutive l n = true) :
    consecutive (l.drop k) n = true := by
  induction k generalizing l with
  | zero => exact h
  | succ k ih =>
    cases l with
    | nil => exact h
    | cons x rest => exact ih rest (consecutive_tail x rest n h)

/-- R51: one entry written continues the numbering and carries the accountability. -/
theorem Preserves.entry (h : Preserves s t) (e : EntrySpec) : Preserves s { t with acu := writeEntry t.acu e } := by
  refine h.trans ⟨id, id, ?_⟩
  simp only [ledgerRule, Bool.and_eq_true, writeEntry]
  rintro ⟨numbers, -⟩
  exact ⟨consecutive_append _ _ numbers, by simp⟩

theorem Preserves.entries (h : Preserves s t) (es : List EntrySpec) :
    Preserves s { t with acu := es.foldl writeEntry t.acu } := by
  induction es generalizing t with
  | nil => exact h
  | cons e rest ih => exact ih (h.entry e)

/-- The records of the Reconciliation Unit, with a queue no longer than it may be. -/
theorem Preserves.rcu (h : Preserves s t) {u : State} (same : u = { t with rcu := u.rcu })
    (queue : t.rcu.queue.length ≤ 6 → u.rcu.queue.length ≤ 6) : Preserves s u := by
  rw [same]
  clear same
  refine h.trans ⟨id, ?_, id⟩
  simp only [boundsRule, Bool.and_eq_true, decide_eq_true_eq]
  rintro ⟨⟨⟨⟨⟨⟨⟨⟨⟨⟨⟨ns, bs⟩, ds⟩, errs⟩, postings⟩, skims⟩, once⟩, queues⟩, creds⟩, office⟩, strongroom⟩, hatch⟩
  simp [*]

theorem Preserves.postings (h : Preserves s t) (l : List Posting) (room : t.tau.postings.length ≤ 64 → l.length ≤ 64) :
    Preserves s { t with tau.postings := l } := by
  refine h.trans ⟨id, ?_, id⟩
  simp only [boundsRule, Bool.and_eq_true, decide_eq_true_eq]
  rintro ⟨⟨⟨⟨⟨⟨⟨⟨⟨⟨⟨ns, bs⟩, ds⟩, errs⟩, postings⟩, skims⟩, once⟩, queues⟩, creds⟩, office⟩, strongroom⟩, hatch⟩
  simp [*]

theorem Preserves.skims (h : Preserves s t) (q : List Nat) (room : t.tau.skimQueue.length ≤ 16 → q.length ≤ 16)
    (once : t.tau.skimQueue.Nodup → q.Nodup) : Preserves s { t with tau.skimQueue := q } := by
  refine h.trans ⟨id, ?_, id⟩
  simp only [boundsRule, Bool.and_eq_true, decide_eq_true_eq]
  rintro ⟨⟨⟨⟨⟨⟨⟨⟨⟨⟨⟨ns, bs⟩, ds⟩, errs⟩, postings⟩, skims⟩, twice⟩, queues⟩, creds⟩, office⟩, strongroom⟩, hatch⟩
  simp [*]

/-- The lists of the Handover Controller beside its table. -/
theorem Preserves.closedOrder (h : Preserves s t) (l : List Nat) : Preserves s { t with hoc.closedOrder := l } :=
  h.trans ⟨id, id, id⟩

theorem Preserves.retired (h : Preserves s t) (l : List Nat) : Preserves s { t with bgr.retired := l } :=
  h.trans ⟨id, id, id⟩

theorem Preserves.auditHold (h : Preserves s t) (on : Bool) : Preserves s { t with wcu.auditHold := on } :=
  h.trans ⟨id, id, id⟩

theorem Preserves.lifetime (h : Preserves s t) (k : Nat) : Preserves s { t with cru.lifetime := k } :=
  h.trans ⟨id, id, id⟩

theorem Preserves.bags (h : Preserves s t) (l : Table (Option Bag))
    (wf : Table.wf none t.bgr.bags = true → Table.wf none l = true) : Preserves s { t with bgr.bags := l } := by
  refine h.trans ⟨?_, id, id⟩
  simp only [tablesRule, Bool.and_eq_true]
  rintro ⟨⟨⟨⟨⟨⟨⟨⟨⟨⟨⟨h1, h2⟩, h3⟩, h4⟩, h5⟩, h6⟩, h7⟩, h8⟩, h9⟩, h10⟩, h11⟩, h12⟩
  simp [*]

theorem Preserves.lanes (h : Preserves s t) (l : Table Lane)
    (wf : Table.wf Lane.initial t.clc.lanes = true → Table.wf Lane.initial l = true) : Preserves s { t with clc.lanes := l } := by
  refine h.trans ⟨?_, id, id⟩
  simp only [tablesRule, Bool.and_eq_true]
  rintro ⟨⟨⟨⟨⟨⟨⟨⟨⟨⟨⟨h1, h2⟩, h3⟩, h4⟩, h5⟩, h6⟩, h7⟩, h8⟩, h9⟩, h10⟩, h11⟩, h12⟩
  simp [*]

theorem Preserves.tills (h : Preserves s t) (l : Table Till)
    (wf : Table.wf Till.initial t.tau.tills = true → Table.wf Till.initial l = true) : Preserves s { t with tau.tills := l } := by
  refine h.trans ⟨?_, id, id⟩
  simp only [tablesRule, Bool.and_eq_true]
  rintro ⟨⟨⟨⟨⟨⟨⟨⟨⟨⟨⟨h1, h2⟩, h3⟩, h4⟩, h5⟩, h6⟩, h7⟩, h8⟩, h9⟩, h10⟩, h11⟩, h12⟩
  simp [*]

theorem Preserves.templates (h : Preserves s t) (n : Nat) (l : List SlotLine) :
    Preserves s { t with tau.templates := Table.set [] t.tau.templates n l } := by
  refine h.trans ⟨?_, id, id⟩
  simp +contextual [tablesRule, Table.wf_set]

theorem Preserves.safes (h : Preserves s t) (l : Table DropSafe)
    (wf : Table.wf DropSafe.initial t.csc.safes = true → Table.wf DropSafe.initial l = true) :
    Preserves s { t with csc.safes := l } := by
  refine h.trans ⟨?_, id, id⟩
  simp only [tablesRule, Bool.and_eq_true]
  rintro ⟨⟨⟨⟨⟨⟨⟨⟨⟨⟨⟨h1, h2⟩, h3⟩, h4⟩, h5⟩, h6⟩, h7⟩, h8⟩, h9⟩, h10⟩, h11⟩, h12⟩
  simp [*]

theorem Preserves.manifests (h : Preserves s t) (l : Table (Option Manifest))
    (wf : Table.wf none t.hoc.manifests = true → Table.wf none l = true) : Preserves s { t with hoc.manifests := l } := by
  refine h.trans ⟨?_, id, id⟩
  simp only [tablesRule, Bool.and_eq_true]
  rintro ⟨⟨⟨⟨⟨⟨⟨⟨⟨⟨⟨h1, h2⟩, h3⟩, h4⟩, h5⟩, h6⟩, h7⟩, h8⟩, h9⟩, h10⟩, h11⟩, h12⟩
  simp [*]

theorem Preserves.putCredential (h : Preserves s t) (n : Nat) (c : Option Credential)
    (room : t.cru.creds.length ≤ 96 → (Table.set none t.cru.creds n c).length ≤ 96) :
    Preserves s (putCredential n c t) := by
  refine h.trans ⟨?_, ?_, ?_⟩
  · simp +contextual [tablesRule, Table.wf_set]
  · simp only [boundsRule, Bool.and_eq_true, decide_eq_true_eq, putCredential_fields]
    rintro ⟨⟨⟨⟨⟨⟨⟨⟨⟨⟨⟨ns, bs⟩, ds⟩, errs⟩, postings⟩, skims⟩, once⟩, queues⟩, creds⟩, office⟩, strongroom⟩, hatch⟩
    simp [*]
  · simp [ledgerRule]

/-- The presence lists, none longer than it may be. -/
theorem Preserves.lists (h : Preserves s t) {u : State} (same : u = { t with cru := u.cru })
    (creds : u.cru.creds = t.cru.creds) (office : t.cru.office.length ≤ 4 → u.cru.office.length ≤ 4)
    (strongroom : t.cru.strongroom.length ≤ 4 → u.cru.strongroom.length ≤ 4)
    (hatch : t.cru.hatch.length ≤ 4 → u.cru.hatch.length ≤ 4) : Preserves s u := by
  rw [same]
  clear same
  refine h.trans ⟨?_, ?_, id⟩
  · simp [tablesRule, creds]
  · simp only [boundsRule, Bool.and_eq_true, decide_eq_true_eq]
    rintro ⟨⟨⟨⟨⟨⟨⟨⟨⟨⟨⟨ns, bs⟩, ds⟩, errs⟩, postings⟩, skims⟩, once⟩, queues⟩, credCount⟩, office'⟩, strongroom'⟩, hatch'⟩
    simp [*]

end Writes

end Sys2Proof.Machine
end

section
/-!
Every operation of the part is made of writes that keep the tables, the sizes and the numbering of the journal.
-/

namespace Sys2Proof.Machine

open Sys2Proof

set_option Elab.async false

section Operations

variable {s t : State}

/-! ## Chutes and the bag table -/

theorem Preserves.setChuteCause (h : Preserves s t) (n : Nat) (c : ChuteCause) (on : Bool) :
    Preserves s (setChuteCause n c on t) := by
  simp only [Machine.setChuteCause]
  split
  · exact h
  · split
    · exact h.putSafe _ _
    · exact ((h.putSafe _ _).command _ _).notify _ _

theorem Preserves.setChuteCauseAll (h : Preserves s t) (c : ChuteCause) (on : Bool) :
    Preserves s (setChuteCauseAll c on t) :=
  Preserves.fold (fun u n => (Preserves.refl u).setChuteCause n c on) _ h

theorem Preserves.syncTable (h : Preserves s t) : Preserves s (syncTable t) := h.setChuteCauseAll _ _

theorem Preserves.syncJournal (h : Preserves s t) : Preserves s (syncJournal t) := h.setChuteCauseAll _ _

theorem Preserves.recordBag (h : Preserves s t) (r : Nat) (b : Bag) : Preserves s (recordBag r b t) :=
  (h.putBag r b).syncTable

theorem Preserves.retireBag (h : Preserves s t) (r : Nat) (b : Bag) : Preserves s (retireBag r b t) :=
  ((h.putBag r b).retired _).syncTable

theorem Preserves.allocate (h : Preserves s t) {r : Nat} {u : State} (got : allocate t = some (r, u)) : Preserves s u := by
  simp only [Machine.allocate] at got
  split at got
  · cases got
    exact h
  · split at got
    · cases got
    · cases got
      exact (h.bags _ (Table.wf_set none _ _ none)).retired _

theorem Preserves.returnBag (h : Preserves s t) (r : Nat) : Preserves s (returnBag r t) := by
  simp only [Machine.returnBag]
  split
  · exact h
  · exact h.putBag _ _

theorem Preserves.returnBags (h : Preserves s t) (l : List Nat) : Preserves s (returnBags l t) :=
  Preserves.fold (fun u r => (Preserves.refl u).returnBag r) _ h

theorem Preserves.benchBag (h : Preserves s t) (r : Nat) : Preserves s (benchBag t r) := by
  simp only [Machine.benchBag]
  split
  · exact h
  · exact h.putBag _ _

theorem wf_foldl_set {α β : Type} [DecidableEq α] (d : α) (key : β → Nat) (val : Table α → β → α) (l : List β) (t : Table α)
    (h : Table.wf d t = true) : Table.wf d (l.foldl (fun t x => Table.set d t (key x) (val t x)) t) = true := by
  induction l generalizing t with
  | nil => exact h
  | cons x rest ih => exact ih _ (Table.wf_set d t _ _ h)

theorem Preserves.freeRetired (h : Preserves s t) : Preserves s (freeRetired t) :=
  ((h.bags _ (wf_foldl_set none id (fun _ _ => none) _ _)).retired []).syncTable

/-! ## Movements -/

theorem Preserves.chargeAccount (h : Preserves s t) (c : Option (Account × Int)) : Preserves s (chargeAccount c t) := by
  rcases c with _ | ⟨_ | _ | _, v⟩
  · exact h
  · exact h.putTill _ _
  · exact h.figures rfl id id id rfl rfl rfl
  · exact h.figures rfl id id id rfl rfl rfl

/-- R52: the stock, suspects and reserved count that a movement leaves, before its entries are written. -/
def movedFigures (m : Movement) (s : State) : State :=
  { s with
    acu.stock := m.stock.foldl applyStock s.acu.stock
    acu.suspects := m.suspects.foldl applySuspect s.acu.suspects
    acu.reserved := if m.origin = .reserved then s.acu.reserved - 3 else s.acu.reserved }

theorem Preserves.applyMovement (h : Preserves s t) (m : Movement) : Preserves s (applyMovement m t) := by
  refine Preserves.syncJournal (Preserves.chargeAccount ?_ _)
  refine Preserves.entries (t := movedFigures m t) (h.figures rfl id ?_ ?_ rfl rfl rfl) m.entries
  · exact wf_foldl_set SlotStock.initial StockChange.slot _ m.stock t.acu.stock
  · exact wf_foldl_set 0 Prod.fst _ m.suspects t.acu.suspects

theorem Preserves.makeReservation (h : Preserves s t) : Preserves s (makeReservation t) :=
  Preserves.syncJournal (h.figures rfl id id id rfl rfl rfl)

theorem Preserves.endReservation (h : Preserves s t) : Preserves s (endReservation t) :=
  Preserves.syncJournal (h.figures rfl id id id rfl rfl rfl)

/-! ## Lanes -/

theorem Preserves.addHold (h : Preserves s t) (n : Nat) (c : HoldCause) : Preserves s (addHold n c t) := by
  simp only [Machine.addHold]
  split
  · exact h
  · refine Preserves.notify ?_ _ _
    split
    · exact (h.putLane _ _).command _ _
    · exact h.putLane _ _

theorem Preserves.faultLane (h : Preserves s t) (n : Nat) (c : FaultCause) : Preserves s (faultLane n c t) := by
  simp only [Machine.faultLane, notifyFault]
  refine Preserves.notify ?_ _ _
  split
  · exact (h.putLane _ _).command _ _
  · exact h.putLane _ _

theorem Preserves.completeLane (h : Preserves s t) (n : Nat) : Preserves s (completeLane n t) := by
  simp only [Machine.completeLane]
  split
  · split <;> exact h.putLane _ _
  · exact h.putLane _ _

theorem Preserves.lockdownLanes (h : Preserves s t) : Preserves s (lockdownLanes t) := by
  refine Preserves.fold (fun u n => ?_) _ h
  split
  · exact (Preserves.refl u).addHold _ _
  · exact Preserves.refl u

theorem Preserves.haltLanes (h : Preserves s t) : Preserves s (haltLanes t) :=
  Preserves.fold (fun u n => (Preserves.refl u).addHold n _) _ h

theorem Preserves.stackerNote (h : Preserves s t) (n i strap : Nat) (f : Fitness) (b : Batch) :
    Preserves s (stackerNote n i strap f b t) :=
  .ite (fun _ => h.faultLane _ _) fun _ => .ite (fun _ => h.faultLane _ _) fun _ =>
    .ite (fun _ => (h.putLane _ _).addHold _ _) fun _ => h.putLane _ _

theorem Preserves.rejectNote (h : Preserves s t) (n : Nat) (slot : Option Nat) (b : Batch) :
    Preserves s (rejectNote n slot b t) :=
  .ite (fun _ => h.faultLane _ _) fun _ => .ite (fun _ => h.faultLane _ _) fun _ =>
    .ite (fun _ => (h.putLane _ _).addHold _ _) fun _ => h.putLane _ _

theorem Preserves.takeNote (h : Preserves s t) (n : Nat) (slot : Option Nat) (f : Fitness) (x : Bool) :
    Preserves s (takeNote n slot f x t) := by
  unfold Machine.takeNote
  dsimp only
  split
  · exact h.notify _ _
  · split
    · split
      · exact h.rejectNote _ _ _
      · split
        · exact h.rejectNote _ _ _
        · split
          · exact h.rejectNote _ _ _
          · exact h.stackerNote _ _ _ _ _
    · exact h.notify _ _

theorem Preserves.emptyPocket (h : Preserves s t) (n : Nat) (p : Pocket) : Preserves s (emptyPocket n p t) := by
  cases p <;> exact h.putLane _ _

theorem Preserves.takeJam (h : Preserves s t) (n : Nat) : Preserves s (takeJam n t) := by
  unfold Machine.takeJam
  dsimp only
  split
  · exact h.notify _ _
  · exact h.notify _ _
  · exact (h.putLane _ _).notify _ _
  · exact h.notify _ _
  all_goals exact h.faultLane _ _

/-! ## The Watch Unit -/

theorem Preserves.takeFiring (h : Preserves s t) (r : WatchResult) (f : Firing) : Preserves s (takeFiring r t f) := by
  unfold Machine.takeFiring
  split
  · exact h.notify _ _
  · split
    · exact h.notify _ _
    · exact (h.putTill _ _).notify _ _
  · exact h.notify _ _
  · exact h.haltLanes.notify _ _

theorem Preserves.offer (h : Preserves s t) (r : WatchResult) : Preserves s (offer r t).1 :=
  Preserves.fold (fun u f => (Preserves.refl u).takeFiring r f) _ (h.moveEntries r)

/-! ## Tills -/

theorem Preserves.joinSkim (h : Preserves s t) (n : Nat) : Preserves s (joinSkim n t) := by
  unfold Machine.joinSkim
  split
  · exact h
  · next free =>
      obtain ⟨absent, short⟩ := not_or.mp free
      have joined : Preserves s { t with tau.skimQueue := t.tau.skimQueue ++ [n] } := by
        refine h.skims _ (fun _ => ?_) (fun once => ?_)
        · simp only [List.length_append, List.length_singleton]
          omega
        · refine List.nodup_append.mpr ⟨once, List.nodup_singleton n, fun x hx y hy e => ?_⟩
          exact absent (List.mem_singleton.mp hy ▸ e ▸ hx)
      dsimp only
      split
      · exact joined.notify _ _
      · exact joined

theorem Preserves.leaveSkim (h : Preserves s t) (n : Nat) : Preserves s (leaveSkim n t) := by
  unfold Machine.leaveSkim
  split
  · have left : Preserves s { t with tau.skimQueue := t.tau.skimQueue.filter (fun m => decide (m ≠ n)) } :=
      h.skims _ (fun room => (List.length_filter_le _ _).trans room) (fun once => once.filter _)
    dsimp only
    split
    · exact left
    · exact left.joinSkim _
  · exact h

theorem Preserves.clearOverLimit (h : Preserves s t) (n : Nat) : Preserves s (clearOverLimit n t) :=
  (h.putTill _ _).leaveSkim n

theorem Preserves.overLimitTest (h : Preserves s t) (n : Nat) : Preserves s (overLimitTest n t) := by
  unfold Machine.overLimitTest
  dsimp only
  split
  · exact h
  · split
    · exact (h.putTill _ _).joinSkim n
    · exact h.clearOverLimit n

theorem Preserves.rememberSkim (h : Preserves s t) (p : Posting) (g : Nat) : Preserves s (rememberSkim p g t) := by
  unfold Machine.rememberSkim
  dsimp only
  split
  · exact h.putTill _ _
  · exact h.notify _ _

theorem Preserves.attachSkim (h : Preserves s t) (p : Posting) (g : Nat) : Preserves s (attachSkim p g t) := by
  unfold Machine.attachSkim
  dsimp only
  split
  · exact h.rememberSkim p g
  · split
    · exact h.rememberSkim p g
    · split
      · exact ((h.putTill _ _).putBag _ _).clearOverLimit _
      · split
        · exact h.notify _ _
        · exact (((h.putTill _ _).applyMovement _).putBag _ _).clearOverLimit _

theorem Preserves.applyInSession (h : Preserves s t) (p : Posting) : Preserves s (applyInSession p t) := by
  unfold Machine.applyInSession
  dsimp only
  refine Preserves.overLimitTest ?_ _
  split
  · exact (h.putTill _ _).attachSkim _ _
  · exact h.putTill _ _

theorem Preserves.applyPosting (h : Preserves s t) (p : Posting) : Preserves s (applyPosting t p) := by
  unfold Machine.applyPosting
  split
  · exact h.applyInSession p
  · exact h.applyInSession p
  · exact (h.putTill _ _).notify _ _
  · exact (h.chargeAccount _).notify _ _
  · exact (h.chargeAccount _).notify _ _

theorem Preserves.snoopTill (h : Preserves s t) (n : Nat) : Preserves s (snoopTill n t) :=
  Preserves.fold (fun u p => (Preserves.refl u).applyPosting p) _
    (h.postings _ (fun room => (List.length_filter_le _ _).trans room))

theorem Preserves.applyOldest (h : Preserves s t) : Preserves s (applyOldest t) := by
  unfold Machine.applyOldest
  split
  · exact h
  · next p rest queued =>
      refine Preserves.applyPosting (h.postings rest fun room => ?_) p
      simp only [queued, List.length_cons] at room
      omega

theorem Preserves.skimSearch (h : Preserves s t) (g : Nat) : Preserves s (skimSearch g t) := by
  unfold Machine.skimSearch
  split
  · exact h
  · exact Preserves.applyPosting (h.postings _ (fun room => (List.erase_sublist.length_le).trans room)) _

theorem Preserves.countDrop (h : Preserves s t) (x : TakenSkim) : Preserves s (countDrop x t) := by
  unfold Machine.countDrop
  dsimp only
  split
  · exact (h.putTill _ _).clearOverLimit _
  · exact h.clearOverLimit _

theorem Preserves.announceResult (h : Preserves s t) (n : Nat) : Preserves s (announceResult n t) :=
  (h.notify _ _).offer _

theorem Preserves.snoopFor (h : Preserves s t) (b : Bag) : Preserves s (snoopFor b t) := by
  unfold Machine.snoopFor
  split
  · exact h
  · exact h.snoopTill _

/-! ## Handover -/

theorem Preserves.closeRecord (h : Preserves s t) (n : Nat) (m : Manifest) (st : ManifestState) (c : CloseCause) :
    Preserves s (closeRecord n m st c t) := (h.putManifest _ _).closedOrder _

theorem Preserves.closeManifest (h : Preserves s t) (n : Nat) (m : Manifest) (st : ManifestState) (c : CloseCause) :
    Preserves s (closeManifest n m st c t) := (h.closeRecord _ _ _ _).notify _ _

theorem Preserves.abortHandover (h : Preserves s t) : Preserves s (abortHandover t) := by
  unfold Machine.abortHandover
  split
  · exact h
  · exact h.closeManifest _ _ _ _

theorem Preserves.startTest (h : Preserves s t) (k : Nat) (cls : CredClass) : Preserves s (startTest k cls t) := by
  unfold Machine.startTest
  split
  · exact h
  · dsimp only
    split
    · split
      · exact h.notify _ _
      · exact h
    · split
      · exact h
      · split
        · exact h.notify _ _
        · split
          · exact h.notify _ _
          · split
            · exact h.putManifest _ _
            · exact h.notify _ _

theorem Preserves.presentedAtHatch (h : Preserves s t) (k : Nat) (cls : CredClass) :
    Preserves s (presentedAtHatch k cls t) := by
  unfold Machine.presentedAtHatch
  split
  · split
    · exact h.closeManifest _ _ _ _
    · exact h
  · exact h.startTest k cls

theorem Preserves.expireHandover (h : Preserves s t) : Preserves s (expireHandover t) := by
  unfold Machine.expireHandover
  split
  · exact h
  · split
    · exact h.closeManifest _ _ _ _
    · exact h

theorem Preserves.refuseScan (h : Preserves s t) (g r : Option Nat) (x : ScanReason) : Preserves s (refuseScan g r x t) :=
  (h.command _ _).notify _ _

theorem Preserves.scanOutbound (h : Preserves s t) (n : Nat) (m : Manifest) (o : OutItem) (g : Nat) :
    Preserves s (scanOutbound n m o g t) := by
  unfold Machine.scanOutbound
  split
  · exact h.notify _ _
  · split
    · exact h.refuseScan _ _ _
    · split
      · exact h.refuseScan _ _ _
      · dsimp only
        split
        · exact h.refuseScan _ _ _
        · exact ((h.applyMovement _).retireBag _ _).putManifest _ _

theorem Preserves.scanInbound (h : Preserves s t) (n : Nat) (m : Manifest) (i : InItem) :
    Preserves s (scanInbound n m i t) := by
  unfold Machine.scanInbound
  split
  · exact h.notify _ _
  · split
    · exact h.refuseScan _ _ _
    · next r u got =>
        have allocated : Machine.allocate t = some (r, u) := by
          split at got
          · exact got
          · cases got
        dsimp only
        split
        · exact h.refuseScan _ _ _
        · exact (((h.allocate allocated).recordBag _ _).applyMovement _).putManifest _ _

theorem Preserves.takeScan (h : Preserves s t) (g : Option Nat) : Preserves s (takeScan g t) := by
  unfold Machine.takeScan
  split
  · exact (h.command _ _).notify _ _
  · split
    · exact h.refuseScan _ _ _
    · split
      · exact h.scanOutbound _ _ _ _
      · split
        · exact h.scanInbound _ _ _
        · exact h.refuseScan _ _ _

/-! ## Doors and lockdown -/

theorem Preserves.putDoor (h : Preserves s t) (d : DoorName) (x : Door) : Preserves s (putDoor d x t) := by
  cases d with
  | strongroom => exact h.csc rfl rfl
  | drop n => exact (h.putSafe _ _).setChuteCause _ _ _
  | other => exact h

theorem Preserves.secureDoor (h : Preserves s t) (d : DoorName) : Preserves s (secureDoor d t) := by
  unfold Machine.secureDoor
  refine Preserves.putDoor ?_ _ _
  split
  · exact h.command _ _
  · exact h

theorem Preserves.releaseDoor (h : Preserves s t) (d : DoorName) : Preserves s (releaseDoor d t) :=
  (h.command _ _).putDoor _ _

theorem Preserves.endDelay (h : Preserves s t) (d : DoorName) : Preserves s (endDelay d t) := by
  cases d with
  | strongroom =>
    unfold Machine.endDelay confirmDoor
    exact h.putDoor .strongroom _
  | drop n => exact h.releaseDoor (.drop n)
  | other => exact h

theorem Preserves.grantDelay (h : Preserves s t) (d : DoorName) (k : Nat) : Preserves s (grantDelay d k t) := by
  unfold Machine.grantDelay
  split
  · exact h.endDelay d
  · exact h.putDoor _ _

theorem Preserves.presentedAtStrongroom (h : Preserves s t) (n : Nat) : Preserves s (presentedAtStrongroom n t) := by
  unfold Machine.presentedAtStrongroom
  dsimp only
  split
  · split
    · exact h.releaseDoor _
    · exact h
  · exact h

theorem Preserves.openDoor (h : Preserves s t) (d : DoorName) : Preserves s (openDoor d t) := h.putDoor _ _

theorem Preserves.forceDoor (h : Preserves s t) (d : DoorName) : Preserves s (forceDoor d t) :=
  (((h.putDoor _ _).openDoor d).driveAlarm).notify _ _

theorem Preserves.takeDoor (h : Preserves s t) (d : DoorName) (b : Bool) : Preserves s (takeDoor d b t) := by
  unfold Machine.takeDoor
  split
  · unfold doorOpened
    split
    · exact h.openDoor d
    · exact h.putDoor _ _
    all_goals exact h.forceDoor d
  · unfold doorClosed
    dsimp only
    split
    · exact (h.putDoor _ _).secureDoor d
    · exact h.putDoor _ _

theorem Preserves.expireDelay (h : Preserves s t) (d : DoorName) : Preserves s (expireDelay d t) := by
  unfold Machine.expireDelay
  split
  · exact h.endDelay d
  · exact h

theorem Preserves.expireConfirm (h : Preserves s t) : Preserves s (expireConfirm t) := by
  unfold Machine.expireConfirm
  split
  · exact h.secureDoor _
  · exact h

theorem Preserves.expireRelease (h : Preserves s t) (d : DoorName) : Preserves s (expireRelease d t) := by
  unfold Machine.expireRelease
  split
  · exact h.secureDoor d
  · exact h

theorem Preserves.expireOpen (h : Preserves s t) (d : DoorName) : Preserves s (expireOpen d t) := by
  unfold Machine.expireOpen
  split
  · exact (h.putDoor _ _).notify _ _
  · exact h

theorem Preserves.requestDoor {d : DoorName} {creds : List Nat} {a : Answered} (h : requestDoor d creds s = .ok a) :
    Preserves s a.state := by
  obtain ⟨-, h⟩ := require_of_bind h
  obtain ⟨-, h⟩ := require_of_bind h
  obtain ⟨-, h⟩ := require_of_bind h
  obtain ⟨-, h⟩ := require_of_bind h
  obtain ⟨-, h⟩ := check_of_bind h
  have named := (Preserves.refl s).putDoor d { s.door d with named := grantedNames d creds }
  split at h
  · obtain rfl := Except.ok.inj h
    dsimp only
    exact named.releaseDoor d
  · obtain ⟨k, -, h⟩ := requireSome_of_bind h
    obtain rfl := Except.ok.inj h
    dsimp only
    exact named.grantDelay d k

theorem Preserves.dropToSecure (h : Preserves s t) (d : DoorName) : Preserves s (dropToSecure t d) := by
  unfold Machine.dropToSecure
  dsimp only
  have engaged : Preserves s (if (t.door d).lockReleased = true then Machine.command (.door d) .engage t else t) := by
    split
    · exact h.command _ _
    · exact h
  cases d with
  | strongroom => exact engaged.csc rfl rfl
  | drop n => exact engaged.putSafe _ _
  | other => exact engaged

theorem Preserves.lockChute (h : Preserves s t) (n : Nat) : Preserves s (lockChute t n) :=
  (h.setChuteCause _ _ _).setChuteCause _ _ _

theorem Preserves.secureDoors (h : Preserves s t) (l : List DoorName) : Preserves s (secureDoors l t) :=
  Preserves.fold (fun u d => (Preserves.refl u).dropToSecure d) _ h

theorem Preserves.lockChutes (h : Preserves s t) : Preserves s (lockChutes t) :=
  Preserves.fold (fun u n => (Preserves.refl u).lockChute n) _ h

theorem Preserves.startHold (h : Preserves s t) : Preserves s (startHold t) := h.csc rfl rfl

theorem Preserves.notifyLockdown (h : Preserves s t) (c : LockdownCause) (b : Bool) (l : List DoorName) :
    Preserves s (notifyLockdown c b l t) := h.notify _ _

theorem Preserves.setLatch (h : Preserves s t) (c : LockdownCause) : Preserves s (setLatch c t) := by
  have latched : Preserves s { t with csc.latch := true } := h.csc rfl rfl
  unfold Machine.setLatch
  dsimp only
  refine Preserves.abortHandover ?_
  refine Preserves.lockdownLanes ?_
  refine Preserves.notifyLockdown ?_ _ _ _
  refine Preserves.startHold ?_
  refine Preserves.driveAlarm ?_
  refine Preserves.lockChutes ?_
  exact Preserves.secureDoors latched _

theorem Preserves.lockdown (h : Preserves s t) (c : LockdownCause) : Preserves s (lockdown c t) :=
  .ite (fun _ => h.startHold.driveAlarm.notifyLockdown _ _ _) fun _ => h.setLatch c

theorem Preserves.settleAlarm (h : Preserves s t) : Preserves s (settleAlarm t) := by
  unfold Machine.settleAlarm
  split
  · exact h.ubc rfl le_rfl
  · exact h

theorem Preserves.panicEdge (h : Preserves s t) (e : Edge) : Preserves s (panicEdge e t) := by
  have level : Preserves s { t with ubc.panicHigh := levelAfter e } := h.ubc rfl le_rfl
  unfold Machine.panicEdge
  dsimp only
  split
  · exact level.lockdown _
  · exact level

theorem Preserves.expireHold (h : Preserves s t) : Preserves s (expireHold t) := by
  unfold Machine.expireHold
  split
  · exact h.csc rfl rfl
  · exact h

theorem Preserves.expireAlarm (h : Preserves s t) : Preserves s (expireAlarm t) := by
  unfold Machine.expireAlarm
  split
  · exact Preserves.settleAlarm (h.ubc rfl le_rfl)
  · exact h

/-! ## Drops -/

theorem Preserves.recordUndeclared (h : Preserves s t) (n r : Nat) (g : Option Nat) (f : AnomalyFlags) (b : Bool) :
    Preserves s (recordUndeclared n r g f b t) := (h.recordBag _ _).notify _ _

theorem Preserves.recordDeclared (h : Preserves s t) (n r : Nat) (g : Option Nat) (f : AnomalyFlags) (x : TakenSkim) :
    Preserves s (recordDeclared n r g f x t) := by
  unfold Machine.recordDeclared
  dsimp only
  split
  · exact (h.putTill _ _).recordUndeclared _ _ _ _ _
  · exact (((h.putTill _ _).recordBag _ _).applyMovement _).countDrop _

theorem Preserves.recordDrop (h : Preserves s t) (n r : Nat) (g : Option Nat) : Preserves s (recordDrop n r g t) := by
  unfold Machine.recordDrop
  dsimp only
  split
  · exact h.recordUndeclared _ _ _ _ _
  · split
    · exact (h.skimSearch _).recordUndeclared _ _ _ _ _
    · exact (h.skimSearch _).recordDeclared _ _ _ _ _

theorem Preserves.countInSafe (h : Preserves s t) (n : Nat) (g r : Option Nat) : Preserves s (countInSafe n g r t) := by
  unfold Machine.countInSafe
  dsimp only
  have counted : ∀ u, Preserves s u → Preserves s (Machine.putSafe n { u.safe n with count := min maxDropCount ((t.safe n).count + 1) } u) :=
    fun u hu => hu.putSafe _ _
  split
  · split
    · exact (counted _ (h.notify _ _)).setChuteCause _ _ _
    · exact (counted _ h).setChuteCause _ _ _
  · split
    · exact counted _ (h.notify _ _)
    · exact counted _ h

theorem Preserves.takeDrop (h : Preserves s t) (n : Nat) (g : Option Nat) : Preserves s (takeDrop n g t) := by
  unfold Machine.takeDrop
  split
  · exact h.countInSafe _ _ _
  · next got => exact ((h.allocate got).recordDrop _ _ _).countInSafe _ _ _

/-! ## Credentials -/

theorem Preserves.leaveReaders (h : Preserves s t) (n : Nat) : Preserves s (leaveReaders n t) :=
  h.lists rfl rfl (fun room => (List.length_filter_le _ _).trans room) (fun room => (List.length_filter_le _ _).trans room)
    (fun room => (List.length_filter_le _ _).trans room)

theorem Preserves.putPresence (h : Preserves s t) (r : Reader) (l : List Presence)
    (room : (t.presence r).length ≤ 4 → l.length ≤ 4) : Preserves s (putPresence r l t) := by
  cases r with
  | office => exact h.lists rfl rfl room id id
  | strongroom => exact h.lists rfl rfl id room id
  | hatch => exact h.lists rfl rfl id id room

theorem length_enterPresence_le (e : Presence) (l : List Presence) (h : l.length ≤ 4) : (enterPresence e l).length ≤ 4 := by
  unfold enterPresence
  split
  · next found =>
      obtain ⟨x, hx, same⟩ := List.any_eq_true.mp found
      have shorter : (l.filter (fun x => decide (x.number ≠ e.number))).length < l.length :=
        List.length_filter_lt_length_iff_exists.mpr ⟨x, hx, by simpa using same⟩
      simp only [List.length_append, List.length_singleton]
      omega
  · split
    · simp only [List.length_append, List.length_tail, List.length_singleton]
      omega
    · simp only [List.length_append, List.length_singleton]
      omega

/-- R66: a credential already listed takes no further room. -/
theorem Preserves.relist (h : Preserves s t) (n : Nat) (c c' : Credential) (listed : t.credential n = some c) :
    Preserves s (Machine.putCredential n (some c') t) := by
  refine h.putCredential _ _ (fun room => (Table.length_set_of_listed none _ n _ ?_).trans room)
  exact fun unlisted => Option.some_ne_none c (listed.symm.trans unlisted)

theorem Preserves.failPin (h : Preserves s t) (r : Reader) (n : Nat) (c : Credential) (listed : t.credential n = some c) :
    Preserves s (failPin r n c t) := by
  unfold Machine.failPin
  split
  · exact h.relist n c _ listed
  · exact ((h.relist n c _ listed).leaveReaders n).notify _ _

theorem Preserves.tellOwner (h : Preserves s t) (r : Reader) (n : Nat) (cls : CredClass) :
    Preserves s (tellOwner r n cls t) := by
  cases r with
  | office => exact h
  | strongroom => exact h.presentedAtStrongroom n
  | hatch => exact h.presentedAtHatch n cls

theorem Preserves.present (h : Preserves s t) (r : Reader) (n : Nat) (c : Credential) (b : Bool)
    (listed : t.credential n = some c) : Preserves s (present r n c b t) := by
  unfold Machine.present
  dsimp only
  have entered := (h.relist n c { c with fails := 0 } listed).putPresence r _
    (length_enterPresence_le ⟨n, c.cls, t.cru.lifetime⟩ _)
  refine Preserves.tellOwner ?_ r n c.cls
  split
  · exact entered.driveAlarm.notify _ _
  · exact entered

theorem Preserves.takeBadge (h : Preserves s t) (r : Reader) (n : Nat) (p : PinResult) : Preserves s (takeBadge r n p t) := by
  unfold Machine.takeBadge
  split
  · exact h.notify _ _
  · next c listed =>
      split
      · exact h.notify _ _
      · cases p with
        | fail => exact h.failPin r n c listed
        | ok => exact h.present r n c false listed
        | duress => exact h.present r n c true listed

theorem Preserves.expirePresence (h : Preserves s t) (r : Reader) (n : Nat) : Preserves s (expirePresence r n t) :=
  h.putPresence r _ (fun room => (List.length_filter_le _ _).trans room)

/-! ## The Reconciliation Unit -/

theorem Preserves.beginValuation (h : Preserves s t) : Preserves s (beginValuation t) := by
  unfold Machine.beginValuation
  split
  · split
    · exact h
    · exact h.rcu rfl id
  · exact h

theorem Preserves.applyReport (h : Preserves s t) (c : Confirmation) : Preserves s (applyReport c t) := by
  unfold Machine.applyReport
  split
  · exact h
  · exact h.putTill _ _

theorem Preserves.applyConfirmation (h : Preserves s t) (c : Confirmation) (m : Bool) :
    Preserves s (applyConfirmation c m t) := by
  unfold Machine.applyConfirmation
  dsimp only
  split
  · exact ((h.applyMovement _).applyReport c).retireBag _ _
  · exact ((h.applyMovement _).applyReport c).putBag _ _

theorem Preserves.confirm (h : Preserves s t) (c : Confirmation) : Preserves s (confirm c t).1 := by
  unfold Machine.confirm
  split
  · dsimp only
    exact h.applyConfirmation c true
  · dsimp only
    exact h.applyConfirmation c false

theorem Preserves.notifyStockRange (h : Preserves s t) (r : Nat) (f : Option MoveFail) :
    Preserves s (notifyStockRange r f t) := by
  cases f with
  | none => exact h
  | some f => exact h.notify _ _

theorem Preserves.announceReport (h : Preserves s t) (c : Confirmation) (w : State) :
    Preserves s (announceReport c w t) := by
  unfold Machine.announceReport
  split
  · exact h
  · split
    · exact h.announceResult _
    · exact h

theorem Preserves.leaveQueue (h : Preserves s t) (q : QueuedCount) : Preserves s (leaveQueue q t) := by
  unfold Machine.leaveQueue
  dsimp only
  have shorter : ∀ u, Preserves s u → Preserves s { u with rcu := ⟨u.rcu.queue.tail, none⟩ } := fun u hu =>
    hu.rcu rfl (fun room => by simp only [List.length_tail]; omega)
  split
  · exact shorter _ h
  · exact shorter _ (h.completeLane _)

theorem Preserves.completeCount (h : Preserves s t) (q : QueuedCount) (b : Bag) (c : Option Int) :
    Preserves s (completeCount q b c t) := by
  unfold Machine.completeCount
  dsimp only
  split
  · exact (((((h.offer _).confirm _).leaveQueue q).notifyStockRange _ _).notify _ _).announceReport _ _
  · exact ((((h.offer _).putBag _ _).endReservation).leaveQueue q).notify _ _

theorem Preserves.completeValuation (h : Preserves s t) : Preserves s (completeValuation t) := by
  unfold Machine.completeValuation
  split
  · split
    · exact h
    · split
      · exact h
      · exact (h.snoopFor _).completeCount _ _ _
  · exact h

theorem Preserves.settleDispute (h : Preserves s t) (r : Nat) (b : Bag) (y : Tally) :
    Preserves s (settleDispute r b y t).state := by
  unfold Machine.settleDispute
  split
  · dsimp only
    split
    · exact h
    · split
      · exact h
      · exact ((h.confirm _).notifyStockRange _ _).announceReport _ _
  · exact h

/-! ## The Host Port and the Time Base -/

theorem Preserves.answerFrame (h : Preserves s t) (r : Reply) : Preserves s (answerFrame r t) := by
  unfold Machine.answerFrame
  split
  · exact h
  · exact h.hpt rfl le_rfl id le_rfl

theorem Preserves.arrive (h : Preserves s t) (i : Instr) (tag kind : Nat) : Preserves s (arrive i tag kind t) := by
  unfold Machine.arrive
  split
  · refine h.hpt rfl le_rfl (fun _ => ?_) le_rfl
    simp only [List.length_append, List.length_singleton]
    omega
  · exact h.answerFrame _

theorem Preserves.putRx (h : Preserves s t) (r : Option RxFrame) : Preserves s (putRx r t) := h.hpt rfl le_rfl id le_rfl

theorem Preserves.receiveFrame (h : Preserves s t) (l : List Byte) : Preserves s (receiveFrame l t) := by
  unfold Machine.receiveFrame
  dsimp only
  split
  · exact h.answerFrame _
  · split
    · split
      · exact h.answerFrame _
      · unfold receiveRequest
        split
        · exact h.answerFrame _
        · split
          · exact h.answerFrame _
          · exact h.arrive _ _ _
    · exact h.answerFrame _

theorem Preserves.abandonStale (h : Preserves s t) : Preserves s (abandonStale t) := by
  unfold Machine.abandonStale
  split
  · exact h
  · split
    · exact (h.putRx _).answerFrame _
    · exact h

theorem Preserves.feedByte (h : Preserves s t) (b : Byte) : Preserves s (feedByte t b) := by
  unfold Machine.feedByte
  dsimp only
  split
  · split
    · exact h.abandonStale.putRx _
    · exact h.abandonStale
  · unfold feedFrame
    dsimp only
    split
    · exact h.abandonStale
    · split
      · exact (h.abandonStale.putRx _).answerFrame _
      · split
        · exact h.abandonStale.putRx _
        · exact (h.abandonStale.putRx _).receiveFrame _

theorem Preserves.sendMessage (h : Preserves s t) : Preserves s (sendMessage t) := by
  unfold Machine.sendMessage
  split
  · exact h.hpt rfl le_rfl id le_rfl
  · next n rest queued =>
      split
      · exact h
      · exact h.hpt rfl (by rw [queued]; exact Nat.le_succ _) id le_rfl
  · exact h

theorem Preserves.tickClock (h : Preserves s t) : Preserves s (tickClock t) := h.figures rfl id id id rfl rfl rfl

theorem Preserves.tickTimers (h : Preserves s t) : Preserves s (tickTimers t) := by
  refine h.trans ⟨?_, ?_, id⟩
  · simp +contextual [Machine.tickTimers, tablesRule, Table.wf_update]
  · simp +contextual [Machine.tickTimers, boundsRule, tickPresence]

/-! ## The starts -/

theorem Preserves.coldStart (s t : State) : Preserves s (coldStart t) where
  tables _ := (by decide : tablesRule State.reset = true)
  bounds _ := (by decide : boundsRule State.reset = true)
  ledger _ := (by decide : ledgerRule State.reset = true)

theorem Preserves.abandonCounts (h : Preserves s t) : Preserves s (abandonCounts t) := by
  refine (h.returnBags t.countingBags).trans ⟨?_, ?_, id⟩
  · simp +contextual [Machine.abandonCounts, tablesRule, Table.wf_update]
  · simp +contextual [Machine.abandonCounts, boundsRule]

theorem Preserves.resolveCustody (h : Preserves s t) (p : Bool) : Preserves s (resolveCustody p t) :=
  (h.safes _ (Table.wf_update _ _ _ _)).csc rfl rfl

theorem Preserves.abortAtStart (h : Preserves s t) : Preserves s (abortAtStart t) := by
  unfold Machine.abortAtStart
  split
  · exact h
  · exact h.closeRecord _ _ _ _

theorem Preserves.sendNotice (h : Preserves s t) (k : NoticeKind) (l : List Field) : Preserves s (sendNotice k l t) :=
  h.hpt rfl le_rfl id le_rfl

theorem Preserves.sendStart (h : Preserves s t) (c : StartCause) : Preserves s (sendStart c t) := h.sendNotice _ _

/-- R57: the system records and the commands of a start. -/
theorem Preserves.powered (h : Preserves s t) {u : State} (same : u = { t with sys := u.sys, ubc := u.ubc })
    (errors : u.ubc.unitErrors = t.ubc.unitErrors) : Preserves s u := by
  rw [same]
  exact (h.sys (u := { t with sys := u.sys }) rfl).ubc rfl errors.le

theorem Preserves.warmStart (h : Preserves s t) (c : StartCause) : Preserves s (warmStart c t) := by
  have abandoned := (h.abandonCounts.resolveCustody (decide (c = .power))).abortAtStart
  have emptied : Preserves s (emptyPresence _) :=
    abandoned.lists rfl rfl (fun _ => Nat.zero_le _) (fun _ => Nat.zero_le _) (fun _ => Nat.zero_le _)
  have cleared : Preserves s (resetHostPort _) :=
    emptied.hpt rfl (Nat.zero_le _) (fun _ => Nat.zero_le _) (Nat.zero_le _)
  have reset : Preserves s (resetUnitBus _) := cleared.ubc rfl (Nat.zero_le _)
  unfold Machine.warmStart sendAborted
  dsimp only
  split
  · refine .sendStart (.powered reset ?_ ?_) c <;> rfl
  · refine .sendNotice (.sendStart (.powered reset ?_ ?_) c) _ _ <;> rfl

end Operations

end Sys2Proof.Machine
end

section
/-!
The canonical form of the tables, the sizes and the numbering of the journal are kept by every step.
-/

namespace Sys2Proof.Machine

open Sys2Proof

set_option Elab.async false

section Steps

variable {s t : State}

theorem Preserves.queue (h : Preserves s t) (l : List Instr) : Preserves s { t with pending := l } := h.trans ⟨id, id, id⟩

theorem Preserves.formReply (h : Preserves s t) (r : Reply) : Preserves s (formReply r t) := h.hpt rfl le_rfl id le_rfl

theorem Preserves.sendReplies (h : Preserves s t) : Preserves s (sendReplies t) := h.hpt rfl le_rfl id le_rfl

theorem Preserves.takeFrom (h : Preserves s t) : Preserves s (takeFrom t) := by
  have shorter : Preserves s { t with hpt.buffer := t.hpt.buffer.tail } := by
    refine h.hpt rfl le_rfl (fun room => ?_) le_rfl
    simp only [List.length_tail]
    omega
  exact shorter.sendReplies

theorem Preserves.dayClosed (h : Preserves s t) (l : List SlotLine) : Preserves s (dayClosedState l t) := by
  have figures : Preserves s (dayFigures l t) := by
    refine (h.tills _ (Table.wf_update Till.initial Till.closeDay tillNumbers _)).figures rfl id id ?_ rfl rfl rfl
    exact wf_foldl_set 0 SlotLine.slot _ l t.acu.suspects
  exact figures.freeRetired.applyMovement _

theorem Preserves.dayOpened (h : Preserves s t) (d : Date) (l : List StockLine) : Preserves s (dayOpened d l t) := by
  have moved : Preserves s (Machine.applyMovement (openingMovement l t) t) := h.applyMovement _
  unfold Machine.dayOpened
  generalize Machine.applyMovement (openingMovement l t) t = u at moved ⊢
  exact moved.figures rfl id id id rfl rfl rfl

theorem Preserves.lanesOn (h : Preserves s t) : Preserves s (lanesOn t) := h.lanes _ (Table.wf_update _ _ _ _)

theorem Preserves.lanesOff (h : Preserves s t) : Preserves s (lanesOff t) := h.lanes _ (Table.wf_update _ _ _ _)

theorem Preserves.safeCleared (h : Preserves s t) (n : Nat) : Preserves s (safeCleared n t) :=
  ((Preserves.fold (fun u r => (Preserves.refl u).benchBag r) _ h).putSafe _ _).setChuteCause _ _ _

theorem Accepted.preserves (h : Accepted s t) : Preserves s t := by
  have same := Preserves.refl s
  cases h with
  | queried => exact same
  | notices g e => exact same.hpt rfl le_rfl id le_rfl
  | status => exact (same.hpt (u := { s with hpt.overflow := false, hpt.dropped := 0 }) rfl le_rfl id (Nat.zero_le _)).ubc rfl (Nat.zero_le _)
  | restart => exact same.hpt rfl le_rfl id le_rfl
  | clock c => exact same.figures rfl id id id rfl rfl rfl
  | denominations entries idle ok once free =>
    refine same.figures rfl ?_ id id rfl rfl rfl
    exact wf_foldl_set Denom.unused DenomEntry.slot (fun _ e => entryDenom e) entries s.acu.denoms
  | band v k => exact same.figures rfl id id id rfl rfl rfl
  | dayOpened d l day ok opening => exact same.dayOpened d l
  | dayClosed l room outs => exact same.dayClosed l
  | officeOpened latch => exact Preserves.lanesOn (same.figures rfl id id id rfl rfl rfl)
  | officeClosed => exact Preserves.lanesOff (same.figures rfl id id id rfl rfl rfl)
  | journalTaken k =>
    refine Preserves.syncJournal ⟨id, id, ?_⟩
    simp only [ledgerRule, Bool.and_eq_true]
    rintro ⟨numbers, newest⟩
    refine ⟨consecutive_drop _ _ k numbers, ?_⟩
    rw [List.getLast?_drop]
    split
    · rfl
    · exact newest
  | enrolled n k room =>
    refine same.putCredential _ _ fun _ => ?_
    exact (Table.length_set_le none s.cru.creds n _).trans (by simpa [State.credentialCount] using room)
  | revoked n =>
    refine Preserves.leaveReaders (same.putCredential _ _ fun room => ?_) n
    exact (Table.length_erase_le s.cru.creds n).trans room
  | reinstated n c listed => exact same.relist n c _ listed
  | lifetime k => exact same.lifetime k
  | range i e => exact same.putRange i e
  | bagMoved r b d found still => exact same.putBag r _
  | limit n v => exact (same.putTill n _).overLimitTest n
  | template n lines slots once => exact same.templates n lines
  | floatMade n m r tagNo taken s1 till state room lines slot space =>
    exact (((same.allocate slot).recordBag _ _).applyMovement _).putTill _ _
  | floatUnmade n r b till state bag room fits => exact ((same.applyMovement _).retireBag _ _).putTill _ _
  | floatIssued n r cashier b till state bag room => exact (((same.applyMovement _).retireBag _ _).putTill _ _).overLimitTest n
  | takings n r tagNo cashier v s1 till state room slot space =>
    exact ((((same.allocate slot).recordBag _ _).applyMovement _).putTill _ _).clearOverLimit n
  | posted p till room =>
    refine same.postings _ fun _ => ?_
    simp only [List.length_append, List.length_singleton]
    omega
  | tillReleased n => exact same.putTill n _
  | snooped n => exact same.snoopTill n
  | laneLoaded n ref urgent b lane found state custody purpose idle => exact (same.putBag _ _).putLane _ _
  | lanePushed n ref b lane found state custody purpose atWork => exact (same.putBag _ _).putLane _ _
  | laneStarted n lane ready latch => exact (same.putLane _ _).command _ _
  | laneStopped n lane atWork => exact same.addHold n _
  | laneResumed n lane held => exact same.putLane n _
  | batchClosed n coins lane atWork queue room =>
    refine Preserves.makeReservation (Preserves.putLane (same.rcu rfl fun _ => ?_) n _)
    simp only [List.length_append, List.length_singleton]
    omega
  | batchAborted n lane atWork => exact (same.returnBag _).putLane n _
  | faultCleared n lane faulty free => exact same.putLane n _
  | countQueued ref b tally found purpose state queue room =>
    refine Preserves.makeReservation (Preserves.putBag (same.rcu rfl fun _ => ?_) ref _)
    simp only [List.length_append, List.length_singleton]
    omega
  | disputeSettled ref b y found disputed day => exact (same.snoopFor b).settleDispute ref b y
  | merged ref b found confirmed fits => exact (same.applyMovement _).retireBag _ _
  | watchWritten n e => exact same.putWatch n e
  | auditHold on => exact same.auditHold on
  | doorRequested d creds a granted => exact Preserves.requestDoor granted
  | doorCancelled d door moving => exact same.secureDoor d
  | policy p => exact same.csc rfl rfl
  | maintenance on thawed => exact same.csc rfl rfl
  | frozen => exact same.csc rfl rfl
  | safeCleared n safe => exact same.safeCleared n
  | lockdown => exact same.lockdown .request
  | lockdownReleased fields latch ended =>
    have clear : Preserves s { s with csc.latch := false } := same.csc rfl rfl
    exact ((clear.setChuteCauseAll _ _).notify _ _).settleAlarm
  | panicSelect e => exact same.ubc rfl le_rfl
  | deposited r tagNo lines s1 slots once suits covered room slot space =>
    exact ((same.allocate slot).recordBag _ _).applyMovement _
  | manifestCreated n visit courier opens closes window outbound inbound once ready entry =>
    exact (same.putManifest _ _).closedOrder _
  | manifestCancelled n m st st' found => exact same.closeManifest n m st .host

theorem Happens.preserves (h : Happens s t) : Preserves s t := by
  have same := Preserves.refl s
  cases h with
  | nothing => exact same
  | discarded => exact same.discardRecord
  | panicLevel e => exact same.ubc rfl le_rfl
  | bytes l => exact Preserves.fold (fun u b => (Preserves.refl u).feedByte b) l same
  | stale => exact same.abandonStale
  | sent => exact same.sendMessage
  | note n slot f x lane => exact same.takeNote n slot f x
  | pocket n p lane => exact same.emptyPocket n p
  | jam n lane => exact same.takeJam n
  | badge r n p => exact same.takeBadge r n p
  | door d isOpen door => exact same.takeDoor d isOpen
  | drop n tagNo safe => exact same.takeDrop n tagNo
  | scan tagNo => exact same.takeScan tagNo
  | panic e => exact same.panicEdge e
  | resetAsserted => exact same.sys rfl
  | cold => exact .coldStart s s
  | warm c => exact same.warmStart c
  | restartCold => exact .coldStart s _
  | restartWarm => exact same.sendReplies.warmStart .restart
  | supplyLost valid => exact same.sys rfl
  | clockTick => exact same.tickClock
  | tick => exact same.tickTimers.tickClock
  | presenceExpiry r n => exact same.expirePresence r n
  | delay d door => exact same.expireDelay d
  | confirm => exact same.expireConfirm
  | release d door => exact same.expireRelease d
  | openLimit d door => exact same.expireOpen d
  | holdExpiry => exact same.expireHold
  | handoverExpiry => exact same.expireHandover
  | alarmExpiry => exact same.expireAlarm
  | posting => exact same.applyOldest
  | begun => exact same.beginValuation
  | completed => exact same.completeValuation

/-- A rule that every write of a record keeps is kept by every step. -/
theorem Kept.of_preserves {P : State → Prop} (h : ∀ s t, Preserves s t → P s → P t) : Kept P where
  queue s l hs := h s _ ((Preserves.refl s).queue l) hs
  arrives i tag kind s hs := h s _ ((Preserves.refl s).arrive i tag kind) hs
  taken s hs := h s _ (Preserves.refl s).takeFrom hs
  replied s r hs := h s _ ((Preserves.refl s).formReply r) hs
  accepted s t hs a := h s t a.preserves hs
  happens s t hs a := h s t a.preserves hs

theorem tablesRule_kept : Kept (tablesRule · = true) := .of_preserves fun _ _ p => p.tables

theorem boundsRule_kept : Kept (boundsRule · = true) := .of_preserves fun _ _ p => p.bounds

theorem ledgerRule_kept : Kept (ledgerRule · = true) := .of_preserves fun _ _ p => p.ledger

end Steps

end Sys2Proof.Machine

namespace Sys2Proof.Proofs.Records

open Sys2Proof Sys2Proof.Machine

/-- Settles O9, write by write: each is no fuller than the sizes allow, and a write that adds to a list is guarded. -/
theorem stepKeepsBounds : Obligations.StepKeepsBounds := by
  unfold Obligations.StepKeepsBounds
  exact fun s t => boundsRule_kept.step

/-- Settles O10: every table is written by `Table.set` or `Table.update`, which keep the form. -/
theorem stepKeepsTables : Obligations.StepKeepsTables := by
  unfold Obligations.StepKeepsTables
  exact fun s t => tablesRule_kept.step

end Sys2Proof.Proofs.Records
end

section
/-!
Most of what the part does leaves the doors, the custody settings, the latch, the ALARM line and the manifests in HANDOVER
alone.  `SameCustody` says so of two states; the four rules about them are then kept.
-/

namespace Sys2Proof.Machine

open Sys2Proof

set_option Elab.async false

/-- `t` has the doors, the settings, the latch and the ALARM line of `s`, and no manifest in HANDOVER besides those of `s`. -/
structure SameCustody (s t : State) : Prop where
  doors       : ∀ d, t.door d = s.door d
  freeze      : t.csc.freeze = s.csc.freeze
  maintenance : t.csc.maintenance = s.csc.maintenance
  latch       : t.csc.latch = s.csc.latch
  hold        : t.csc.holdRunning = s.csc.holdRunning
  alarm       : t.ubc.alarm = s.ubc.alarm
  alarmTimer  : t.ubc.alarmTimer = s.ubc.alarmTimer
  handovers   : ∀ n, t.handedOver n = true → s.handedOver n = true

section Same

variable {s t u : State}

/-! ## Two such states -/

theorem SameCustody.refl (s : State) : SameCustody s s := ⟨fun _ => rfl, rfl, rfl, rfl, rfl, rfl, rfl, fun _ => id⟩

theorem SameCustody.trans (h : SameCustody s t) (g : SameCustody t u) : SameCustody s u :=
  ⟨fun d => (g.doors d).trans (h.doors d), g.freeze.trans h.freeze, g.maintenance.trans h.maintenance, g.latch.trans h.latch,
    g.hold.trans h.hold, g.alarm.trans h.alarm, g.alarmTimer.trans h.alarmTimer, fun n => h.handovers n ∘ g.handovers n⟩

theorem SameCustody.fold {β : Type} {f : State → β → State} (hf : ∀ u b, SameCustody u (f u b)) (l : List β)
    (h : SameCustody s t) : SameCustody s (l.foldl f t) := by
  induction l generalizing t with
  | nil => exact h
  | cons b rest ih => exact ih (h.trans (hf t b))

theorem SameCustody.ite {c : Prop} [Decidable c] {v : State} (yes : c → SameCustody s u) (no : ¬c → SameCustody s v) :
    SameCustody s (if c then u else v) := by
  split
  · next hc => exact yes hc
  · next hc => exact no hc

/-- What changes none of the custody records, of the ALARM line and of the manifests. -/
theorem SameCustody.of_eq (csc : t.csc = s.csc) (alarm : t.ubc.alarm = s.ubc.alarm ∧ t.ubc.alarmTimer = s.ubc.alarmTimer)
    (hoc : t.hoc.manifests = s.hoc.manifests) : SameCustody s t := by
  refine ⟨fun d => ?_, by rw [csc], by rw [csc], by rw [csc], by rw [csc], alarm.1, alarm.2, fun n => ?_⟩
  · cases d <;> simp [State.door, State.safe, csc]
  · simp [State.handedOver, State.manifest, hoc]

theorem SameCustody.of_onlyChutes (h : onlyChutes s t) (hoc : t.hoc = s.hoc) : SameCustody s t := by
  obtain ⟨-, ubc, csc, safes⟩ := h
  refine ⟨fun d => ?_, by rw [csc], by rw [csc], by rw [csc], by rw [csc], by rw [ubc], by rw [ubc], fun n => ?_⟩
  · cases d with
    | strongroom =>
      show t.csc.strongroom = s.csc.strongroom
      rw [csc]
    | drop n => exact (safes n).1
    | other => rfl
  · simp [State.handedOver, State.manifest, hoc]

/-- A drop safe written with its door as it is. -/
theorem SameCustody.putSafe (h : SameCustody s t) (n : Nat) (d : DropSafe) (door : d.door = (t.safe n).door) :
    SameCustody s (putSafe n d t) := by
  refine h.trans ⟨fun e => ?_, rfl, rfl, rfl, rfl, rfl, rfl, fun _ => id⟩
  cases e with
  | strongroom => rfl
  | drop k =>
    simp only [State.door, putSafe_safe]
    split
    · next same => rw [door, same]
    · rfl
  | other => rfl

/-- A manifest written in the state it is in, or in any state but HANDOVER. -/
theorem SameCustody.putManifest (h : SameCustody s t) (n : Nat) (m : Manifest)
    (state : m.state = .handover → t.handedOver n = true) : SameCustody s (putManifest n m t) := by
  refine h.trans ⟨fun d => by cases d <;> rfl, rfl, rfl, rfl, rfl, rfl, rfl, fun k held => ?_⟩
  simp only [State.handedOver, putManifest_manifest] at held
  split at held
  · next same =>
      subst same
      exact state (by simpa using held)
  · exact held

theorem SameCustody.setChuteCause (h : SameCustody s t) (n : Nat) (c : ChuteCause) (on : Bool) :
    SameCustody s (setChuteCause n c on t) :=
  h.trans ⟨setChuteCause_door n c on t, by simp, by simp, by simp, by simp, by simp, by simp,
    fun k => by simp [State.handedOver, State.manifest]⟩

theorem SameCustody.setChuteCauseAll (h : SameCustody s t) (c : ChuteCause) (on : Bool) :
    SameCustody s (setChuteCauseAll c on t) :=
  SameCustody.fold (fun u n => (SameCustody.refl u).setChuteCause n c on) _ h

/-! ## The operations that touch the chutes -/

theorem SameCustody.applyMovement (h : SameCustody s t) (m : Movement) : SameCustody s (applyMovement m t) :=
  h.trans (.of_onlyChutes (applyMovement_onlyChutes m t) (by simp))

theorem SameCustody.recordBag (h : SameCustody s t) (r : Nat) (b : Bag) : SameCustody s (recordBag r b t) :=
  h.trans (.of_onlyChutes (recordBag_onlyChutes r b t) (by simp))

theorem SameCustody.retireBag (h : SameCustody s t) (r : Nat) (b : Bag) : SameCustody s (retireBag r b t) :=
  h.trans (.of_onlyChutes (retireBag_onlyChutes r b t) (by simp))

theorem SameCustody.freeRetired (h : SameCustody s t) : SameCustody s (freeRetired t) :=
  h.trans (.of_onlyChutes (freeRetired_onlyChutes t) (by simp))

theorem SameCustody.makeReservation (h : SameCustody s t) : SameCustody s (makeReservation t) :=
  h.trans (.of_onlyChutes (makeReservation_onlyChutes t) (by simp))

theorem SameCustody.endReservation (h : SameCustody s t) : SameCustody s (endReservation t) :=
  h.trans (.of_onlyChutes (endReservation_onlyChutes t) (by simp))

theorem SameCustody.allocate (h : SameCustody s t) {r : Nat} (got : allocate t = some (r, u)) : SameCustody s u := by
  obtain ⟨-, -, ubc, -, -, -, -, -, -, csc, hoc, -⟩ := allocate_keeps t u r got
  exact h.trans (.of_eq csc ⟨by rw [ubc], by rw [ubc]⟩ (by rw [hoc]))

theorem SameCustody.putTill (h : SameCustody s t) (n : Nat) (x : Till) : SameCustody s (putTill n x t) :=
  h.trans (.of_eq rfl ⟨rfl, rfl⟩ rfl)

theorem SameCustody.putBag (h : SameCustody s t) (r : Nat) (b : Bag) : SameCustody s (putBag r b t) :=
  h.trans (.of_eq rfl ⟨rfl, rfl⟩ rfl)

theorem SameCustody.notify (h : SameCustody s t) (k : NoticeKind) (l : List Field) : SameCustody s (notify k l t) :=
  h.trans (.of_eq (by simp) (by simp) (by simp))

theorem SameCustody.refuseScan (h : SameCustody s t) (g r : Option Nat) (x : ScanReason) : SameCustody s (refuseScan g r x t) :=
  h.trans (.of_eq (by simp) (by simp) (by simp))

theorem SameCustody.clearOverLimit (h : SameCustody s t) (n : Nat) : SameCustody s (clearOverLimit n t) :=
  h.trans (.of_eq (by simp) (by simp) (by simp))

theorem SameCustody.overLimitTest (h : SameCustody s t) (n : Nat) : SameCustody s (overLimitTest n t) :=
  h.trans (.of_eq (by simp) (by simp) (by simp))

theorem SameCustody.rememberSkim (h : SameCustody s t) (p : Posting) (g : Nat) : SameCustody s (rememberSkim p g t) :=
  h.trans (.of_eq (by simp) (by simp) (by simp))

theorem SameCustody.attachSkim (h : SameCustody s t) (p : Posting) (g : Nat) : SameCustody s (attachSkim p g t) := by
  unfold Machine.attachSkim
  dsimp only
  split
  · exact h.rememberSkim p g
  · split
    · exact h.rememberSkim p g
    · split
      · exact ((h.putTill _ _).putBag _ _).clearOverLimit _
      · split
        · exact h.notify _ _
        · exact (((h.putTill _ _).applyMovement _).putBag _ _).clearOverLimit _

theorem SameCustody.applyPosting (h : SameCustody s t) (p : Posting) : SameCustody s (applyPosting t p) := by
  have session : SameCustody s (applyInSession p t) := by
    unfold applyInSession
    dsimp only
    refine SameCustody.overLimitTest ?_ _
    split
    · exact (h.putTill _ _).attachSkim _ _
    · exact h.putTill _ _
  unfold Machine.applyPosting
  split
  · exact session
  · exact session
  all_goals exact h.trans (.of_eq (by simp) (by simp) (by simp))

theorem SameCustody.postings (h : SameCustody s t) (l : List Posting) : SameCustody s { t with tau.postings := l } :=
  h.trans (.of_eq rfl ⟨rfl, rfl⟩ rfl)

theorem SameCustody.snoopTill (h : SameCustody s t) (n : Nat) : SameCustody s (snoopTill n t) :=
  SameCustody.fold (fun u p => (SameCustody.refl u).applyPosting p) _ (h.postings _)

theorem SameCustody.snoopFor (h : SameCustody s t) (b : Bag) : SameCustody s (snoopFor b t) := by
  unfold Machine.snoopFor
  split
  · exact h
  · exact h.snoopTill _

theorem SameCustody.applyOldest (h : SameCustody s t) : SameCustody s (applyOldest t) := by
  unfold Machine.applyOldest
  split
  · exact h
  · exact SameCustody.applyPosting (h.postings _) _

theorem SameCustody.skimSearch (h : SameCustody s t) (g : Nat) : SameCustody s (skimSearch g t) := by
  unfold Machine.skimSearch
  split
  · exact h
  · exact SameCustody.applyPosting (h.postings _) _

/-! ## Counts -/

theorem SameCustody.applyReport (h : SameCustody s t) (c : Confirmation) : SameCustody s (applyReport c t) :=
  h.trans (.of_eq (by simp) (by simp) (by simp))

theorem SameCustody.confirm (h : SameCustody s t) (c : Confirmation) : SameCustody s (confirm c t).1 := by
  have applied : ∀ m, SameCustody s (applyConfirmation c m t) := fun m =>
    .ite (fun _ => ((h.applyMovement _).applyReport c).retireBag _ _) fun _ => ((h.applyMovement _).applyReport c).putBag _ _
  unfold Machine.confirm
  split
  · dsimp only
    exact applied true
  · dsimp only
    exact applied false

theorem SameCustody.announceReport (h : SameCustody s t) (c : Confirmation) (w : State) :
    SameCustody s (announceReport c w t) := h.trans (.of_eq (by simp) (by simp) (by simp))

theorem SameCustody.notifyStockRange (h : SameCustody s t) (r : Nat) (f : Option MoveFail) :
    SameCustody s (notifyStockRange r f t) := h.trans (.of_eq (by simp) (by simp) (by simp))

theorem SameCustody.offer (h : SameCustody s t) (r : WatchResult) : SameCustody s (offer r t).1 :=
  h.trans (.of_eq (by simp) (by simp) (by simp))

theorem SameCustody.leaveQueue (h : SameCustody s t) (q : QueuedCount) : SameCustody s (leaveQueue q t) :=
  h.trans (.of_eq (by simp) (by simp) (by simp))

theorem SameCustody.completeCount (h : SameCustody s t) (q : QueuedCount) (b : Bag) (c : Option Int) :
    SameCustody s (completeCount q b c t) := by
  unfold Machine.completeCount
  dsimp only
  split
  · exact (((((h.offer _).confirm _).leaveQueue q).notifyStockRange _ _).notify _ _).announceReport _ _
  · exact ((((h.offer _).putBag _ _).endReservation).leaveQueue q).notify _ _

theorem SameCustody.completeValuation (h : SameCustody s t) : SameCustody s (completeValuation t) := by
  unfold Machine.completeValuation
  split
  · split
    · exact h
    · split
      · exact h
      · exact (h.snoopFor _).completeCount _ _ _
  · exact h

theorem SameCustody.settleDispute (h : SameCustody s t) (r : Nat) (b : Bag) (y : Tally) :
    SameCustody s (settleDispute r b y t).state := by
  unfold Machine.settleDispute
  split
  · dsimp only
    split
    · exact h
    · split
      · exact h
      · exact ((h.confirm _).notifyStockRange _ _).announceReport _ _
  · exact h

/-! ## Drops and hatch scans -/

theorem SameCustody.countDrop (h : SameCustody s t) (x : TakenSkim) : SameCustody s (countDrop x t) :=
  h.trans (.of_eq (by simp) (by simp) (by simp))

theorem SameCustody.recordDrop (h : SameCustody s t) (n r : Nat) (g : Option Nat) : SameCustody s (recordDrop n r g t) := by
  have undeclared : ∀ {u}, SameCustody s u → ∀ f b, SameCustody s (recordUndeclared n r g f b u) :=
    fun hu _ _ => (hu.recordBag _ _).notify _ _
  unfold Machine.recordDrop
  dsimp only
  split
  · exact undeclared h _ _
  · split
    · exact undeclared (h.skimSearch _) _ _
    · unfold recordDeclared
      dsimp only
      split
      · exact undeclared ((h.skimSearch _).putTill _ _) _ _
      · exact ((((h.skimSearch _).putTill _ _).recordBag _ _).applyMovement _).countDrop _

theorem SameCustody.countInSafe (h : SameCustody s t) (n : Nat) (g r : Option Nat) : SameCustody s (countInSafe n g r t) := by
  unfold Machine.countInSafe
  dsimp only
  have noticed : SameCustody s (if 40 ≤ (t.safe n).count ∨ r = none then
      Machine.notify .overfill [fNum 1 n, fNum 2 (min maxDropCount ((t.safe n).count + 1)), fTag g, fRef r, fNamed (flagByte r.isNone)] t
      else t) := .ite (fun _ => h.notify _ _) fun _ => h
  generalize (if 40 ≤ (t.safe n).count ∨ r = none then _ else t) = u at noticed ⊢
  refine .ite (fun _ => .setChuteCause (.putSafe noticed n _ ?_) _ _ _) fun _ => .putSafe noticed n _ ?_ <;> rfl

theorem SameCustody.takeDrop (h : SameCustody s t) (n : Nat) (g : Option Nat) : SameCustody s (takeDrop n g t) := by
  unfold Machine.takeDrop
  split
  · exact h.countInSafe _ _ _
  · next got => exact ((h.allocate got).recordDrop _ _ _).countInSafe _ _ _

/-- R186: the manifest in HANDOVER is an entry of the table in that state. -/
theorem inHandover_handedOver {n : Nat} {m : Manifest} (h : s.inHandover = some (n, m)) :
    n ∈ manifestNumbers ∧ s.manifest n = some m ∧ s.handedOver n = true := by
  have listed := List.mem_of_head? h
  simp only [State.manifestsWhere, List.mem_filterMap, Option.map_eq_some_iff, Option.filter_eq_some_iff,
    decide_eq_true_eq] at listed
  obtain ⟨k, hk, m', ⟨found, state⟩, e⟩ := listed
  cases e
  exact ⟨hk, found, by simp [State.handedOver, found, state]⟩

theorem SameCustody.scan (h : SameCustody s t) {n : Nat} {m : Manifest} (now : t.inHandover = some (n, m)) (g : Nat) :
    (∀ o, SameCustody s (scanOutbound n m o g t)) ∧ ∀ i, SameCustody s (scanInbound n m i t) := by
  obtain ⟨-, -, held⟩ := inHandover_handedOver now
  refine ⟨fun o => ?_, fun i => ?_⟩
  · unfold Machine.scanOutbound
    split
    · exact h.notify _ _
    · split
      · exact h.refuseScan _ _ _
      · refine .ite (fun _ => h.refuseScan _ _ _) fun _ => ?_
        dsimp only
        split
        · exact h.refuseScan _ _ _
        · refine ((h.applyMovement _).retireBag _ _).putManifest n _ fun _ => ?_
          simpa [State.handedOver, State.manifest] using held
  · unfold Machine.scanInbound
    split
    · exact h.notify _ _
    · split
      · exact h.refuseScan _ _ _
      · next r u got =>
          have allocated : Machine.allocate t = some (r, u) := by
            split at got
            · exact got
            · cases got
          obtain ⟨-, -, -, -, -, -, -, -, -, -, hoc, -⟩ := allocate_keeps t u r allocated
          dsimp only
          split
          · exact h.refuseScan _ _ _
          · refine (((h.allocate allocated).recordBag _ _).applyMovement _).putManifest n _ fun _ => ?_
            simpa [State.handedOver, State.manifest, hoc] using held

theorem SameCustody.takeScan (h : SameCustody s t) (g : Option Nat) : SameCustody s (takeScan g t) := by
  unfold Machine.takeScan
  split
  · exact h.trans (.of_eq (by simp) (by simp) (by simp))
  · next now =>
      split
      · exact h.refuseScan _ _ _
      · split
        · exact (h.scan now _).1 _
        · split
          · exact (h.scan now 0).2 _
          · exact h.refuseScan _ _ _

/-! ## Rules that two such states share -/

theorem SameCustody.freezeRule (h : SameCustody s t) (hs : freezeRule s = true) : freezeRule t = true := by
  simpa [Machine.freezeRule, h.freeze, h.maintenance] using hs

theorem SameCustody.alarmRule (h : SameCustody s t) (hs : alarmRule s = true) : alarmRule t = true := by
  simpa [Machine.alarmRule, h.alarm, h.alarmTimer, h.latch] using hs

theorem SameCustody.doorRule (h : SameCustody s t) (hs : doorRule s = true) : doorRule t = true :=
  doorRule_congr s t hs (fun d _ => h.doors d) h.latch h.hold

end Same

end Sys2Proof.Machine
end

section
/-!
The few commands that move a door, the settings, the latch or ALARM, and the rules of Settings Freeze and of ALARM.
-/

namespace Sys2Proof.Machine

open Sys2Proof

set_option Elab.async false

/-- The accepted requests that work on the doors, the settings, the latch or ALARM. -/
inductive CustodyRequest (s : State) : State → Prop where
  | doorRequested (d : DoorName) (creds : List Nat) (a : Answered) (granted : requestDoor d creds s = .ok a) :
      CustodyRequest s a.state
  | doorCancelled (d : DoorName) (door : validDoor d = true)
      (moving : (s.door d).state = .delay ∨ (s.door d).state = .confirm ∨ (s.door d).state = .released) :
      CustodyRequest s (secureDoor d s)
  | maintenance (on : Bool) (thawed : s.csc.freeze = false) : CustodyRequest s { s with csc.maintenance := on }
  | frozen : CustodyRequest s { s with csc.freeze := true, csc.maintenance := false }
  | lockdown : CustodyRequest s (lockdown .request s)
  | lockdownReleased (fields : List Field) (latch : s.csc.latch = true) (ended : s.csc.holdRunning = false) :
      CustodyRequest s (settleAlarm (notify .lockdownCleared fields
        (setChuteCauseAll .lockdown false { s with csc.latch := false })))

/-- The events, starts and ticks that do. -/
inductive CustodyEvent (s : State) : State → Prop where
  | badge (r : Reader) (n : Nat) (p : PinResult) : CustodyEvent s (takeBadge r n p s)
  | door (d : DoorName) (isOpen : Bool) (door : validDoor d = true) : CustodyEvent s (takeDoor d isOpen s)
  | panic (e : Edge) : CustodyEvent s (panicEdge e s)
  | cold (u : State) : CustodyEvent s (coldStart u)
  | warm (c : StartCause) : CustodyEvent s (warmStart c s)
  | restartWarm : CustodyEvent s (warmStart .restart (sendReplies s))
  | tick : CustodyEvent s (tickClock (tickTimers s))
  | delay (d : DoorName) (door : validDoor d = true) : CustodyEvent s (expireDelay d s)
  | confirm : CustodyEvent s (expireConfirm s)
  | release (d : DoorName) (door : validDoor d = true) : CustodyEvent s (expireRelease d s)
  | openLimit (d : DoorName) (door : validDoor d = true) : CustodyEvent s (expireOpen d s)
  | holdExpiry : CustodyEvent s (expireHold s)
  | alarmExpiry : CustodyEvent s (expireAlarm s)

section Settings

variable {s t : State}

theorem SameCustody.closeManifest (h : SameCustody s t) (n : Nat) (m : Manifest) (st : ManifestState) (c : CloseCause)
    (ended : st ≠ .handover) : SameCustody s (closeManifest n m st c t) := by
  have written : SameCustody s (Machine.putManifest n (m.close st c) t) := h.putManifest n _ fun e => absurd e ended
  exact .notify (.trans written (.of_eq (by rfl) ⟨by rfl, by rfl⟩ (by rfl))) _ _

theorem SameCustody.safeCleared (h : SameCustody s t) (n : Nat) : SameCustody s (safeCleared n t) := by
  have benched : ∀ u r, SameCustody u (benchBag u r) := fun u r => .of_eq (by simp) (by simp) (by simp)
  refine .setChuteCause (.putSafe (.fold benched _ h) n _ ?_) _ _ _
  rfl

/-- Every other accepted request leaves them alone. -/
theorem Accepted.sameCustody_or (a : Accepted s t) : SameCustody s t ∨ CustodyRequest s t := by
  have same := SameCustody.refl s
  cases a
  case doorRequested d creds a granted => exact .inr (.doorRequested d creds a granted)
  case doorCancelled d door moving => exact .inr (.doorCancelled d door moving)
  case maintenance on thawed => exact .inr (.maintenance on thawed)
  case frozen => exact .inr .frozen
  case lockdown => exact .inr .lockdown
  case lockdownReleased fields latch ended => exact .inr (.lockdownReleased fields latch ended)
  all_goals left
  case policy p => exact ⟨fun d => by cases d <;> rfl, rfl, rfl, rfl, rfl, rfl, rfl, fun _ => id⟩
  case safeCleared n safe => exact same.safeCleared n
  case dayOpened d l day ok opening =>
    have moved : SameCustody s (applyMovement (openingMovement l s) s) := same.applyMovement _
    unfold Machine.dayOpened
    generalize applyMovement (openingMovement l s) s = u at moved ⊢
    exact moved.trans (.of_eq rfl ⟨rfl, rfl⟩ rfl)
  case dayClosed l room outs =>
    have figures : SameCustody s (dayFigures l s) := .of_eq rfl ⟨rfl, rfl⟩ rfl
    exact figures.freeRetired.applyMovement _
  case journalTaken k =>
    have dropped : SameCustody s { s with acu.journal := s.acu.journal.drop k } := .of_eq rfl ⟨rfl, rfl⟩ rfl
    exact dropped.setChuteCauseAll _ _
  case floatMade n m r tagNo taken s1 till state room lines slot space =>
    exact (((same.allocate slot).recordBag _ _).applyMovement _).putTill _ _
  case floatUnmade n r b till state bag room fits => exact ((same.applyMovement _).retireBag _ _).putTill _ _
  case floatIssued n r cashier b till state bag room =>
    exact (((same.applyMovement _).retireBag _ _).putTill _ _).overLimitTest n
  case takings n r tagNo cashier v s1 till state room slot space =>
    exact ((((same.allocate slot).recordBag _ _).applyMovement _).putTill _ _).clearOverLimit n
  case snooped n => exact same.snoopTill n
  case batchClosed n coins lane atWork queue room =>
    refine SameCustody.makeReservation (.of_eq ?_ ⟨?_, ?_⟩ ?_) <;> rfl
  case countQueued ref b tally found purpose state queue room =>
    refine SameCustody.makeReservation (.of_eq ?_ ⟨?_, ?_⟩ ?_) <;> rfl
  case disputeSettled ref b y found disputed day => exact (same.snoopFor b).settleDispute ref b y
  case merged ref b found confirmed fits => exact (same.applyMovement _).retireBag _ _
  case deposited r tagNo lines s1 slots once suits covered room slot space =>
    exact ((same.allocate slot).recordBag _ _).applyMovement _
  case manifestCreated n visit courier opens closes window outbound inbound once ready entry =>
    have written : SameCustody s (putManifest n (newManifest visit courier opens closes window outbound inbound s) s) :=
      same.putManifest n _ fun e => nomatch e
    exact written.trans (.of_eq rfl ⟨rfl, rfl⟩ rfl)
  case manifestCancelled n m st ended found =>
    refine same.closeManifest n m st .host ?_
    rcases ended with rfl | rfl <;> decide
  case officeOpened latch => exact .of_eq rfl ⟨rfl, rfl⟩ rfl
  case officeClosed => exact .of_eq rfl ⟨rfl, rfl⟩ rfl
  case laneLoaded => exact .of_eq rfl ⟨rfl, rfl⟩ rfl
  case lanePushed => exact .of_eq rfl ⟨rfl, rfl⟩ rfl
  all_goals exact .of_eq (by simp) (by simp) (by simp)

/-- So does every other command. -/
theorem Happens.sameCustody_or (a : Happens s t) : SameCustody s t ∨ CustodyEvent s t := by
  have same := SameCustody.refl s
  cases a
  case badge r n p => exact .inr (.badge r n p)
  case door d isOpen door => exact .inr (.door d isOpen door)
  case panic e => exact .inr (.panic e)
  case cold => exact .inr (.cold s)
  case restartCold => exact .inr (.cold _)
  case warm c => exact .inr (.warm c)
  case restartWarm => exact .inr .restartWarm
  case tick => exact .inr .tick
  case delay d door => exact .inr (.delay d door)
  case confirm => exact .inr .confirm
  case release d door => exact .inr (.release d door)
  case openLimit d door => exact .inr (.openLimit d door)
  case holdExpiry => exact .inr .holdExpiry
  case alarmExpiry => exact .inr .alarmExpiry
  all_goals left
  case bytes l => exact SameCustody.fold (fun u b => .of_eq (by simp) (by simp) (by simp)) l same
  case drop n tagNo safe => exact same.takeDrop n tagNo
  case scan tagNo => exact same.takeScan tagNo
  case handoverExpiry =>
    unfold expireHandover
    split
    · exact same
    · exact .ite (fun _ => same.closeManifest _ _ _ _ (by decide)) fun _ => same
  case posting => exact same.applyOldest
  case completed => exact same.completeValuation
  all_goals exact .of_eq (by simp) (by simp) (by simp)

/-- A rule about the custody records is kept when the two lists above keep it. -/
theorem Kept.of_custody {P : State → Prop} (h : ∀ s t, SameCustody s t → P s → P t)
    (request : ∀ s t, CustodyRequest s t → P s → P t) (event : ∀ s t, CustodyEvent s t → P s → P t) : Kept P where
  queue s l hs := h s _ (.of_eq rfl ⟨rfl, rfl⟩ rfl) hs
  arrives i tag kind s hs := h s _ (.of_eq (by simp) (by simp) (by simp)) hs
  taken s hs := h s _ (.of_eq (by simp) (by simp) (by simp)) hs
  replied s r hs := h s _ (.of_eq (by simp) (by simp) (by simp)) hs
  accepted s t hs a := a.sameCustody_or.elim (fun k => h s t k hs) (fun k => request s t k hs)
  happens s t hs a := a.sameCustody_or.elim (fun k => h s t k hs) (fun k => event s t k hs)

/-- R159: what a granted request for a door does: the lock released at once, or the access delay. -/
theorem requestDoor_grants {d : DoorName} {creds : List Nat} {a : Answered} (h : requestDoor d creds s = .ok a) :
    a.state = releaseDoor d (putDoor d { s.door d with named := grantedNames d creds } s) ∨
    ∃ k, a.state = grantDelay d k (putDoor d { s.door d with named := grantedNames d creds } s) := by
  obtain ⟨-, h⟩ := require_of_bind h
  obtain ⟨-, h⟩ := require_of_bind h
  obtain ⟨-, h⟩ := require_of_bind h
  obtain ⟨-, h⟩ := require_of_bind h
  obtain ⟨-, h⟩ := check_of_bind h
  split at h
  · obtain rfl := Except.ok.inj h
    exact .inl rfl
  · obtain ⟨k, -, h⟩ := requireSome_of_bind h
    obtain rfl := Except.ok.inj h
    exact .inr ⟨k, rfl⟩

/-! ## Settings Freeze and Maintenance Open -/

/-- R174: Maintenance Open is set by SET_MAINTENANCE alone, which Settings Freeze refuses; FREEZE_SETTINGS clears it. -/
theorem freezeRule_kept : Kept (freezeRule · = true) := by
  refine .of_custody (fun s t same => same.freezeRule) (fun s t a h => ?_) (fun s t a h => ?_)
  · cases a
    case maintenance on thawed => simp [freezeRule, thawed]
    case frozen => rfl
    case doorRequested d creds a granted =>
      rcases requestDoor_grants granted with e | ⟨k, e⟩ <;> simpa [freezeRule, e] using h
    all_goals simpa [freezeRule] using h
  · have started : ∀ c u, u.csc = s.csc → freezeRule (warmStart c u) = true := fun c u e => by
      have k : (warmStart c u).csc.freeze = (u.csc.freeze && !decide (c = .power)) := by
        simp [warmStart, sendAborted, sendStart]
        split <;> simp [resetUnitBus, resetHostPort, emptyPresence, resolveCustody]
      revert h
      simp only [freezeRule, k, warmStart_keeps, e]
      cases s.csc.freeze <;> simp +contextual
    cases a
    case cold u => exact (by decide : freezeRule State.reset = true)
    case warm c => exact started c s rfl
    case restartWarm => exact started .restart _ rfl
    all_goals simpa [freezeRule] using h

/-! ## ALARM -/

theorem alarmRule_iff : alarmRule s = true ↔ s.ubc.alarm = (s.ubc.alarmTimer.isSome || s.csc.latch) := by
  simp [alarmRule]

end Settings

end Sys2Proof.Machine
end

section
/-!
ALARM, the doors and the lockdown latch through the commands that work on them.
-/

namespace Sys2Proof.Machine

open Sys2Proof

set_option Elab.async false

section Doorways

variable {s t u : State}

/-! ## Presentations -/

/-- R70 to R73: a BADGE record leaves the custody records, or tells the owner of the reader in a state that does, with ALARM
driven by a DURESS presentation. -/
theorem takeBadge_tells (r : Reader) (n : Nat) (p : PinResult) (s : State) :
    SameCustody s (takeBadge r n p s) ∨ ∃ u cls, SameCustody s u ∧
      (takeBadge r n p s = tellOwner r n cls u ∨ takeBadge r n p s = tellOwner r n cls (raiseDuress r n cls u)) := by
  have presents : ∀ c : Credential, SameCustody s (putPresence r (enterPresence ⟨n, c.cls, (putCredential n (some { c with fails := 0 }) s).cru.lifetime⟩
      ((putCredential n (some { c with fails := 0 }) s).presence r)) (putCredential n (some { c with fails := 0 }) s)) :=
    fun c => .of_eq (by simp) (by simp) (by simp)
  unfold takeBadge
  split
  · exact .inl (.of_eq (by simp) (by simp) (by simp))
  · split
    · exact .inl (.of_eq (by simp) (by simp) (by simp))
    · cases p with
      | fail => exact .inl (.of_eq (by simp) (by simp) (by simp))
      | ok => exact .inr ⟨_, _, presents _, .inl rfl⟩
      | duress => exact .inr ⟨_, _, presents _, .inr rfl⟩

/-! ## ALARM -/

/-- R202: ALARM is driven and its period starts. -/
theorem driveAlarm_alarmRule (s : State) : alarmRule (driveAlarm s) = true := by simp [alarmRule]

theorem alarmRule_congr (h : alarmRule s = true) (alarm : t.ubc.alarm = s.ubc.alarm) (timer : t.ubc.alarmTimer = s.ubc.alarmTimer)
    (latch : t.csc.latch = s.csc.latch) : alarmRule t = true := by
  rw [alarmRule_iff] at h ⊢
  rw [alarm, timer, latch, h]

/-- R202: ALARM is released when neither the period nor the latch asks for it. -/
theorem settleAlarm_alarmRule (driven : s.ubc.alarm = true) : alarmRule (settleAlarm s) = true := by
  unfold settleAlarm
  split
  · next off => simp [alarmRule, off]
  · next on =>
      rw [alarmRule_iff, driven]
      cases timer : s.ubc.alarmTimer <;> simp_all

/-- R175: after a LOCKDOWN ALARM is driven and the latch set. -/
theorem lockdown_alarmRule (c : LockdownCause) (s : State) : alarmRule (lockdown c s) = true := by
  unfold lockdown
  split
  · exact alarmRule_congr (driveAlarm_alarmRule (startHold s)) (by simp [renewLatch]) (by simp [renewLatch]) (by simp [renewLatch])
  · unfold setLatch
    dsimp only
    generalize lockChutes (secureDoors s.movingDoors { s with csc.latch := true }) = v
    exact alarmRule_congr (driveAlarm_alarmRule v) (by simp) (by simp) (by simp)

theorem lockdown_latch (c : LockdownCause) (s : State) : (lockdown c s).csc.latch = true := by
  unfold lockdown
  split
  · simpa [renewLatch]
  · simp [setLatch]

theorem takeDoor_alarmRule (d : DoorName) (isOpen : Bool) (s : State) (h : alarmRule s = true) :
    alarmRule (takeDoor d isOpen s) = true := by
  have calm : ∀ x, alarmRule (putDoor d x s) = true := fun x => alarmRule_congr h (by simp) (by simp) (by simp)
  have forced : alarmRule (forceDoor d s) = true :=
    alarmRule_congr (driveAlarm_alarmRule (openDoor d (putDoor d { s.door d with named := none } s)))
      (by simp [forceDoor]) (by simp [forceDoor]) (by simp [forceDoor])
  unfold takeDoor doorOpened doorClosed
  split
  · split
    · exact calm _
    · exact calm _
    all_goals exact forced
  · dsimp only
    split
    · exact alarmRule_congr h (by simp) (by simp) (by simp)
    · exact calm _

/-- R202: at a start the period is over and ALARM follows the latch. -/
theorem warmStart_alarmRule (c : StartCause) (s : State) : alarmRule (warmStart c s) = true := by
  simp [alarmRule_iff, warmStart, resetUnitBus]

/-- R175, R202: every step keeps ALARM to the period and the latch. -/
theorem alarmRule_kept : Kept (alarmRule · = true) := by
  refine .of_custody (fun s t same => same.alarmRule) (fun s t a h => ?_) (fun s t a h => ?_)
  · cases a
    case doorRequested d creds a granted =>
      rcases requestDoor_grants granted with e | ⟨k, e⟩ <;> exact alarmRule_congr h (by simp [e]) (by simp [e]) (by simp [e])
    case lockdown => exact lockdown_alarmRule _ _
    case lockdownReleased fields latch ended =>
      refine settleAlarm_alarmRule ?_
      simp [alarmRule_iff.mp h, latch]
    all_goals exact alarmRule_congr h (by simp) (by simp) (by simp)
  · cases a
    case badge r n p =>
      rcases takeBadge_tells r n p s with same | ⟨u, cls, same, e | e⟩
      · exact same.alarmRule h
      · exact alarmRule_congr (same.alarmRule h) (by simp [e]) (by simp [e]) (by simp [e])
      · exact alarmRule_congr (driveAlarm_alarmRule u) (by simp [e, raiseDuress]) (by simp [e, raiseDuress])
          (by simp [e, raiseDuress])
    case door d isOpen door => exact takeDoor_alarmRule d isOpen s h
    case panic e =>
      unfold panicEdge
      dsimp only
      split
      · exact lockdown_alarmRule _ _
      · exact alarmRule_congr h rfl rfl rfl
    case cold u => exact (by decide : alarmRule State.reset = true)
    case warm c => exact warmStart_alarmRule c s
    case restartWarm => exact warmStart_alarmRule .restart _
    case tick =>
      rw [alarmRule_iff] at h ⊢
      have same : (tickTimer s.ubc.alarmTimer).isSome = s.ubc.alarmTimer.isSome := by cases s.ubc.alarmTimer <;> rfl
      simpa [tickTimers, same] using h
    case alarmExpiry =>
      unfold expireAlarm
      split
      · next ended =>
          refine settleAlarm_alarmRule ?_
          simp [alarmRule_iff.mp h, ended]
      · exact h
    all_goals exact alarmRule_congr h (by simp) (by simp) (by simp)

/-! ## The doors -/

theorem warmStart_door (c : StartCause) (s : State) {d : DoorName} (valid : validDoor d = true) :
    ∃ x, (warmStart c s).door d = resolveDoor s.csc.policy.openLimit x := by
  cases d with
  | strongroom =>
    refine ⟨s.csc.strongroom, ?_⟩
    simp [State.door, warmStart, resetUnitBus, resetHostPort, emptyPresence, resolveCustody]
  | drop n =>
    refine ⟨(s.safe n).door, ?_⟩
    have listed : n ∈ safeNumbers := by simpa [allDoors] using (mem_allDoors (.drop n)).mpr valid
    simp [State.door, State.safe, warmStart, resetUnitBus, resetHostPort, emptyPresence, resolveCustody,
      Table.get_update _ _ safeNumbers (by decide), listed, resolveSafe]
  | other => cases valid

theorem warmStart_doorRule (c : StartCause) (s : State) : doorRule (warmStart c s) = true := by
  rw [doorRule_iff]
  refine ⟨fun d hd => ?_, fun running => ?_⟩
  · obtain ⟨x, e⟩ := warmStart_door c s ((mem_allDoors d).mp hd)
    rw [e]
    exact resolveDoor_held d _ x
  · simpa [warmStart, resetUnitBus, resetHostPort, emptyPresence, resolveCustody] using running

theorem tickTimers_door (s : State) {d : DoorName} (valid : validDoor d = true) :
    (tickTimers s).door d = tickDoor (s.door d) := by
  cases d with
  | strongroom => rfl
  | drop n =>
    have listed : n ∈ safeNumbers := by simpa [allDoors] using (mem_allDoors (.drop n)).mpr valid
    simp [State.door, State.safe, tickTimers, Table.get_update _ _ safeNumbers (by decide), listed, tickSafe]
  | other => cases valid

theorem tellOwner_doorRule (r : Reader) (n : Nat) (cls : CredClass) (s : State) (h : doorRule s = true) :
    doorRule (tellOwner r n cls s) = true := by
  cases r with
  | office => exact h
  | strongroom => exact presentedAtStrongroom_doorRule n s h
  | hatch => exact doorRule_congr s _ h (fun d _ => by cases d <;> simp [tellOwner, State.door, State.safe]) (by simp) (by simp)

theorem lockdown_doorRule (c : LockdownCause) (s : State) (h : doorRule s = true) : doorRule (lockdown c s) = true := by
  unfold lockdown
  split
  · next latch =>
      refine (doorRule_iff _).mpr ⟨fun d hd => ?_, fun _ => by simpa [renewLatch]⟩
      have same : (renewLatch c s).door d = s.door d := by cases d <;> simp [renewLatch, State.door, State.safe]
      rw [same]
      exact ((doorRule_iff s).mp h).1 d hd
  · exact setLatch_doorRule c s h

/-- R159, R163 to R168, R175, R178: every step keeps the doors as their states have them. -/
theorem doorRule_kept : Kept (doorRule · = true) := by
  refine .of_custody (fun s t same => same.doorRule) (fun s t a h => ?_) (fun s t a h => ?_)
  · cases a
    case doorRequested d creds a granted => exact requestDoor_doorRule d creds s a h granted
    case doorCancelled d door moving =>
      exact secureDoor_doorRule d s (doorRuleBut_of d s h) door (grantable_of d _ door (doorRule_held s d h door) moving).1
    case maintenance on thawed => exact doorRule_congr s _ h (fun d _ => by cases d <;> rfl) rfl rfl
    case frozen => exact doorRule_congr s _ h (fun d _ => by cases d <;> rfl) rfl rfl
    case lockdown => exact lockdown_doorRule .request s h
    case lockdownReleased fields latch ended =>
      refine (doorRule_iff _).mpr ⟨fun d hd => ?_, fun running => ?_⟩
      · have same : (settleAlarm (notify .lockdownCleared fields
            (setChuteCauseAll .lockdown false { s with csc.latch := false }))).door d = s.door d := by
          refine Eq.trans ?_ ((setChuteCauseAll_door .lockdown false { s with csc.latch := false } d).trans ?_)
          · cases d <;> simp [State.door, State.safe]
          · cases d <;> rfl
        rw [same]
        exact ((doorRule_iff s).mp h).1 d hd
      · simp [ended] at running
  · cases a
    case badge r n p =>
      rcases takeBadge_tells r n p s with same | ⟨u, cls, same, e | e⟩
      · exact same.doorRule h
      · exact e ▸ tellOwner_doorRule r n cls u (same.doorRule h)
      · exact e ▸ tellOwner_doorRule r n cls _ (notify_doorRule _ _ _ (driveAlarm_doorRule u (same.doorRule h)))
    case door d isOpen door => exact takeDoor_doorRule d isOpen s h door
    case panic e =>
      have level : doorRule { s with ubc.panicHigh := levelAfter e } = true :=
        doorRule_congr s _ h (fun d _ => by cases d <;> rfl) rfl rfl
      unfold panicEdge
      dsimp only
      split
      · exact lockdown_doorRule .panic _ level
      · exact level
    case cold u => exact (by decide : doorRule State.reset = true)
    case warm c => exact warmStart_doorRule c s
    case restartWarm => exact warmStart_doorRule .restart _
    case tick =>
      rw [doorRule_iff] at h ⊢
      refine ⟨fun d hd => ?_, h.2⟩
      have same : (tickClock (tickTimers s)).door d = (tickTimers s).door d := by cases d <;> rfl
      rw [same, tickTimers_door s ((mem_allDoors d).mp hd)]
      exact tickDoor_held d _ (h.1 d hd)
    case delay d door => exact expireDelay_doorRule d s h door
    case confirm => exact expireConfirm_doorRule s h
    case release d door => exact expireRelease_doorRule d s h door
    case openLimit d door => exact expireOpen_doorRule d s h door
    case holdExpiry =>
      rw [doorRule_iff] at h ⊢
      unfold expireHold
      split
      · exact ⟨h.1, fun running => nomatch running⟩
      · exact h
    case alarmExpiry => exact doorRule_congr s _ h (fun d _ => by cases d <;> simp [State.door, State.safe]) (by simp) (by simp)

/-! ## The latch, the doors on their way and the handover -/

theorem lockdownRule_iff : lockdownRule s = true ↔
    (∀ i ∈ manifestNumbers, ∀ j ∈ manifestNumbers, s.handedOver i = true → s.handedOver j = true → i = j) ∧
    (s.csc.latch = true → (∀ d ∈ allDoors, s.atRest d = true) ∧ ∀ n ∈ manifestNumbers, s.handedOver n = false) := by
  unfold lockdownRule oneHandover
  simp only [Bool.and_eq_true, List.all_eq_true, Bool.or_eq_true, Bool.not_eq_true', decide_eq_true_eq, Bool.and_eq_false_iff]
  refine and_congr ?_ ?_
  · refine forall₂_congr fun i _ => forall₂_congr fun j _ => ?_
    cases s.handedOver i <;> cases s.handedOver j <;> simp
  · cases s.csc.latch <;> simp

/-- No further door is on its way and no further manifest in HANDOVER while the latch is set. -/
structure Calmer (s t : State) : Prop where
  latch     : t.csc.latch = true → s.csc.latch = true
  rests     : t.csc.latch = true → ∀ d ∈ allDoors, s.atRest d = true → t.atRest d = true
  handovers : ∀ n, t.handedOver n = true → s.handedOver n = true

theorem Calmer.lockdownRule (c : Calmer s t) (h : lockdownRule s = true) : lockdownRule t = true := by
  rw [lockdownRule_iff] at h ⊢
  obtain ⟨one, locked⟩ := h
  refine ⟨fun i hi j hj oi oj => one i hi j hj (c.handovers i oi) (c.handovers j oj), fun latch => ?_⟩
  obtain ⟨rest, none⟩ := locked (c.latch latch)
  refine ⟨fun d hd => c.rests latch d hd (rest d hd), fun n hn => ?_⟩
  by_contra held
  exact absurd (c.handovers n (by simpa using held)) (by simp [none n hn])

theorem SameCustody.calmer (h : SameCustody s t) : Calmer s t :=
  ⟨fun latch => h.latch ▸ latch, fun _ d _ rest => by simpa [State.atRest, h.doors d] using rest, h.handovers⟩

/-- Only door `d` changes, and only to come to rest. -/
theorem Calmer.of_door (d : DoorName) (doors : ∀ e, e ≠ d → t.door e = s.door e)
    (rest : t.csc.latch = true → s.atRest d = true → t.atRest d = true) (latch : t.csc.latch = s.csc.latch) (hoc : t.hoc = s.hoc) :
    Calmer s t := by
  refine ⟨fun l => latch ▸ l, fun l e _ he => ?_, fun n => by simp [State.handedOver, State.manifest, hoc]⟩
  by_cases same : e = d
  · exact same ▸ rest l (same ▸ he)
  · simpa [State.atRest, doors e same] using he

theorem putDoor_door_ne (d : DoorName) (x : Door) (s : State) {e : DoorName} (ne : e ≠ d) : (putDoor d x s).door e = s.door e := by
  by_cases other : d = .other
  · subst other
    rfl
  · rw [putDoor_door d x s e other, if_neg ne]

theorem putDoor_atRest (d : DoorName) (x : Door) (s : State) (h : x.state = .secure ∨ x.state = .opened) :
    (putDoor d x s).atRest d = true := by
  by_cases other : d = .other
  · subst other
    rfl
  · simpa [State.atRest, putDoor_door d x s d other] using h

theorem atRest_congr (d : DoorName) (h : t.door d = s.door d) : t.atRest d = s.atRest d := by simp [State.atRest, h]

theorem secureDoor_calmer (d : DoorName) (s : State) : Calmer s (secureDoor d s) := by
  have engaged : SameCustody s (if (s.door d).lockReleased = true then command (.door d) .engage s else s) :=
    .ite (fun _ => .of_eq rfl ⟨rfl, rfl⟩ rfl) fun _ => .refl s
  refine .of_door d (fun e ne => ?_) (fun _ _ => putDoor_atRest d _ _ (.inl rfl)) (by simp) (by simp)
  exact (putDoor_door_ne d _ _ ne).trans (engaged.doors e)

theorem forceDoor_calmer (d : DoorName) (s : State) : Calmer s (forceDoor d s) := by
  have doors : ∀ e, (forceDoor d s).door e = (openDoor d (putDoor d { s.door d with named := none } s)).door e := fun e => by
    cases e <;> simp [forceDoor, State.door, State.safe]
  refine .of_door d (fun e ne => ?_) (fun _ _ => ?_) (by simp) (by simp)
  · rw [doors]
    exact (putDoor_door_ne d _ _ ne).trans (putDoor_door_ne d _ _ ne)
  · rw [atRest_congr d (doors d)]
    exact putDoor_atRest d _ _ (.inr rfl)

theorem takeDoor_calmer (d : DoorName) (isOpen : Bool) (s : State) : Calmer s (takeDoor d isOpen s) := by
  have written : ∀ x : Door, x.state = .secure ∨ x.state = .opened → Calmer s (putDoor d x s) := fun x hx =>
    .of_door d (fun e ne => putDoor_door_ne d x s ne) (fun _ _ => putDoor_atRest d x s hx) (by simp) (by simp)
  unfold takeDoor doorOpened doorClosed
  split
  · split
    · exact written _ (.inr rfl)
    · next opened => exact written _ (.inr opened)
    all_goals exact forceDoor_calmer d s
  · dsimp only
    split
    · refine .of_door d (fun e ne => ?_) (fun _ _ => putDoor_atRest d _ _ (.inl rfl)) (by simp) (by simp)
      have secured := (putDoor_door_ne d { (putDoor d { s.door d with contactOpen := false } s).door d with
        state := .secure, named := none, timer := none, lockReleased := false, ajarSent := false, openFor := 0 }
        (if ((putDoor d { s.door d with contactOpen := false } s).door d).lockReleased = true then
          command (.door d) .engage (putDoor d { s.door d with contactOpen := false } s)
          else putDoor d { s.door d with contactOpen := false } s) ne)
      refine secured.trans ?_
      split
      · exact (command_door _ _ _ e).trans (putDoor_door_ne d _ s ne)
      · exact putDoor_door_ne d _ s ne
    · refine .of_door d (fun e ne => putDoor_door_ne d _ s ne) (fun _ rest => putDoor_atRest d _ s ?_) (by simp) (by simp)
      simpa [State.atRest] using rest

/-- A door that is at rest is on no timer that runs out in another state. -/
theorem not_doorExpired {d : DoorName} {st : DoorState} (moving : st ≠ .secure ∧ st ≠ .opened) (rest : s.atRest d = true) :
    doorExpired d st s = false := by
  simp only [State.atRest, Bool.or_eq_true, decide_eq_true_eq] at rest
  rcases rest with rest | rest <;> simp [doorExpired, rest, moving.1.symm, moving.2.symm]

theorem endDelay_door_ne (d : DoorName) (s : State) {e : DoorName} (ne : e ≠ d) : (endDelay d s).door e = s.door e := by
  cases d with
  | strongroom => exact putDoor_door_ne .strongroom _ s ne
  | drop n => exact (putDoor_door_ne (.drop n) _ _ ne).trans (command_door _ _ s e)
  | other => rfl

theorem expireDelay_calmer (d : DoorName) (s : State) : Calmer s (expireDelay d s) := by
  refine .of_door d (fun e ne => ?_) (fun _ rest => ?_) (by simp) (by simp)
  · unfold expireDelay
    split
    · exact endDelay_door_ne d s ne
    · rfl
  · rw [expireDelay, not_doorExpired ⟨by decide, by decide⟩ rest]
    exact rest

theorem presentedAtStrongroom_calmer (n : Nat) (s : State) : Calmer s (presentedAtStrongroom n s) := by
  refine .of_door .strongroom (fun e ne => ?_) (fun _ rest => ?_) (by simp) (by simp)
  · unfold presentedAtStrongroom
    dsimp only
    split
    · split
      · exact (putDoor_door_ne .strongroom _ _ ne).trans (command_door _ _ s e)
      · rfl
    · rfl
  · unfold presentedAtStrongroom
    dsimp only
    split
    · next confirm _ => simp [State.atRest, State.door, confirm] at rest
    · exact rest

theorem expireOpen_calmer (d : DoorName) (s : State) : Calmer s (expireOpen d s) := by
  refine .of_door d (fun e ne => ?_) (fun _ rest => ?_) (by simp) (by simp)
  · unfold expireOpen
    dsimp only
    split
    · have told : ∀ u : State, (notify .doorAjar [fDoor d, fNum 3 (s.door d).openFor] u).door e = u.door e := fun u => by
        cases e <;> simp [State.door, State.safe]
      exact (told _).trans (putDoor_door_ne d _ s ne)
    · rfl
  · unfold expireOpen
    dsimp only
    split
    · next expired =>
        have told : ∀ u : State, (notify .doorAjar [fDoor d, fNum 3 (s.door d).openFor] u).door d = u.door d := fun u => by
          cases d <;> simp [State.door, State.safe]
        rw [atRest_congr d (told _)]
        refine putDoor_atRest d _ s (.inr ?_)
        simp only [doorExpired, Bool.and_eq_true, decide_eq_true_eq] at expired
        exact expired.1
    · exact rest

theorem lockdownReleased_calmer (fields : List Field) (s : State) : Calmer s (settleAlarm (notify .lockdownCleared fields
    (setChuteCauseAll .lockdown false { s with csc.latch := false }))) := by
  have off : (settleAlarm (notify .lockdownCleared fields
    (setChuteCauseAll .lockdown false { s with csc.latch := false }))).csc.latch = false := by simp
  exact ⟨fun l => absurd (off.symm.trans l) Bool.false_ne_true, fun l => absurd (off.symm.trans l) Bool.false_ne_true, fun n => by simp [State.handedOver, State.manifest]⟩

/-! ### The manifest in HANDOVER -/

theorem handedOver_of_inHandover_none (none : s.inHandover = none) {n : Nat} (hn : n ∈ manifestNumbers) : s.handedOver n = false := by
  by_contra held
  have state : (s.manifest n).map Manifest.state = some .handover := by simpa [State.handedOver] using held
  obtain ⟨m, found, state⟩ := Option.map_eq_some_iff.mp state
  have listed : (n, m) ∈ s.manifestsWhere (fun m => decide (m.state = .handover)) :=
    List.mem_filterMap.mpr ⟨n, hn, by simp [found, state]⟩
  rw [List.head?_eq_none_iff.mp none] at listed
  cases listed

theorem closeRecord_handedOver (n : Nat) (m : Manifest) (st : ManifestState) (c : CloseCause) (s : State) (k : Nat) :
    (closeRecord n m st c s).handedOver k = if k = n then decide (st = .handover) else s.handedOver k := by
  have closed : (closeRecord n m st c s).manifest k = (putManifest n (m.close st c) s).manifest k := rfl
  rw [State.handedOver, closed, putManifest_manifest]
  split
  · simp [Manifest.close]
  · rfl

/-- R175, R193: with at most one in HANDOVER, ending the one that is leaves none. -/
theorem closeRecord_ends {n : Nat} {m : Manifest} (h : lockdownRule s = true) (now : u.inHandover = some (n, m))
    (hoc : u.hoc = s.hoc) (c : CloseCause) {k : Nat} (hk : k ∈ manifestNumbers) :
    (closeRecord n m .aborted c u).handedOver k = false := by
  have same : ∀ i, u.handedOver i = s.handedOver i := fun i => by simp [State.handedOver, State.manifest, hoc]
  obtain ⟨one, -⟩ := lockdownRule_iff.mp h
  obtain ⟨hn, -, held⟩ := inHandover_handedOver now
  rw [closeRecord_handedOver]
  split
  · rfl
  · next ne =>
      by_contra again
      exact ne (one k hk n hn (by simpa [same] using again) (same n ▸ held))

/-- While no manifest is in HANDOVER and, if the latch is set, every door is at rest, the rule holds. -/
theorem lockdownRule_of_none (none : ∀ n ∈ manifestNumbers, s.handedOver n = false)
    (rest : s.csc.latch = true → ∀ d ∈ allDoors, s.atRest d = true) : lockdownRule s = true :=
  lockdownRule_iff.mpr ⟨fun i hi j _ oi => absurd oi (by simp [none i hi]), fun latch => ⟨rest latch, none⟩⟩

theorem setLatch_lockdownRule (c : LockdownCause) (s : State) (h : lockdownRule s = true) : lockdownRule (setLatch c s) = true := by
  refine lockdownRule_of_none (fun k hk => ?_) (fun _ d hd => ?_)
  · unfold setLatch abortHandover closeManifest
    dsimp only
    generalize heq : lockdownLanes _ = u
    have hoc : u.hoc = s.hoc := by
      rw [← heq]
      simp
    split
    · next none => exact handedOver_of_inHandover_none none hk
    · next n m now =>
        have told : ∀ v k' l, (notify k' l v).handedOver k = v.handedOver k := fun v k' l => by simp [State.handedOver, State.manifest]
        rw [told]
        exact closeRecord_ends h now hoc .lockdown hk
  · rw [State.atRest, setLatch_door]
    split
    · simp [droppedDoor]
    · next still =>
        have stays : ((s.door d).state ≠ .delay ∧ (s.door d).state ≠ .confirm) ∧ (s.door d).state ≠ .released := by
          simpa [State.movingDoors, hd] using still
        cases state : (s.door d).state <;> simp_all

theorem lockdown_lockdownRule (c : LockdownCause) (s : State) (h : lockdownRule s = true) : lockdownRule (lockdown c s) = true := by
  unfold lockdown
  split
  · refine Calmer.lockdownRule (s := s) ⟨fun l => ?_, fun _ d _ rest => ?_, fun n => ?_⟩ h
    · simpa [renewLatch] using l
    · exact (atRest_congr d (by cases d <;> simp [renewLatch, State.door, State.safe])).trans rest
    · simp [renewLatch, State.handedOver, State.manifest]
  · exact setLatch_lockdownRule c s h

/-- R186: one manifest may enter HANDOVER when none is there and the latch is clear. -/
theorem putManifest_lockdownRule (k : Nat) (m : Manifest) (none : s.inHandover = none) (latch : s.csc.latch = false) :
    lockdownRule (putManifest k m s) = true := by
  have only : ∀ e ∈ manifestNumbers, (putManifest k m s).handedOver e = true → e = k := fun e he held => by
    simp only [State.handedOver, putManifest_manifest] at held
    split at held
    · assumption
    · exact absurd held (by simpa [State.handedOver] using handedOver_of_inHandover_none none he)
  exact lockdownRule_iff.mpr ⟨fun i hi j hj oi oj => (only i hi oi).trans (only j hj oj).symm,
    fun on => absurd (latch.symm.trans on) Bool.false_ne_true⟩

theorem presentedAtHatch_lockdownRule (n : Nat) (cls : CredClass) (s : State) (h : lockdownRule s = true) :
    lockdownRule (presentedAtHatch n cls s) = true := by
  have told : ∀ k l, lockdownRule (notify k l s) = true := fun k l => ((SameCustody.refl s).notify k l).calmer.lockdownRule h
  unfold presentedAtHatch
  split
  · split
    · refine ((SameCustody.refl s).closeManifest _ _ _ _ ?_).calmer.lockdownRule h
      split <;> decide
    · exact h
  · next none =>
      unfold startTest
      split
      · exact h
      · dsimp only
        split
        · split
          · exact told _ _
          · exact h
        · split
          · exact h
          · split
            · exact told _ _
            · next k m _ =>
                split
                · exact told _ _
                · next latch =>
                    split
                    · exact putManifest_lockdownRule k _ none (by simpa using latch)
                    · exact told _ _

theorem warmStart_lockdownRule (c : StartCause) (s : State) (h : lockdownRule s = true) : lockdownRule (warmStart c s) = true := by
  refine lockdownRule_of_none (fun k hk => ?_) (fun _ d hd => ?_)
  · have started : (warmStart c s).handedOver k =
        (abortAtStart (resolveCustody (decide (c = .power)) (abandonCounts s))).handedOver k := by
      simp [State.handedOver, State.manifest, warmStart, resetUnitBus, resetHostPort, emptyPresence]
    rw [started]
    generalize heq : resolveCustody _ _ = u
    have hoc : u.hoc = s.hoc := by
      rw [← heq]
      simp
    unfold abortAtStart
    split
    · next none => exact handedOver_of_inHandover_none none hk
    · next now => exact closeRecord_ends h now hoc .start hk
  · obtain ⟨x, e⟩ := warmStart_door c s ((mem_allDoors d).mp hd)
    simp only [State.atRest, e, resolveDoor]
    split <;> simp

/-- R175, R186: every step keeps the latch, the doors and the handover together. -/
theorem lockdownRule_kept : Kept (lockdownRule · = true) := by
  refine .of_custody (fun s t same => same.calmer.lockdownRule) (fun s t a h => ?_) (fun s t a h => ?_)
  · cases a
    case doorRequested d creds a granted =>
      have off : s.csc.latch = false := by
        obtain ⟨-, granted⟩ := require_of_bind granted
        obtain ⟨latch, -⟩ := require_of_bind granted
        simpa using latch
      have calm : ∀ u, u.csc.latch = s.csc.latch → u.hoc = s.hoc → Calmer s u := fun u latch hoc =>
        ⟨fun on => by simp [latch, off] at on, fun on => by simp [latch, off] at on,
          fun n => by simp [State.handedOver, State.manifest, hoc]⟩
      rcases requestDoor_grants granted with e | ⟨k, e⟩ <;> exact (calm _ (by simp [e]) (by simp [e])).lockdownRule h
    case doorCancelled d door moving => exact (secureDoor_calmer d s).lockdownRule h
    case maintenance on thawed =>
      exact (Calmer.of_door (s := s) .other (fun e _ => by cases e <;> rfl) (fun _ => id) rfl rfl).lockdownRule h
    case frozen => exact (Calmer.of_door (s := s) .other (fun e _ => by cases e <;> rfl) (fun _ => id) rfl rfl).lockdownRule h
    case lockdown => exact lockdown_lockdownRule .request s h
    case lockdownReleased fields latch ended => exact (lockdownReleased_calmer fields s).lockdownRule h
  · cases a
    case badge r n p =>
      have tells : ∀ cls u, lockdownRule u = true → lockdownRule (tellOwner r n cls u) = true := fun cls u hu => by
        cases r with
        | office => exact hu
        | strongroom => exact (presentedAtStrongroom_calmer n u).lockdownRule hu
        | hatch => exact presentedAtHatch_lockdownRule n cls u hu
      rcases takeBadge_tells r n p s with same | ⟨u, cls, same, e | e⟩
      · exact same.calmer.lockdownRule h
      · exact e ▸ tells cls u (same.calmer.lockdownRule h)
      · refine e ▸ tells cls _ (Calmer.lockdownRule (s := u) ?_ (same.calmer.lockdownRule h))
        exact .of_door .other (fun e _ => by cases e <;> simp [raiseDuress, State.door, State.safe]) (fun _ => id) (by simp) (by simp)
    case door d isOpen door => exact (takeDoor_calmer d isOpen s).lockdownRule h
    case panic e =>
      have level : lockdownRule { s with ubc.panicHigh := levelAfter e } = true := h
      unfold panicEdge
      dsimp only
      split
      · exact lockdown_lockdownRule .panic _ level
      · exact level
    case cold u => exact (by decide : lockdownRule State.reset = true)
    case warm c => exact warmStart_lockdownRule c s h
    case restartWarm => exact warmStart_lockdownRule .restart (sendReplies s) h
    case tick =>
      refine Calmer.lockdownRule (s := s) ⟨id, fun _ d hd rest => ?_, fun n => ?_⟩ h
      · have same : (tickClock (tickTimers s)).door d = (tickTimers s).door d := by cases d <;> rfl
        simpa [State.atRest, same, tickTimers_door s ((mem_allDoors d).mp hd), tickDoor] using rest
      · have ticked : (tickClock (tickTimers s)).manifest n = Table.get none
            (Table.update none tickManifest manifestNumbers s.hoc.manifests) n := rfl
        rw [State.handedOver, ticked, Table.get_update _ _ manifestNumbers (by decide)]
        split
        · simp [State.handedOver, State.manifest, tickManifest, Function.comp_def]
        · exact id
    case delay d door => exact (expireDelay_calmer d s).lockdownRule h
    case confirm =>
      unfold expireConfirm
      split
      · exact (secureDoor_calmer _ s).lockdownRule h
      · exact h
    case release d door =>
      unfold expireRelease
      split
      · exact (secureDoor_calmer d s).lockdownRule h
      · exact h
    case openLimit d door => exact (expireOpen_calmer d s).lockdownRule h
    case holdExpiry =>
      refine Calmer.lockdownRule (s := s) (.of_door .other (fun e _ => ?_) (fun _ => id) ?_ ?_) h
      · cases e <;> simp [State.door, State.safe]
      all_goals simp
    case alarmExpiry =>
      refine Calmer.lockdownRule (s := s) (.of_door .other (fun e _ => ?_) (fun _ => id) ?_ ?_) h
      · cases e <;> simp [State.door, State.safe]
      all_goals simp

end Doorways

end Sys2Proof.Machine

namespace Sys2Proof.Proofs.Doorways

open Sys2Proof Sys2Proof.Machine

/-- Settles O4: of the commands that change the settings, the latch or ALARM, each keeps both rules. -/
theorem stepKeepsFreezeAndAlarm : Obligations.StepKeepsFreezeAndAlarm := by
  unfold Obligations.StepKeepsFreezeAndAlarm
  exact ⟨fun s t => freezeRule_kept.step, fun s t => alarmRule_kept.step⟩

/-- Settles O5: a door leaves SECURE and OPEN, and a manifest enters HANDOVER, only while the latch is clear; and each change of
a door leaves it as its state has it. -/
theorem stepKeepsLockdownRule : Obligations.StepKeepsLockdownRule := by
  unfold Obligations.StepKeepsLockdownRule
  exact ⟨fun s t => lockdownRule_kept.step, fun s t => doorRule_kept.step⟩

end Sys2Proof.Proofs.Doorways
end

section
/-!
R52, R54: the reservations and the room of the journal through every change.
-/

namespace Sys2Proof.Machine

open Sys2Proof

set_option Elab.async false

section Journal

variable {s t u : State}

theorem journalRule_iff : journalRule s = true ↔
    s.acu.reserved = 3 * s.rcu.queue.length ∧ s.acu.journal.length + s.acu.reserved ≤ 256 := by
  simp [journalRule]

theorem journalRule_congr (h : journalRule s = true) (journal : t.acu.journal = s.acu.journal)
    (reserved : t.acu.reserved = s.acu.reserved) (queue : t.rcu.queue.length = s.rcu.queue.length) : journalRule t = true := by
  rw [journalRule_iff] at h ⊢
  rwa [journal, reserved, queue]

/-- What leaves the journal and the reconciliation queue alone. -/
theorem journalRule_of_eq (h : journalRule s = true) (acu : t.acu = s.acu) (rcu : t.rcu = s.rcu) : journalRule t = true :=
  journalRule_congr h (by rw [acu]) (by rw [acu]) (by rw [rcu])

/-! ## Movements -/

theorem room_of_hasRoom {n : Nat} {o : Origin} (origin : o ≠ .reserved) (room : s.hasRoom o n = true) : n ≤ s.journalFree := by
  cases o with
  | host =>
    simp only [State.hasRoom, Bool.or_eq_true, decide_eq_true_eq] at room
    omega
  | reserved => exact absurd rfl origin
  | field => simpa [State.hasRoom] using room

theorem room_of_checkMovement {m : Movement} (origin : m.origin ≠ .reserved) (fits : checkMovement m s = none) :
    m.entries.length ≤ s.journalFree := by
  unfold checkMovement at fits
  split at fits
  · cases fits
  · split at fits
    · cases fits
    · next room => exact room_of_hasRoom origin (by simpa using room)

/-- A movement that ends no reservation, with room for its entries. -/
theorem applyMovement_journalRule {m : Movement} (h : journalRule s = true) (origin : m.origin ≠ .reserved)
    (room : m.entries.length ≤ s.journalFree) : journalRule (applyMovement m s) = true := by
  rw [journalRule_iff] at h ⊢
  obtain ⟨reserved, bound⟩ := h
  simp only [State.journalFree] at room
  simp only [applyMovement_acu, applyMovement_keeps, origin, if_false]
  omega

/-- R54: the same of a movement applied after changes that leave the journal alone. -/
theorem movement_journalRule {m : Movement} (h : journalRule s = true) (acu : u.acu = s.acu) (rcu : u.rcu = s.rcu)
    (origin : m.origin ≠ .reserved) (room : m.entries.length ≤ s.journalFree) : journalRule (applyMovement m u) = true :=
  applyMovement_journalRule (journalRule_of_eq h acu rcu) origin (by simpa [State.journalFree, acu] using room)

@[simp] theorem endReservation_acu (s : State) : (endReservation s).acu = { s.acu with reserved := s.acu.reserved - 3 } := by
  simp [endReservation]

@[simp] theorem makeReservation_acu (s : State) : (makeReservation s).acu = { s.acu with reserved := s.acu.reserved + 3 } := by
  simp [makeReservation]

/-- R54: a reservation made with an entry of the queue. -/
theorem makeReservation_journalRule (h : journalRule s = true) (acu : u.acu = s.acu)
    (queue : u.rcu.queue.length = s.rcu.queue.length + 1) (room : s.hasRoom .host 3 = true) :
    journalRule (makeReservation u) = true := by
  rw [journalRule_iff] at h ⊢
  obtain ⟨reserved, bound⟩ := h
  have room := room_of_hasRoom (by decide) room
  simp only [State.journalFree] at room
  simp only [makeReservation_keeps, makeReservation_acu, acu, queue]
  omega

/-! ## Postings and drops -/

theorem attachSkim_journalRule (p : Posting) (g : Nat) (h : journalRule s = true) : journalRule (attachSkim p g s) = true := by
  unfold attachSkim
  dsimp only
  split
  · exact journalRule_of_eq h (by simp) (by simp)
  · split
    · exact journalRule_of_eq h (by simp) (by simp)
    · split
      · exact journalRule_of_eq h (by simp) (by simp)
      · split
        · exact journalRule_of_eq h (by simp) (by simp)
        · next fits =>
            have moved := movement_journalRule (u := putTill p.till { s.till p.till with outstanding := (s.till p.till).outstanding + 1 } s)
              h rfl rfl Origin.noConfusion (room_of_checkMovement Origin.noConfusion fits)
            exact journalRule_of_eq moved (by simp) (by simp)

theorem applyPosting_journalRule (p : Posting) (h : journalRule s = true) : journalRule (applyPosting s p) = true := by
  have session : journalRule (applyInSession p s) = true := by
    unfold applyInSession
    dsimp only
    generalize ((s.till p.till).accumulate p.kind p.amount).reckon = x
    have counted : journalRule (putTill p.till x s) = true := journalRule_of_eq h rfl rfl
    split
    · next g _ _ => exact journalRule_of_eq (attachSkim_journalRule p g counted) (by simp) (by simp)
    · exact journalRule_of_eq counted (by simp) (by simp)
  unfold applyPosting
  split
  · exact session
  · exact session
  all_goals exact journalRule_congr h (by simp) (by simp) (by simp)

theorem snoopTill_journalRule (n : Nat) (h : journalRule s = true) : journalRule (snoopTill n s) = true :=
  foldl_rule (journalRule · = true) applyPosting (fun _ p => applyPosting_journalRule p) _ _ (journalRule_of_eq h rfl rfl)

theorem snoopFor_journalRule (b : Bag) (h : journalRule s = true) : journalRule (snoopFor b s) = true := by
  unfold snoopFor
  split
  · exact h
  · exact snoopTill_journalRule _ h

theorem applyOldest_journalRule (h : journalRule s = true) : journalRule (applyOldest s) = true := by
  unfold applyOldest
  split
  · exact h
  · exact applyPosting_journalRule _ (journalRule_of_eq h rfl rfl)

theorem skimSearch_journalRule (g : Nat) (h : journalRule s = true) : journalRule (skimSearch g s) = true := by
  unfold skimSearch
  split
  · exact h
  · exact applyPosting_journalRule _ (journalRule_of_eq h rfl rfl)

theorem recordDeclared_journalRule (n r : Nat) (g : Option Nat) (f : AnomalyFlags) (x : TakenSkim) (h : journalRule s = true) :
    journalRule (recordDeclared n r g f x s) = true := by
  unfold recordDeclared
  dsimp only
  split
  · exact journalRule_of_eq h (by simp) (by simp)
  · next fits =>
      generalize hm : entriesOnly .field _ = m at fits ⊢
      have origin : m.origin ≠ .reserved := by simp [← hm]
      have room : m.entries.length ≤ s.journalFree := by simpa [State.journalFree] using room_of_checkMovement origin fits
      generalize hu : recordBag r _ _ = u
      have moved := movement_journalRule (u := u) h (by simp [← hu]) (by simp [← hu]) origin room
      exact journalRule_of_eq moved (by simp) (by simp)

theorem recordDrop_journalRule (n r : Nat) (g : Option Nat) (h : journalRule s = true) :
    journalRule (recordDrop n r g s) = true := by
  unfold recordDrop
  dsimp only
  split
  · exact journalRule_of_eq h (by simp) (by simp)
  · next k =>
      split
      · exact journalRule_of_eq (skimSearch_journalRule k h) (by simp) (by simp)
      · exact recordDeclared_journalRule _ _ _ _ _ (skimSearch_journalRule k h)

theorem takeDrop_journalRule (n : Nat) (g : Option Nat) (h : journalRule s = true) : journalRule (takeDrop n g s) = true := by
  unfold takeDrop
  split
  · exact journalRule_of_eq h (by simp) (by simp)
  · next r u got =>
      obtain ⟨-, -, -, -, acu, -, -, rcu, -⟩ := allocate_keeps s _ _ got
      exact journalRule_of_eq (recordDrop_journalRule n r g (journalRule_of_eq h acu rcu)) (by simp) (by simp)

/-! ## Scans -/

theorem takeScan_journalRule (g : Option Nat) (h : journalRule s = true) : journalRule (takeScan g s) = true := by
  have refused : ∀ {t r x}, journalRule (refuseScan t r x s) = true := journalRule_of_eq h (by simp) (by simp)
  unfold takeScan
  split
  · exact journalRule_of_eq h (by simp) (by simp)
  · split
    · exact refused
    · split
      · unfold scanOutbound
        split
        · exact journalRule_of_eq h (by simp) (by simp)
        · split
          · exact refused
          · split
            · exact refused
            · dsimp only
              split
              · exact refused
              · next fits =>
                  exact journalRule_of_eq (applyMovement_journalRule h Origin.noConfusion (room_of_checkMovement Origin.noConfusion fits))
                    (by simp) (by simp)
      · split
        · unfold scanInbound
          split
          · exact journalRule_of_eq h (by simp) (by simp)
          · split
            · exact refused
            · next r u got =>
                dsimp only
                split
                · exact refused
                · next fits =>
                    have allocated : allocate s = some (r, u) := by
                      split at got
                      · exact got
                      · cases got
                    obtain ⟨-, -, -, -, acu, -, -, rcu, -⟩ := allocate_keeps s _ _ allocated
                    generalize hv : recordBag r _ u = v
                    have moved := movement_journalRule (u := v) h (by simp [← hv, acu]) (by simp [← hv, rcu]) Origin.noConfusion
                      (room_of_checkMovement Origin.noConfusion fits)
                    exact journalRule_of_eq moved (by simp) (by simp)
        · exact refused

/-! ## Confirmations -/

/-- R139, R140: a confirmation writes no more entries than were reserved for it. -/
theorem confirmMovement_entries_le (c : Confirmation) (merge : Bool) (s : State) : (confirmMovement c merge s).entries.length ≤ 3 := by
  have variance : (if c.variance = 0 then [] else [(⟨c.entry, some c.ref, c.bag.source.till?, c.variance, c.variance⟩ : EntrySpec)]).length ≤ 1 := by
    split <;> simp
  have merged : (if merge then [(⟨.bagToStock, some c.ref, c.bag.source.till?, c.counted, 0⟩ : EntrySpec)] else []).length ≤ 1 := by
    split <;> simp
  have result : (resultEntries c s).length ≤ 1 := by
    unfold resultEntries
    split
    · simp
    · split <;> simp
  simp only [confirmMovement, List.length_append]
  omega

/-- R54, R139: what the confirmation of a count does to the journal: its entries are written and its reservation ends. -/
theorem confirm_journal (c : Confirmation) (s : State) : ∃ merge,
    (confirm c s).1.acu.journal.length = s.acu.journal.length + (confirmMovement c merge s).entries.length ∧
    (confirm c s).1.acu.reserved = (if c.origin = .reserved then s.acu.reserved - 3 else s.acu.reserved) := by
  have applied : ∀ merge, (applyConfirmation c merge s).acu.journal.length =
      s.acu.journal.length + (confirmMovement c merge s).entries.length ∧
      (applyConfirmation c merge s).acu.reserved = if c.origin = .reserved then s.acu.reserved - 3 else s.acu.reserved := by
    intro merge
    have kept : (applyConfirmation c merge s).acu = (applyMovement (confirmMovement c merge s) s).acu := by
      unfold applyConfirmation
      dsimp only
      split <;> simp
    rw [kept]
    simp [confirmMovement]
  unfold confirm
  split
  · exact ⟨true, applied true⟩
  · exact ⟨false, applied false⟩

/-- R140: the merge adds one entry. -/
theorem confirmMovement_entries_le_merged (c : Confirmation) (merge : Bool) (s : State) :
    (confirmMovement c merge s).entries.length ≤ (confirmMovement c true s).entries.length := by
  cases merge <;> simp [confirmMovement]

@[simp] theorem leaveQueue_rcu (q : QueuedCount) (s : State) : (leaveQueue q s).rcu = ⟨s.rcu.queue.tail, none⟩ := by
  unfold leaveQueue
  dsimp only
  split <;> simp

theorem settleDispute_journalRule (r : Nat) (b : Bag) (y : Tally) (h : journalRule s = true) :
    journalRule (settleDispute r b y s).state = true := by
  unfold settleDispute
  split
  · dsimp only
    split
    · exact h
    · split
      · exact h
      · next room =>
          obtain ⟨reserved, bound⟩ := journalRule_iff.mp h
          generalize hc : Confirmation.mk _ _ _ _ _ _ _ = c at room ⊢
          have origin : c.origin ≠ .reserved := by
            rw [← hc]
            exact Origin.noConfusion
          obtain ⟨merge, journal, kept⟩ := confirm_journal c s
          have fewer := confirmMovement_entries_le_merged c merge s
          have free := room_of_hasRoom (o := .host) Origin.noConfusion (by simpa using room)
          rw [if_neg origin] at kept
          have stands : journalRule (confirm c s).1 = true := by
            simp only [State.journalFree] at free
            rw [journalRule_iff]
            simp only [journal, kept, confirm_keeps]
            omega
          exact journalRule_of_eq stands (by simp) (by simp)
  · exact h

theorem completeCount_journalRule (q : QueuedCount) (b : Bag) (c : Option Int) (h : journalRule s = true)
    (waits : s.rcu.queue ≠ []) : journalRule (completeCount q b c s) = true := by
  have length : s.rcu.queue.length ≠ 0 := by simpa using waits
  obtain ⟨reserved, bound⟩ := journalRule_iff.mp h
  unfold completeCount
  dsimp only
  split
  · next value x _ _ _ =>
      generalize hc : Confirmation.mk _ _ _ _ _ _ _ = c
      have origin : c.origin = .reserved := by rw [← hc]
      generalize hu : (offer _ s).1 = u
      have acu : u.acu = s.acu := by simp [← hu]
      have rcu : u.rcu = s.rcu := by simp [← hu]
      obtain ⟨merge, journal, ended⟩ := confirm_journal c u
      have entries := confirmMovement_entries_le c merge u
      rw [if_pos origin] at ended
      have stands : journalRule (leaveQueue q (confirm c u).1) = true := by
        rw [journalRule_iff]
        simp only [leaveQueue_keeps, leaveQueue_rcu, journal, ended, acu, rcu, confirm_keeps, List.length_tail]
        omega
      exact journalRule_of_eq stands (by simp) (by simp)
  · generalize hu : (offer _ s).1 = u
    have acu : u.acu = s.acu := by simp [← hu]
    have rcu : u.rcu = s.rcu := by simp [← hu]
    refine journalRule_iff.mpr ?_
    simp only [notifyResult_keeps, leaveQueue_keeps, leaveQueue_rcu, endReservation_keeps, endReservation_acu, putBag_fields, acu,
      rcu, List.length_tail]
    omega

theorem completeValuation_journalRule (h : journalRule s = true) : journalRule (completeValuation s) = true := by
  unfold completeValuation
  split
  · next queued =>
      split
      · exact h
      · split
        · exact h
        · refine completeCount_journalRule _ _ _ (snoopFor_journalRule _ h) ?_
          simp [queued]
  · exact h

/-! ## Every step -/

theorem Accepted.journalRule (a : Accepted s t) (h : journalRule s = true) : journalRule t = true := by
  have host : ∀ {m : Movement} {u}, m.origin = .host → u.acu = s.acu → u.rcu = s.rcu → s.hasRoom .host m.entries.length = true →
      Machine.journalRule (applyMovement m u) = true := fun {m u} origin acu rcu room =>
    movement_journalRule h acu rcu (by simp [origin]) (room_of_hasRoom (o := .host) Origin.noConfusion room)
  cases a
  case dayOpened d l day ok opening =>
    have fits : checkMovement (openingMovement l s) { s with acu.day := .dayOpen } = none := by
      unfold requireOpening at opening
      split at opening
      · assumption
      · cases opening
    have room : (openingMovement l s).entries.length ≤ s.journalFree :=
      room_of_checkMovement (s := { s with acu.day := .dayOpen }) Origin.noConfusion fits
    have moved := applyMovement_journalRule h Origin.noConfusion room
    unfold Machine.dayOpened
    generalize applyMovement (openingMovement l s) s = u at moved ⊢
    exact journalRule_congr moved rfl rfl rfl
  case dayClosed l room outs =>
    have closed : Machine.journalRule (freeRetired (dayFigures l s)) = true :=
      journalRule_congr h (by simp [dayFigures]) (by simp [dayFigures]) (by simp [dayFigures])
    refine applyMovement_journalRule closed Origin.noConfusion ?_
    simpa [State.journalFree, dayFigures] using room_of_hasRoom (o := .host) Origin.noConfusion room
  case journalTaken k =>
    rw [journalRule_iff] at h ⊢
    simp only [syncJournal_keeps, List.length_drop]
    omega
  case floatMade n m r tagNo taken s1 till state room lines slot space =>
    obtain ⟨-, -, -, -, acu, -, -, rcu, -⟩ := allocate_keeps s _ _ slot
    unfold Machine.floatMade
    generalize hu : recordBag r _ s1 = u
    have moved : Machine.journalRule (applyMovement (floatMovement n r (s.template m) taken s) u) = true :=
      host rfl (by simp [← hu, acu]) (by simp [← hu, rcu]) room
    exact journalRule_of_eq moved (by simp) (by simp)
  case floatUnmade n r b till state bag room fits =>
    exact journalRule_of_eq (host (m := unmakeMovement n r b s) rfl rfl rfl room) (by simp) (by simp)
  case floatIssued n r cashier b till state bag room =>
    exact journalRule_of_eq (host (m := issueMovement n r b) rfl rfl rfl room) (by simp) (by simp)
  case takings n r tagNo cashier v s1 till state room slot space =>
    obtain ⟨-, -, -, -, acu, -, -, rcu, -⟩ := allocate_keeps s _ _ slot
    unfold takingsReceived
    generalize hu : recordBag r _ s1 = u
    have moved : Machine.journalRule (applyMovement (entriesOnly .host [⟨.bagIn, some r, some n, v, v⟩]) u) = true :=
      host rfl (by simp [← hu, acu]) (by simp [← hu, rcu]) room
    exact journalRule_of_eq moved (by simp) (by simp)
  case snooped n => exact snoopTill_journalRule n h
  case batchClosed n coins lane atWork queue room =>
    exact makeReservation_journalRule (s := s) h rfl (by simp) room
  case countQueued ref b tally found purpose state queue room =>
    exact makeReservation_journalRule (s := s) h rfl (by simp) room
  case disputeSettled ref b y found disputed day => exact settleDispute_journalRule ref b y (snoopFor_journalRule b h)
  case merged ref b found confirmed fits =>
    exact journalRule_of_eq (applyMovement_journalRule h Origin.noConfusion (room_of_checkMovement Origin.noConfusion fits))
      (by simp) (by simp)
  case deposited r tagNo lines s1 slots once suits covered room slot space =>
    obtain ⟨-, -, -, -, acu, -, -, rcu, -⟩ := allocate_keeps s _ _ slot
    exact host rfl (by simp [acu]) (by simp [rcu]) room
  case doorRequested d creds a granted =>
    rcases requestDoor_grants granted with e | ⟨k, e⟩ <;> exact journalRule_of_eq h (by simp [e]) (by simp [e])
  case safeCleared n safe =>
    have benched : ∀ (l : List Nat) (u : State), (l.foldl benchBag u).acu = u.acu ∧ (l.foldl benchBag u).rcu = u.rcu := fun l u =>
      ⟨foldl_keeps State.acu benchBag (by simp) l u, foldl_keeps State.rcu benchBag (by simp) l u⟩
    exact journalRule_of_eq h (by simp [Machine.safeCleared, benched]) (by simp [Machine.safeCleared, benched])
  case officeOpened latch => exact journalRule_congr h rfl rfl rfl
  case officeClosed => exact journalRule_congr h rfl rfl rfl
  case manifestCreated => exact journalRule_of_eq h rfl rfl
  all_goals exact journalRule_congr h (by simp [bagToLane]) (by simp [bagToLane]) (by simp [bagToLane])

theorem Happens.journalRule (a : Happens s t) (h : journalRule s = true) : journalRule t = true := by
  have abandoned : ∀ c (u : State), u.acu = s.acu → Machine.journalRule (warmStart c u) = true := fun c u acu => by
    obtain ⟨reserved, bound⟩ := journalRule_iff.mp h
    have started : (warmStart c u).acu.reserved = 0 ∧ (warmStart c u).rcu.queue = [] := by
      simp [warmStart, resetUnitBus, resetHostPort, emptyPresence, abandonCounts]
    have journal : (warmStart c u).acu.journal = s.acu.journal := by simp [acu]
    rw [journalRule_iff, started.1, started.2, journal]
    exact ⟨rfl, by omega⟩
  cases a
  case cold => exact (by decide : Machine.journalRule State.reset = true)
  case restartCold => exact (by decide : Machine.journalRule State.reset = true)
  case warm c => exact abandoned c s rfl
  case restartWarm => exact abandoned .restart _ (by simp)
  case drop n tagNo safe => exact takeDrop_journalRule n tagNo h
  case scan tagNo => exact takeScan_journalRule tagNo h
  case posting => exact applyOldest_journalRule h
  case completed => exact completeValuation_journalRule h
  case bytes l =>
    exact foldl_rule (Machine.journalRule · = true) feedByte (fun u b hu => journalRule_of_eq hu (by simp) (by simp)) l s h
  all_goals exact journalRule_congr h (by simp) (by simp) (by simp)

theorem journalRule_kept : Kept (journalRule · = true) where
  queue s l hs := hs
  arrives i tag kind s hs := journalRule_of_eq hs (by simp) (by simp)
  taken s hs := journalRule_of_eq hs (by simp) (by simp)
  replied s r hs := journalRule_of_eq hs (by simp) (by simp)
  accepted s t hs a := a.journalRule hs
  happens s t hs a := a.journalRule hs

end Journal

end Sys2Proof.Machine

namespace Sys2Proof.Proofs.Journal

open Sys2Proof Sys2Proof.Machine

/-- Settles O7: the reservations follow the queue and every movement is checked against the room or has it reserved; and entries
are written one after another. -/
theorem stepKeepsJournal : Obligations.StepKeepsJournal := by
  unfold Obligations.StepKeepsJournal
  exact ⟨fun s t => journalRule_kept.step, fun s t => ledgerRule_kept.step⟩

end Sys2Proof.Proofs.Journal
end

section
/-!
R169: the causes of the drop safes follow the records they stand for.  A bag table that has given out a record and not yet
filled it leaves the TABLE cause behind, so the rule is stated for all causes but one.
-/

namespace Sys2Proof.Machine

open Sys2Proof

set_option Elab.async false

/-- R33, R55, R168, R169: whether a cause stands, by the records it follows. -/
def causeDue (c : ChuteCause) (s : State) (d : DropSafe) : Bool :=
  match c with
  | .full => decide (40 ≤ d.count)
  | .table => decide (s.available ≤ 8)
  | .journal => decide (s.journalFree ≤ 8)
  | .lockdown => s.csc.latch
  | .opened => decide (d.door.state ≠ .secure)

theorem safeRule_iff (s : State) (d : DropSafe) :
    safeRule s d = true ↔ d.chuteLocked = d.causes.any ∧ ∀ c, d.causes.has c = causeDue c s d := by
  simp only [safeRule, Bool.and_eq_true, decide_eq_true_eq]
  refine ⟨fun ⟨⟨⟨⟨⟨locked, full⟩, table⟩, journal⟩, lockdown⟩, opened⟩ => ⟨locked, fun c => ?_⟩, fun ⟨locked, causes⟩ => ?_⟩
  · cases c
    case full => exact full
    case table => exact table
    case journal => exact journal
    case lockdown => exact lockdown
    case opened => exact opened
  · exact ⟨⟨⟨⟨⟨locked, causes .full⟩, causes .table⟩, causes .journal⟩, causes .lockdown⟩, causes .opened⟩

/-- The tables are in canonical form, and every drop safe's chute and causes are as they should be, but perhaps for cause `x`. -/
structure ChutesBut (x : Option ChuteCause) (s : State) : Prop where
  tables : tablesRule s = true
  locked : ∀ n ∈ safeNumbers, (s.safe n).chuteLocked = (s.safe n).causes.any
  causes : ∀ n ∈ safeNumbers, ∀ c, some c ≠ x → (s.safe n).causes.has c = causeDue c s (s.safe n)

theorem chutesBut_none_iff (s : State) : ChutesBut none s ↔ chuteRule s = true ∧ tablesRule s = true := by
  simp only [chuteRule, List.all_eq_true, safeRule_iff]
  refine ⟨fun h => ⟨fun n hn => ⟨h.locked n hn, fun c => h.causes n hn c nofun⟩, h.tables⟩, fun ⟨h, tables⟩ => ?_⟩
  exact ⟨tables, fun n hn => (h n hn).1, fun n hn c _ => (h n hn).2 c⟩

section Chutes

variable {x : Option ChuteCause} {s t u : State}

/-! ## One cause -/

theorem ChuteCauses.has_put_other (k : ChuteCauses) {c e : ChuteCause} (on : Bool) (ne : e ≠ c) : (k.put c on).has e = k.has e := by
  cases c <;> cases e <;> first | rfl | exact absurd rfl ne

theorem safeWithCause_locked (d : DropSafe) (c : ChuteCause) (on : Bool) (h : d.chuteLocked = d.causes.any) :
    (safeWithCause d c on).chuteLocked = (safeWithCause d c on).causes.any := by
  simp only [safeWithCause]
  split
  · next same => exact h.trans same
  · rfl

/-- What a cause follows is not the causes themselves. -/
theorem causeDue_safeWithCause (e c : ChuteCause) (on : Bool) (s : State) (d : DropSafe) :
    causeDue e s (safeWithCause d c on) = causeDue e s d := by
  cases e <;> rfl

theorem causeDue_congr (c : ChuteCause) (d : DropSafe) (available : c = .table → t.available = s.available)
    (free : c = .journal → t.journalFree = s.journalFree) (latch : c = .lockdown → t.csc.latch = s.csc.latch) :
    causeDue c t d = causeDue c s d := by
  cases c
  case full => rfl
  case table => simp only [causeDue, available rfl]
  case journal => simp only [causeDue, free rfl]
  case lockdown => exact latch rfl
  case opened => rfl

/-! ## Changes that leave the chutes alone -/

theorem ChutesBut.frame (h : ChutesBut x s) (p : Preserves s t) (safes : ∀ n, t.safe n = s.safe n)
    (latch : t.csc.latch = s.csc.latch) (available : t.available = s.available) (free : t.journalFree = s.journalFree) :
    ChutesBut x t := by
  refine ⟨p.tables h.tables, fun n hn => by rw [safes]; exact h.locked n hn, fun n hn c hc => ?_⟩
  rw [safes, causeDue_congr c _ (fun _ => available) (fun _ => free) (fun _ => latch)]
  exact h.causes n hn c hc

theorem ChutesBut.of_eq (h : ChutesBut x s) (p : Preserves s t) (csc : t.csc.safes = s.csc.safes ∧ t.csc.latch = s.csc.latch)
    (bgr : t.bgr.bags.length = s.bgr.bags.length ∧ t.bgr.retired = s.bgr.retired)
    (acu : t.acu.journal = s.acu.journal ∧ t.acu.reserved = s.acu.reserved) : ChutesBut x t :=
  h.frame p (fun n => by simp [State.safe, csc.1]) csc.2 (by simp [State.available, bgr]) (by simp [State.journalFree, acu])

/-! ## The length of the bag table -/

theorem Table.length_eq_total {α : Type} [DecidableEq α] (d : α) (t : Table α) (wf : Table.wf d t = true) :
    (t.length : Int) = Table.total (fun v => if v = d then 0 else 1) t := by
  have listed := ((Table.wf_iff d t).mp wf).1
  clear wf
  induction t with
  | nil => rfl
  | cons p t ih =>
    have first := listed p (by simp)
    have rest := ih fun q hq => listed q (by simp [hq])
    simp only [Table.total, List.map_cons, List.sum_cons, first, if_false, List.length_cons] at rest ⊢
    omega

/-- Writing a record that is there keeps the number of records. -/
theorem Table.length_set_listed {α : Type} [DecidableEq α] (d : α) (t : Table α) (wf : Table.wf d t = true) (i : Nat) (v : α)
    (listed : Table.get d t i ≠ d) (value : v ≠ d) : (Table.set d t i v).length = t.length := by
  have before := Table.length_eq_total d t wf
  have after := Table.length_eq_total d _ (Table.wf_set d t i v wf)
  rw [Table.total_set _ d (if_pos rfl) t i v wf, if_neg listed, if_neg value] at after
  omega

theorem bags_wf (h : tablesRule s = true) : Table.wf none s.bgr.bags = true := by
  simp only [tablesRule, Bool.and_eq_true] at h
  obtain ⟨⟨⟨⟨⟨⟨⟨⟨-, bags⟩, -⟩, -⟩, -⟩, -⟩, -⟩, -⟩, -⟩ := h
  exact bags

theorem ChutesBut.putBag (h : ChutesBut x s) (r : Nat) (b : Bag) (listed : s.bag r ≠ none) : ChutesBut x (putBag r b s) := by
  refine h.of_eq ((Preserves.refl s).putBag r b) ⟨rfl, rfl⟩ ⟨?_, rfl⟩ ⟨rfl, rfl⟩
  exact Table.length_set_listed none s.bgr.bags (bags_wf h.tables) r (some b) listed nofun

/-! ## Causes brought up to date -/

/-- A cause set on every safe as its records ask. -/
theorem ChutesBut.setAll {c : ChuteCause} {on : Bool} (tables : tablesRule s = true)
    (locked : ∀ n ∈ safeNumbers, (s.safe n).chuteLocked = (s.safe n).causes.any)
    (due : ∀ n ∈ safeNumbers, on = causeDue c s (s.safe n))
    (others : ∀ n ∈ safeNumbers, ∀ e, e ≠ c → some e ≠ x → (s.safe n).causes.has e = causeDue e s (s.safe n)) :
    ChutesBut x (setChuteCauseAll c on s) := by
  have same : ∀ e d, causeDue e (setChuteCauseAll c on s) d = causeDue e s d := fun e d =>
    causeDue_congr e d (fun _ => by simp [State.available]) (fun _ => by simp [State.journalFree]) (fun _ => by simp)
  refine ⟨((Preserves.refl s).setChuteCauseAll c on).tables tables, fun n hn => ?_, fun n hn e he => ?_⟩
  · rw [setChuteCauseAll_safe, if_pos hn]
    exact safeWithCause_locked _ c on (locked n hn)
  · rw [setChuteCauseAll_safe, if_pos hn, same, causeDue_safeWithCause]
    by_cases hc : e = c
    · subst hc
      simp only [safeWithCause, ChuteCauses.has_put]
      exact due n hn
    · simp only [safeWithCause, ChuteCauses.has_put_other _ on hc]
      exact others n hn e hc he

/-- R33: after a change of the bag table the TABLE cause is brought up to date. -/
theorem ChutesBut.syncTable (h : ChutesBut (some .table) s) : ChutesBut none (syncTable s) :=
  .setAll h.tables h.locked (fun _ _ => rfl) fun n hn e he _ => h.causes n hn e fun eq => he (Option.some.inj eq)

/-- A change of the bag table alone puts the TABLE cause at most behind. -/
theorem ChutesBut.bagTable (h : ChutesBut x s) (table : x = none ∨ x = some .table) (p : Preserves s t) (safes : t.csc = s.csc)
    (acu : t.acu = s.acu) : ChutesBut (some .table) t := by
  refine ⟨p.tables h.tables, fun n hn => ?_, fun n hn e he => ?_⟩
  · simpa [State.safe, safes] using h.locked n hn
  · have stands := h.causes n hn e (by rcases table with rfl | rfl <;> simp_all)
    have safe : t.safe n = s.safe n := by simp [State.safe, safes]
    rw [safe, stands]
    exact (causeDue_congr e _ (fun eq => absurd (congrArg some eq) he) (fun _ => by simp [State.journalFree, acu])
      (fun _ => by rw [safes])).symm

theorem ChutesBut.recordBag (h : ChutesBut x s) (r : Nat) (b : Bag) (table : x = none ∨ x = some .table) :
    ChutesBut none (recordBag r b s) := by
  have put : ChutesBut (some .table) (Machine.putBag r b s) := h.bagTable table ((Preserves.refl s).putBag r b) rfl rfl
  exact put.syncTable

theorem ChutesBut.retireBag (h : ChutesBut none s) (r : Nat) (b : Bag) : ChutesBut none (retireBag r b s) :=
  ChutesBut.syncTable (h.bagTable (.inl rfl) (((Preserves.refl s).putBag r b).retired _) rfl rfl)

theorem ChutesBut.freeRetired (h : ChutesBut none s) : ChutesBut none (freeRetired s) := by
  have freed : Preserves s { s with bgr.bags := s.bgr.retired.foldl (fun t r => Table.set none t r none) s.bgr.bags } :=
    (Preserves.refl s).bags _ (wf_foldl_set none id (fun _ _ => none) _ _)
  exact ChutesBut.syncTable (h.bagTable (.inl rfl) (freed.retired []) rfl rfl)

theorem ChutesBut.allocate (h : ChutesBut none s) {r : Nat} (got : allocate s = some (r, t)) : ChutesBut (some .table) t := by
  obtain ⟨-, -, -, -, acu, -, -, -, -, csc, -⟩ := allocate_keeps s _ _ got
  exact h.bagTable (.inl rfl) ((Preserves.refl s).allocate got) csc acu

/-- R55: after a change of the journal the JOURNAL cause is brought up to date. -/
theorem ChutesBut.syncJournal (h : ChutesBut x s) (tables : tablesRule s = true → tablesRule t = true) (csc : t.csc = s.csc) (bgr : t.bgr = s.bgr) :
    ChutesBut x (syncJournal t) := by
  refine .setAll (tables h.tables) (fun n hn => ?_) (fun _ _ => rfl) fun n hn e he hx => ?_
  · simpa [State.safe, csc] using h.locked n hn
  · have safe : t.safe n = s.safe n := by simp [State.safe, csc]
    rw [safe, h.causes n hn e hx]
    exact (causeDue_congr e _ (fun _ => by simp [State.available, bgr]) (fun eq => absurd eq he) (fun _ => by rw [csc])).symm

theorem ChutesBut.applyMovement (h : ChutesBut x s) (m : Movement) : ChutesBut x (applyMovement m s) := by
  have moved : Preserves s (movedFigures m s) := by
    refine Preserves.figures (.refl s) rfl id ?_ ?_ rfl rfl rfl
    · exact wf_foldl_set SlotStock.initial StockChange.slot _ m.stock s.acu.stock
    · exact wf_foldl_set 0 Prod.fst _ m.suspects s.acu.suspects
  have wrote := moved.entries m.entries
  unfold Machine.applyMovement
  exact h.syncJournal (Preserves.chargeAccount wrote m.charge).tables (by simp) (by simp)

theorem ChutesBut.makeReservation (h : ChutesBut x s) : ChutesBut x (makeReservation s) := by
  unfold Machine.makeReservation
  exact h.syncJournal id rfl rfl

theorem ChutesBut.endReservation (h : ChutesBut x s) : ChutesBut x (endReservation s) := by
  unfold Machine.endReservation
  exact h.syncJournal id rfl rfl

/-! ## One safe -/

/-- A safe written with its chute and causes as they should be. -/
theorem ChutesBut.safe (h : ChutesBut x s) (p : Preserves s t) (n : Nat) (others : ∀ m, m ≠ n → t.safe m = s.safe m)
    (locked : (t.safe n).chuteLocked = (t.safe n).causes.any)
    (causes : ∀ c, some c ≠ x → (t.safe n).causes.has c = causeDue c s (t.safe n))
    (latch : t.csc.latch = s.csc.latch) (available : t.available = s.available) (free : t.journalFree = s.journalFree) :
    ChutesBut x t := by
  have same : ∀ c d, causeDue c t d = causeDue c s d := fun c d =>
    causeDue_congr c d (fun _ => available) (fun _ => free) (fun _ => latch)
  refine ⟨p.tables h.tables, fun m hm => ?_, fun m hm c hc => ?_⟩
  · by_cases hn : m = n
    · exact hn ▸ locked
    · rw [others m hn]
      exact h.locked m hm
  · rw [same]
    by_cases hn : m = n
    · exact hn ▸ causes c hc
    · rw [others m hn]
      exact h.causes m hm c hc

/-- R168: a door written brings the cause OPEN of its safe up to date. -/
theorem ChutesBut.putDoor (h : ChutesBut x s) (d : DoorName) (y : Door) (valid : validDoor d = true) :
    ChutesBut x (putDoor d y s) := by
  cases d with
  | strongroom => exact h.frame ((Preserves.refl s).putDoor .strongroom y) (fun _ => rfl) rfl rfl rfl
  | drop n =>
    have listed : n ∈ safeNumbers := by simpa [allDoors] using (mem_allDoors (.drop n)).mpr valid
    have written : ∀ m, (Machine.putDoor (.drop n) y s).safe m =
        if m = n then safeWithCause { s.safe n with door := y } .opened (decide (y.state ≠ .secure)) else s.safe m := fun m => by
      rw [Machine.putDoor, setChuteCause_safe, putSafe_safe, if_pos rfl]
      split
      · rfl
      · next ne => rw [putSafe_safe, if_neg ne]
    refine h.safe ((Preserves.refl s).putDoor (.drop n) y) n (fun m ne => by rw [written, if_neg ne]) ?_ (fun c hc => ?_)
      (by simp) (by simp [State.available]) (by simp [State.journalFree])
    · rw [written, if_pos rfl]
      exact safeWithCause_locked _ _ _ (h.locked n listed)
    · rw [written, if_pos rfl, causeDue_safeWithCause]
      by_cases opened : c = .opened
      · subst opened
        simp [safeWithCause, causeDue]
      · simp only [safeWithCause, ChuteCauses.has_put_other _ _ opened]
        rw [h.causes n listed c hc]
        cases c
        case opened => exact absurd rfl opened
        all_goals rfl
  | other => cases valid

/-- R170: a deposit counted in a safe sets FULL when the safe holds 40. -/
theorem ChutesBut.countInSafe (h : ChutesBut none s) (n : Nat) (g r : Option Nat) (valid : validSafe n = true) :
    ChutesBut none (countInSafe n g r s) := by
  have listed : n ∈ safeNumbers := by simpa [allDoors] using (mem_allDoors (.drop n)).mpr (show validDoor (.drop n) = true from valid)
  have full : (s.safe n).causes.full = decide (40 ≤ (s.safe n).count) := h.causes n listed .full nofun
  have written : ∀ m, (Machine.countInSafe n g r s).safe m = if m = n then
      safeWithCause { s.safe n with count := min maxDropCount ((s.safe n).count + 1) } .full
        (decide (40 ≤ min maxDropCount ((s.safe n).count + 1))) else s.safe m := fun m => by
    unfold Machine.countInSafe
    dsimp only
    generalize hu : (if 40 ≤ (s.safe n).count ∨ r = none then _ else s) = u
    have same : ∀ k, u.safe k = s.safe k := fun k => by
      rw [← hu]
      split <;> simp [State.safe]
    split
    · next forty =>
        rw [setChuteCause_safe, putSafe_safe, if_pos rfl, same, forty]
        split
        · rfl
        · next ne => rw [putSafe_safe, if_neg ne, same]
    · next other =>
        rw [putSafe_safe, same, same]
        split
        · have stays : (s.safe n).causes.has .full = decide (40 ≤ min maxDropCount ((s.safe n).count + 1)) := by
            refine full.trans (decide_eq_decide.mpr ?_)
            unfold maxDropCount at other ⊢
            omega
          simp only [safeWithCause, ChuteCauses.put_self _ _ _ stays, if_true]
        · rfl
  refine h.safe ((Preserves.refl s).countInSafe n g r) n (fun m ne => by rw [written, if_neg ne]) ?_ (fun c hc => ?_)
    (by simp) (by simp [State.available]) (by simp [State.journalFree])
  · rw [written, if_pos rfl]
    exact safeWithCause_locked _ _ _ (h.locked n listed)
  · rw [written, if_pos rfl, causeDue_safeWithCause]
    by_cases isFull : c = .full
    · subst isFull
      simp [safeWithCause, causeDue]
    · simp only [safeWithCause, ChuteCauses.has_put_other _ _ isFull]
      rw [h.causes n listed c hc]
      cases c
      case full => exact absurd rfl isFull
      all_goals rfl

/-! ## Postings, drops, counts and scans -/

theorem ChutesBut.notify (h : ChutesBut x s) (k : NoticeKind) (l : List Field) : ChutesBut x (notify k l s) :=
  h.of_eq ((Preserves.refl s).notify k l) (by simp) (by simp) (by simp)

theorem ChutesBut.putTill (h : ChutesBut x s) (n : Nat) (y : Till) : ChutesBut x (putTill n y s) :=
  h.of_eq ((Preserves.refl s).putTill n y) (by simp) (by simp) (by simp)

theorem ChutesBut.clearOverLimit (h : ChutesBut x s) (n : Nat) : ChutesBut x (clearOverLimit n s) :=
  h.of_eq ((Preserves.refl s).clearOverLimit n) (by simp) (by simp) (by simp)

theorem ChutesBut.overLimitTest (h : ChutesBut x s) (n : Nat) : ChutesBut x (overLimitTest n s) :=
  h.of_eq ((Preserves.refl s).overLimitTest n) (by simp) (by simp) (by simp)

theorem ChutesBut.rememberSkim (h : ChutesBut x s) (p : Posting) (g : Nat) : ChutesBut x (rememberSkim p g s) :=
  h.of_eq ((Preserves.refl s).rememberSkim p g) (by simp) (by simp) (by simp)

theorem ChutesBut.countDrop (h : ChutesBut x s) (y : TakenSkim) : ChutesBut x (countDrop y s) :=
  h.of_eq ((Preserves.refl s).countDrop y) (by simp) (by simp) (by simp)

theorem ChutesBut.putManifest (h : ChutesBut x s) (n : Nat) (m : Manifest) : ChutesBut x (putManifest n m s) :=
  h.of_eq ((Preserves.refl s).putManifest n m) (by simp) (by simp) (by simp)

theorem ChutesBut.refuseScan (h : ChutesBut x s) (g r : Option Nat) (e : ScanReason) : ChutesBut x (refuseScan g r e s) :=
  h.of_eq ((Preserves.refl s).refuseScan g r e) (by simp) (by simp) (by simp)

theorem ChutesBut.applyReport (h : ChutesBut x s) (c : Confirmation) : ChutesBut x (applyReport c s) :=
  h.of_eq ((Preserves.refl s).applyReport c) (by simp) (by simp) (by simp)

theorem ChutesBut.leaveQueue (h : ChutesBut x s) (q : QueuedCount) : ChutesBut x (leaveQueue q s) :=
  h.of_eq ((Preserves.refl s).leaveQueue q) (by simp) (by simp) (by simp)

theorem ChutesBut.notifyStockRange (h : ChutesBut x s) (r : Nat) (f : Option MoveFail) : ChutesBut x (notifyStockRange r f s) :=
  h.of_eq ((Preserves.refl s).notifyStockRange r f) (by simp) (by simp) (by simp)

theorem ChutesBut.announceReport (h : ChutesBut x s) (c : Confirmation) (w : State) : ChutesBut x (announceReport c w s) :=
  h.of_eq ((Preserves.refl s).announceReport c w) (by simp) (by simp) (by simp)

theorem ChutesBut.offer (h : ChutesBut x s) (r : WatchResult) : ChutesBut x (offer r s).1 :=
  h.of_eq ((Preserves.refl s).offer r) (by simp) (by simp) (by simp)

theorem bag_congr (h : t.bgr.bags = s.bgr.bags) (r : Nat) : t.bag r = s.bag r := by simp [State.bag, h]

theorem ChutesBut.attachSkim (h : ChutesBut x s) (p : Posting) (g : Nat) : ChutesBut x (attachSkim p g s) := by
  unfold Machine.attachSkim
  dsimp only
  split
  · exact h.rememberSkim p g
  · next r _ =>
      split
      · exact h.rememberSkim p g
      · next b found =>
          split
          · exact ((h.putTill _ _).putBag r _ (by rw [bag_congr (s := s) (by simp), found]; nofun)).clearOverLimit _
          · split
            · exact h.notify _ _
            · refine (((h.putTill _ _).applyMovement _).putBag r _ ?_).clearOverLimit _
              rw [bag_congr (s := s) (by simp), found]
              nofun

theorem ChutesBut.applyPosting (h : ChutesBut x s) (p : Posting) : ChutesBut x (applyPosting s p) := by
  have session : ChutesBut x (applyInSession p s) := by
    unfold applyInSession
    dsimp only
    generalize ((s.till p.till).accumulate p.kind p.amount).reckon = y
    split
    · exact ((h.putTill _ y).attachSkim p _).overLimitTest _
    · exact (h.putTill _ y).overLimitTest _
  have posted := (Preserves.refl s).applyPosting p
  unfold Machine.applyPosting at posted ⊢
  split at posted
  case h_1 state => exact session
  case h_2 state => exact session
  case h_3 state => exact h.of_eq posted (by simp) (by simp) (by simp)
  case h_4 state => exact h.of_eq posted (by simp) (by simp) (by simp)
  case h_5 state => exact h.of_eq posted (by simp) (by simp) (by simp)

theorem ChutesBut.postings (h : ChutesBut x s) (l : List Posting) : ChutesBut x { s with tau.postings := l } :=
  ⟨h.tables, h.locked, h.causes⟩

theorem ChutesBut.snoopTill (h : ChutesBut x s) (n : Nat) : ChutesBut x (snoopTill n s) :=
  foldl_rule (ChutesBut x) Machine.applyPosting (fun _ p hu => hu.applyPosting p) _ _ (h.postings _)

theorem ChutesBut.snoopFor (h : ChutesBut x s) (b : Bag) : ChutesBut x (snoopFor b s) := by
  unfold Machine.snoopFor
  split
  · exact h
  · exact h.snoopTill _

theorem ChutesBut.applyOldest (h : ChutesBut x s) : ChutesBut x (applyOldest s) := by
  unfold Machine.applyOldest
  split
  · exact h
  · exact (h.postings _).applyPosting _

theorem ChutesBut.skimSearch (h : ChutesBut x s) (g : Nat) : ChutesBut x (skimSearch g s) := by
  unfold Machine.skimSearch
  split
  · exact h
  · exact (h.postings _).applyPosting _

theorem ChutesBut.recordUndeclared (h : ChutesBut x s) (n r : Nat) (g : Option Nat) (f : AnomalyFlags) (b : Bool)
    (table : x = none ∨ x = some .table) : ChutesBut none (recordUndeclared n r g f b s) :=
  (h.recordBag r _ table).notify _ _

theorem ChutesBut.recordDrop (h : ChutesBut x s) (n r : Nat) (g : Option Nat) (table : x = none ∨ x = some .table) :
    ChutesBut none (recordDrop n r g s) := by
  unfold Machine.recordDrop
  dsimp only
  split
  · exact h.recordUndeclared _ _ _ _ _ table
  · next k =>
      split
      · exact (h.skimSearch k).recordUndeclared _ _ _ _ _ table
      · unfold recordDeclared
        dsimp only
        generalize hu : removePending _ (Machine.skimSearch k s) = u
        have removed : ChutesBut x u := by
          rw [← hu]
          exact (h.skimSearch k).putTill _ _
        split
        · exact removed.recordUndeclared _ _ _ _ _ table
        · exact ((removed.recordBag _ _ table).applyMovement _).countDrop _

theorem ChutesBut.takeDrop (h : ChutesBut none s) (n : Nat) (g : Option Nat) (valid : validSafe n = true) :
    ChutesBut none (takeDrop n g s) := by
  unfold Machine.takeDrop
  split
  · exact h.countInSafe _ _ _ valid
  · next got => exact ((h.allocate got).recordDrop _ _ _ (.inr rfl)).countInSafe _ _ _ valid

theorem ChutesBut.takeScan (h : ChutesBut none s) (g : Option Nat) : ChutesBut none (takeScan g s) := by
  unfold Machine.takeScan
  split
  · exact h.of_eq (((Preserves.refl s).command _ _).notify _ _) (by simp) (by simp) (by simp)
  · split
    · exact h.refuseScan _ _ _
    · split
      · unfold Machine.scanOutbound
        split
        · exact h.notify _ _
        · split
          · exact h.refuseScan _ _ _
          · split
            · exact h.refuseScan _ _ _
            · dsimp only
              split
              · exact h.refuseScan _ _ _
              · exact ((h.applyMovement _).retireBag _ _).putManifest _ _
      · split
        · unfold Machine.scanInbound
          split
          · exact h.notify _ _
          · split
            · exact h.refuseScan _ _ _
            · next r u got =>
                have allocated : Machine.allocate s = some (r, u) := by
                  split at got
                  · exact got
                  · cases got
                dsimp only
                split
                · exact h.refuseScan _ _ _
                · exact (((h.allocate allocated).recordBag _ _ (.inr rfl)).applyMovement _).putManifest _ _
        · exact h.refuseScan _ _ _

theorem ChutesBut.confirm (h : ChutesBut none s) (c : Confirmation) (listed : s.bag c.ref ≠ none) :
    ChutesBut none (confirm c s).1 := by
  unfold Machine.confirm
  split
  · dsimp only
    unfold applyConfirmation
    exact ((h.applyMovement _).applyReport c).retireBag _ _
  · dsimp only
    unfold applyConfirmation
    refine ((h.applyMovement _).applyReport c).putBag _ _ ?_
    rwa [bag_congr (s := s) (by simp)]

theorem ChutesBut.completeCount (h : ChutesBut none s) (q : QueuedCount) (b : Bag) (c : Option Int) (listed : s.bag q.ref ≠ none) :
    ChutesBut none (completeCount q b c s) := by
  unfold Machine.completeCount
  dsimp only
  split
  · refine (((((h.offer _).confirm _ ?_).leaveQueue q).notifyStockRange _ _).notify _ _).announceReport _ _
    rwa [bag_congr (s := s) (by simp)]
  · refine ((((h.offer _).putBag _ _ ?_).endReservation).leaveQueue q).notify _ _
    rwa [bag_congr (s := s) (by simp)]

/-- A posting unlists no bag. -/
theorem attachSkim_listed (p : Posting) (g r : Nat) (listed : s.bag r ≠ none) : (Machine.attachSkim p g s).bag r ≠ none := by
  have written : ∀ k b (v : State), v.bag r = s.bag r → (Machine.clearOverLimit p.till (Machine.putBag k b v)).bag r ≠ none :=
    fun k b v e => by
      rw [bag_congr (s := Machine.putBag k b v) (by simp), putBag_bag]
      split
      · nofun
      · rwa [e]
  unfold Machine.attachSkim
  dsimp only
  split
  · rwa [bag_congr (s := s) (by simp)]
  · split
    · rwa [bag_congr (s := s) (by simp)]
    · split
      · exact written _ _ _ rfl
      · split
        · rwa [bag_congr (s := s) (by simp)]
        · exact written _ _ _ (bag_congr (by simp) r)

theorem applyPosting_listed (p : Posting) (r : Nat) (listed : s.bag r ≠ none) : (applyPosting s p).bag r ≠ none := by
  have session : (applyInSession p s).bag r ≠ none := by
    have tested : ∀ u, u.bag r ≠ none → (Machine.overLimitTest p.till u).bag r ≠ none := fun u hu => by
      rwa [bag_congr (s := u) (by simp)]
    unfold applyInSession
    dsimp only
    split
    · exact tested _ (attachSkim_listed p _ r listed)
    · exact tested _ listed
  unfold Machine.applyPosting
  split
  · exact session
  · exact session
  all_goals rwa [bag_congr (s := s) (by simp)]

theorem snoopFor_listed (b : Bag) (r : Nat) (listed : s.bag r ≠ none) : (Machine.snoopFor b s).bag r ≠ none := by
  unfold Machine.snoopFor
  split
  · exact listed
  · exact foldl_rule (fun u => u.bag r ≠ none) Machine.applyPosting (fun _ p hu => applyPosting_listed p r hu) _ _ listed

theorem ChutesBut.completeValuation (h : ChutesBut none s) : ChutesBut none (completeValuation s) := by
  unfold Machine.completeValuation
  split
  · split
    · exact h
    · split
      · exact h
      · next b found => exact (h.snoopFor b).completeCount _ _ _ (snoopFor_listed b _ (by rw [found]; nofun))
  · exact h

theorem ChutesBut.settleDispute (h : ChutesBut none s) (r : Nat) (b : Bag) (y : Tally) (listed : s.bag r ≠ none) :
    ChutesBut none (settleDispute r b y s).state := by
  unfold Machine.settleDispute
  split
  · dsimp only
    split
    · exact h
    · split
      · exact h
      · exact ((h.confirm _ listed).notifyStockRange _ _).announceReport _ _
  · exact h

/-! ## Doors -/

theorem ChutesBut.command (h : ChutesBut x s) (p : UnitPos) (c : UnitCmd) : ChutesBut x (command p c s) :=
  h.of_eq ((Preserves.refl s).command p c) ⟨rfl, rfl⟩ ⟨rfl, rfl⟩ ⟨rfl, rfl⟩

theorem ChutesBut.driveAlarm (h : ChutesBut x s) : ChutesBut x (driveAlarm s) :=
  h.of_eq (Preserves.refl s).driveAlarm ⟨rfl, rfl⟩ ⟨rfl, rfl⟩ ⟨rfl, rfl⟩

theorem ChutesBut.secureDoor (h : ChutesBut x s) (d : DoorName) (valid : validDoor d = true) : ChutesBut x (secureDoor d s) := by
  unfold Machine.secureDoor
  refine ChutesBut.putDoor ?_ _ _ valid
  split
  · exact h.command _ _
  · exact h

theorem ChutesBut.releaseDoor (h : ChutesBut x s) (d : DoorName) (valid : validDoor d = true) : ChutesBut x (releaseDoor d s) :=
  (h.command _ _).putDoor _ _ valid

theorem ChutesBut.endDelay (h : ChutesBut x s) (d : DoorName) (valid : validDoor d = true) : ChutesBut x (endDelay d s) := by
  cases d with
  | strongroom =>
    unfold Machine.endDelay confirmDoor
    exact h.putDoor .strongroom _ valid
  | drop n => exact h.releaseDoor (.drop n) valid
  | other => exact h

theorem ChutesBut.grantDelay (h : ChutesBut x s) (d : DoorName) (k : Nat) (valid : validDoor d = true) :
    ChutesBut x (grantDelay d k s) := by
  unfold Machine.grantDelay
  split
  · exact h.endDelay d valid
  · exact h.putDoor _ _ valid

theorem ChutesBut.openDoor (h : ChutesBut x s) (d : DoorName) (valid : validDoor d = true) : ChutesBut x (openDoor d s) :=
  h.putDoor _ _ valid

theorem ChutesBut.forceDoor (h : ChutesBut x s) (d : DoorName) (valid : validDoor d = true) : ChutesBut x (forceDoor d s) :=
  (((h.putDoor _ _ valid).openDoor d valid).driveAlarm).notify _ _

theorem ChutesBut.takeDoor (h : ChutesBut x s) (d : DoorName) (b : Bool) (valid : validDoor d = true) :
    ChutesBut x (takeDoor d b s) := by
  unfold Machine.takeDoor
  split
  · unfold doorOpened
    split
    · exact h.openDoor d valid
    · exact h.putDoor _ _ valid
    all_goals exact h.forceDoor d valid
  · unfold doorClosed
    dsimp only
    split
    · exact (h.putDoor _ _ valid).secureDoor d valid
    · exact h.putDoor _ _ valid

theorem ChutesBut.presentedAtStrongroom (h : ChutesBut x s) (n : Nat) : ChutesBut x (presentedAtStrongroom n s) := by
  unfold Machine.presentedAtStrongroom
  dsimp only
  split
  · split
    · exact h.releaseDoor _ rfl
    · exact h
  · exact h

theorem ChutesBut.tellOwner (h : ChutesBut x s) (r : Reader) (n : Nat) (cls : CredClass) : ChutesBut x (tellOwner r n cls s) := by
  cases r with
  | office => exact h
  | strongroom => exact h.presentedAtStrongroom n
  | hatch =>
    unfold Machine.tellOwner
    exact h.of_eq ((Preserves.refl s).presentedAtHatch n cls) (by simp) (by simp) (by simp)

/-! ## The latch -/

theorem lockedSafe_rule (d : DropSafe) (h : d.chuteLocked = d.causes.any) :
    (lockedSafe d).chuteLocked = (lockedSafe d).causes.any ∧ (lockedSafe d).causes.lockdown = true ∧
    (lockedSafe d).causes.opened = decide (d.door.state ≠ .secure) ∧ (lockedSafe d).causes.full = d.causes.full ∧
    (lockedSafe d).causes.table = d.causes.table ∧ (lockedSafe d).causes.journal = d.causes.journal ∧
    (lockedSafe d).count = d.count ∧ (lockedSafe d).door = d.door :=
  ⟨safeWithCause_locked _ _ _ (safeWithCause_locked _ _ _ h), rfl, rfl, rfl, rfl, rfl, rfl, rfl⟩

theorem ChutesBut.setLatch (h : ChutesBut none s) (c : LockdownCause) : ChutesBut none (setLatch c s) := by
  have safes : ∀ n ∈ safeNumbers, ∃ y, (Machine.setLatch c s).safe n = lockedSafe { s.safe n with door := y } := fun n hn => by
    refine ⟨(secureDoors s.movingDoors { s with csc.latch := true }).door (.drop n), ?_⟩
    have kept : (Machine.setLatch c s).safe n = (Machine.lockChutes (Machine.secureDoors s.movingDoors { s with csc.latch := true })).safe n := by
      unfold Machine.setLatch Machine.notifyLockdown Machine.startHold Machine.driveAlarm
      simp [State.safe]
    rw [kept, (lockChutes_does _).1, if_pos hn, secureDoors_safe]
    rfl
  have available : (Machine.setLatch c s).available = s.available := by simp [State.available]
  have free : (Machine.setLatch c s).journalFree = s.journalFree := by simp [State.journalFree]
  refine ⟨((Preserves.refl s).setLatch c).tables h.tables, fun n hn => ?_, fun n hn e he => ?_⟩
  · obtain ⟨y, safe⟩ := safes n hn
    rw [safe]
    exact (lockedSafe_rule { s.safe n with door := y } (h.locked n hn)).1
  · obtain ⟨y, safe⟩ := safes n hn
    obtain ⟨-, lockdown, opened, full, table, journal, count, door⟩ := lockedSafe_rule { s.safe n with door := y } (h.locked n hn)
    rw [safe]
    cases e
    case full => exact full.trans ((h.causes n hn .full nofun).trans (by simp only [causeDue, count]))
    case table => exact table.trans ((h.causes n hn .table nofun).trans (by simp only [causeDue, available]))
    case journal => exact journal.trans ((h.causes n hn .journal nofun).trans (by simp only [causeDue, free]))
    case lockdown => exact lockdown.trans (by simp [causeDue, Machine.setLatch])
    case opened => exact opened

theorem ChutesBut.lockdown (h : ChutesBut none s) (c : LockdownCause) : ChutesBut none (lockdown c s) := by
  unfold Machine.lockdown
  split
  · exact h.of_eq (((Preserves.refl s).startHold.driveAlarm).notifyLockdown c true []) (by simp) (by simp) (by simp)
  · exact h.setLatch c

theorem ChutesBut.lockdownReleased (h : ChutesBut none s) (fields : List Field) : ChutesBut none (settleAlarm
    (Machine.notify .lockdownCleared fields (setChuteCauseAll .lockdown false { s with csc.latch := false }))) := by
  have clear : Preserves s { s with csc.latch := false } := (Preserves.refl s).csc rfl rfl
  have cleared : ChutesBut none (setChuteCauseAll .lockdown false { s with csc.latch := false }) := by
    refine .setAll (clear.tables h.tables) h.locked (fun _ _ => rfl) fun n hn e he hx => ?_
    refine (h.causes n hn e hx).trans ?_
    exact (causeDue_congr (s := s) (t := { s with csc.latch := false }) e _ (fun _ => rfl) (fun _ => rfl) (fun eq => absurd eq he)).symm
  exact (cleared.notify _ _).of_eq (Preserves.refl _).settleAlarm (by simp) (by simp) (by simp)

/-! ## Starts and ticks -/

theorem ChutesBut.warmStart (h : ChutesBut none s) (c : StartCause) : ChutesBut none (warmStart c s) := by
  have safes : ∀ n ∈ safeNumbers, (Machine.warmStart c s).safe n = resolveSafe s.csc.policy.openLimit
      (decide ((Machine.warmStart c s).available ≤ 8)) (decide ((Machine.warmStart c s).journalFree ≤ 8)) s.csc.latch (s.safe n) :=
    fun n hn => by
      simp [State.safe, State.available, State.journalFree, Machine.warmStart, resetUnitBus, resetHostPort, emptyPresence,
        Machine.resolveCustody, Table.get_update _ _ safeNumbers (by decide), hn]
  refine ⟨((Preserves.refl s).warmStart c).tables h.tables, fun n hn => ?_, fun n hn e he => ?_⟩
  · rw [safes n hn]
    rfl
  · rw [safes n hn]
    cases e
    case lockdown => exact (warmStart_keeps c s).2.2.2.2.2.2.2.2.2.2.2.2.2.2.2.2.2.2.2.2.2.2.2.2.2.2.1.symm
    all_goals rfl

theorem ChutesBut.tick (h : ChutesBut none s) : ChutesBut none (tickClock (tickTimers s)) := by
  have safes : ∀ n ∈ safeNumbers, (Machine.tickClock (Machine.tickTimers s)).safe n = tickSafe (s.safe n) := fun n hn => by
    simp [State.safe, Machine.tickClock, Machine.tickTimers, Table.get_update _ _ safeNumbers (by decide), hn]
  refine ⟨((Preserves.refl s).tickTimers.tickClock).tables h.tables, fun n hn => ?_, fun n hn e he => ?_⟩
  · rw [safes n hn]
    exact h.locked n hn
  · rw [safes n hn]
    exact (h.causes n hn e he).trans (by cases e <;> rfl)

/-! ## Every step -/

theorem ChutesBut.returnBag (h : ChutesBut x s) (r : Nat) : ChutesBut x (returnBag r s) := by
  unfold Machine.returnBag
  split
  · exact h
  · next found => exact h.putBag r _ (by rw [found]; nofun)

theorem ChutesBut.benchBag (h : ChutesBut x s) (r : Nat) : ChutesBut x (benchBag s r) := by
  unfold Machine.benchBag
  split
  · exact h
  · next found => exact h.putBag r _ (by rw [found]; nofun)

theorem ChutesBut.safeCleared (h : ChutesBut none s) (n : Nat) (valid : validSafe n = true) : ChutesBut none (safeCleared n s) := by
  have listed : n ∈ safeNumbers := by simpa [allDoors] using (mem_allDoors (.drop n)).mpr (show validDoor (.drop n) = true from valid)
  have benched : ChutesBut none ((s.refsWhere (fun b => b.state.live && decide (b.custody = .drop n))).foldl Machine.benchBag s) :=
    foldl_rule (ChutesBut none) Machine.benchBag (fun _ r hu => hu.benchBag r) _ s h
  unfold Machine.safeCleared
  dsimp only
  generalize (s.refsWhere _).foldl Machine.benchBag s = u at benched ⊢
  have written : ∀ m, (Machine.setChuteCause n .full false (Machine.putSafe n { u.safe n with count := 0 } u)).safe m =
      if m = n then safeWithCause { u.safe n with count := 0 } .full false else u.safe m := fun m => by
    rw [setChuteCause_safe, putSafe_safe, if_pos rfl]
    split
    · rfl
    · next ne => rw [putSafe_safe, if_neg ne]
  refine benched.safe (((Preserves.refl u).putSafe _ _).setChuteCause _ _ _) n (fun m ne => by rw [written, if_neg ne]) ?_
    (fun c hc => ?_) (by simp) (by simp [State.available]) (by simp [State.journalFree])
  · rw [written, if_pos rfl]
    exact safeWithCause_locked _ _ _ (benched.locked n listed)
  · rw [written, if_pos rfl, causeDue_safeWithCause]
    by_cases isFull : c = .full
    · subst isFull
      rfl
    · simp only [safeWithCause, ChuteCauses.has_put_other _ _ isFull]
      rw [benched.causes n listed c hc]
      cases c
      case full => exact absurd rfl isFull
      all_goals rfl

theorem Accepted.chutesBut (a : Accepted s t) (h : ChutesBut none s) : ChutesBut none t := by
  have p := a.preserves
  cases a
  case dayOpened d l day ok opening =>
    have moved : ChutesBut none (applyMovement (openingMovement l s) s) := h.applyMovement _
    unfold Machine.dayOpened at p ⊢
    generalize applyMovement (openingMovement l s) s = u at moved
    exact moved.of_eq (Preserves.figures (.refl u) rfl id id id rfl rfl rfl) ⟨rfl, rfl⟩ ⟨rfl, rfl⟩ ⟨rfl, rfl⟩
  case dayClosed l room outs =>
    have figures : ChutesBut none (dayFigures l s) := by
      refine h.of_eq ?_ ⟨rfl, rfl⟩ ⟨rfl, rfl⟩ ⟨rfl, rfl⟩
      exact ((Preserves.refl s).tills _ (Table.wf_update Till.initial Till.closeDay tillNumbers _)).figures rfl id id
        (wf_foldl_set 0 SlotLine.slot _ l s.acu.suspects) rfl rfl rfl
    exact figures.freeRetired.applyMovement _
  case journalTaken k =>
    exact h.syncJournal id rfl rfl
  case bagMoved r b d found still => exact h.putBag r _ (by rw [found]; nofun)
  case floatMade n m r tagNo taken s1 till state room lines slot space =>
    unfold Machine.floatMade
    exact .putTill (.applyMovement (.recordBag (h.allocate slot) _ _ (.inr rfl)) _) _ _
  case floatUnmade n r b till state bag room fits => exact ((h.applyMovement _).retireBag _ _).putTill _ _
  case floatIssued n r cashier b till state bag room =>
    exact (((h.applyMovement _).retireBag _ _).putTill _ _).overLimitTest n
  case takings n r tagNo cashier v s1 till state room slot space =>
    unfold takingsReceived
    exact .clearOverLimit (.putTill (.applyMovement (.recordBag (h.allocate slot) _ _ (.inr rfl)) _) _ _) n
  case snooped n => exact h.snoopTill n
  case laneLoaded n ref urgent b lane found state custody purpose idle =>
    exact (h.putBag ref _ (by rw [found]; nofun)).of_eq ((Preserves.refl _).putLane _ _) ⟨rfl, rfl⟩ ⟨rfl, rfl⟩ ⟨rfl, rfl⟩
  case lanePushed n ref b lane found state custody purpose atWork =>
    exact (h.putBag ref _ (by rw [found]; nofun)).of_eq ((Preserves.refl _).putLane _ _) ⟨rfl, rfl⟩ ⟨rfl, rfl⟩ ⟨rfl, rfl⟩
  case batchClosed n coins lane atWork queue room =>
    refine ChutesBut.makeReservation (h.of_eq (t := putLane n _ _) ?_ ⟨rfl, rfl⟩ ⟨rfl, rfl⟩ ⟨rfl, rfl⟩)
    refine Preserves.putLane (Preserves.rcu (.refl s) rfl fun _ => ?_) n _
    simp only [List.length_append, List.length_singleton]
    omega
  case batchAborted n lane atWork => exact (h.returnBag _).of_eq ((Preserves.refl _).putLane _ _) ⟨rfl, rfl⟩ ⟨rfl, rfl⟩ ⟨rfl, rfl⟩
  case countQueued ref b tally found purpose state queue room =>
    have queued : ChutesBut none { s with rcu.queue := s.rcu.queue ++ [.manual ref tally] } := by
      refine h.of_eq (Preserves.rcu (.refl s) rfl fun _ => ?_) ⟨rfl, rfl⟩ ⟨rfl, rfl⟩ ⟨rfl, rfl⟩
      simp only [List.length_append, List.length_singleton]
      omega
    exact (queued.putBag ref _ (show s.bag ref ≠ none by rw [found]; nofun)).makeReservation
  case disputeSettled ref b y found disputed day =>
    exact (h.snoopFor b).settleDispute ref b y (snoopFor_listed b ref (by rw [found]; nofun))
  case merged ref b found confirmed fits => exact (h.applyMovement _).retireBag _ _
  case doorRequested d creds a granted =>
    have valid : validDoor d = true := by
      obtain ⟨ok, -⟩ := require_of_bind granted
      exact (Bool.and_eq_true_iff.mp ok).1
    rcases requestDoor_grants granted with e | ⟨k, e⟩
    · rw [e]
      exact (h.putDoor d _ valid).releaseDoor d valid
    · rw [e]
      exact (h.putDoor d _ valid).grantDelay d k valid
  case doorCancelled d door moving => exact h.secureDoor d door
  case safeCleared n safe => exact h.safeCleared n safe
  case lockdown => exact h.lockdown .request
  case lockdownReleased fields latch ended => exact h.lockdownReleased fields
  case deposited r tagNo lines s1 slots once suits covered room slot space =>
    exact ((h.allocate slot).recordBag _ _ (.inr rfl)).applyMovement _
  case officeOpened latch => exact h.of_eq p ⟨rfl, rfl⟩ ⟨rfl, rfl⟩ ⟨rfl, rfl⟩
  case officeClosed => exact h.of_eq p ⟨rfl, rfl⟩ ⟨rfl, rfl⟩ ⟨rfl, rfl⟩
  case manifestCreated => exact h.of_eq p ⟨rfl, rfl⟩ ⟨rfl, rfl⟩ ⟨rfl, rfl⟩
  all_goals exact h.of_eq p (by simp) (by simp) (by simp)

theorem Happens.chutesBut (a : Happens s t) (h : ChutesBut none s) : ChutesBut none t := by
  have p := a.preserves
  cases a
  case badge r n c =>
    unfold Machine.takeBadge
    split
    · exact h.notify _ _
    · next k listed =>
        have entered := ((Preserves.refl s).relist n k { k with fails := 0 } listed).putPresence r _
          (length_enterPresence_le ⟨n, k.cls, s.cru.lifetime⟩ ((putCredential n (some { k with fails := 0 }) s).presence r))
        have presented : ChutesBut none (putPresence r (enterPresence ⟨n, k.cls, s.cru.lifetime⟩
            ((putCredential n (some { k with fails := 0 }) s).presence r)) (putCredential n (some { k with fails := 0 }) s)) :=
          h.of_eq entered (by simp) (by simp) (by simp)
        split
        · exact h.notify _ _
        · cases c with
          | fail => exact h.of_eq ((Preserves.refl s).failPin r n k listed) (by simp) (by simp) (by simp)
          | ok => exact presented.tellOwner r n k.cls
          | duress => exact (presented.driveAlarm.notify _ _).tellOwner r n k.cls
  case door d isOpen door => exact h.takeDoor d isOpen door
  case drop n tagNo safe => exact h.takeDrop n tagNo safe
  case scan tagNo => exact h.takeScan tagNo
  case panic e =>
    have level : ChutesBut none { s with ubc.panicHigh := levelAfter e } :=
      h.of_eq (Preserves.ubc (.refl s) rfl le_rfl) ⟨rfl, rfl⟩ ⟨rfl, rfl⟩ ⟨rfl, rfl⟩
    unfold panicEdge
    dsimp only
    split
    · exact level.lockdown _
    · exact level
  case cold => exact (chutesBut_none_iff _).mpr ⟨(by decide : chuteRule State.reset = true), (by decide : tablesRule State.reset = true)⟩
  case restartCold => exact (chutesBut_none_iff _).mpr ⟨(by decide : chuteRule State.reset = true), (by decide : tablesRule State.reset = true)⟩
  case warm c => exact h.warmStart c
  case restartWarm =>
    have sent : ChutesBut none (sendReplies s) := h.of_eq (Preserves.refl s).sendReplies (by simp) (by simp) (by simp)
    exact sent.warmStart .restart
  case tick => exact h.tick
  case delay d door =>
    unfold expireDelay
    split
    · exact h.endDelay d door
    · exact h
  case confirm =>
    unfold expireConfirm
    split
    · exact h.secureDoor _ rfl
    · exact h
  case release d door =>
    unfold expireRelease
    split
    · exact h.secureDoor d door
    · exact h
  case openLimit d door =>
    unfold expireOpen
    split
    · exact (h.putDoor d _ door).notify _ _
    · exact h
  case posting => exact h.applyOldest
  case completed => exact h.completeValuation
  case bytes l =>
    exact foldl_rule (ChutesBut none) feedByte (fun u b hu => hu.of_eq ((Preserves.refl u).feedByte b) (by simp) (by simp) (by simp)) l s h
  all_goals exact h.of_eq p (by simp) (by simp) (by simp)

end Chutes

theorem chutesBut_kept : Kept (ChutesBut none) where
  queue s l h := ⟨h.tables, h.locked, h.causes⟩
  arrives i tag kind s h := h.of_eq ((Preserves.refl s).arrive i tag kind) (by simp) (by simp) (by simp)
  taken s h := h.of_eq (Preserves.refl s).takeFrom (by simp) (by simp) (by simp)
  replied s r h := h.of_eq ((Preserves.refl s).formReply r) (by simp) (by simp) (by simp)
  accepted s t h a := a.chutesBut h
  happens s t h a := a.chutesBut h

end Sys2Proof.Machine

namespace Sys2Proof.Proofs.ChuteRule

open Sys2Proof Sys2Proof.Machine

/-- Settles O6: a change of the journal or the bag table brings its cause up to date on every safe, and a change of a door, a
count or the latch the causes that follow it. -/
theorem stepKeepsChuteRule : Obligations.StepKeepsChuteRule := by
  unfold Obligations.StepKeepsChuteRule
  intro s t chutes tables stepped
  exact ((chutesBut_none_iff t).mp (chutesBut_kept.step ((chutesBut_none_iff s).mpr ⟨chutes, tables⟩) stepped)).1

end Sys2Proof.Proofs.ChuteRule
end

section
/-!
The arithmetic of the part: the digit procedures of R9 to R11, valuation (R13, R14), the band and the classification (R16, R18)
and the straps of a batch (R20).
-/

namespace Sys2Proof.Machine

open Sys2Proof

set_option Elab.async false

/-! ## Digit by digit -/

theorem ofDigits_digitsOf (n x : Nat) (h : x < 10 ^ n) : ofDigits (digitsOf n x) = x := by
  induction n generalizing x with
  | zero => simp_all [digitsOf, ofDigits]
  | succ n ih =>
    have high : x / 10 < 10 ^ n := by rw [pow_succ] at h; omega
    simp only [digitsOf, ofDigits, ih _ high]
    omega

/-- R9: the digits of the sum, and the carry that passes out, are worth the sum. -/
theorem addDigits_value (n x y c : Nat) (hx : x < 10 ^ n) (hy : y < 10 ^ n) :
    ofDigits (addDigits (digitsOf n x) (digitsOf n y) c).1 + 10 ^ n * (addDigits (digitsOf n x) (digitsOf n y) c).2 = x + y + c := by
  induction n generalizing x y c with
  | zero => simp_all [digitsOf, addDigits, ofDigits]
  | succ n ih =>
    rw [pow_succ] at hx hy ⊢
    have hx' : x / 10 < 10 ^ n := by omega
    have hy' : y / 10 < 10 ^ n := by omega
    simp only [digitsOf, addDigits]
    split
    · have high := ih (x / 10) (y / 10) 1 hx' hy'
      simp only [ofDigits]
      generalize ofDigits (addDigits (digitsOf n (x / 10)) (digitsOf n (y / 10)) 1).1 = v at high ⊢
      generalize (addDigits (digitsOf n (x / 10)) (digitsOf n (y / 10)) 1).2 = carry at high ⊢
      rw [mul_right_comm]
      generalize 10 ^ n * carry = w at high ⊢
      omega
    · have high := ih (x / 10) (y / 10) 0 hx' hy'
      simp only [ofDigits]
      generalize ofDigits (addDigits (digitsOf n (x / 10)) (digitsOf n (y / 10)) 0).1 = v at high ⊢
      generalize (addDigits (digitsOf n (x / 10)) (digitsOf n (y / 10)) 0).2 = carry at high ⊢
      rw [mul_right_comm]
      generalize 10 ^ n * carry = w at high ⊢
      omega

theorem addDigits_lt (n x y c : Nat) (hc : c ≤ 1) : ofDigits (addDigits (digitsOf n x) (digitsOf n y) c).1 < 10 ^ n := by
  induction n generalizing x y c with
  | zero => simp [digitsOf, addDigits, ofDigits]
  | succ n ih =>
    rw [pow_succ]
    simp only [digitsOf, addDigits]
    split
    · have high := ih (x / 10) (y / 10) 1 le_rfl
      simp only [ofDigits]
      omega
    · have high := ih (x / 10) (y / 10) 0 (Nat.zero_le 1)
      simp only [ofDigits]
      omega

theorem addMagnitudes_eq (x y : Nat) (hx : x ≤ 999999999999) (hy : y ≤ 999999999999) :
    addMagnitudes x y = if x + y ≤ 999999999999 then some (x + y) else none := by
  have value := addDigits_value 12 x y 0 (by omega) (by omega)
  have digits := addDigits_lt 12 x y 0 (Nat.zero_le 1)
  unfold addMagnitudes
  dsimp only
  generalize addDigits (digitsOf 12 x) (digitsOf 12 y) 0 = r at value digits ⊢
  split
  · next none =>
      rw [none] at value
      rw [if_pos (by omega)]
      exact congrArg some (by omega)
  · next carry => rw [if_neg (by omega)]

/-- R10: with the borrow coming in, the digits of the difference are worth it. -/
theorem subDigits_value (n x y b : Nat) (hx : x < 10 ^ n) (hy : y < 10 ^ n) (hb : b ≤ 1) (h : y + b ≤ x) :
    ofDigits (subDigits (digitsOf n x) (digitsOf n y) b) = x - (y + b) := by
  induction n generalizing x y b with
  | zero =>
    have zero : x = 0 := by simpa using hx
    simp [digitsOf, subDigits, ofDigits, zero]
  | succ n ih =>
    rw [pow_succ] at hx hy
    simp only [digitsOf, subDigits]
    split
    · have high := ih (x / 10) (y / 10) 1 (by omega) (by omega) le_rfl (by omega)
      simp only [ofDigits, high]
      omega
    · have high := ih (x / 10) (y / 10) 0 (by omega) (by omega) (Nat.zero_le 1) (by omega)
      simp only [ofDigits, high]
      omega

theorem subMagnitudes_eq (x y : Nat) (hx : x ≤ 999999999999) (h : y ≤ x) : subMagnitudes x y = x - y :=
  subDigits_value 12 x y 0 (by omega) (by omega) (Nat.zero_le 1) h

/-- R10: the most significant difference decides. -/
theorem compareDigits_eq (n x y : Nat) (hx : x < 10 ^ n) (hy : y < 10 ^ n) :
    compareDigits (digitsOf n x) (digitsOf n y) = compare x y := by
  induction n generalizing x y with
  | zero => simp_all [digitsOf, compareDigits]
  | succ n ih =>
    rw [pow_succ] at hx hy
    simp only [digitsOf, compareDigits]
    rw [ih (x / 10) (y / 10) (by omega) (by omega)]
    rcases Nat.lt_trichotomy (x / 10) (y / 10) with less | same | greater
    · rw [compare_lt_iff_lt.mpr less]
      exact (compare_lt_iff_lt.mpr (by omega)).symm
    · rw [compare_eq_iff_eq.mpr same]
      rcases Nat.lt_trichotomy (x % 10) (y % 10) with less | equal | greater
      · exact (compare_lt_iff_lt.mpr less).trans (compare_lt_iff_lt.mpr (by omega)).symm
      · exact (compare_eq_iff_eq.mpr equal).trans (compare_eq_iff_eq.mpr (by omega)).symm
      · exact (compare_gt_iff_gt.mpr greater).trans (compare_gt_iff_gt.mpr (by omega)).symm
    · rw [compare_gt_iff_gt.mpr greater]
      exact (compare_gt_iff_gt.mpr (by omega)).symm

theorem compareMagnitudes_eq (x y : Nat) (hx : x ≤ 999999999999) (hy : y ≤ 999999999999) : compareMagnitudes x y = compare x y :=
  compareDigits_eq 12 x y (by omega) (by omega)

theorem amountInRange_iff (a : Int) : amountInRange a = true ↔ -999999999999 ≤ a ∧ a ≤ 999999999999 := by
  rw [amountInRange, Bool.and_eq_true]
  exact and_congr decide_eq_true_iff decide_eq_true_iff

theorem addAmount_eq (a b : Int) :
    addAmount a b = if -999999999999 ≤ a + b ∧ a + b ≤ 999999999999 then some (a + b) else none := by
  simp only [addAmount, amountInRange_iff]

/-- R11: equal signs add the magnitudes, and unequal ones give the greater its excess. -/
theorem addAmountDigits_eq (a b : Int) (ha : amountInRange a = true) (hb : amountInRange b = true) :
    addAmountDigits a b = addAmount a b := by
  rw [amountInRange_iff] at ha hb
  rw [addAmount_eq]
  unfold addAmountDigits
  split
  · next same =>
      have signs : (a < 0 ↔ b < 0) := decide_eq_decide.mp same
      rw [addMagnitudes_eq a.natAbs b.natAbs (by omega) (by omega)]
      by_cases fits : a.natAbs + b.natAbs ≤ 999999999999
      · rw [if_pos fits, if_pos (show -999999999999 ≤ a + b ∧ a + b ≤ 999999999999 by omega)]
        split
        · exact congrArg some (show -((a.natAbs + b.natAbs : Nat) : Int) = a + b by omega)
        · exact congrArg some (show ((a.natAbs + b.natAbs : Nat) : Int) = a + b by omega)
      · rw [if_neg fits, if_neg (show ¬(-999999999999 ≤ a + b ∧ a + b ≤ 999999999999) by omega)]
        rfl
  · next opposite =>
      have signs : ¬(a < 0 ↔ b < 0) := fun same => opposite (decide_eq_decide.mpr same)
      rw [compareMagnitudes_eq a.natAbs b.natAbs (by omega) (by omega),
        if_pos (show -999999999999 ≤ a + b ∧ a + b ≤ 999999999999 by omega)]
      split
      · next equal =>
          have equal := compare_eq_iff_eq.mp equal
          exact congrArg some (by omega)
      · next greater =>
          have greater := compare_gt_iff_gt.mp greater
          rw [subMagnitudes_eq _ _ (by omega) (by omega)]
          split <;> exact congrArg some (by omega)
      · next less =>
          have less := compare_lt_iff_lt.mp less
          rw [subMagnitudes_eq _ _ (by omega) (by omega)]
          split <;> exact congrArg some (by omega)

/-! ## Valuation -/

theorem addTimes_eq (term n acc : Nat) : addTimes term n acc = acc + n * term := by
  induction n generalizing acc with
  | zero => simp [addTimes]
  | succ n ih => rw [addTimes, ih, Nat.succ_mul]; omega

/-- R13: shifted addition over the digits of `c` is the product. -/
theorem shiftedProduct_eq (n c f acc : Nat) (hc : c < 10 ^ n) : shiftedProduct n c f acc = acc + c * f := by
  induction n generalizing c f acc with
  | zero => simp_all [shiftedProduct]
  | succ n ih =>
    rw [pow_succ] at hc
    rw [shiftedProduct, ih _ _ _ (by omega), addTimes_eq]
    have digits : c * f = c / 10 * (f * 10) + c % 10 * f := by
      conv_lhs => rw [← Nat.div_add_mod c 10]
      ring
    omega

/-- R13: the product of one slot. -/
def slotProduct (d : Denom) (c : SlotCount) : Int :=
  match d with
  | .unused => 0
  | .note face _ => (((c.fit + c.unfit) * face : Nat) : Int)
  | .coin face => ((c.coin * face : Nat) : Int)

theorem slotProduct_nonneg (d : Denom) (c : SlotCount) : 0 ≤ slotProduct d c := by
  cases d <;> simp only [slotProduct] <;> omega

/-- R13: a NOTE slot with more fit and unfit notes than a count holds. -/
def overCounted (d : Denom) (c : SlotCount) : Prop := ∃ f k, d = .note f k ∧ maxPieces < c.fit + c.unfit

theorem slotTerm_cases (d : Denom) (c : SlotCount) :
    (overCounted d c ∧ slotTerm d c = none) ∨
    (¬overCounted d c ∧ ∃ n f, slotTerm d c = some (n, f) ∧ ((n * f : Nat) : Int) = slotProduct d c) := by
  cases d with
  | unused => exact .inr ⟨nofun, 0, 0, rfl, rfl⟩
  | note f k =>
    by_cases fits : c.fit + c.unfit ≤ maxPieces
    · refine .inr ⟨?_, _, _, if_pos fits, rfl⟩
      rintro ⟨_, _, e, many⟩
      omega
    · exact .inl ⟨⟨f, k, rfl, by omega⟩, if_neg fits⟩
  | coin f => exact .inr ⟨nofun, _, _, rfl, rfl⟩

/-- R13, R14: the running sum, which nothing brings down. -/
theorem valueSlots_eq (l : List (Denom × SlotCount)) (acc : Int) (ha : 0 ≤ acc) :
    ((∀ x ∈ l, ¬overCounted x.1 x.2) → acc + (l.map (fun x => slotProduct x.1 x.2)).sum ≤ 999999999999 →
      valueSlots l acc = some (acc + (l.map (fun x => slotProduct x.1 x.2)).sum)) ∧
    ((∃ x ∈ l, overCounted x.1 x.2) → valueSlots l acc = none) ∧
    (acc ≤ 999999999999 → 999999999999 < acc + (l.map (fun x => slotProduct x.1 x.2)).sum → valueSlots l acc = none) := by
  induction l generalizing acc with
  | nil =>
    refine ⟨fun _ _ => by simp [valueSlots], by simp, fun low high => ?_⟩
    simp only [List.map_nil, List.sum_nil] at high
    omega
  | cons x rest ih =>
    obtain ⟨d, c⟩ := x
    have first := slotProduct_nonneg d c
    have others : 0 ≤ (rest.map (fun x => slotProduct x.1 x.2)).sum :=
      List.sum_nonneg (List.forall_mem_map.mpr fun x _ => slotProduct_nonneg x.1 x.2)
    simp only [List.map_cons, List.sum_cons, List.mem_cons, exists_eq_or_imp, forall_eq_or_imp, valueSlots]
    rcases slotTerm_cases d c with ⟨held, term⟩ | ⟨fits, n, f, term, product⟩
    · rw [term]
      exact ⟨fun all => absurd held all.1, fun _ => rfl, fun _ _ => rfl⟩
    · rw [term]
      dsimp only
      rw [addAmount_eq, product]
      obtain ⟨sums, many, overflows⟩ := ih (acc + slotProduct d c) (by omega)
      by_cases low : -999999999999 ≤ acc + slotProduct d c ∧ acc + slotProduct d c ≤ 999999999999
      · simp only [if_pos low, ← add_assoc]
        exact ⟨fun all bound => sums all.2 bound, fun held => many (held.resolve_left fits), fun _ high => overflows low.2 high⟩
      · simp only [if_neg low]
        exact ⟨fun _ bound => absurd (by omega) low, fun _ => trivial, fun _ _ => trivial⟩

/-! ## The band and the classification -/

theorem classify_eq (v b : Int) (hb : 0 ≤ b) :
    (classify v b = .exact ↔ v = 0) ∧ (classify v b = .within ↔ v ≠ 0 ∧ |v| ≤ b) ∧
    (classify v b = .over ↔ b < |v| ∧ 0 < v) ∧ (classify v b = .short ↔ b < |v| ∧ v < 0) := by
  have size : |v| = (v.natAbs : Int) := Int.abs_eq_natAbs v
  simp only [size]
  unfold classify
  split
  · next zero => simp [zero, hb]
  · next nonzero =>
      split
      · next inside =>
          simp only [true_iff, false_iff, reduceCtorEq]
          omega
      · next outside =>
          split <;> (simp only [true_iff, false_iff, reduceCtorEq]; omega)

/-! ## Straps -/

/-- R20: a strap's counter runs down with each fit note, and at 0 a strap is full and the counter starts again. -/
theorem countStrap_eq (b : Batch) (i k : Nat) :
    (b.countStrap i k).tally = b.tally ∧
    (Table.get 0 b.straps i ≤ 1 → Table.get 0 (b.countStrap i k).straps i = k ∧
      Table.get 0 (b.countStrap i k).full i = Table.get 0 b.full i + 1) ∧
    (1 < Table.get 0 b.straps i → Table.get 0 (b.countStrap i k).straps i = Table.get 0 b.straps i - 1 ∧
      Table.get 0 (b.countStrap i k).full i = Table.get 0 b.full i) ∧
    ∀ j, j ≠ i → Table.get 0 (b.countStrap i k).straps j = Table.get 0 b.straps j ∧
      Table.get 0 (b.countStrap i k).full j = Table.get 0 b.full j := by
  unfold Batch.countStrap
  dsimp only
  split
  · next last =>
      refine ⟨rfl, fun _ => by simp, fun more => by omega, fun j ne => by simp [ne]⟩
  · next more =>
      refine ⟨rfl, fun last => by omega, fun _ => by simp, fun j ne => by simp [ne]⟩

end Sys2Proof.Machine

namespace Sys2Proof.Proofs.Figures

open Sys2Proof Sys2Proof.Machine

/-- Settles O11: the digit procedures against the numbers their digits stand for. -/
theorem magnitudesAndSignedAddition : Obligations.MagnitudesAndSignedAddition := by
  unfold Obligations.MagnitudesAndSignedAddition
  exact ⟨addMagnitudes_eq, fun x y hx hy => ⟨compareMagnitudes_eq x y hx hy, subMagnitudes_eq x y hx⟩,
    fun a b ha hb => ⟨addAmountDigits_eq a b ha hb, addAmount_eq a b⟩⟩

/-- Settles O12: the shifted products, and the running sum over the slots. -/
theorem valuationIsSumOfProducts : Obligations.ValuationIsSumOfProducts := by
  unfold Obligations.ValuationIsSumOfProducts
  refine ⟨fun c f hc => by rw [shiftedProduct_eq 6 c f 0 (by omega), Nat.zero_add], ?_⟩
  rintro t s sum rfl
  obtain ⟨sums, many, overflows⟩ := valueSlots_eq (slotNumbers.map (fun i => (s.denom i, tallySlot t i))) 0 le_rfl
  simp only [List.map_map, zero_add, List.mem_map, forall_exists_index, and_imp, forall_apply_eq_imp_iff₂, exists_exists_and_eq_and]
    at sums many overflows
  have products : (slotNumbers.map ((fun x => slotProduct x.1 x.2) ∘ fun i => (s.denom i, tallySlot t i))) =
      slotNumbers.map (fun i => match s.denom i with
      | .unused => (0 : Int)
      | .note f _ => ((((tallySlot t i).fit + (tallySlot t i).unfit) * f : Nat) : Int)
      | .coin f => (((tallySlot t i).coin * f : Nat) : Int)) := rfl
  rw [products] at sums overflows
  refine ⟨fun fits bound => sums (fun i hi => ?_) bound, fun ⟨i, hi, f, k, note, held⟩ => many i hi ⟨f, k, note, held⟩,
    overflows (by omega)⟩
  rintro ⟨f, k, note, held⟩
  exact absurd (fits i hi f k note) (by unfold maxPieces at held; omega)

/-- Settles O13. -/
theorem classificationAndBand : Obligations.ClassificationAndBand := by
  unfold Obligations.ClassificationAndBand
  refine ⟨classify_eq, fun c book floor rate => ⟨rfl, fun none => ?_, fun v some => ?_⟩, fun floor ref rate _ => ?_⟩
  · simp only [valuationResult, none, and_self]
  · simp only [valuationResult, some]
  · rw [bandOf, Int.abs_eq_natAbs]
    push_cast
    rfl

/-- Settles O14: by whether the counter has run down. -/
theorem strapLawKept : Obligations.StrapLawKept := by
  unfold Obligations.StrapLawKept
  rintro b i k hk low high law b' rfl
  generalize hp : b.putSlot i { tallySlot b.tally i with fit := (tallySlot b.tally i).fit + 1 } = p
  have counts : (tallySlot p.tally i).fit = (tallySlot b.tally i).fit + 1 := by simp [← hp, Batch.putSlot, tallySlot]
  have straps : p.straps = b.straps ∧ p.full = b.full := by simp [← hp, Batch.putSlot]
  obtain ⟨tally, last, more, others⟩ := countStrap_eq p i k
  rw [straps.1, straps.2] at last more others
  rw [tally, counts]
  refine ⟨rfl, ?_⟩
  by_cases runs : 1 < Table.get 0 b.straps i
  · obtain ⟨counter, full⟩ := more runs
    rw [counter, full]
    exact ⟨by omega, by omega, by omega, others⟩
  · obtain ⟨counter, full⟩ := last (by omega)
    rw [counter, full, Nat.succ_mul]
    exact ⟨by omega, by omega, le_rfl, others⟩

end Sys2Proof.Proofs.Figures
end

section
/-!
The step, the state after a COLD start, and the command queue, which no command touches.
-/

namespace Sys2Proof.Machine

open Sys2Proof

set_option Elab.async false

theorem settleDispute_pending (r : Nat) (b : Bag) (y : Tally) (s : State) :
    (settleDispute r b y s).state.pending = s.pending := by
  unfold settleDispute
  split
  · dsimp only
    split
    · rfl
    · split
      · rfl
      · simp
  · rfl

theorem Accepted.pending {s t : State} (h : Accepted s t) : t.pending = s.pending := by
  cases h
  case dayOpened => simp [Machine.dayOpened]
  case dayClosed => simp [dayClosedState, dayFigures]
  case floatMade slot _ =>
    obtain ⟨-, -, -, -, -, -, -, -, -, -, -, queue, -⟩ := allocate_keeps _ _ _ slot
    simpa [Machine.floatMade] using queue
  case takings slot _ =>
    obtain ⟨-, -, -, -, -, -, -, -, -, -, -, queue, -⟩ := allocate_keeps _ _ _ slot
    simpa [takingsReceived] using queue
  case disputeSettled => simp [settleDispute_pending]
  case doorRequested granted => rcases requestDoor_grants granted with e | ⟨k, e⟩ <;> simp [e]
  case safeCleared => simp [Machine.safeCleared, foldl_keeps State.pending benchBag (fun _ _ => by simp)]
  case deposited slot _ =>
    obtain ⟨-, -, -, -, -, -, -, -, -, -, -, queue, -⟩ := allocate_keeps _ _ _ slot
    simpa using queue
  case manifestCreated => simp [Machine.manifestCreated]
  all_goals simp

theorem Happens.pending {s t : State} (h : Happens s t) : t.pending = s.pending := by
  cases h
  case bytes l => exact foldl_keeps State.pending _ (fun s b => by simp) l s
  all_goals simp

/-- A request command answers a next state: the request waits, or it is taken and answered. -/
theorem hostRequest_next (i : Instr) (tag : Nat) (k : ReqKind) (body : State → Check Answered) (s : State) :
    ∃ t, hostRequest i tag k body s = .next t := by
  unfold hostRequest
  split
  · exact ⟨_, rfl⟩
  · split <;> exact ⟨_, rfl⟩

theorem event_next (f : State → State) (s : State) : ∃ t, event f s = .next t := by
  unfold event
  split <;> exact ⟨_, rfl⟩

theorem background_next (f : State → State) (s : State) : ∃ t, background f s = .next t := by
  unfold background
  split <;> exact ⟨_, rfl⟩

theorem unitRecord_next (ok : Bool) (f : State → State) (s : State) : ∃ t, unitRecord ok f s = .next t := by
  unfold unitRecord
  split
  · exact ⟨_, rfl⟩
  · split <;> exact ⟨_, rfl⟩

/-- Every command answers a next state. -/
theorem exec_next (i : Instr) (s : State) : ∃ t, exec i s = .next t := by
  cases hq : requestOf i with
  | some q =>
    rw [exec_of_requestOf i q s hq]
    exact hostRequest_next ..
  | none =>
    cases i <;> simp only [requestOf, reduceCtorEq] at hq
    case frameReceived bytes => exact event_next (fun s => bytes.foldl feedByte s) s
    case frameTimeout | messageSend => exact event_next _ s
    case note | pocket | jam | badge | door | drop | hatchScan | unitRecordDiscarded => exact unitRecord_next ..
    case presenceExpiry | delayExpiry | confirmWindowExpiry | lockdownHoldExpiry | handoverWindowExpiry | alarmPeriodExpiry =>
      exact event_next _ s
    case postingApplication | valuationBegin | valuationCompletion => exact background_next _ s
    case dropDelayExpiry n =>
      unfold exec execDropDelayExpiry
      dsimp only
      split
      · exact event_next _ s
      · exact ⟨s, rfl⟩
    case releaseWindowExpiry d =>
      unfold exec execReleaseWindowExpiry
      dsimp only
      split
      · exact event_next _ s
      · exact ⟨s, rfl⟩
    case openLimitExpiry d =>
      unfold exec execOpenLimitExpiry
      dsimp only
      split
      · exact event_next _ s
      · exact ⟨s, rfl⟩
    case panicEdge e =>
      unfold exec execPanicEdge
      dsimp only
      split <;> exact ⟨_, rfl⟩
    case restartStart ok =>
      unfold exec execRestartStart
      dsimp only
      split <;> exact ⟨_, rfl⟩
    case resetAsserted | lineStart | coldStart | powerStart | clockTick | lossOfSupply => exact ⟨_, rfl⟩

theorem arrive_pending (i : Instr) (tag kind : Nat) (s : State) : (arrive i tag kind s).pending = s.pending := by
  unfold arrive answerFrame
  split
  · rfl
  · split <;> rfl

/-- A request leaves the queue alone, whether it waits or is answered. -/
theorem hostRequest_pending {i : Instr} {q : RequestForm} {s t : State} (hq : requestOf i = some q)
    (h : hostRequest i q.tag q.kind q.body s = .next t) : t.pending = s.pending :=
  hostRequest_rule (fun u => u.pending = s.pending) i q.tag q.kind q.body s t rfl (fun _ => arrive_pending ..) (fun _ => rfl)
    (fun _ _ hu => hu) (fun _ _ hu ok => (accepted_of_ok hq ok).pending.trans hu) h

end Sys2Proof.Machine

namespace Sys2Proof.Proofs.Steps

open Sys2Proof Sys2Proof.Machine

/-- Settles O1, by the two cases of the queue. -/
theorem stepRunsFrontCommand : Obligations.StepRunsFrontCommand := by
  unfold Obligations.StepRunsFrontCommand
  refine ⟨fun _ _ => rfl, fun s empty => ?_⟩
  simp only [step, empty]

/-- Settles O2: what `Accepted` and `Happens` list keeps the queue. -/
theorem everyCommandAnswersNext : Obligations.EveryCommandAnswersNext := by
  unfold Obligations.EveryCommandAnswersNext
  intro c s
  obtain ⟨t, h⟩ := exec_next c s
  refine ⟨t, h, ?_⟩
  cases hq : requestOf c with
  | none => exact (happens_of_next hq h).pending
  | some q => exact hostRequest_pending hq (exec_of_requestOf c q s hq ▸ h)

/-- Settles O3: the values are read off the state, and each rule is evaluated on it. -/
theorem resetState : Obligations.ResetState := by
  unfold Obligations.ResetState
  refine ⟨?values, ?rules⟩
  case values =>
    refine ⟨fun _ => rfl, by decide, rfl, fun _ => rfl, fun _ => rfl, fun _ => rfl, fun _ => rfl, rfl, rfl, rfl, rfl, rfl, rfl, rfl,
      rfl, rfl, rfl, rfl, rfl, rfl, fun _ => rfl, ?_, rfl, fun _ => rfl, fun _ => rfl, rfl, rfl, fun _ => rfl, rfl, rfl, fun _ => rfl,
      rfl, ?_, fun _ => ⟨rfl, rfl, rfl⟩, rfl, rfl, rfl, rfl, rfl, rfl, rfl, rfl, rfl, fun _ => rfl, rfl, rfl, rfl, rfl, rfl, rfl, rfl, rfl,
      rfl, rfl⟩
    · rintro (_ | _ | _) <;> rfl
    · rintro (_ | _ | _) <;> rfl
  case rules => decide

end Sys2Proof.Proofs.Steps
end

section
/-!
The tag check (R36) and the order of allocation (R29, R30, R32).
-/

namespace Sys2Proof.Machine

open Sys2Proof

set_option Elab.async false

theorem rangeOf_none_iff (s : State) (g : Nat) : s.rangeOf g = none ↔
    ∀ i ∈ slotNumbers, ¬((s.tagRange i).enabled = true ∧ (s.tagRange i).first ≤ g ∧ g ≤ (s.tagRange i).last) := by
  simp [State.rangeOf, List.find?_eq_none]

theorem rangeOf_some {s : State} {g : Nat} {e : TagRange} (h : s.rangeOf g = some e) :
    e.enabled = true ∧ e.first ≤ g ∧ g ≤ e.last := by
  have holds := List.find?_some h
  simp only [Bool.and_eq_true, decide_eq_true_eq] at holds
  obtain ⟨⟨on, first⟩, last⟩ := holds
  exact ⟨on, first, last⟩

theorem tagInUse_iff {s : State} (wf : Table.wf none s.bgr.bags = true) (g : Nat) :
    s.tagInUse g = true ↔ ∃ r b, s.bag r = some b ∧ b.tagNo = some g := by
  unfold State.tagInUse State.bag
  rw [List.any_eq_true]
  constructor
  · rintro ⟨⟨r, _ | b⟩, listed, carries⟩
    · simp at carries
    · exact ⟨r, b, ((Table.mem_iff none _ wf r (some b)).mp listed).1, of_decide_eq_true carries⟩
  · rintro ⟨r, b, held, carries⟩
    exact ⟨(r, some b), (Table.mem_iff none _ wf r (some b)).mpr ⟨held, by simp⟩, decide_eq_true carries⟩

/-- R30: the slot found is free, and every slot before it is held. -/
theorem lowestFree_some {s : State} {r : Nat} (h : s.lowestFree = some r) :
    s.bag r = none ∧ ∀ q, 1 ≤ q → q < r → s.bag q ≠ none := by
  obtain ⟨free, -, before⟩ := List.find?_range'_eq_some.mp h
  exact ⟨by simpa using free, fun q low below => by simpa [Option.isSome_iff_ne_none] using before q low below⟩

end Sys2Proof.Machine

namespace Sys2Proof.Proofs.Tags

open Sys2Proof Sys2Proof.Machine

/-- Settles O16: row by row over the range that lists the tag. -/
theorem tagCheckOrder : Obligations.TagCheckOrder := by
  unfold Obligations.TagCheckOrder
  intro g p s
  refine ⟨fun unlisted => ?_, rangeOf_none_iff s g, fun tables => ?_, fun e listed => ?_⟩
  · rw [tagCheck, unlisted]
  · simp only [tablesRule, Bool.and_eq_true] at tables
    exact tagInUse_iff (by simp [tables]) g
  · obtain ⟨on, first, last⟩ := rangeOf_some listed
    refine ⟨on, first, last, fun void => ?_, fun real wrong => ?_, fun right used => ?_, fun right fresh => ?_⟩
    · simp only [tagCheck, listed, if_pos void]
    · simp only [tagCheck, listed, if_neg real, if_pos wrong]
    · have real : e.purpose ≠ .void := fun void => by simp [void, purposeOfRange] at right
      simp only [tagCheck, listed, if_neg real, ne_eq, right, not_true_eq_false, if_false, used, if_true]
    · have real : e.purpose ≠ .void := fun void => by simp [void, purposeOfRange] at right
      simp only [tagCheck, listed, if_neg real, ne_eq, right, not_true_eq_false, if_false, fresh, Bool.false_eq_true]

/-- Settles O17: by whether a slot is free and whether a bag is retired. -/
theorem allocationOrder : Obligations.AllocationOrder := by
  unfold Obligations.AllocationOrder
  refine fun s => ⟨fun r free => ?_, fun r rest full retired => ?_, fun full empty => ?_⟩
  · obtain ⟨isFree, before⟩ := lowestFree_some free
    exact ⟨isFree, before, by rw [allocate, free]⟩
  · refine ⟨{ s with bgr.bags := Table.set none s.bgr.bags r none, bgr.retired := rest }, ?_, rfl, fun q => ?_, rfl⟩
    · simp only [allocate, full, retired]
    · simp [State.bag]
  · simp only [allocate, full, empty]

end Sys2Proof.Proofs.Tags
end

section
/-!
A request that is taken, from its checks forward: what each check that passes leaves of the chain, and the reply formed.
-/

namespace Sys2Proof.Machine

open Sys2Proof

set_option Elab.async false

section Checks

variable {α β : Type}

theorem pass {p : Bool} {st : Status} {l : List Field} {k : Unit → Check β} (h : p = true) : (require p st l >>= k) = k () := by
  rw [h]
  rfl

theorem fails {p : Bool} {st : Status} {l : List Field} {k : Unit → Check β} (h : p = false) :
    (require p st l >>= k) = .error ⟨st, l⟩ := by
  rw [h]
  rfl

theorem passed {c : Check Unit} {k : Unit → Check β} (h : c = .ok ()) : (c >>= k) = k () := by
  rw [h]
  rfl

theorem found {x : Option α} {a : α} {st : Status} {l : List Field} {k : α → Check β} (h : x = some a) :
    (requireSome x st l >>= k) = k a := by
  rw [h]
  rfl

theorem refused {c : Check α} {r : Refused} {k : α → Check β} (h : c = .error r) : (c >>= k) = .error r := by
  rw [h]
  rfl

/-- R197: the part of a reply that a query asks for. -/
theorem answered {c : Check (List Field)} {fs : List Field} {s : State} (h : c = .ok fs) :
    (c >>= fun fs => answerOk s fs) = .ok ⟨s, .ok, fs⟩ := by
  rw [h]
  rfl

end Checks

/-- R22: a reference that names a bag. -/
theorem bagFound {β : Type} {r : Nat} {s : State} {b : Bag} {k : Bag → Check β} (low : 1 ≤ r) (high : r ≤ 1024)
    (held : s.bag r = some b) : (requireBag r s >>= k) = k b := by
  have valid : validRef r = true := by simp [validRef, low, high]
  simp [requireBag, valid, held]

/-- R197: the reply to a request whose checks pass. -/
theorem exec_ok {i : Instr} {q : RequestForm} {s : State} {a : Answered} (hq : requestOf i = some q) (taken : takes i s = true)
    (h : q.body (takeFrom s) = .ok a) : exec i s = .next (reply q.tag q.kind a.status a.fields a.state) :=
  (exec_of_requestOf i q s hq).trans (hostRequest_ok i q.tag q.kind q.body s a taken h)

/-- R197: the reply to a request that is refused, on the state in which it was taken. -/
theorem exec_error {i : Instr} {q : RequestForm} {s : State} {r : Refused} (hq : requestOf i = some q) (taken : takes i s = true)
    (h : q.body (takeFrom s) = .error r) : exec i s = .next (reply q.tag q.kind r.status r.fields (takeFrom s)) :=
  (exec_of_requestOf i q s hq).trans (hostRequest_error i q.tag q.kind q.body s r taken h)

/-- R76: a first credential that is there with a class outside its role's set fails with WRONG_CLASS at position 1. -/
theorem authority_wrongClass {r : Reader} {k : List CredClass} {rs : List Role} {c : Nat} {cs : List Nat} {s : State} {p : Presence}
    (there : s.presenceOf r c = some p) (outside : p.cls ∉ k) :
    authority ((r, k) :: rs) (c :: cs) s = .error ⟨.noAuthority, [fNum 1 1, fNamed 2]⟩ := by
  simp [authority, authorityFailure, roleFailure, there, outside, AuthReason.code]

/-- R76: the two refusals of a role at OFFICE, in the state in which a request is taken. -/
theorem officeRefusals (classes : List CredClass) (cred : Nat) (s : State) :
    (s.presenceOf .office cred = none →
      authority [(.office, classes)] [cred] (takeFrom s) = .error ⟨.noAuthority, [fNum 1 1, fNamed 1]⟩) ∧
    (∀ p, s.presenceOf .office cred = some p → p.cls ∉ classes →
      authority [(.office, classes)] [cred] (takeFrom s) = .error ⟨.noAuthority, [fNum 1 1, fNamed 2]⟩) :=
  ⟨fun absent => authority_absent .office classes [] cred [] _ ((presenceOf_takeFrom s .office cred).trans absent),
    fun _ there outside => authority_wrongClass ((presenceOf_takeFrom s .office cred).trans there) outside⟩

/-- R76: the first check of a request that needs one role at OFFICE. -/
theorem officeRole_body {i : Instr} {o : OfficeRole} (h : officeRole i = some o) :
    ∃ q : RequestForm, requestOf i = some q ∧ q.tag = o.tag ∧ q.kind = o.kind ∧
      ∀ s r, authority [(.office, o.classes)] [o.cred] s = .error r → q.body s = .error r := by
  cases i <;> simp only [officeRole, Option.some.injEq, reduceCtorEq] at h <;> subst h <;>
    exact ⟨_, rfl, rfl, rfl, fun _ _ fails => refused fails⟩

end Sys2Proof.Machine

namespace Sys2Proof.Proofs.Taken

open Sys2Proof Sys2Proof.Machine

/-- Settles O18. -/
theorem refusedAndWaitingRequests : Obligations.RefusedAndWaitingRequests := by
  unfold Obligations.RefusedAndWaitingRequests
  refine ⟨fun i tag k body r s taken fails => ?_, fun i tag k body s waits => ?_⟩
  · exact ⟨_, hostRequest_error i tag k body s r taken fails, rfl, rfl, rfl⟩
  · unfold hostRequest arrive answerFrame formReply
    cases operates : s.operating
    · rfl
    · have stays : (s.hpt.restartPending || !s.nextIs i) = true := by
        simp only [takes, operates, Bool.true_and] at waits
        cases pending : s.hpt.restartPending <;> simp_all
      simp only [stays, Bool.not_true, Bool.false_eq_true, Bool.true_eq_false, if_false, if_true]

/-- Settles O19: the role is the first check, or the first that can fail. -/
theorem absentCredentialIsRefused : Obligations.AbsentCredentialIsRefused := by
  unfold Obligations.AbsentCredentialIsRefused
  refine ⟨fun i o s taken role => ?_, fun s tag cred => ⟨fun d x taken set => ?_, fun n k taken needed => ?_,
    fun n taken low high latch secure => ?_⟩⟩
  · obtain ⟨q, hq, tag, kind, first⟩ := officeRole_body role
    rw [← tag, ← kind]
    exact ⟨fun absent => exec_error hq taken (first _ _ ((officeRefusals ..).1 absent)),
      fun p there outside => exec_error hq taken (first _ _ ((officeRefusals ..).2 p there outside))⟩
  · have first : ∀ r, authority supervisorAtOffice [cred] (takeFrom s) = .error r →
        setClock d x (some cred) (takeFrom s) = .error r := fun r fails => refused (by
          obtain ⟨c, reads⟩ := Option.ne_none_iff_exists'.mp set
          have reads : (takeFrom s).acu.clock = some c := reads
          rw [clockAuthority, reads]
          exact fails)
    exact ⟨fun absent => exec_error rfl taken (first _ ((officeRefusals ..).1 absent)),
      fun p there other => exec_error rfl taken (first _ ((officeRefusals ..).2 p there (by simpa using other)))⟩
  · have first : ∀ r, authority supervisorAtOffice [cred] (takeFrom s) = .error r →
        enrol n k cred (takeFrom s) = .error r := fun r fails => refused (by
          rw [enrolAuthority, if_neg ?_]
          · exact fails
          · rintro ⟨supervisor, none⟩
            rw [takeFrom_activeSupervisor] at none
            rcases needed with other | some
            · exact other supervisor
            · simp [none] at some)
    exact ⟨fun absent => exec_error rfl taken (first _ ((officeRefusals ..).1 absent)),
      fun p there other => exec_error rfl taken (first _ ((officeRefusals ..).2 p there (by simpa using other)))⟩
  · have first : ∀ r, authority custodianAtOffice [cred] (takeFrom s) = .error r →
        requestDoor (.drop n) [cred] (takeFrom s) = .error r := fun r fails => by
      have door : (s.door (.drop n)).state = .secure := secure
      refine (pass ?_).trans ((pass ?_).trans ((pass ?_).trans ((pass ?_).trans (refused fails))))
      · simp [validDoor, validSafe, doorCredsOk, low, high]
      · simp [takeFrom, sendReplies, latch]
      · simp [door]
      · simp [door]
    exact ⟨fun absent => exec_error rfl taken (first _ ((officeRefusals ..).1 absent)),
      fun p there other => exec_error rfl taken (first _ ((officeRefusals ..).2 p there other))⟩

/-- Settles O20. -/
theorem hostPortRequests : Obligations.HostPortRequests := by
  unfold Obligations.HostPortRequests
  refine ⟨fun s tag g e => ⟨fun taken => exec_ok rfl taken rfl, fun taken => exec_ok rfl taken rfl⟩,
    fun s tag cred taken present => ⟨_, exec_ok rfl taken ((passed (supervisorAtOffice_ok cred s present)).trans rfl), rfl, fun i => ?_⟩⟩
  simp [takes, reply]

/-- Settles O21. -/
theorem queriesChangeNothing : Obligations.QueriesChangeNothing := by
  unfold Obligations.QueriesChangeNothing
  refine fun s tag => ⟨fun taken => exec_ok rfl taken rfl, fun part fs => ⟨fun n taken lane parts => ?_, fun r b taken low high held parts => ?_,
    fun g taken low high held parts => ?_, fun e taken entry parts => ?_, fun e taken entry parts => ?_⟩⟩
  · exact exec_ok rfl taken ((pass (decide_eq_true lane)).trans (answered parts))
  · exact exec_ok rfl taken ((bagFound low high held).trans (answered parts))
  · have valid : validTagNo g = true := by simp [validTagNo, low, high]
    have some : (!(s.refsWhere (fun b => decide (b.tagNo = some g))).isEmpty) = true := by simpa using held
    exact exec_ok rfl taken ((pass valid).trans ((pass some).trans (answered parts)))
  · have valid : (e.map (fun n => decide (n ≤ 7))).getD true = true := by
      cases e with
      | none => rfl
      | some n => exact decide_eq_true (entry n rfl)
    refine exec_ok rfl taken ((pass valid).trans (answered ?_))
    cases e <;> exact parts
  · have valid : (e.map (fun n => decide (n ≤ 3))).getD true = true := by
      cases e with
      | none => rfl
      | some n => exact decide_eq_true (entry n rfl)
    refine exec_ok rfl taken ((pass valid).trans (answered ?_))
    cases e <;> exact parts

end Sys2Proof.Proofs.Taken
end

section
/-!
Frames as the Host Port receives them byte by byte (R195, R196), and the messages that leave it (R197, R198).
-/

namespace Sys2Proof.Machine

open Sys2Proof

set_option Elab.async false

theorem checkBytes_length (l : List Byte) : (checkBytes l).length = 2 := rfl

/-- R195: the second tick after the lead byte. -/
theorem abandonStale_of_stale {s : State} {f : RxFrame} (rx : s.hpt.rx = some f) (stale : 2 ≤ f.ticks) :
    abandonStale s = badFrame (putRx none s) := by
  simp only [abandonStale, rx, if_pos stale]

theorem abandonStale_of_fresh {s : State} (fresh : ∀ f, s.hpt.rx = some f → f.ticks < 2) : abandonStale s = s := by
  unfold abandonStale
  split
  · rfl
  · next f rx => exact if_neg (by have := fresh f rx; omega)

theorem abandonStale_of_none {s : State} (rx : s.hpt.rx = none) : abandonStale s = s :=
  abandonStale_of_fresh fun f some => by simp [rx] at some

/-- A frame that the part drops leaves no frame in progress. -/
theorem putRx_none {s : State} (f : RxFrame) (rx : s.hpt.rx = none) : putRx none (putRx (some f) s) = s := by
  cases s with | mk sys hpt => cases hpt; subst rx; rfl

/-- The frame in progress takes one byte more when its length byte is in range and the frame is not whole. -/
theorem feedByte_more {s : State} {f : RxFrame} (len : Byte) (l : List Byte) (b : Byte) (rx : s.hpt.rx = some f) (fresh : f.ticks < 2)
    (bytes : f.bytes ++ [b] = len :: l) (range : len.toNat ≤ 240) (more : (len :: l).length < len.toNat + 5) :
    feedByte s b = putRx (some ⟨len :: l, f.ticks⟩) s := by
  have stays : abandonStale s = s := abandonStale_of_fresh fun g eq => Option.some.inj (rx.symm.trans eq) ▸ fresh
  simp only [feedByte, stays, rx, feedFrame, bytes]
  rw [if_neg (by omega), frameLength, if_pos more]

/-- The byte that makes the frame whole. -/
theorem feedByte_last {s : State} {f : RxFrame} (len : Byte) (l : List Byte) (b : Byte) (rx : s.hpt.rx = some f) (fresh : f.ticks < 2)
    (bytes : f.bytes ++ [b] = len :: l) (range : len.toNat ≤ 240) (whole : (len :: l).length = len.toNat + 5) :
    feedByte s b = receiveFrame (len :: l) (putRx none s) := by
  have stays : abandonStale s = s := abandonStale_of_fresh fun g eq => Option.some.inj (rx.symm.trans eq) ▸ fresh
  simp only [feedByte, stays, rx, feedFrame, bytes]
  rw [if_neg (by omega), if_neg (by rw [frameLength]; omega)]

/-- R195: the bytes that follow a length byte in range, up to the last, are those of one frame. -/
theorem feed_frame {s : State} (len : Byte) (got rest : List Byte) (b : Byte) (rx : s.hpt.rx = some ⟨len :: got, 0⟩)
    (range : len.toNat ≤ 240) (whole : got.length + rest.length + 1 = len.toNat + 4) :
    (rest ++ [b]).foldl feedByte s = receiveFrame (len :: (got ++ rest ++ [b])) (putRx none s) := by
  induction rest generalizing s got with
  | nil =>
    simp only [List.nil_append, List.foldl_cons, List.foldl_nil, List.append_nil]
    exact feedByte_last len (got ++ [b]) b rx Nat.zero_lt_two rfl range (by simp at whole ⊢; omega)
  | cons x rest ih =>
    rw [List.cons_append, List.foldl_cons,
      feedByte_more len (got ++ [x]) x rx Nat.zero_lt_two rfl range (by simp at whole ⊢; omega),
      ih (got ++ [x]) rfl (by simp at whole ⊢; omega)]
    simp [putRx]

/-- R195: a lead byte between frames begins one. -/
theorem feedByte_lead {s : State} (rx : s.hpt.rx = none) : feedByte s leadByte = putRx (some ⟨[], 0⟩) s := by
  simp only [feedByte, abandonStale_of_none rx, rx, if_true]

/-- R195: a lead byte, a length byte in range and as many bytes as it asks are received as one frame. -/
theorem feed_whole {s : State} (len : Byte) (rest : List Byte) (b : Byte) (rx : s.hpt.rx = none) (range : len.toNat ≤ 240)
    (whole : rest.length = len.toNat + 3) :
    (leadByte :: len :: (rest ++ [b])).foldl feedByte s = receiveFrame (len :: (rest ++ [b])) s := by
  rw [List.foldl_cons, List.foldl_cons, feedByte_lead rx, feedByte_more len [] len rfl (by decide) rfl range (by simp),
    feed_frame len [] rest b rfl range (by simp; omega)]
  have same : putRx none (putRx (some ⟨[len], 0⟩) (putRx (some ⟨[], 0⟩) s)) = s := putRx_none ⟨[], 0⟩ rx
  rw [same, List.nil_append]

theorem dropLast_check (inner : List Byte) (x y : Byte) : (inner ++ [x, y]).dropLast.dropLast = inner := by simp

/-- R195: a whole frame whose check does not agree. -/
theorem receiveFrame_of_badCheck {inner : List Byte} {x y : Byte} (s : State) (bad : checkBytes inner ≠ [x, y]) :
    receiveFrame (inner ++ [x, y]) s = badFrame s := by
  unfold receiveFrame
  simp only [dropLast_check, List.drop_left']
  exact if_pos bad

/-- R195: a whole frame whose check agrees, by its tag. -/
theorem receiveFrame_of_check {len tag kind x y : Byte} {body : List Byte} (s : State)
    (good : checkBytes (len :: tag :: kind :: body) = [x, y]) : receiveFrame ((len :: tag :: kind :: body) ++ [x, y]) s =
      if tag = 0 then badFrame s else receiveRequest tag.toNat kind.toNat body s := by
  unfold receiveFrame
  simp only [dropLast_check, List.drop_left']
  exact if_neg (not_not_intro good)

/-- R195: a frame as a host spells it is received as its request. -/
theorem feed_frameBytes {s : State} {tag kind : Nat} {body : List Byte} (rx : s.hpt.rx = none) (low : 1 ≤ tag) (high : tag ≤ 255)
    (kinds : kind ≤ 255) (short : body.length ≤ 240) :
    (frameBytes tag kind body).foldl feedByte s = receiveRequest tag kind body s := by
  have length : (BitVec.ofNat 8 body.length).toNat = body.length := by simp; omega
  have tagByte : (BitVec.ofNat 8 tag).toNat = tag := by simp; omega
  have kindByte : (BitVec.ofNat 8 kind).toNat = kind := by simp; omega
  have numbered : BitVec.ofNat 8 tag ≠ 0 := fun zero => by simp [zero] at tagByte; omega
  generalize hi : BitVec.ofNat 8 body.length :: BitVec.ofNat 8 tag :: BitVec.ofNat 8 kind :: body = inner
  obtain ⟨x, y, check⟩ : ∃ x y, checkBytes inner = [x, y] := ⟨_, _, rfl⟩
  have bytes : frameBytes tag kind body = leadByte :: BitVec.ofNat 8 body.length ::
      ((BitVec.ofNat 8 tag :: BitVec.ofNat 8 kind :: (body ++ [x])) ++ [y]) := by
    simp only [frameBytes, hi, check]
    simp [← hi]
  have split : BitVec.ofNat 8 body.length :: ((BitVec.ofNat 8 tag :: BitVec.ofNat 8 kind :: (body ++ [x])) ++ [y]) = inner ++ [x, y] := by
    simp [← hi]
  rw [bytes, feed_whole _ _ _ rx (by omega) (by simp; omega), split, ← hi, receiveFrame_of_check s (hi ▸ check), if_neg numbered,
    tagByte, kindByte]

theorem kind_of_code (k : ReqKind) : (if k.code = 0 then none else ReqKind.list[k.code - 1]?) = some k := by
  cases k <;> rfl

theorem kind_code_le (k : ReqKind) : k.code ≤ 255 := by
  cases k <;> decide

/-- R195: a request is in the state it was, but for an answer, while no RESTART waits. -/
theorem answerFrame_of_notPending {s : State} (r : Reply) (h : s.hpt.restartPending = false) :
    answerFrame r s = { s with hpt.replies := s.hpt.replies ++ [r] } := by
  simp only [answerFrame, h, Bool.false_eq_true, if_false, formReply]

theorem event_of_operating {f : State → State} {s : State} (h : s.operating = true) : event f s = .next (f s) := if_pos h

theorem frameReceived_of_operating {s : State} (h : s.operating = true) (bytes : List Byte) :
    exec (.frameReceived bytes) s = .next (bytes.foldl feedByte s) :=
  event_of_operating (f := fun s => bytes.foldl feedByte s) h

end Sys2Proof.Machine

namespace Sys2Proof.Proofs.Frames

open Sys2Proof Sys2Proof.Machine

/-- Settles O22: the frame is whole, its check agrees, and its kind and body spell the request. -/
theorem goodFrameIsBuffered : Obligations.GoodFrameIsBuffered := by
  unfold Obligations.GoodFrameIsBuffered
  intro s tag k body i operates rx room low high short parsed
  have fed : (frameBytes tag k.code body).foldl feedByte s = { s with hpt.buffer := s.hpt.buffer ++ [i] } := by
    rw [feed_frameBytes rx low high (kind_code_le k) short]
    simp only [receiveRequest, kind_of_code, parsed, arrive, if_pos room]
  rw [← fed]
  exact frameReceived_of_operating operates _

/-- Settles O23. -/
theorem badFramesAreAnswered : Obligations.BadFramesAreAnswered := by
  unfold Obligations.BadFramesAreAnswered
  refine ⟨fun s operates running => ⟨fun b rx other => ?_, fun rx => ?_, fun len rx long => ?_,
    fun len tag kind x y body rx range length bad => ?_, fun f rx stale => ?_, fun fresh => ?_,
    fun tag kind body rx low high kinds short unknown => ?_, fun tag k body rx low high short unparsed => ?_⟩,
    fun s f operates pending rx stale => ?_⟩
  · rw [frameReceived_of_operating operates]
    simp only [List.foldl_cons, List.foldl_nil, feedByte, abandonStale_of_none rx, rx, if_neg other]
  · rw [frameReceived_of_operating operates, List.foldl_cons, feedByte_lead rx]
    rfl
  · have dropped : feedByte (putRx (some ⟨[], 0⟩) s) len = badFrame s := by
      have rest : putRx none (putRx (some ⟨[], 0⟩) s) = s := putRx_none ⟨[], 0⟩ rx
      have stays : abandonStale (putRx (some ⟨[], 0⟩) s) = putRx (some ⟨[], 0⟩) s := rfl
      simp only [feedByte, stays]
      exact (if_pos long).trans (congrArg badFrame rest)
    rw [frameReceived_of_operating operates, List.foldl_cons, List.foldl_cons, feedByte_lead rx, dropped, List.foldl_nil, badFrame,
      answerFrame_of_notPending _ running]
  · have bytes : (leadByte :: len :: tag :: kind :: (body ++ [x, y])) = leadByte :: len :: ((tag :: kind :: (body ++ [x])) ++ [y]) := by
      simp
    have inner : len :: ((tag :: kind :: (body ++ [x])) ++ [y]) = (len :: tag :: kind :: body) ++ [x, y] := by simp
    have dropped : receiveFrame ((len :: tag :: kind :: body) ++ [x, y]) s = badFrame s := by
      by_cases check : checkBytes (len :: tag :: kind :: body) = [x, y]
      · rw [receiveFrame_of_check s check]
        exact if_pos (bad.resolve_left fun differs => differs check.symm)
      · exact receiveFrame_of_badCheck s check
    rw [frameReceived_of_operating operates, bytes, feed_whole _ _ _ rx range (by simp; omega), inner, dropped, badFrame,
      answerFrame_of_notPending _ running]
  · have stops : abandonStale s = badFrame (putRx none s) := abandonStale_of_stale rx stale
    exact (event_of_operating operates).trans (congrArg _ (stops.trans (answerFrame_of_notPending (s := putRx none s) _ running)))
  · exact (event_of_operating operates).trans (congrArg _ (abandonStale_of_fresh fresh))
  · have none : (if kind = 0 then none else ReqKind.list[kind - 1]?) = none := by
      have kinds : ReqKind.list.length = 57 := rfl
      split
      · rfl
      · exact List.getElem?_eq_none (by omega)
    rw [frameReceived_of_operating operates, feed_frameBytes rx low high kinds short, receiveRequest, none]
    exact congrArg _ (answerFrame_of_notPending _ running)
  · rw [frameReceived_of_operating operates, feed_frameBytes rx low high (kind_code_le k) short, receiveRequest, kind_of_code]
    simp only [unparsed]
    exact congrArg _ (answerFrame_of_notPending _ running)
  · have stops : abandonStale s = putRx none s := (abandonStale_of_stale rx stale).trans (if_pos pending)
    exact (event_of_operating operates).trans (congrArg _ stops)

/-- Settles O24. -/
theorem messagesAndNotices : Obligations.MessagesAndNotices := by
  unfold Obligations.MessagesAndNotices
  refine ⟨fun s operates => ?messages, fun k l s => ?notices⟩
  case messages =>
    have sends : exec .messageSend s = .next (sendMessage s) := event_of_operating operates
    rw [sends]
    refine ⟨fun r rest replies => ?_, fun n rest replies notices running => ?_, fun replies still => ?_⟩
    · simp only [sendMessage, replies]
    · simp only [sendMessage, replies, notices, running, Bool.false_eq_true, if_false]
    · rcases still with notices | pending
      · simp only [sendMessage, replies, notices]
      · unfold sendMessage
        cases notices : s.hpt.notices <;> simp only [replies, pending, if_true]
  case notices =>
    unfold notify
    refine ⟨fun on enabled room => ?_, fun on enabled full => ?_, fun off => ?_⟩
    · simp only [on, enabled, Bool.and_self, if_true, if_pos room]
    · simp only [on, enabled, Bool.and_self, if_true, if_neg (show ¬s.hpt.notices.length < 32 by omega)]
    · exact if_neg (by rcases off with off | off <;> simp [off])

end Sys2Proof.Proofs.Frames
end

section
/-!
A movement applied whole (R47 to R54): the Accounts Unit after it in one equation, the account it charges, and tables written
entry by entry.
-/

namespace Sys2Proof.Machine

open Sys2Proof

set_option Elab.async false

/-! ## Tables written entry by entry -/

/-- A fold that writes one key for each item leaves every other key, and with no key twice each item's own write. -/
theorem Table.get_foldl_write {α β : Type} {d : α} {g : Table α → β → Table α} {key : β → Nat} {f : α → β → α}
    (write : ∀ t b i, Table.get d (g t b) i = if i = key b then f (Table.get d t i) b else Table.get d t i) (l : List β) (t : Table α) :
    (∀ i, i ∉ l.map key → Table.get d (l.foldl g t) i = Table.get d t i) ∧
    ((l.map key).Nodup → ∀ b ∈ l, Table.get d (l.foldl g t) (key b) = f (Table.get d t (key b)) b) := by
  induction l generalizing t with
  | nil => simp
  | cons x l ih =>
    obtain ⟨others, own⟩ := ih (g t x)
    refine ⟨fun i outside => ?_, fun once b mem => ?_⟩
    · rw [List.map_cons, List.mem_cons, not_or] at outside
      rw [List.foldl_cons, others i outside.2, write, if_neg outside.1]
    · rw [List.map_cons, List.nodup_cons] at once
      rcases List.mem_cons.mp mem with rfl | later
      · rw [List.foldl_cons, others _ once.1, write, if_pos rfl]
      · have other : key b ≠ key x := fun same => once.1 (same ▸ List.mem_map_of_mem later)
        rw [List.foldl_cons, own once.2 b later, write, if_neg other]

theorem get_applyStock (t : Table SlotStock) (c : StockChange) (i : Nat) : Table.get SlotStock.initial (applyStock t c) i =
    if i = c.slot then
      ⟨(((Table.get SlotStock.initial t i).strapped : Int) + c.strapped).toNat,
       (((Table.get SlotStock.initial t i).loose : Int) + c.loose).toNat,
       (((Table.get SlotStock.initial t i).unfit : Int) + c.unfit).toNat,
       (((Table.get SlotStock.initial t i).coin : Int) + c.coin).toNat⟩
    else Table.get SlotStock.initial t i := by
  by_cases same : i = c.slot
  · subst same
    simp [applyStock]
  · simp [applyStock, same]

theorem get_applySuspect (t : Table Nat) (c : Nat × Nat) (i : Nat) :
    Table.get 0 (applySuspect t c) i = if i = c.1 then Table.get 0 t i + c.2 else Table.get 0 t i := by
  by_cases same : i = c.1
  · subst same
    simp [applySuspect]
  · simp [applySuspect, same]

/-! ## The entries of a movement -/

/-- R51: the sequence number after `k` are taken. -/
def seqAfterAll : Nat → Nat → Nat
  | 0, n => n
  | k + 1, n => seqAfterAll k (seqAfter n)

/-- R51, R52: entries are written with consecutive numbers and the figure after each, and nothing else changes. -/
theorem writeEntries_eq (es : List EntrySpec) (a : Acu) : es.foldl writeEntry a =
    { a with
      accountability := a.accountability + (es.map EntrySpec.delta).sum
      journal := a.journal ++ writtenEntries es a.nextSeq a.clock a.accountability
      nextSeq := seqAfterAll es.length a.nextSeq } := by
  induction es generalizing a with
  | nil => simp [writtenEntries, seqAfterAll]
  | cons e es ih => simp [ih, writeEntry, writtenEntries, seqAfterAll, add_assoc]

/-! ## The whole movement -/

/-- R47 to R54: the Accounts Unit after a movement. -/
theorem applyMovement_acu_eq (m : Movement) (s : State) : (applyMovement m s).acu =
    { s.acu with
      accountability := s.acu.accountability + m.delta
      journal := s.acu.journal ++ writtenEntries m.entries s.acu.nextSeq s.acu.clock s.acu.accountability
      nextSeq := seqAfterAll m.entries.length s.acu.nextSeq
      stock := m.stock.foldl applyStock s.acu.stock
      suspects := m.suspects.foldl applySuspect s.acu.suspects
      reserved := if m.origin = .reserved then s.acu.reserved - 3 else s.acu.reserved
      courier := (chargeAccount m.charge s).acu.courier
      unattributed := (chargeAccount m.charge s).acu.unattributed } := by
  unfold applyMovement
  simp only [syncJournal_keeps, writeEntries_eq, Movement.delta]
  rcases m.charge with _ | ⟨_ | _ | n, v⟩ <;> rfl

/-- R49: what a movement does to the tills is the charge of its account. -/
theorem applyMovement_tau (m : Movement) (s : State) : (applyMovement m s).tau = (chargeAccount m.charge s).tau := by
  unfold applyMovement
  simp only [syncJournal_keeps]
  rcases m.charge with _ | ⟨_ | _ | n, v⟩ <;> rfl

/-- R49: a till charged with a bag's variance, in tables whose other tills stand. -/
theorem chargeAccount_till (n k : Nat) (v : Int) (s : State) : (chargeAccount (some (.till n, v)) s).till k =
    if k = n then { s.till n with day := (s.till n).day.charge v } else s.till k := putTill_till ..

/-- R47: a movement changes the stock, the books and its account, and no other block but the chutes' room. -/
theorem applyMovement_frame (m : Movement) (s : State) : onlyChutes s (applyMovement m s) ∧ (applyMovement m s).sys = s.sys ∧
    (applyMovement m s).cru = s.cru ∧ (applyMovement m s).bgr = s.bgr ∧ (applyMovement m s).clc = s.clc ∧
    (applyMovement m s).rcu = s.rcu ∧ (applyMovement m s).wcu = s.wcu ∧ (applyMovement m s).hoc = s.hoc := by
  exact ⟨applyMovement_onlyChutes m s, by simp, by simp, by simp, by simp, by simp, by simp, by simp⟩

end Sys2Proof.Machine

namespace Sys2Proof.Proofs.Movements

open Sys2Proof Sys2Proof.Machine

/-- Settles O29: the Accounts Unit by its one equation, and each account by the charge. -/
theorem movementIsAppliedWhole : Obligations.MovementIsAppliedWhole := by
  unfold Obligations.MovementIsAppliedWhole
  refine ⟨fun t c i => get_applyStock t c i, fun t c i => get_applySuspect t c i, fun m s => ⟨_, rfl, ?_⟩⟩
  obtain ⟨chutes, sys, cru, bgr, clc, rcu, wcu, hoc⟩ := applyMovement_frame m s
  obtain ⟨-, -, -, safes⟩ := chutes
  have acu := applyMovement_acu_eq m s
  have tau := applyMovement_tau m s
  refine ⟨by rw [acu]; rfl, fun none => ?_, fun e one => ?_, fun e f two => ?_, fun e f g three => ?_, by rw [acu], by rw [acu],
    by rw [acu], by rw [acu], fun none => ?_, fun v courier => ?_, fun v unattributed => ?_, fun n v till => ?_,
    fun n => (safes n).1, fun n hn => applyMovement_journalCause m s n hn, applyMovement_onlyChutes m s, sys, cru, bgr, clc, rcu, wcu, hoc⟩
  · rw [acu, none]
    exact ⟨List.append_nil _, rfl⟩
  · rw [acu, one]
    exact ⟨rfl, rfl⟩
  · rw [acu, two]
    exact ⟨rfl, rfl⟩
  · rw [acu, three]
    exact ⟨rfl, rfl⟩
  · rw [acu, tau, none]
    exact ⟨rfl, rfl, rfl⟩
  · rw [acu, tau, courier]
    exact ⟨rfl, rfl⟩
  · rw [acu, tau, unattributed]
    exact ⟨rfl, rfl⟩
  · have tills : ∀ k, (applyMovement m s).till k = (chargeAccount m.charge s).till k := fun k => by
      rw [State.till, State.till, tau]
    refine ⟨?_, fun k other => ?_, ?_⟩
    · rw [tills, till, chargeAccount_till, if_pos rfl]
    · rw [tills, till, chargeAccount_till, if_neg other]
    · rw [tau, till]
      rfl

end Sys2Proof.Proofs.Movements
end

section
/-!
The Accounts Unit's requests: the clock and its tick, the band and the denominations, the business day, the office mode and the
journal (chapters 1 and 3).
-/

namespace Sys2Proof.Machine

open Sys2Proof

set_option Elab.async false

/-! ## The clock -/

theorem validClock_iff (c : ClockTime) : validClock c = true ↔
    (2000 ≤ c.date.year ∧ c.date.year ≤ 2099 ∧ 1 ≤ c.date.month ∧ c.date.month ≤ 12 ∧ 1 ≤ c.date.day ∧
      c.date.day ≤ daysIn c.date.year c.date.month) ∧ c.secs ≤ 86399 := by
  simp [validClock, validDate, and_assoc]

theorem daysIn_bounds (y m : Nat) : 28 ≤ daysIn y m ∧ daysIn y m ≤ 31 := by
  unfold daysIn
  split
  · split <;> omega
  · split <;> omega

theorem daysIn_december (y : Nat) : daysIn y 12 = 31 := rfl

/-- R57: the day after a valid one is later, and valid unless it passes the end of 2099. -/
theorem nextDate_valid {c : ClockTime} (valid : validClock c = true) (last : c.secs = 86399) (more : c ≠ lastSecond) :
    validClock ⟨nextDate c.date, 0⟩ = true := by
  rw [validClock_iff] at valid ⊢
  obtain ⟨⟨y, m, d⟩, x⟩ := c
  simp only at valid last
  have here := daysIn_bounds y m
  unfold nextDate
  dsimp only
  split
  · dsimp only
    omega
  · split
    · have next := daysIn_bounds y (m + 1)
      dsimp only
      omega
    · next december =>
        have twelve : m = 12 := by omega
        subst twelve
        have days := daysIn_december y
        have before : y ≠ 2099 := fun final => more (by
          have day : d = 31 := by omega
          subst final day last
          rfl)
        have january := daysIn_bounds (y + 1) 1
        dsimp only
        omega

theorem dateKey_nextDate {c : ClockTime} (valid : validClock c = true) : dateKey c.date < dateKey (nextDate c.date) := by
  rw [validClock_iff] at valid
  obtain ⟨⟨y, m, d⟩, x⟩ := c
  simp only at valid
  have here := daysIn_bounds y m
  unfold nextDate dateKey
  dsimp only
  split
  · dsimp only
    omega
  · split <;> (dsimp only; omega)

theorem nextSecond_valid {c : ClockTime} (valid : validClock c = true) : validClock (nextSecond c) = true := by
  unfold nextSecond
  split
  · exact valid
  · next more =>
      split
      · next early =>
          rw [validClock_iff] at valid ⊢
          exact ⟨valid.1, by dsimp only; omega⟩
      · next late =>
          have bound := ((validClock_iff c).mp valid).2
          exact nextDate_valid valid (by omega) more

/-! ## A tick of the timers -/

theorem tickTimers_safe (s : State) (n : Nat) (hn : n ∈ safeNumbers) : (tickTimers s).safe n = tickSafe (s.safe n) := by
  rw [State.safe, tickTimers, Table.get_update _ _ _ (by decide), if_pos hn]
  rfl

theorem tickTimers_manifest (s : State) (n : Nat) (hn : n ∈ manifestNumbers) :
    (tickTimers s).manifest n = tickManifest (s.manifest n) := by
  rw [State.manifest, tickTimers, Table.get_update _ _ _ (by decide), if_pos hn]
  rfl

/-! ## Checks of the requests -/

theorem distinct_of_nodup {l : List Nat} (h : l.Nodup) : distinct l = true := decide_eq_true h

theorem firstFailing_none {α : Type} {ok : α → Bool} {l : List α} (h : ∀ x ∈ l, ok x = true) : firstFailing ok l = none := by
  simpa [firstFailing, List.findIdx?_eq_none_iff] using h

theorem amountArg_of_inRange {v : Int} (h : amountInRange v = true) : amountArg (some v) = some v := if_pos h

theorem hostRoom {s : State} {n : Nat} (h : n + 8 ≤ s.journalFree) : s.hasRoom .host n = true := by
  simp [State.hasRoom, h]

/-- R47: a host movement while the day is OPEN, with room and stock for it, fails only on the accountability. -/
theorem checkMovement_host {m : Movement} {s : State} (origin : m.origin = .host) (day : s.acu.day = .dayOpen)
    (room : m.entries.length + 8 ≤ s.journalFree) (stock : stockCheck m s = none) :
    checkMovement m s = if amountInRange (s.acu.accountability + m.delta) then none else some (.amountRange none) := by
  simp [checkMovement, origin, day, hostRoom room, stock]

/-- R60: the checks of the opening movement, but for the accountability. -/
theorem requireOpening_eq {l : List StockLine} {s : State} (room : 9 ≤ s.journalFree) (stock : stockCheck (openingMovement l s) s = none) :
    requireOpening l s =
      if amountInRange (s.acu.accountability + openingValue l s) then .ok () else .error ⟨.amountRange, []⟩ := by
  have check : checkMovement (openingMovement l s) { s with acu.day := .dayOpen } =
      if amountInRange (s.acu.accountability + openingValue l s) then none else some (.amountRange none) := by
    have opening := checkMovement_host (m := openingMovement l s) (s := { s with acu.day := .dayOpen }) rfl rfl room stock
    simpa [openingMovement, Movement.delta] using opening
  unfold requireOpening
  rw [check]
  cases amountInRange (s.acu.accountability + openingValue l s) <;> rfl

/-! ## Retired bags freed -/

theorem get_foldl_free (l : List Nat) (t : Table (Option Bag)) (q : Nat) :
    Table.get none (l.foldl (fun t r => Table.set none t r none) t) q = if q ∈ l then none else Table.get none t q := by
  induction l generalizing t with
  | nil => rfl
  | cons r l ih =>
    rw [List.foldl_cons, ih, Table.get_set]
    by_cases first : q = r <;> simp [first]

theorem get_handOut (t : Table Nat) (l : SlotLine) (i : Nat) :
    Table.get 0 (handOut t l) i = if i = l.slot then Table.get 0 t i - l.count else Table.get 0 t i := by
  by_cases same : i = l.slot
  · subst same
    simp [handOut]
  · simp [handOut, same]

theorem tillNumbers_nodup : tillNumbers.Nodup := List.nodup_range'

/-- R62: a till over the close of a day, at the numbers that tills have. -/
theorem dayFigures_till (l : List SlotLine) (s : State) (n : Nat) :
    (dayFigures l s).till n = if n ∈ tillNumbers then (s.till n).closeDay else s.till n := by
  unfold State.till dayFigures
  dsimp only
  rw [Table.get_update _ _ _ tillNumbers_nodup]

theorem Till.closeDay_eq (t : Till) : t.closeDay =
    { t with
      day := ⟨0, false⟩
      state := if t.state = .reconciled then .idle else t.state
      session := if t.state = .reconciled then 1 else t.session } := by
  unfold Till.closeDay
  dsimp only
  split <;> rfl

/-! ## The opening and the close of a day -/

/-- R60: a line's pieces on top of a slot's. -/
def openedStock (k : SlotStock) (x : StockLine) : SlotStock :=
  ⟨k.strapped + x.strapped.getD 0, k.loose + x.loose.getD 0, k.unfit + x.unfit.getD 0, k.coin + x.coin.getD 0⟩

theorem get_openingChange (t : Table SlotStock) (x : StockLine) (i : Nat) :
    Table.get SlotStock.initial (applyStock t (openingChange x)) i =
      if i = x.slot then openedStock (Table.get SlotStock.initial t i) x else Table.get SlotStock.initial t i :=
  get_applyStock t (openingChange x) i

theorem dayOpened_acu (d : Date) (l : List StockLine) (u : State) : (dayOpened d l u).acu =
    { u.acu with
      day := .dayOpen, businessDate := some d, accountability := u.acu.accountability + openingValue l u
      journal := u.acu.journal ++ [nextEntry u .dayOpen none none (openingValue l u) (openingValue l u)]
      nextSeq := seqAfter u.acu.nextSeq, stock := (l.map openingChange).foldl applyStock u.acu.stock } := by
  have acu := applyMovement_acu_eq (openingMovement l u) u
  have delta : (openingMovement l u).delta = openingValue l u := by simp [openingMovement, Movement.delta]
  rw [dayOpened]
  dsimp only
  rw [acu, delta]
  rfl

theorem dayOpened_frame (d : Date) (l : List StockLine) (u : State) : onlyChutes u (dayOpened d l u) ∧ (dayOpened d l u).sys = u.sys ∧
    (dayOpened d l u).cru = u.cru ∧ (dayOpened d l u).bgr = u.bgr ∧ (dayOpened d l u).tau = u.tau ∧ (dayOpened d l u).clc = u.clc ∧
    (dayOpened d l u).rcu = u.rcu ∧ (dayOpened d l u).wcu = u.wcu ∧ (dayOpened d l u).hoc = u.hoc := by
  obtain ⟨chutes, sys, cru, bgr, clc, rcu, wcu, hoc⟩ := applyMovement_frame (openingMovement l u) u
  have tau := applyMovement_tau (openingMovement l u) u
  rw [dayOpened]
  generalize applyMovement (openingMovement l u) u = v at *
  exact ⟨onlyChutes_trans u v _ chutes (onlyChutes_of_eq v _ rfl rfl rfl), sys, cru, bgr, tau, clc, rcu, wcu, hoc⟩

theorem dayClosedState_acu (l : List SlotLine) (u : State) : (dayClosedState l u).acu =
    { u.acu with
      day := .dayClosed, courier := ⟨0, false⟩, unattributed := ⟨0, false⟩
      journal := u.acu.journal ++ [nextEntry u .dayClose none none 0 0]
      nextSeq := seqAfter u.acu.nextSeq, suspects := l.foldl handOut u.acu.suspects } := by
  have freed : (freeRetired (dayFigures l u)).acu = (dayFigures l u).acu := by simp
  rw [dayClosedState, applyMovement_acu_eq, freed]
  simp [entriesOnly, Movement.delta, writtenEntries, nextEntry, seqAfterAll, dayFigures]

theorem dayClosedState_tau (l : List SlotLine) (u : State) : (dayClosedState l u).tau =
    { u.tau with tills := Table.update Till.initial Till.closeDay tillNumbers u.tau.tills } := by
  rw [dayClosedState, applyMovement_tau]
  simp [entriesOnly, dayFigures]

theorem dayClosedState_till (l : List SlotLine) (u : State) (n : Nat) :
    (dayClosedState l u).till n = if n ∈ tillNumbers then (u.till n).closeDay else u.till n := by
  rw [State.till, dayClosedState_tau]
  dsimp only
  rw [Table.get_update _ _ _ tillNumbers_nodup]
  rfl

theorem dayClosedState_bgr (l : List SlotLine) (u : State) : (dayClosedState l u).bgr =
    { u.bgr with bags := u.bgr.retired.foldl (fun t r => Table.set none t r none) u.bgr.bags, retired := [] } := by
  obtain ⟨-, -, -, bgr, -⟩ := applyMovement_frame (entriesOnly .host [⟨.dayClose, none, none, 0, 0⟩]) (freeRetired (dayFigures l u))
  have synced : ∀ v, (syncTable v).bgr = v.bgr := fun v => by simp
  rw [dayClosedState, bgr, freeRetired, synced]
  rfl

theorem dayClosedState_frame (l : List SlotLine) (u : State) : onlyChutes u (dayClosedState l u) ∧ (dayClosedState l u).sys = u.sys ∧
    (dayClosedState l u).cru = u.cru ∧ (dayClosedState l u).clc = u.clc ∧ (dayClosedState l u).rcu = u.rcu ∧
    (dayClosedState l u).wcu = u.wcu ∧ (dayClosedState l u).hoc = u.hoc := by
  refine ⟨?_, ?_, ?_, ?_, ?_, ?_, ?_⟩
  · exact onlyChutes_trans _ _ _ (onlyChutes_of_eq u (dayFigures l u) rfl rfl rfl)
      (onlyChutes_trans _ _ _ (freeRetired_onlyChutes _) (applyMovement_onlyChutes _ _))
  all_goals simp [dayClosedState, dayFigures]

/-! ## The journal's room -/

theorem syncJournal_frame (u : State) : (syncJournal u).acu = u.acu ∧ (syncJournal u).sys = u.sys ∧ (syncJournal u).cru = u.cru ∧
    (syncJournal u).bgr = u.bgr ∧ (syncJournal u).tau = u.tau ∧ (syncJournal u).clc = u.clc ∧ (syncJournal u).rcu = u.rcu ∧
    (syncJournal u).wcu = u.wcu ∧ (syncJournal u).hoc = u.hoc := by
  simp

/-- R55: the JOURNAL cause of every safe stands as the free count asks. -/
theorem syncJournal_cause (u : State) (n : Nat) (hn : n ∈ safeNumbers) :
    ((syncJournal u).safe n).causes.journal = decide ((syncJournal u).journalFree ≤ 8) := by
  rw [syncJournal_safe, if_pos hn]
  simp [safeWithCause, ChuteCauses.put, State.journalFree]

/-- R56: the state that TAKE_JOURNAL leaves. -/
def journalTaken (k : Nat) (u : State) : State := syncJournal { u with acu.journal := u.acu.journal.drop k }

theorem takeJournal_ok {k : Nat} (u : State) (low : 1 ≤ k) (high : k ≤ 8) :
    takeJournal k u = .ok ⟨journalTaken k u, .ok, [.many ((u.acu.journal.take k).map (fun e => [.entry e]))]⟩ :=
  (pass (by simp [low, high])).trans rfl

theorem journalTaken_frame (k : Nat) (u : State) : (journalTaken k u).acu = { u.acu with journal := u.acu.journal.drop k } ∧
    onlyChutes u (journalTaken k u) ∧
    (∀ n ∈ safeNumbers, ((journalTaken k u).safe n).causes.journal = decide ((journalTaken k u).journalFree ≤ 8)) ∧
    (journalTaken k u).sys = u.sys ∧ (journalTaken k u).cru = u.cru ∧ (journalTaken k u).bgr = u.bgr ∧ (journalTaken k u).tau = u.tau ∧
    (journalTaken k u).clc = u.clc ∧ (journalTaken k u).rcu = u.rcu ∧ (journalTaken k u).wcu = u.wcu ∧ (journalTaken k u).hoc = u.hoc := by
  obtain ⟨acu, frame⟩ := syncJournal_frame { u with acu.journal := u.acu.journal.drop k }
  exact ⟨acu, onlyChutes_trans u { u with acu.journal := u.acu.journal.drop k } _ (onlyChutes_of_eq _ _ rfl rfl rfl)
    (syncJournal_onlyChutes _), syncJournal_cause _, frame⟩

/-- R61: a CLOSE_DAY that passes its checks. -/
theorem closeDay_ok {l : List SlotLine} {cred : Nat} {u : State} (authorised : authority supervisorAtOffice [cred] u = .ok ())
    (day : u.acu.day = .dayOpen) (outs : handOutsOk l u = true) (lanes : ∀ n ∈ laneNumbers, (u.lane n).batch = none)
    (handover : u.inHandover = none) (bench : u.liveAt .bench = false) (room : 9 ≤ u.journalFree) :
    ∃ f, closeDay l cred u = .ok ⟨dayClosedState l u, .ok, f⟩ := by
  have free : (!laneNumbers.any (fun n => (u.lane n).batch.isSome)) = true := by simpa using fun n hn => lanes n hn
  exact ⟨_, (passed authorised).trans ((pass (decide_eq_true day)).trans ((pass outs).trans ((pass free).trans
    ((pass (by rw [handover]; rfl)).trans ((pass (by rw [bench]; rfl)).trans ((pass (hostRoom (n := 1) room)).trans rfl))))))⟩

/-! ## The lanes as the office opens and closes -/

theorem lanesOn_lane (s : State) (n : Nat) : (lanesOn s).lane n = if n ∈ laneNumbers then switchOn (s.lane n) else s.lane n := by
  rw [State.lane, lanesOn, Table.get_update _ _ _ (by decide)]
  rfl

theorem lanesOff_lane (s : State) (n : Nat) : (lanesOff s).lane n = if n ∈ laneNumbers then switchOff (s.lane n) else s.lane n := by
  rw [State.lane, lanesOff, Table.get_update _ _ _ (by decide)]
  rfl

theorem switchOn_eq (l : Lane) : switchOn l = { l with state := if l.state = .off then .idle else l.state } := by
  unfold switchOn
  split <;> rfl

end Sys2Proof.Machine

namespace Sys2Proof.Proofs.Accounts

open Sys2Proof Sys2Proof.Machine

/-- Settles O25. -/
theorem clockBandAndDenominations : Obligations.ClockBandAndDenominations := by
  unfold Obligations.ClockBandAndDenominations
  refine ⟨fun s tag => ⟨fun d x cred taken valid authorised => ?_, fun v rate cred taken present frozen range rates => ?_⟩,
    fun s tag cred l taken present day frozen idle some few entries once free => ?_⟩
  · have passes : clockAuthority cred (takeFrom s) = .ok () := by
      unfold clockAuthority
      split
      · rfl
      · next c set =>
          have set : s.acu.clock = Option.some c := set
          rcases authorised with unset | ⟨a, rfl, present⟩
          · simp [set] at unset
          · exact supervisorAtOffice_ok a s present
    exact exec_ok rfl taken ((passed passes).trans ((pass valid).trans rfl))
  · have thawed : (!(takeFrom s).csc.freeze) = true := by simpa using frozen
    exact exec_ok rfl taken ((passed (supervisorAtOffice_ok cred s present)).trans ((pass thawed).trans
      ((found (amountArg_of_inRange range)).trans ((pass (decide_eq_true rates)).trans rfl))))
  · have thawed : (!(takeFrom s).csc.freeze) = true := by simpa using frozen
    have calm : (!(takeFrom s).countsPending) = true := by simpa using idle
    have listed : (!l.isEmpty && decide (l.length ≤ 8) && l.all denomEntryOk && distinct (l.map DenomEntry.slot)) = true := by
      simpa [some, few, distinct_of_nodup once] using entries
    have held : (firstFailing (rewriteOk (takeFrom s)) l).isNone = true := by
      rw [firstFailing_none (ok := rewriteOk (takeFrom s)) free]
      rfl
    obtain ⟨others, own⟩ := Table.get_foldl_write (d := Denom.unused)
      (g := fun t (e : DenomEntry) => Table.set Denom.unused t e.slot (entryDenom e)) (key := DenomEntry.slot)
      (f := fun _ e => entryDenom e) (fun t e i => Table.get_set ..) l s.acu.denoms
    refine ⟨{ takeFrom s with acu.denoms := l.foldl (fun t e => Table.set Denom.unused t e.slot (entryDenom e)) s.acu.denoms },
      exec_ok rfl taken ((passed (supervisorAtOffice_ok cred s present)).trans ((pass (decide_eq_true day)).trans
      ((pass thawed).trans ((pass calm).trans ((pass listed).trans ((pass held).trans rfl)))))), rfl, own once, others⟩

/-- Settles O26. -/
theorem clockAndTimersTick : Obligations.ClockAndTimersTick := by
  unfold Obligations.ClockAndTimersTick
  refine ⟨⟨fun s => ⟨_, rfl, ?_⟩, fun c valid => ⟨nextSecond_valid valid, fun last => ?_, fun more early => ?_, fun more last => ?_⟩,
    fun y => rfl⟩, fun s => ⟨fun stands => ?_, fun operates => ⟨tickClock (tickTimers s), ?_, ?_, tickTimers_safe s, ?_⟩⟩⟩
  · split <;> exact ⟨rfl, rfl⟩
  · exact if_pos last
  · exact (if_neg more).trans (if_pos (by omega))
  · exact ⟨(if_neg more).trans (if_neg (by omega)), dateKey_nextDate valid⟩
  · simp [exec, execClockTick, stands]
  · simp [exec, execClockTick, operates]
  · rintro (_ | _ | _) <;> rfl
  · refine ⟨?_, ?_, ?_, tickTimers_manifest s, ?_⟩
    · rfl
    · rfl
    · rfl
    · refine ⟨?_, ?_, ?_, ?_, ?_, ?_, ?_, ?_, ?_, ?_, ?_⟩
      · rfl
      · rfl
      · rfl
      · rfl
      · rfl
      · rfl
      · rfl
      · rfl
      · rfl
      · rfl
      · simp only [tickClock, tickTimers]

/-- Settles O27: the checks, and the state that each leaves by the rules of a movement. -/
theorem openAndCloseDay : Obligations.OpenAndCloseDay := by
  unfold Obligations.OpenAndCloseDay
  refine ⟨fun s tag cred d l taken present clock day fields value room stock => ?opens,
    fun s tag cred l taken present day outs lanes handover bench room => ?closes⟩
  case opens =>
    have checks := requireOpening_eq (s := takeFrom s) room stock
    refine ⟨fun past => ?_, fun within => ?_⟩
    · have overflows : requireOpening l (takeFrom s) = .error ⟨.amountRange, []⟩ :=
        checks.trans (if_neg (by rw [Bool.not_eq_true]; exact past))
      exact exec_error rfl taken ((passed (supervisorAtOffice_ok cred s present)).trans ((pass clock).trans
        ((pass (decide_eq_true day)).trans ((pass fields).trans ((pass value).trans (refused overflows))))))
    · have fits : requireOpening l (takeFrom s) = .ok () := checks.trans (if_pos within)
      have ok := exec_ok rfl taken ((passed (supervisorAtOffice_ok cred s present)).trans ((pass clock).trans
        ((pass (decide_eq_true day)).trans ((pass fields).trans ((pass value).trans ((passed fits).trans rfl))))))
      have acu := dayOpened_acu d l (takeFrom s)
      have once : s.acu.day = .noDay → (l.map StockLine.slot).Nodup := fun noDay => by
        simp only [openDayFieldsOk, noDay, Bool.and_eq_true, distinct, decide_eq_true_eq] at fields
        exact fields.2.2
      obtain ⟨others, own⟩ := Table.get_foldl_write get_openingChange l s.acu.stock
      obtain ⟨chutes, sys, cru, bgr, tau, clc, rcu, wcu, hoc⟩ := dayOpened_frame d l (takeFrom s)
      change exec (.openDay tag d l cred) s = .next (reply tag .openDay .ok
        [.one (dateAtoms d), fAmount (dayOpened d l (takeFrom s)).stockValue, fAmount (dayOpened d l (takeFrom s)).acu.accountability]
        (dayOpened d l (takeFrom s))) at ok
      generalize dayOpened d l (takeFrom s) = t at ok acu chutes sys cru bgr tau clc rcu wcu hoc
      refine ⟨t, ok, by rw [acu], by rw [acu], by rw [acu]; rfl, by rw [acu]; rfl, by rw [acu]; rfl, by rw [acu]; rfl,
        fun noDay x hx => ?_, fun i hi => ?_, by rw [acu]; rfl, chutes, sys, cru, bgr, tau, clc, rcu, wcu, hoc⟩
      · rw [State.slotStock, acu]
        dsimp only
        rw [List.foldl_map]
        exact own (once noDay) x hx
      · rw [State.slotStock, acu]
        dsimp only
        rw [List.foldl_map]
        exact others i hi
  case closes =>
    obtain ⟨f, body⟩ := closeDay_ok (u := takeFrom s) (supervisorAtOffice_ok cred s present) day outs lanes
      ((takeFrom_inHandover s).trans handover) ((takeFrom_liveAt s .bench).trans bench) room
    have ok := exec_ok (i := .closeDay tag l cred) rfl taken body
    have acu := dayClosedState_acu l (takeFrom s)
    have tau := dayClosedState_tau l (takeFrom s)
    have bgr := dayClosedState_bgr l (takeFrom s)
    obtain ⟨chutes, sys, cru, clc, rcu, wcu, hoc⟩ := dayClosedState_frame l (takeFrom s)
    have once : (l.map SlotLine.slot).Nodup := by
      simp only [handOutsOk, Bool.and_eq_true, distinct, decide_eq_true_eq] at outs
      exact outs.2
    obtain ⟨others, own⟩ := Table.get_foldl_write (d := 0) (key := SlotLine.slot) (f := fun k x => k - x.count) get_handOut l s.acu.suspects
    have tills := dayClosedState_till l (takeFrom s)
    generalize dayClosedState l (takeFrom s) = t at ok acu tau bgr tills chutes sys cru clc rcu wcu hoc
    refine ⟨t, f, ok, by rw [acu], by rw [acu], by rw [acu], by rw [acu]; rfl, by rw [acu]; rfl,
      by rw [acu]; rfl, fun x hx => ?_, fun i hi => ?_, fun n hn => ?_, fun n hn => ?_, by rw [bgr], fun r => ?_, by rw [bgr]; rfl,
      by rw [tau, show (takeFrom s).tau = s.tau from rfl], by rw [acu]; rfl, chutes, sys, cru, clc, rcu, wcu, hoc⟩
    · rw [State.suspect, acu]
      exact own once x hx
    · rw [State.suspect, acu]
      exact others i hi
    · rw [tills, if_pos hn, Till.closeDay_eq, takeFrom_till]
    · rw [tills, if_neg hn, takeFrom_till]
    · rw [State.bag, bgr]
      exact get_foldl_free _ _ r

/-- Settles O28. -/
theorem officeModeAndJournal : Obligations.OfficeModeAndJournal := by
  unfold Obligations.OfficeModeAndJournal
  refine ⟨fun s tag cred present => ⟨fun taken mode latch => ?_, fun taken mode idle handover bench doors => ?_⟩,
    fun s tag k taken => ⟨fun low high => ?_, fun bad => ?_⟩⟩
  · have clear : (!(takeFrom s).csc.latch) = true := by simpa using latch
    refine ⟨lanesOn { takeFrom s with acu.mode := .opened }, exec_ok rfl taken ((passed (custodianAtOffice_ok cred s present)).trans
      ((pass (decide_eq_true mode)).trans ((pass clear).trans rfl))), rfl, fun n hn => ?_, fun n hn => ?_⟩
    · rw [lanesOn_lane, if_pos hn, switchOn_eq]
      rfl
    · rw [lanesOn_lane, if_neg hn]
      rfl
  · have still : (laneNumbers.all (fun n => decide (((takeFrom s).lane n).state = .idle))) = true :=
      List.all_eq_true.mpr fun n hn => decide_eq_true (idle n hn)
    have alone : (takeFrom s).inHandover.isNone = true := by rw [takeFrom_inHandover, handover]; rfl
    have bare : (!(takeFrom s).liveAt .bench) = true := by rw [takeFrom_liveAt, bench]; rfl
    have shut : (allDoors.all (fun d => decide (((takeFrom s).door d).state = .secure))) = true :=
      List.all_eq_true.mpr fun d hd => decide_eq_true ((congrArg Door.state (takeFrom_door s d)).trans (doors d hd))
    refine ⟨lanesOff { takeFrom s with acu.mode := .afterHours }, exec_ok rfl taken ((passed (custodianAtOffice_ok cred s present)).trans
      ((pass (decide_eq_true mode)).trans ((pass still).trans ((pass alone).trans ((pass bare).trans ((pass shut).trans rfl)))))), rfl,
      fun n hn => ?_, fun n hn => ?_⟩
    · rw [lanesOff_lane, if_pos hn]
      exact if_pos (idle n hn)
    · rw [lanesOff_lane, if_neg hn]
      rfl
  · have ok := exec_ok (i := .takeJournal tag k) rfl taken (takeJournal_ok (takeFrom s) low high)
    obtain ⟨acu, chutes, causes, frame⟩ := journalTaken_frame k (takeFrom s)
    generalize journalTaken k (takeFrom s) = t at ok acu frame chutes causes
    exact ⟨t, ok, acu, chutes, causes, frame⟩
  · have range : (decide (1 ≤ k) && decide (k ≤ 8)) = false := by
      rcases bad with zero | many
      · simp [zero]
      · simp; omega
    exact exec_error rfl taken (fails range)

end Sys2Proof.Proofs.Accounts
end

section
/-!
The credential table and the presence lists (chapter 4).
-/

namespace Sys2Proof.Machine

open Sys2Proof

set_option Elab.async false

section Requests

variable {u : State} {n cred : Nat}

theorem validCred_of (low : 1 ≤ n) (high : n ≤ 999999) : validCred n = true := by simp [validCred, low, high]

theorem enrol_ok {k : CredClass} (authorised : enrolAuthority (some k) cred u = .ok ()) (valid : validCred n = true)
    (free : u.credential n = none) (room : u.credentialCount < 96) : enrol n (some k) cred u =
      .ok ⟨putCredential n (some ⟨k, false, 0⟩) u, .ok,
        credentialFields n ⟨k, false, 0⟩ ++ [fNum 1 (putCredential n (some ⟨k, false, 0⟩) u).credentialCount]⟩ := by
  refine (passed authorised).trans ((found rfl).trans ((pass valid).trans ?_))
  rw [free]
  exact (pass (decide_eq_true room)).trans rfl

theorem revoke_ok {c : Credential} (authorised : authority supervisorAtOffice [cred] u = .ok ()) (valid : validCred n = true)
    (held : u.credential n = some c) : revoke n cred u = .ok ⟨leaveReaders n (putCredential n none u), .ok,
      [fNum 1 (leaveReaders n (putCredential n none u)).credentialCount]⟩ :=
  (passed authorised).trans ((pass valid).trans ((pass (by rw [held]; rfl)).trans rfl))

theorem reinstate_ok {c : Credential} (authorised : authority supervisorAtOffice [cred] u = .ok ()) (valid : validCred n = true)
    (held : u.credential n = some c) (suspended : c.suspended = true) :
    reinstate n cred u = .ok ⟨putCredential n (some ⟨c.cls, false, 0⟩) u, .ok, []⟩ :=
  (passed authorised).trans ((pass valid).trans ((found held).trans ((pass suspended).trans rfl)))

theorem setPresenceLifetime_ok (authorised : authority supervisorAtOffice [cred] u = .ok ()) (range : n ≤ 65535) :
    setPresenceLifetime n cred u = .ok ⟨{ u with cru.lifetime := max 10 (min 300 n) }, .ok, [fNum 2 (max 10 (min 300 n))]⟩ :=
  (passed authorised).trans ((pass (decide_eq_true range)).trans rfl)

end Requests

/-- R68, R71: a credential's entries leave every list. -/
theorem leaveReaders_presence (n : Nat) (s : State) (r : Reader) :
    (leaveReaders n s).presence r = (s.presence r).filter (fun e => decide (e.number ≠ n)) := by
  cases r <;> rfl

@[simp] theorem leaveReaders_credential (n m : Nat) (s : State) : (leaveReaders n s).credential m = s.credential m := rfl

/-! ## Presentations -/

theorem exec_badge {s : State} {r : Reader} {n : Nat} {p : PinResult} (operates : s.operating = true) (valid : n ≤ 999999) :
    exec (.badge r n p) s = .next (takeBadge r n p s) := by
  simp only [State.operating, Bool.and_eq_true, Bool.not_eq_true'] at operates
  obtain ⟨powered, free⟩ := operates
  show execBadge r n p s = _
  simp [execBadge, unitRecord, powered, free, valid]

/-- R72: the newest entry of a list is last, in place of the credential's own or of the oldest of 4. -/
theorem enterPresence_eq (e : Presence) (l : List Presence) :
    ((∃ x ∈ l, x.number = e.number) → enterPresence e l = l.filter (fun x => decide (x.number ≠ e.number)) ++ [e]) ∧
    ((∀ x ∈ l, x.number ≠ e.number) → l.length < 4 → enterPresence e l = l ++ [e]) ∧
    ((∀ x ∈ l, x.number ≠ e.number) → 4 ≤ l.length → enterPresence e l = l.tail ++ [e]) := by
  unfold enterPresence
  refine ⟨fun ⟨x, mem, same⟩ => ?_, fun other room => ?_, fun other full => ?_⟩
  · rw [if_pos (List.any_eq_true.mpr ⟨x, mem, decide_eq_true same⟩)]
  · rw [if_neg (by simpa using other), if_neg (by omega)]
  · rw [if_neg (by simpa using other), if_pos full]

/-- R198: a notice joins at the newest end, or the queue stands. -/
theorem notify_notices (k : NoticeKind) (l : List Field) (s : State) : s.hpt.notices <+: (notify k l s).hpt.notices := by
  unfold notify
  split
  · split
    · exact List.prefix_append ..
    · exact List.prefix_rfl
  · exact List.prefix_rfl

theorem startTest_notices (n : Nat) (cls : CredClass) (s : State) : s.hpt.notices <+: (startTest n cls s).hpt.notices := by
  unfold startTest
  split
  · exact List.prefix_rfl
  · dsimp only
    split
    · split
      · exact notify_notices ..
      · exact List.prefix_rfl
    · split
      · exact List.prefix_rfl
      · split
        · exact notify_notices ..
        · split
          · exact notify_notices ..
          · split
            · exact List.prefix_rfl
            · exact notify_notices ..

theorem presentedAtHatch_notices (n : Nat) (cls : CredClass) (s : State) :
    s.hpt.notices <+: (presentedAtHatch n cls s).hpt.notices := by
  unfold presentedAtHatch
  split
  · next i m _ =>
      split
      · exact notify_notices .manifestClosed _ (closeRecord i m _ _ s)
      · exact List.prefix_rfl
  · exact startTest_notices ..

theorem presentedAtStrongroom_hpt (n : Nat) (s : State) : (presentedAtStrongroom n s).hpt = s.hpt := by
  unfold presentedAtStrongroom
  dsimp only
  split
  · split <;> rfl
  · rfl

/-- R72: the owner of the reader sends its notices after those that wait. -/
theorem tellOwner_notices (r : Reader) (n : Nat) (cls : CredClass) (s : State) : s.hpt.notices <+: (tellOwner r n cls s).hpt.notices := by
  cases r
  case office => exact List.prefix_rfl
  case strongroom => exact (congrArg (s.hpt.notices <+: Hpt.notices ·) (presentedAtStrongroom_hpt n s)).mpr List.prefix_rfl
  case hatch => exact presentedAtHatch_notices ..

/-- R72: the tables that a presentation leaves before the owner of the reader is told. -/
theorem presented_cru (r : Reader) (n : Nat) (c : Credential) (p : PinResult) (s : State) :
    (∀ m, (presented r n c p s).credential m = if m = n then some { c with fails := 0 } else s.credential m) ∧
    (∀ q, (presented r n c p s).presence q = if q = r then enterPresence ⟨n, c.cls, s.cru.lifetime⟩ (s.presence r) else s.presence q) ∧
    (presented r n c p s).cru.lifetime = s.cru.lifetime := by
  have cru : (presented r n c p s).cru = (putPresence r (enterPresence ⟨n, c.cls, s.cru.lifetime⟩ (s.presence r))
      (putCredential n (some { c with fails := 0 }) s)).cru := by
    unfold presented
    dsimp only
    split <;> simp
  refine ⟨fun m => ?_, fun q => ?_, ?_⟩
  · rw [State.credential, cru]
    simp [putCredential, State.credential]
  · cases q <;> cases r <;> simp [State.presence, cru, putPresence, putCredential]
  · rw [cru]
    simp

/-- R73: a presentation that is not under duress raises no alarm. -/
theorem presented_of_ok {r : Reader} {n : Nat} {c : Credential} {p : PinResult} {s : State} (calm : p ≠ .duress) :
    presented r n c p s = { s with cru := (presented r n c p s).cru } := by
  unfold presented
  dsimp only
  rw [if_neg calm]
  cases r <;> rfl

/-- R73: one under duress drives ALARM and sends DURESS. -/
theorem presented_of_duress (r : Reader) (n : Nat) (c : Credential) (s : State) : presented r n c .duress s =
    notify .duress [fNamed (codeIn Reader.list r), fNum 3 n, fNamed (codeIn CredClass.list c.cls)]
      { s with cru := (presented r n c .duress s).cru, ubc.alarm := true, ubc.alarmTimer := some 180 } := by
  have cru : (presented r n c .duress s).cru = (putPresence r (enterPresence ⟨n, c.cls, s.cru.lifetime⟩ (s.presence r))
      (putCredential n (some { c with fails := 0 }) s)).cru := by simp [presented]
  rw [cru]
  unfold presented
  rw [if_pos rfl]
  cases r <;> rfl

end Sys2Proof.Machine

namespace Sys2Proof.Proofs.Credentials

open Sys2Proof Sys2Proof.Machine

/-- Settles O30. -/
theorem credentialRequests : Obligations.CredentialRequests := by
  unfold Obligations.CredentialRequests
  refine fun s tag n cred => ⟨fun k taken low high free room authorised => ?_, fun c taken present low high held => ?_,
    fun c taken present low high held suspended => ?_, fun taken present range => ?_⟩
  · have passes : enrolAuthority (some k) cred (takeFrom s) = .ok () := by
      unfold enrolAuthority
      split
      · rfl
      · next needed =>
          rcases authorised with present | ⟨rfl, none⟩
          · exact supervisorAtOffice_ok cred s present
          · exact absurd ⟨rfl, none⟩ needed
    exact ⟨putCredential n (some ⟨k, false, 0⟩) (takeFrom s),
      exec_ok rfl taken (enrol_ok passes (validCred_of low high) free room), rfl,
      fun _ => putCredential_credential ..⟩
  · refine ⟨leaveReaders n (putCredential n none (takeFrom s)),
      exec_ok rfl taken (revoke_ok (supervisorAtOffice_ok cred s present) (validCred_of low high) held), rfl, rfl,
      fun m => (leaveReaders_credential ..).trans (putCredential_credential ..), fun r => ?_⟩
    rw [leaveReaders_presence]
    cases r <;> rfl
  · exact ⟨putCredential n (some ⟨c.cls, false, 0⟩) (takeFrom s), exec_ok rfl taken
      (reinstate_ok (supervisorAtOffice_ok cred s present) (validCred_of low high) held suspended), rfl,
      fun _ => putCredential_credential ..⟩
  · exact exec_ok rfl taken (setPresenceLifetime_ok (supervisorAtOffice_ok cred s present) range)

/-- Settles O31, by the record of the credential and its fail count. -/
theorem badgeFailures : Obligations.BadgeFailures := by
  unfold Obligations.BadgeFailures
  refine ⟨fun e => ⟨rfl, rfl⟩, fun s r n operates valid => ?_⟩
  refine ⟨fun p none => ?_, fun p c held suspended => ?_, fun c held active few => ?_, fun c held active last => ?_⟩
  · rw [exec_badge operates valid, takeBadge, none]
  · rw [exec_badge operates valid, takeBadge, held]
    exact congrArg _ (if_pos suspended)
  · have counts : takeBadge r n .fail s = putCredential n (some { c with fails := c.fails + 1 }) s := by
      simp only [takeBadge, held, active, Bool.false_eq_true, if_false, failPin, if_pos few]
    exact ⟨_, (exec_badge operates valid).trans (congrArg _ counts), rfl, fun _ => putCredential_credential ..⟩
  · have counts : takeBadge r n .fail s = notifySuspended r n .fail 2
        (leaveReaders n (putCredential n (some { c with suspended := true, fails := 3 }) s)) := by
      simp only [takeBadge, held, active, Bool.false_eq_true, if_false, failPin, if_neg (show ¬c.fails + 1 < 3 by omega)]
    refine ⟨leaveReaders n (putCredential n (some { c with suspended := true, fails := 3 }) s),
      (exec_badge operates valid).trans (congrArg _ counts), rfl,
      fun m => (leaveReaders_credential ..).trans (putCredential_credential ..), fun q => ?_⟩
    rw [leaveReaders_presence]
    cases q <;> rfl

/-- Settles O32: the state in which the owner of the reader is told, and what telling it leaves alone. -/
theorem presentationsAndExpiry : Obligations.PresentationsAndExpiry := by
  unfold Obligations.PresentationsAndExpiry
  refine ⟨fun s r n c p operates valid held active counted => ?presented, fun s r n operates => ?expiry⟩
  case presented =>
    obtain ⟨creds, lists, lifetime⟩ := presented_cru r n c p s
    obtain ⟨own, room, full⟩ := enterPresence_eq ⟨n, c.cls, s.cru.lifetime⟩ (s.presence r)
    have calm := presented_of_ok (r := r) (n := n) (c := c) (s := s) (p := p)
    have duress := presented_of_duress r n c s
    have told := badge_presents r s n c p operates valid held active counted
    have list : ∀ q, (tellOwner r n c.cls (presented r n c p s)).presence q = (presented r n c p s).presence q := fun q => by
      cases q <;> simp [State.presence]
    obtain ⟨hoc, csc, acu, bgr⟩ := presented_keeps r n c p s
    have alarm : p = .duress → (presented r n c p s).ubc.alarm = true ∧ (presented r n c p s).ubc.alarmTimer = some 180 := by
      rintro rfl
      rw [duress]
      simp
    have commands : (presented r n c p s).ubc.commands = s.ubc.commands := by
      by_cases under : p = .duress
      · subst under
        rw [duress]
        simp
      · rw [calm under]
    have others : (presented r n c p s).tau = s.tau ∧ (presented r n c p s).clc = s.clc ∧ (presented r n c p s).rcu = s.rcu ∧
        (presented r n c p s).wcu = s.wcu ∧ (presented r n c p s).sys = s.sys := by
      by_cases under : p = .duress
      · subst under
        rw [duress]
        simp
      · rw [calm under]
        exact ⟨rfl, rfl, rfl, rfl, rfl⟩
    obtain ⟨tau, clc, rcu, wcu, sys⟩ := others
    refine ⟨_, told, fun m => ?_, fun mem => ?_, fun other few => ?_, fun other many => ?_, fun q other => ?_, ?_, fun e => ?_,
      fun e on custody few => ?_, fun e => ?_, ?_, fun e => ?_, fun e ok => ?_, fun e under => ?_, ?_, ?_, ?_, ?_, ?_, ?_, ?_⟩
    · rw [← creds m, State.credential, State.credential]
      simp
    · rw [list, lists, if_pos rfl, own mem]
    · rw [list, lists, if_pos rfl, room other few]
    · rw [list, lists, if_pos rfl, full other many]
    · rw [list, lists, if_neg other]
    · simpa using lifetime
    · simpa using alarm e
    · subst e
      have sent : (presented r n c .duress s).hpt.notices =
          s.hpt.notices ++ [⟨.duress, [fNamed (codeIn Reader.list r), fNum 3 n, fNamed (codeIn CredClass.list c.cls)]⟩] := by
        rw [duress, notify, if_pos (by simp [on, classEnabled, custody]), if_pos few]
      obtain ⟨after, joins⟩ := tellOwner_notices r n c.cls (presented r n c .duress s)
      rw [← joins, sent, List.append_assoc, List.getElem?_append_right le_rfl]
      simp
    · have steady := calm (by simp [e])
      simp only [tellOwner_keeps]
      rw [steady]
      exact ⟨rfl, rfl⟩
    · simp [csc]
    · subst e
      refine ⟨?_, csc, hoc⟩
      exact commands
    · subst e
      exact calm (by simp [ok])
    · subst e under
      exact duress
    · simpa using acu
    · simpa using bgr
    · simpa using tau
    · simpa using clc
    · simpa using rcu
    · simpa using wcu
    · simpa using sys
  case expiry =>
    refine ⟨expirePresence r n s, if_pos operates, ?_, fun q other => ?_, ?_, ?_, ?_⟩
    · simp [expirePresence]
    · simp [expirePresence, other]
    · cases r <;> rfl
    · cases r <;> rfl
    · cases r <;> rfl

end Sys2Proof.Proofs.Credentials
end

section
/-!
The skim queue and the over-limit test (R97, R98), and the requests that set tills, templates and tag ranges.
-/

namespace Sys2Proof.Machine

open Sys2Proof

set_option Elab.async false

/-! ## The skim queue -/

theorem joinSkim_queue (n : Nat) (s : State) : (joinSkim n s).tau.skimQueue =
    if n ∈ s.tau.skimQueue ∨ 16 ≤ s.tau.skimQueue.length then s.tau.skimQueue else s.tau.skimQueue ++ [n] := by
  unfold joinSkim
  split
  · rfl
  · dsimp only
    split
    · simp
    · rfl

/-- R98: a queue whose newest till was in it before brings no notice. -/
theorem skimAlerts_of_subset {q after : List Nat} (h : after ⊆ q) : skimAlerts q after = [] := by
  unfold skimAlerts
  split
  · rfl
  · next n last => exact if_neg (fun new => new.1 (h (List.mem_of_getLast? last)))

theorem skimAlerts_of_join {q r : List Nat} {n : Nat} (h : n ∉ q) : skimAlerts q (r ++ [n]) =
    if 4 ≤ r.length + 1 then [⟨.skimAlert, [fTill (some n), fNum 1 (r.length + 1), fNum 1 (r.length + 1)]⟩] else [] := by
  unfold skimAlerts
  rw [List.getLast?_concat]
  simp [h]

/-- R98: a join brings its notice, and nothing else of the Host Port. -/
theorem joinSkim_hpt (n : Nat) (s : State) :
    (joinSkim n s).hpt = (notifyAll (skimAlerts s.tau.skimQueue (joinSkim n s).tau.skimQueue) s).hpt := by
  rw [joinSkim_queue]
  unfold joinSkim
  split
  · rw [skimAlerts_of_subset (List.Subset.refl _)]
    rfl
  · next out =>
      rw [skimAlerts_of_join (fun mem => out (.inl mem))]
      dsimp only
      rw [List.length_append, List.length_singleton]
      split
      · exact notify_hpt_congr _ _ _ _ rfl
      · rfl

theorem leaveSkim_hpt (n : Nat) (s : State) :
    (leaveSkim n s).hpt = (notifyAll (skimAlerts s.tau.skimQueue (leaveSkim n s).tau.skimQueue) s).hpt := by
  have shrinks : s.tau.skimQueue.filter (fun m => decide (m ≠ n)) ⊆ s.tau.skimQueue := fun _ mem => List.mem_of_mem_filter mem
  unfold leaveSkim
  split
  · dsimp only
    generalize hu : ({ s with tau.skimQueue := s.tau.skimQueue.filter (fun m => decide (m ≠ n)) } : State) = u
    have queue : u.tau.skimQueue = s.tau.skimQueue.filter (fun m => decide (m ≠ n)) := by rw [← hu]
    have hpt : u.hpt = s.hpt := by rw [← hu]
    split
    · rw [queue, skimAlerts_of_subset shrinks]
      exact hpt
    · next m waits =>
        have other : m ≠ n ∧ m ∉ u.tau.skimQueue := by
          have found := List.find?_some waits
          simp only [Bool.and_eq_true, decide_eq_true_eq] at found
          exact ⟨found.1.1, found.2⟩
        rw [joinSkim_hpt, joinSkim_queue]
        refine (notifyAll_hpt_congr _ _ _ hpt).trans ?_
        split
        · rw [queue, skimAlerts_of_subset (List.Subset.refl _), skimAlerts_of_subset shrinks]
        · have out : m ∉ s.tau.skimQueue := fun mem => other.2 (by rw [queue]; simp [mem, other.1])
          rw [skimAlerts_of_join other.2, skimAlerts_of_join out]
  · rw [skimAlerts_of_subset (List.Subset.refl _)]
    rfl

theorem clearOverLimit_hpt (n : Nat) (s : State) :
    (clearOverLimit n s).hpt = (notifyAll (skimAlerts s.tau.skimQueue (clearOverLimit n s).tau.skimQueue) s).hpt :=
  (leaveSkim_hpt n (putTill n { s.till n with overLimit := false } s)).trans (notifyAll_hpt_congr _ _ _ rfl)

theorem not_mem_leaveSkim (n : Nat) (s : State) : n ∉ (leaveSkim n s).tau.skimQueue := by
  unfold leaveSkim
  split
  · dsimp only
    split
    · simp
    · next m waits =>
        have found := List.find?_some waits
        simp only [Bool.and_eq_true, decide_eq_true_eq] at found
        rw [joinSkim_queue]
        split
        · simp
        · simpa using fun same : n = m => found.1.1 same.symm
  · assumption

theorem not_mem_clearOverLimit (n : Nat) (s : State) : n ∉ (clearOverLimit n s).tau.skimQueue :=
  not_mem_leaveSkim n (putTill n { s.till n with overLimit := false } s)

theorem clearOverLimit_till (n m : Nat) (s : State) :
    (clearOverLimit n s).till m = if m = n then { s.till n with overLimit := false } else s.till m := by
  have tills : (clearOverLimit n s).tau.tills = (putTill n { s.till n with overLimit := false } s).tau.tills := by
    simp [clearOverLimit]
  rw [State.till, tills]
  exact putTill_till ..

/-! ## The over-limit test -/

theorem overLimitTest_of_notIssued {n : Nat} {s : State} (h : (s.till n).state ≠ .issued) : overLimitTest n s = s := if_pos h

theorem overLimitTest_of_over {n : Nat} {s : State} (issued : (s.till n).state = .issued) (over' : (s.till n).isOver = true) :
    overLimitTest n s = joinSkim n (putTill n { s.till n with overLimit := true } s) :=
  (if_neg (not_not_intro issued)).trans (if_pos over')

theorem overLimitTest_of_within {n : Nat} {s : State} (issued : (s.till n).state = .issued) (within : (s.till n).isOver = false) :
    overLimitTest n s = clearOverLimit n s :=
  (if_neg (not_not_intro issued)).trans (if_neg (by simp [within]))

/-- R97: the test writes the flag of an ISSUED till, and no other till. -/
theorem overLimitTest_till (n m : Nat) (s : State) : (overLimitTest n s).till m =
    if m = n ∧ (s.till n).state = .issued then { s.till n with overLimit := (s.till n).isOver } else s.till m := by
  by_cases issued : (s.till n).state = .issued
  · cases limit : (s.till n).isOver
    · rw [overLimitTest_of_within issued limit, clearOverLimit_till]
      simp [issued]
    · rw [overLimitTest_of_over issued limit]
      have tills : (joinSkim n (putTill n { s.till n with overLimit := true } s)).tau.tills =
          (putTill n { s.till n with overLimit := true } s).tau.tills := by simp
      rw [State.till, tills]
      refine (putTill_till ..).trans ?_
      simp [issued]
  · rw [overLimitTest_of_notIssued issued, if_neg (fun both => issued both.2)]

theorem overLimitTest_hpt (n : Nat) (s : State) :
    (overLimitTest n s).hpt = (notifyAll (skimAlerts s.tau.skimQueue (overLimitTest n s).tau.skimQueue) s).hpt := by
  by_cases issued : (s.till n).state = .issued
  · cases limit : (s.till n).isOver
    · rw [overLimitTest_of_within issued limit]
      exact clearOverLimit_hpt n s
    · rw [overLimitTest_of_over issued limit]
      exact (joinSkim_hpt ..).trans (notifyAll_hpt_congr _ _ _ rfl)
  · rw [overLimitTest_of_notIssued issued, skimAlerts_of_subset (List.Subset.refl _)]
    rfl

/-- R97, R98: the queue after the test of an ISSUED till. -/
theorem overLimitTest_queue {n : Nat} {s : State} (issued : (s.till n).state = .issued) :
    ((s.till n).isOver = true → (overLimitTest n s).tau.skimQueue =
      if n ∈ s.tau.skimQueue ∨ 16 ≤ s.tau.skimQueue.length then s.tau.skimQueue else s.tau.skimQueue ++ [n]) ∧
    ((s.till n).isOver = false → n ∉ (overLimitTest n s).tau.skimQueue ∧
      (s.tau.skimQueue.length ≤ 16 → leavesSkim n s (overLimitTest n s))) := by
  refine ⟨fun limit => ?_, fun limit => ?_⟩
  · rw [overLimitTest_of_over issued limit]
    exact joinSkim_queue ..
  · rw [overLimitTest_of_within issued limit]
    exact ⟨not_mem_clearOverLimit n s, clearOverLimit_leavesSkim n s⟩

/-- R98: leaving the queue reads the queue and the other tills' flags. -/
theorem leavesSkim_congr {n : Nat} {s s' t : State} (queue : s.tau.skimQueue = s'.tau.skimQueue)
    (others : ∀ m, m ≠ n → (s.till m).overLimit = (s'.till m).overLimit) (h : leavesSkim n s t) : leavesSkim n s' t := by
  unfold leavesSkim at h ⊢
  rw [← queue]
  refine ⟨h.1, fun mem => ⟨fun m hm other waits out least => ?_, fun all => ?_⟩⟩
  · exact (h.2 mem).1 m hm other (by rw [others m other]; exact waits) out
      fun k hk less ne limit => least k hk less ne (by rw [← others k ne]; exact limit)
  · exact (h.2 mem).2 fun m hm other limit => all m hm other (by rw [← others m other]; exact limit)

end Sys2Proof.Machine
end

section
/-!
The requests that write tag ranges, custody places, templates and tills (R35, R40, R80, R99, R101).
-/

namespace Sys2Proof.Machine

open Sys2Proof

set_option Elab.async false

section Bodies

variable {u : State} {cred : Nat}

theorem setTagRange_enables {i a b : Nat} {p : RangePurpose} (authorised : authority supervisorAtOffice [cred] u = .ok ())
    (thawed : u.csc.freeze = false) (entry : i ≤ 7) (low : 1 ≤ a) (ordered : a ≤ b) (high : b ≤ 99999999)
    (clear : ∀ j ∈ slotNumbers, j ≠ i → (u.tagRange j).enabled = true → b < (u.tagRange j).first ∨ (u.tagRange j).last < a) :
    setTagRange i true (some a) (some b) (some p) cred u =
      .ok ⟨putRange i ⟨true, a, b, p⟩ u, .ok, rangeFields (putRange i ⟨true, a, b, p⟩ u)⟩ := by
  have first : (some a).filter validTagNo = some a := by simp [validTagNo, low]; omega
  have last : (some b).filter validTagNo = some b := by simp [validTagNo, high]; omega
  have apart : overlappingEntry i a b u = none := by
    refine List.find?_eq_none.mpr fun j hj => ?_
    by_cases other : j = i
    · simp [other]
    · cases on : (u.tagRange j).enabled
      · simp
      · have gap := clear j hj other on
        simp only [Bool.and_eq_true, decide_eq_true_eq]
        omega
  exact (passed authorised).trans ((pass (by simp [thawed])).trans ((pass (decide_eq_true entry)).trans
    ((found first).trans ((found last).trans ((found rfl).trans ((pass (decide_eq_true ordered)).trans
      ((pass (by rw [apart]; rfl)).trans rfl)))))))

theorem setTagRange_disables {i : Nat} {a b : Option Nat} {p : Option RangePurpose}
    (authorised : authority supervisorAtOffice [cred] u = .ok ()) (thawed : u.csc.freeze = false) (entry : i ≤ 7) :
    setTagRange i false a b p cred u = .ok ⟨putRange i { u.tagRange i with enabled := false } u, .ok,
      rangeFields (putRange i { u.tagRange i with enabled := false } u)⟩ :=
  (passed authorised).trans ((pass (by simp [thawed])).trans ((pass (decide_eq_true entry)).trans rfl))

theorem moveBag_ok {r : Nat} {d : MoveDest} {b : Bag} (authorised : authority custodianAtOffice [cred] u = .ok ()) (low : 1 ≤ r)
    (high : r ≤ 1024) (held : u.bag r = some b) (door : u.csc.strongroom.state = .opened) (live : b.state.live = true)
    (still : b.state ≠ .counting) (way : d = .strongroom ∧ b.custody = .bench ∨ d = .bench ∧ b.custody = .strongroom) :
    moveBag r (some d) cred u =
      .ok ⟨putBag r { b with custody := destPlace d } u, .ok, [.one (placeAtoms (destPlace d))]⟩ := by
  refine (passed authorised).trans ((pass (by simp [validRef, low, high])).trans ((found rfl).trans ((found held).trans
    ((pass (decide_eq_true door)).trans ((pass (by simp [live, still])).trans ((pass ?_).trans ((pass ?_).trans rfl)))))))
  · rcases way with ⟨rfl, place⟩ | ⟨rfl, place⟩ <;> simp [place]
  · rcases way with ⟨rfl, place⟩ | ⟨rfl, place⟩ <;> simp [place]

theorem inUse_iff (d : Denom) : d.inUse = true ↔ d ≠ .unused := by
  cases d <;> simp [Denom.inUse]

theorem setTemplate_ok {n : Nat} {l : List SlotLine} (authorised : authority supervisorAtOffice [cred] u = .ok ()) (entry : n ≤ 7)
    (few : l.length ≤ 8) (lines : ∀ x ∈ l, x.slot ≤ 7 ∧ 1 ≤ x.count ∧ x.count ≤ 999999 ∧ u.denom x.slot ≠ .unused)
    (once : (l.map SlotLine.slot).Nodup) : setTemplate n l cred u =
      .ok ⟨{ u with tau.templates := Table.set [] u.tau.templates n l }, .ok, [.many (lineItems l), fAmount (templateValue l u)]⟩ := by
  have listed : (l.all (fun x => decide (x.slot ≤ 7) && decide (1 ≤ x.count) && decide (x.count ≤ maxPieces)
      && (u.denom x.slot).inUse)) = true := List.all_eq_true.mpr fun x hx => by
    obtain ⟨slot, some, range, used⟩ := lines x hx
    simp [slot, some, maxPieces, range, (inUse_iff _).mpr used]
  exact (passed authorised).trans ((pass (by rw [listed, distinct_of_nodup once]; simp [entry, few])).trans rfl)

/-- R99: the till that SET_TILL tests. -/
def limitSet (n : Nat) (v : Int) (u : State) : State := overLimitTest n (putTill n { u.till n with limit := v } u)

theorem amountAtLeastZero_of {v : Int} (low : 0 ≤ v) (high : v ≤ 999999999999) : amountAtLeastZero (some v) = some v := by
  have range : amountInRange v = true := by
    rw [amountInRange, Bool.and_eq_true]
    exact ⟨decide_eq_true (show -999999999999 ≤ v by omega), decide_eq_true (show v ≤ 999999999999 from high)⟩
  rw [amountAtLeastZero, amountArg_of_inRange range]
  simp [low]

theorem validTill_of {n : Nat} (low : 1 ≤ n) (high : n ≤ 128) : validTill n = true := by simp [validTill, low, high]

theorem setTill_ok {n : Nat} {v : Int} (authorised : authority supervisorAtOffice [cred] u = .ok ()) (low : 1 ≤ n) (high : n ≤ 128)
    (least : 0 ≤ v) (most : v ≤ 999999999999) : setTill n (some v) cred u =
      .ok ⟨limitSet n v u, .ok, [fAmount ((limitSet n v u).till n).limit, fFlag ((limitSet n v u).till n).overLimit]⟩ :=
  (passed authorised).trans ((pass (validTill_of low high)).trans ((found (amountAtLeastZero_of least most)).trans rfl))

theorem releaseTill_ok {n : Nat} (authorised : authority supervisorAtOffice [cred] u = .ok ()) (low : 1 ≤ n) (high : n ≤ 128)
    (hold : (u.till n).hold = true) : releaseTill n cred u = .ok ⟨putTill n { u.till n with hold := false } u, .ok, []⟩ :=
  (passed authorised).trans ((pass (validTill_of low high)).trans ((pass hold).trans rfl))

end Bodies

/-! ## The over-limit test of SET_TILL -/

theorem limitSet_till (n m : Nat) (v : Int) (u : State) : (limitSet n v u).till m =
    if m = n then
      (if (u.till n).state = .issued then
        { u.till n with limit := v, overLimit := ({ u.till n with limit := v } : Till).isOver }
      else { u.till n with limit := v })
    else u.till m := by
  rw [limitSet, overLimitTest_till]
  by_cases same : m = n
  · simp [same]
  · simp [same]

/-- R98: notices raised leave the rest of the Host Port. -/
theorem notifyAll_onlyNotices (l : List Notice) (s : State) : onlyNotices s (notifyAll l s) := by
  induction l generalizing s with
  | nil => exact rfl
  | cons n l ih =>
    have first : onlyNotices s (notify n.kind n.fields s) := by
      rw [notify_eq]
      unfold notify onlyNotices
      split
      · split <;> rfl
      · rfl
    unfold onlyNotices at first ih ⊢
    rw [notifyAll_cons, ih, first]

theorem onlyNotices_of_notifyAll {s t : State} {l : List Notice} (h : t.hpt = (notifyAll l s).hpt) : onlyNotices s t := by
  have only := notifyAll_onlyNotices l s
  unfold onlyNotices at only ⊢
  rw [h]
  exact only

/-- R97: the over-limit test writes the tills, the skim queue and notices. -/
theorem overLimitTest_frame (n : Nat) (u : State) :
    overLimitTest n u = { u with tau := (overLimitTest n u).tau, hpt := (overLimitTest n u).hpt } := by
  apply State.eq_of_blocks <;> simp

theorem limitSet_frame (n : Nat) (v : Int) (u : State) : limitSet n v u = { u with tau := (limitSet n v u).tau, hpt := (limitSet n v u).hpt } ∧
    onlyNotices u (limitSet n v u) ∧ (limitSet n v u).tau.templates = u.tau.templates ∧
    (limitSet n v u).tau.postings = u.tau.postings :=
  ⟨overLimitTest_frame n (putTill n { u.till n with limit := v } u),
    onlyNotices_of_notifyAll ((overLimitTest_hpt ..).trans (notifyAll_hpt_congr _ _ u rfl)), by simp [limitSet], by simp [limitSet]⟩

theorem limitSet_of_notIssued {n : Nat} {v : Int} {u : State} (h : (u.till n).state ≠ .issued) :
    limitSet n v u = putTill n { u.till n with limit := v } u :=
  overLimitTest_of_notIssued (by rw [putTill_till, if_pos rfl]; exact h)

theorem limitSet_hpt (n : Nat) (v : Int) (u : State) :
    (limitSet n v u).hpt = (notifyAll (skimAlerts u.tau.skimQueue (limitSet n v u).tau.skimQueue) u).hpt :=
  (overLimitTest_hpt ..).trans (notifyAll_hpt_congr _ _ _ rfl)

/-- R97, R98: the queue after SET_TILL of an ISSUED till. -/
theorem limitSet_queue {n : Nat} {v : Int} {u : State} (issued : (u.till n).state = .issued) :
    (({ u.till n with limit := v } : Till).isOver = true → (limitSet n v u).tau.skimQueue =
      if n ∈ u.tau.skimQueue ∨ 16 ≤ u.tau.skimQueue.length then u.tau.skimQueue else u.tau.skimQueue ++ [n]) ∧
    (({ u.till n with limit := v } : Till).isOver = false → n ∉ (limitSet n v u).tau.skimQueue ∧
      (u.tau.skimQueue.length ≤ 16 → leavesSkim n u (limitSet n v u))) := by
  have till : (putTill n { u.till n with limit := v } u).till n = { u.till n with limit := v } := by simp
  obtain ⟨joins, leaves⟩ := overLimitTest_queue (n := n) (s := putTill n { u.till n with limit := v } u) (by rw [till]; exact issued)
  rw [till] at joins leaves
  refine ⟨joins, fun within => ⟨(leaves within).1, fun room => ?_⟩⟩
  have others : ∀ m, m ≠ n → ((putTill n { u.till n with limit := v } u).till m).overLimit = (u.till m).overLimit := fun m other => by
    simp [other]
  exact leavesSkim_congr (s := putTill n { u.till n with limit := v } u) rfl others ((leaves within).2 room)

end Sys2Proof.Machine

namespace Sys2Proof.Proofs.Tills

open Sys2Proof Sys2Proof.Machine

/-- Settles O33. -/
theorem tagRangesAndMoves : Obligations.TagRangesAndMoves := by
  unfold Obligations.TagRangesAndMoves
  refine fun s tag cred => ⟨fun i a b p taken present thawed entry low ordered high clear => ?_,
    fun i a b p taken present thawed entry => ?_, fun r d b taken present low high held door live still way => ?_⟩
  · exact ⟨putRange i ⟨true, a, b, p⟩ (takeFrom s), exec_ok rfl taken
      (setTagRange_enables (supervisorAtOffice_ok cred s present) thawed entry low ordered high clear), rfl, fun j => putRange_tagRange ..⟩
  · exact ⟨putRange i { s.tagRange i with enabled := false } (takeFrom s), exec_ok rfl taken
      (setTagRange_disables (supervisorAtOffice_ok cred s present) thawed entry), rfl, fun j => putRange_tagRange ..⟩
  · exact ⟨putBag r { b with custody := destPlace d } (takeFrom s), exec_ok rfl taken
      (moveBag_ok (custodianAtOffice_ok cred s present) low high held door live still way), rfl, fun q => putBag_bag ..⟩

/-- Settles O34. -/
theorem tillSettings : Obligations.TillSettings := by
  unfold Obligations.TillSettings
  refine fun s tag n cred present => ⟨fun l taken entry few lines once => ?_, fun v taken low high least most => ?_,
    fun taken low high hold => ?_⟩
  · refine ⟨{ takeFrom s with tau.templates := Table.set [] s.tau.templates n l }, exec_ok rfl taken
      (setTemplate_ok (supervisorAtOffice_ok cred s present) entry few lines once), rfl, templateValue_eq l s, templateValue_inRange l s,
      rfl, fun m => ?_⟩
    exact Table.get_set ..
  · have ok := exec_ok (i := .setTill tag n (some v) cred) rfl taken
      (setTill_ok (u := takeFrom s) (supervisorAtOffice_ok cred s present) low high least most)
    have tills := fun m => limitSet_till n m v (takeFrom s)
    have hpt := limitSet_hpt n v (takeFrom s)
    have quiet := limitSet_of_notIssued (n := n) (v := v) (u := takeFrom s)
    have queue := limitSet_queue (n := n) (v := v) (u := takeFrom s)
    obtain ⟨frame, notices, templates, postings⟩ := limitSet_frame n v (takeFrom s)
    have limit : ((limitSet n v (takeFrom s)).till n).limit = v := by
      rw [tills, if_pos rfl]
      split <;> rfl
    rw [limit] at ok
    have kept : (s.till n).state ≠ .issued → (limitSet n v (takeFrom s)).tau.skimQueue = s.tau.skimQueue := fun out => by
      rw [quiet out]
      rfl
    generalize limitSet n v (takeFrom s) = t at *
    refine ⟨t, ok, fun out => ⟨?_, kept out⟩, fun issued => ⟨?_, fun limit new room => ⟨?_, ?_⟩, fun limit stays => ?_, fun within => ?_⟩,
      fun m other => ?_, frame, notices, templates, postings⟩
    · rw [tills, if_pos rfl]
      exact if_neg out
    · rw [tills, if_pos rfl]
      exact if_pos issued
    · exact ((queue issued).1 limit).trans (if_neg (by simp only [not_or, not_le]; exact ⟨new, room⟩))
    · have joined : t.tau.skimQueue = s.tau.skimQueue ++ [n] :=
        ((queue issued).1 limit).trans (if_neg (by simp only [not_or, not_le]; exact ⟨new, room⟩))
      rw [hpt, joined]
      refine (congrArg (fun l => (notifyAll l (takeFrom s)).hpt) (skimAlerts_of_join new)).trans ?_
      by_cases few : s.tau.skimQueue.length < 3
      · rw [if_pos few, if_neg (by omega)]
        rfl
      · rw [if_neg few, if_pos (by omega)]
        rfl
    · exact ((queue issued).1 limit).trans (if_pos stays)
    · exact (queue issued).2 within
    · rw [tills, if_neg other, takeFrom_till]
  · exact ⟨putTill n { s.till n with hold := false } (takeFrom s), exec_ok rfl taken
      (releaseTill_ok (supervisorAtOffice_ok cred s present) low high hold), rfl, fun m => putTill_till ..⟩

end Sys2Proof.Proofs.Tills
end

section
/-!
Floats and takings (R81 to R86), postings to a till (R87) and its query (R102).
-/

namespace Sys2Proof.Machine

open Sys2Proof

set_option Elab.async false

/-! ## What a line takes from stock -/

/-- R82: the straps broken cover what loose notes do not, and one fewer would not. -/
theorem strapsBroken_spec (loose count k : Nat) (hk : 10 ≤ k) :
    count ≤ loose + strapsBroken loose count k * k ∧ (count ≤ loose → strapsBroken loose count k = 0) ∧
    (loose < count → (strapsBroken loose count k - 1) * k + loose < count) := by
  have positive : 0 < k := by omega
  have div := Nat.div_add_mod (count - loose + (k - 1)) k
  have rest := Nat.mod_lt (count - loose + (k - 1)) positive
  unfold strapsBroken
  generalize hb : (count - loose + (k - 1)) / k = b at div
  generalize (count - loose + (k - 1)) % k = x at div rest
  refine ⟨?_, fun covered => ?_, fun short => ?_⟩
  · rw [Nat.mul_comm] at div
    omega
  · rw [← hb]
    exact Nat.div_eq_of_lt (by omega)
  · rw [Nat.sub_mul, Nat.one_mul, Nat.mul_comm b k]
    omega

theorem takeLine_coin {l : SlotLine} {s : State} {c : StockChange} {b f : Nat} (coin : s.denom l.slot = .coin f)
    (h : takeLine l s = some (c, b)) : c = ⟨l.slot, 0, 0, 0, -(l.count : Int)⟩ ∧ b = 0 ∧ l.count ≤ (s.slotStock l.slot).coin := by
  simp only [takeLine, coin] at h
  split at h
  · next covered =>
      obtain ⟨rfl, rfl⟩ := Prod.mk.inj (Option.some.inj h)
      exact ⟨rfl, rfl, covered⟩
  · cases h

theorem takeLine_note {l : SlotLine} {s : State} {c : StockChange} {b f k : Nat} (note : s.denom l.slot = .note f k)
    (h : takeLine l s = some (c, b)) : b = strapsBroken (s.slotStock l.slot).loose l.count k ∧
      c = ⟨l.slot, -((b * k : Nat) : Int), ((b * k : Nat) : Int) - (l.count : Int), 0, 0⟩ := by
  simp only [takeLine, note] at h
  split at h
  · obtain ⟨rfl, rfl⟩ := Prod.mk.inj (Option.some.inj h)
    exact ⟨rfl, rfl⟩
  · cases h

theorem takeLine_slot {l : SlotLine} {s : State} {c : StockChange} {b : Nat} (h : takeLine l s = some (c, b)) :
    c.slot = l.slot ∧ c.unfit = 0 := by
  cases slot : s.denom l.slot with
  | unused => simp [takeLine, slot] at h
  | coin f =>
    obtain ⟨rfl, -, -⟩ := takeLine_coin slot h
    exact ⟨rfl, rfl⟩
  | note f k =>
    obtain ⟨-, rfl⟩ := takeLine_note slot h
    exact ⟨rfl, rfl⟩

/-! ## The requests -/

section Bodies

variable {u : State}

theorem validTagNo_of {g : Nat} (low : 1 ≤ g) (high : g ≤ 99999999) : validTagNo g = true := by simp [validTagNo, low, high]

theorem requireTag_of {g : Nat} {p : Purpose} (h : tagCheck g p u = .ok) : requireTag g p u = .ok () := by
  simp [requireTag, h]

theorem requireAllocation_of {r : Nat} {w : State} (space : 8 < u.available) (slot : allocate u = some (r, w)) :
    requireAllocation u = .ok (r, w) := by
  simp [requireAllocation, State.canAllocate, space, slot]

theorem ok_bind {α β : Type} {c : Check α} {a : α} {k : α → Check β} (h : c = .ok a) : (c >>= k) = k a := by
  rw [h]
  rfl

theorem makeFloat_ok {n m g cred r : Nat} {w : State} {taken : List (StockChange × Nat)}
    (authorised : authority custodianAtOffice [cred] u = .ok ()) (low : 1 ≤ n) (high : n ≤ 128) (entry : m ≤ 7) (tagLow : 1 ≤ g)
    (tagHigh : g ≤ 99999999) (lines : u.template m ≠ []) (day : u.acu.day = .dayOpen)
    (state : (u.till n).state = .idle ∨ (u.till n).state = .reconciled ∧ (u.till n).session < 9) (free : (u.till n).hold = false)
    (used : ∀ l ∈ u.template m, u.denom l.slot ≠ .unused) (tag : tagCheck g .float u = .ok) (room : 9 ≤ u.journalFree)
    (covered : takeLines (u.template m) u = .ok taken) (space : 8 < u.available) (slot : allocate u = some (r, w)) :
    ∃ f, makeFloat n m g cred u = .ok ⟨floatMade n r g (u.template m) taken u w, .ok, f⟩ := by
  have fields : (decide (m ≤ 7) && validTagNo g) = true := by simp [entry, validTagNo_of tagLow tagHigh]
  have some : (!(u.template m).isEmpty) = true := by simpa using lines
  have rests : (decide ((u.till n).state = .idle) || decide ((u.till n).state = .reconciled)) = true := by
    rcases state with idle | ⟨reconciled, -⟩ <;> simp [*]
  have sessions : (!(decide ((u.till n).state = .reconciled) && decide (9 ≤ (u.till n).session))) = true := by
    rcases state with idle | ⟨reconciled, few⟩
    · simp [idle]
    · simp [reconciled, few]
  have suits : (firstFailing (fun l : SlotLine => (u.denom l.slot).inUse) (u.template m)).isNone = true := by
    rw [firstFailing_none fun l hl => (inUse_iff _).mpr (used l hl)]
    rfl
  exact ⟨_, (passed authorised).trans ((pass (validTill_of low high)).trans ((pass fields).trans ((pass some).trans
    ((pass (decide_eq_true day)).trans ((pass rests).trans ((pass (by rw [free]; rfl)).trans ((pass sessions).trans
      ((pass suits).trans ((passed (requireTag_of tag)).trans ((pass (hostRoom (n := 1) room)).trans ((ok_bind covered).trans
        ((ok_bind (requireAllocation_of space slot)).trans rfl))))))))))))⟩

theorem floatBag_of {n r : Nat} {b : Bag} (holds : (u.till n).floatBag = some r) (held : u.bag r = some b) :
    u.floatBag n = some (r, b) := by
  simp [State.floatBag, holds, held]

/-- R84: the state that UNMAKE_FLOAT leaves. -/
def floatUnmade (n r : Nat) (b : Bag) (u : State) : State :=
  putTill n (unmadeTill (u.till n)) (retireBag r { b with state := .emptied } (applyMovement (unmakeMovement n r b u) u))

theorem unmakeFloat_ok {n cred r : Nat} {b : Bag} (authorised : authority custodianAtOffice [cred] u = .ok ()) (low : 1 ≤ n)
    (high : n ≤ 128) (day : u.acu.day = .dayOpen) (ready : (u.till n).state = .floatReady) (holds : (u.till n).floatBag = some r)
    (held : u.bag r = some b) (place : b.custody = .bench) (room : 9 ≤ u.journalFree)
    (fits : stockCheck (unmakeMovement n r b u) u = none) : ∃ f, unmakeFloat n cred u = .ok ⟨floatUnmade n r b u, .ok, f⟩ :=
  ⟨_, (passed authorised).trans ((pass (validTill_of low high)).trans ((pass (by simp [day, ready])).trans
    ((found (floatBag_of holds held)).trans ((pass (decide_eq_true place)).trans ((pass (hostRoom (n := 1) room)).trans
      ((pass (Option.isNone_iff_eq_none.mpr fits)).trans rfl))))))⟩

/-- R85: the state that ISSUE_FLOAT leaves. -/
def floatIssued (n r cashier : Nat) (b : Bag) (u : State) : State :=
  overLimitTest n (putTill n ((u.till n).issue cashier b.book)
    (retireBag r { b with state := .issued, custody := .till n } (applyMovement (issueMovement n r b) u)))

theorem issueFloat_ok {n cashier custodian r : Nat} {b : Bag}
    (authorised : authority cashierWithCustodian [cashier, custodian] u = .ok ()) (low : 1 ≤ n) (high : n ≤ 128)
    (day : u.acu.day = .dayOpen) (ready : (u.till n).state = .floatReady) (free : (u.till n).hold = false)
    (holds : (u.till n).floatBag = some r) (held : u.bag r = some b) (place : b.custody = .bench) (room : 9 ≤ u.journalFree) :
    issueFloat n cashier custodian u = .ok ⟨floatIssued n r cashier b u, .ok, [fAmount b.book]⟩ :=
  (passed authorised).trans ((pass (validTill_of low high)).trans ((pass (decide_eq_true day)).trans ((pass (decide_eq_true ready)).trans
    ((pass (by rw [free]; rfl)).trans ((found (floatBag_of holds held)).trans ((pass (decide_eq_true place)).trans
      ((pass (hostRoom (n := 1) room)).trans rfl)))))))

theorem receiveTakings_ok {n g cashier custodian r : Nat} {v : Int} {w : State}
    (authorised : authority cashierWithCustodian [cashier, custodian] u = .ok ()) (low : 1 ≤ n) (high : n ≤ 128) (tagLow : 1 ≤ g)
    (tagHigh : g ≤ 99999999) (least : 0 ≤ v) (most : v ≤ 999999999999) (day : u.acu.day = .dayOpen)
    (issued : (u.till n).state = .issued) (tag : tagCheck g .takings u = .ok) (room : 9 ≤ u.journalFree)
    (range : amountInRange (u.acu.accountability + v) = true) (space : 8 < u.available) (slot : allocate u = some (r, w)) :
    receiveTakings n g (some v) cashier custodian u = .ok ⟨takingsReceived n r g cashier v u w, .ok, [fRef (some r)]⟩ :=
  (passed authorised).trans ((pass (validTill_of low high)).trans ((pass (validTagNo_of tagLow tagHigh)).trans
    ((found (amountAtLeastZero_of least most)).trans ((pass (decide_eq_true day)).trans ((pass (decide_eq_true issued)).trans
      ((passed (requireTag_of tag)).trans ((pass (hostRoom (n := 1) room)).trans ((pass range).trans
        ((ok_bind (requireAllocation_of space slot)).trans rfl)))))))))

theorem postEntry_ok {n : Nat} {k : PostingKind} {v : Int} {g : Option Nat} (low : 1 ≤ n) (high : n ≤ 128) (some' : 0 < v)
    (most : v ≤ 999999999999) (tag : k = .skim → ∃ x, g = some x ∧ 1 ≤ x ∧ x ≤ 99999999) (room : u.tau.postings.length < 64) :
    postEntry n (some k) (some v) g u =
      .ok ⟨{ u with tau.postings := u.tau.postings ++ [⟨n, k, v, if k = .skim then g else none⟩] }, .ok,
        [fNum 1 (u.tau.postings.length + 1)]⟩ := by
  have amount : amountPositive (some v) = some v := by
    have range : amountInRange v = true := by
      rw [amountInRange, Bool.and_eq_true]
      exact ⟨decide_eq_true (show -999999999999 ≤ v by omega), decide_eq_true (show v ≤ 999999999999 from most)⟩
    rw [amountPositive, amountArg_of_inRange range]
    simp [some']
  have tagged : postTagOk k g = true := by
    cases k
    case skim =>
      obtain ⟨x, rfl, tagLow, tagHigh⟩ := tag rfl
      exact validTagNo_of tagLow tagHigh
    all_goals rfl
  exact (pass (validTill_of low high)).trans ((found rfl).trans ((found amount).trans ((pass tagged).trans
    ((pass (decide_eq_true room)).trans rfl))))

end Bodies

/-! ## The states they leave -/

/-- R49: a movement that charges no account leaves the tills, the templates, the postings and the skim queue. -/
theorem applyMovement_tau_of_none {m : Movement} (s : State) (h : m.charge = none) : (applyMovement m s).tau = s.tau := by
  rw [applyMovement_tau, h]
  rfl

theorem putTill_onlyChutes (n : Nat) (t : Till) (s : State) : onlyChutes s (putTill n t s) := onlyChutes_of_eq _ _ rfl rfl rfl

/-- R98: the over-limit test raises notices and moves no chute. -/
theorem overLimitTest_onlyChutes (n : Nat) (s : State) : onlyChutes s (overLimitTest n s) := by
  have notices := onlyNotices_of_notifyAll (overLimitTest_hpt n s)
  refine ⟨notices, by simp, by simp, fun m => ?_⟩
  have safe : (overLimitTest n s).safe m = s.safe m := by simp [State.safe]
  rw [safe]
  exact ⟨rfl, rfl, rfl, rfl, rfl⟩

section FloatMade

variable {n r g : Nat} {lines : List SlotLine} {taken : List (StockChange × Nat)} {u w : State}

theorem floatMade_acu (slot : allocate u = some (r, w)) : (floatMade n r g lines taken u w).acu =
    { u.acu with
      stock := (taken.map Prod.fst).foldl applyStock u.acu.stock
      journal := u.acu.journal ++ [nextEntry u .stockToBag (some r) (some n) (linesValue lines u) 0]
      nextSeq := seqAfter u.acu.nextSeq } := by
  obtain ⟨-, -, -, -, acu, -⟩ := allocate_keeps u w r slot
  have same : ∀ b, (recordBag r b w).acu = u.acu := fun b => by simp [acu]
  unfold floatMade
  simp only [putTill_fields]
  rw [applyMovement_acu_eq, same]
  simp [floatMovement, Movement.delta, writtenEntries, nextEntry, seqAfterAll, acu]

theorem floatMade_tau (slot : allocate u = some (r, w)) : (floatMade n r g lines taken u w).tau =
    { u.tau with tills := Table.set Till.initial u.tau.tills n (floatTill r lines (u.till n)) } := by
  obtain ⟨-, -, -, -, -, tau, -⟩ := allocate_keeps u w r slot
  have same : ∀ m b, m.charge = none → (applyMovement m (recordBag r b w)).tau = u.tau := fun m b none => by
    rw [applyMovement_tau_of_none _ none]
    simpa using tau
  unfold floatMade putTill
  dsimp only
  rw [same _ _ rfl]

theorem floatMade_bgr : (floatMade n r g lines taken u w).bgr = { w.bgr with
    bags := Table.set none w.bgr.bags r (some (newBag g .float (.till n (floatSession (u.till n))) none (linesValue lines u) none)) } := by
  have recorded : ∀ b, (recordBag r b w).bgr = { w.bgr with bags := Table.set none w.bgr.bags r (some b) } := fun b => by
    have synced : ∀ v, (syncTable v).bgr = v.bgr := fun v => by simp
    rw [recordBag, synced]
    rfl
  unfold floatMade
  simp only [putTill_fields, applyMovement_keeps]
  exact recorded _

theorem floatMade_frame (slot : allocate u = some (r, w)) : onlyChutes u (floatMade n r g lines taken u w) ∧
    (floatMade n r g lines taken u w).sys = u.sys ∧ (floatMade n r g lines taken u w).cru = u.cru ∧
    (floatMade n r g lines taken u w).clc = u.clc ∧ (floatMade n r g lines taken u w).rcu = u.rcu ∧
    (floatMade n r g lines taken u w).wcu = u.wcu ∧ (floatMade n r g lines taken u w).hoc = u.hoc := by
  obtain ⟨sys, -, -, cru, -, -, clc, rcu, wcu, -, hoc, -⟩ := allocate_keeps u w r slot
  refine ⟨?_, by simpa [floatMade] using sys, by simpa [floatMade] using cru, by simpa [floatMade] using clc,
    by simpa [floatMade] using rcu, by simpa [floatMade] using wcu, by simpa [floatMade] using hoc⟩
  exact onlyChutes_trans _ _ _ (allocate_onlyChutes u w r slot) (onlyChutes_trans _ _ _ (recordBag_onlyChutes ..)
    (onlyChutes_trans _ _ _ (applyMovement_onlyChutes ..) (putTill_onlyChutes ..)))

end FloatMade

section Retired

variable {n r cashier : Nat} {b : Bag} {u : State}

/-- R30: a bag that retires after a movement. -/
theorem retired_bgr (m : Movement) (c : Bag) (u : State) : (retireBag r c (applyMovement m u)).bgr =
    { u.bgr with bags := Table.set none u.bgr.bags r (some c), retired := u.bgr.retired ++ [r] } := by
  have synced : ∀ v, (syncTable v).bgr = v.bgr := fun v => by simp
  rw [retireBag, synced]
  simp [putBag]

theorem retired_frame (m : Movement) (c : Bag) (u : State) : onlyChutes u (retireBag r c (applyMovement m u)) ∧
    (retireBag r c (applyMovement m u)).sys = u.sys ∧ (retireBag r c (applyMovement m u)).cru = u.cru ∧
    (retireBag r c (applyMovement m u)).clc = u.clc ∧ (retireBag r c (applyMovement m u)).rcu = u.rcu ∧
    (retireBag r c (applyMovement m u)).wcu = u.wcu ∧ (retireBag r c (applyMovement m u)).hoc = u.hoc :=
  ⟨onlyChutes_trans _ _ _ (applyMovement_onlyChutes m u) (retireBag_onlyChutes ..), by simp, by simp, by simp, by simp, by simp, by simp⟩

theorem retired_tau {m : Movement} (c : Bag) (u : State) (h : m.charge = none) : (retireBag r c (applyMovement m u)).tau = u.tau := by
  have same : ∀ v, (retireBag r c v).tau = v.tau := fun v => by simp
  rw [same, applyMovement_tau_of_none u h]

theorem retired_acu (m : Movement) (c : Bag) (u : State) : (retireBag r c (applyMovement m u)).acu = (applyMovement m u).acu := by simp

theorem floatUnmade_acu : (floatUnmade n r b u).acu =
    { u.acu with
      stock := ((u.till n).floatLines.map (giveLine u)).foldl applyStock u.acu.stock
      journal := u.acu.journal ++ [nextEntry u .unmake (some r) (some n) b.book 0]
      nextSeq := seqAfter u.acu.nextSeq } := by
  unfold floatUnmade
  simp only [putTill_fields]
  rw [retired_acu, applyMovement_acu_eq]
  simp [unmakeMovement, Movement.delta, writtenEntries, nextEntry, seqAfterAll]

theorem floatUnmade_tau : (floatUnmade n r b u).tau =
    { u.tau with tills := Table.set Till.initial u.tau.tills n (unmadeTill (u.till n)) } := by
  unfold floatUnmade putTill
  dsimp only
  rw [retired_tau _ _ rfl]

theorem floatIssued_acu : (floatIssued n r cashier b u).acu =
    { u.acu with
      accountability := u.acu.accountability - b.book
      journal := u.acu.journal ++ [nextEntry u .bagOut (some r) (some n) (-b.book) (-b.book)]
      nextSeq := seqAfter u.acu.nextSeq } := by
  unfold floatIssued
  simp only [overLimitTest_keeps, putTill_fields]
  rw [retired_acu, applyMovement_acu_eq]
  simp [issueMovement, entriesOnly, Movement.delta, writtenEntries, nextEntry, seqAfterAll, sub_eq_add_neg]

theorem floatUnmade_bgr : (floatUnmade n r b u).bgr = { u.bgr with
    bags := Table.set none u.bgr.bags r (some { b with state := .emptied }), retired := u.bgr.retired ++ [r] } := by
  unfold floatUnmade
  rw [(putTill_fields ..).2.2.2.2.2.1]
  exact retired_bgr ..

theorem floatUnmade_frame : onlyChutes u (floatUnmade n r b u) ∧ (floatUnmade n r b u).sys = u.sys ∧ (floatUnmade n r b u).cru = u.cru ∧
    (floatUnmade n r b u).clc = u.clc ∧ (floatUnmade n r b u).rcu = u.rcu ∧ (floatUnmade n r b u).wcu = u.wcu ∧
    (floatUnmade n r b u).hoc = u.hoc := by
  obtain ⟨chutes, sys, cru, clc, rcu, wcu, hoc⟩ := retired_frame (r := r) (unmakeMovement n r b u) { b with state := .emptied } u
  unfold floatUnmade
  generalize retireBag r { b with state := .emptied } (applyMovement (unmakeMovement n r b u) u) = v at *
  exact ⟨onlyChutes_trans _ _ _ chutes (putTill_onlyChutes ..), sys, cru, clc, rcu, wcu, hoc⟩

/-- R85: the till issued, before the over-limit test. -/
def issuedState (n r cashier : Nat) (b : Bag) (u : State) : State :=
  putTill n ((u.till n).issue cashier b.book)
    (retireBag r { b with state := .issued, custody := .till n } (applyMovement (issueMovement n r b) u))

theorem floatIssued_eq : floatIssued n r cashier b u = overLimitTest n (issuedState n r cashier b u) := rfl

theorem issuedState_tau : (issuedState n r cashier b u).tau =
    { u.tau with tills := Table.set Till.initial u.tau.tills n ((u.till n).issue cashier b.book) } := by
  unfold issuedState putTill
  dsimp only
  rw [retired_tau _ _ rfl]

theorem issuedState_till (k : Nat) : (issuedState n r cashier b u).till k =
    if k = n then (u.till n).issue cashier b.book else u.till k := by
  rw [State.till, issuedState_tau]
  dsimp only
  rw [Table.get_set]
  rfl

theorem floatIssued_till (k : Nat) : (floatIssued n r cashier b u).till k =
    if k = n then { (u.till n).issue cashier b.book with overLimit := ((u.till n).issue cashier b.book).isOver } else u.till k := by
  have state : ((u.till n).issue cashier b.book).state = .issued := rfl
  rw [floatIssued_eq, overLimitTest_till, issuedState_till, issuedState_till, if_pos rfl, state]
  by_cases same : k = n <;> simp [same]

/-- R85, R98: the notices of ISSUE_FLOAT: those of the chutes, and then that of the skim queue. -/
theorem floatIssued_hpt : ∃ chutes : List Notice, (∀ x ∈ chutes, x.kind = .chuteLocked) ∧ (floatIssued n r cashier b u).hpt =
    (notifyAll (chutes ++ skimAlerts u.tau.skimQueue (floatIssued n r cashier b u).tau.skimQueue) u).hpt := by
  obtain ⟨first, firstKinds, first_hpt⟩ := applyMovement_notices (issueMovement n r b) u
  obtain ⟨second, secondKinds, second_hpt⟩ :=
    retireBag_notices r { b with state := .issued, custody := .till n } (applyMovement (issueMovement n r b) u)
  have queue : (issuedState n r cashier b u).tau.skimQueue = u.tau.skimQueue := by rw [issuedState_tau]
  refine ⟨first ++ second, fun x hx => (List.mem_append.mp hx).elim (firstKinds x) (secondKinds x), ?_⟩
  have issued : (issuedState n r cashier b u).hpt = (notifyAll (first ++ second) u).hpt := by
    unfold issuedState
    rw [(putTill_fields ..).2.1]
    exact notifyAll_trans _ _ _ _ _ first_hpt second_hpt
  refine notifyAll_trans _ _ _ _ _ issued ?_
  rw [floatIssued_eq, ← queue]
  exact overLimitTest_hpt ..

theorem floatIssued_frame : onlyChutes u (floatIssued n r cashier b u) ∧
    (floatIssued n r cashier b u).sys = u.sys ∧ (floatIssued n r cashier b u).cru = u.cru ∧
    (floatIssued n r cashier b u).clc = u.clc ∧ (floatIssued n r cashier b u).rcu = u.rcu ∧
    (floatIssued n r cashier b u).wcu = u.wcu ∧ (floatIssued n r cashier b u).hoc = u.hoc := by
  obtain ⟨chutes, sys, cru, clc, rcu, wcu, hoc⟩ :=
    retired_frame (r := r) (issueMovement n r b) { b with state := .issued, custody := .till n } u
  exact ⟨onlyChutes_trans _ _ _ chutes (onlyChutes_trans _ _ _ (putTill_onlyChutes ..) (overLimitTest_onlyChutes ..)),
    by simp [floatIssued], by simp [floatIssued], by simp [floatIssued], by simp [floatIssued], by simp [floatIssued],
    by simp [floatIssued]⟩

/-- R97, R98: the queue after ISSUE_FLOAT, by the test of the till as issued. -/
theorem floatIssued_queue : (((u.till n).issue cashier b.book).isOver = true → (floatIssued n r cashier b u).tau.skimQueue =
      if n ∈ u.tau.skimQueue ∨ 16 ≤ u.tau.skimQueue.length then u.tau.skimQueue else u.tau.skimQueue ++ [n]) ∧
    (((u.till n).issue cashier b.book).isOver = false → n ∉ (floatIssued n r cashier b u).tau.skimQueue ∧
      (u.tau.skimQueue.length ≤ 16 → leavesSkim n u (floatIssued n r cashier b u))) := by
  have till : (issuedState n r cashier b u).till n = (u.till n).issue cashier b.book := by rw [issuedState_till, if_pos rfl]
  have queue : (issuedState n r cashier b u).tau.skimQueue = u.tau.skimQueue := by rw [issuedState_tau]
  obtain ⟨joins, leaves⟩ := overLimitTest_queue (n := n) (s := issuedState n r cashier b u) (by rw [till]; rfl)
  rw [till, queue, ← floatIssued_eq] at joins leaves
  refine ⟨joins, fun within => ⟨(leaves within).1, fun room => ?_⟩⟩
  have others : ∀ m, m ≠ n → ((issuedState n r cashier b u).till m).overLimit = (u.till m).overLimit := fun m other => by
    rw [issuedState_till, if_neg other]
  exact leavesSkim_congr queue others ((leaves within).2 room)

theorem floatIssued_bgr : (floatIssued n r cashier b u).bgr = { u.bgr with
    bags := Table.set none u.bgr.bags r (some { b with state := .issued, custody := .till n }), retired := u.bgr.retired ++ [r] } := by
  unfold floatIssued
  simp only [overLimitTest_keeps, putTill_fields]
  exact retired_bgr ..

theorem floatIssued_lists : (floatIssued n r cashier b u).tau.templates = u.tau.templates ∧
    (floatIssued n r cashier b u).tau.postings = u.tau.postings := by
  simp [floatIssued]

end Retired


section Takings

variable {n r g cashier : Nat} {v : Int} {u w : State}

/-- R86: the till record as its takings come in. -/
def takenTill (t : Till) : Till := { t with state := .takingsIn, outstanding := t.outstanding + 1 }

/-- R86: the till with its takings in, before it leaves the skim queue. -/
def takingsIn (n r g cashier : Nat) (v : Int) (u w : State) : State :=
  putTill n (takenTill (u.till n))
    (applyMovement (entriesOnly .host [⟨.bagIn, some r, some n, v, v⟩])
      (recordBag r (newBag g .takings (.till n (u.till n).session) (some cashier) v (some v)) w))

theorem takingsReceived_eq : takingsReceived n r g cashier v u w = clearOverLimit n (takingsIn n r g cashier v u w) := rfl

theorem takingsIn_acu (slot : allocate u = some (r, w)) : (takingsIn n r g cashier v u w).acu =
    { u.acu with
      accountability := u.acu.accountability + v
      journal := u.acu.journal ++ [nextEntry u .bagIn (some r) (some n) v v]
      nextSeq := seqAfter u.acu.nextSeq } := by
  obtain ⟨-, -, -, -, acu, -⟩ := allocate_keeps u w r slot
  have same : ∀ b, (recordBag r b w).acu = u.acu := fun b => by simp [acu]
  unfold takingsIn
  simp only [putTill_fields]
  rw [applyMovement_acu_eq, same]
  simp [entriesOnly, Movement.delta, writtenEntries, nextEntry, seqAfterAll, acu]

theorem takingsIn_tau (slot : allocate u = some (r, w)) : (takingsIn n r g cashier v u w).tau =
    { u.tau with tills := Table.set Till.initial u.tau.tills n (takenTill (u.till n)) } := by
  obtain ⟨-, -, -, -, -, tau, -⟩ := allocate_keeps u w r slot
  have same : ∀ m b, m.charge = none → (applyMovement m (recordBag r b w)).tau = u.tau := fun m b none => by
    rw [applyMovement_tau_of_none _ none]
    simpa using tau
  unfold takingsIn putTill
  dsimp only
  rw [same _ _ rfl]

theorem takingsIn_till (slot : allocate u = some (r, w)) (k : Nat) : (takingsIn n r g cashier v u w).till k =
    if k = n then takenTill (u.till n) else u.till k := by
  rw [State.till, takingsIn_tau slot]
  dsimp only
  rw [Table.get_set]
  rfl

theorem recordBag_bgr (r : Nat) (b : Bag) (w : State) :
    (recordBag r b w).bgr = { w.bgr with bags := Table.set none w.bgr.bags r (some b) } := by
  have synced : ∀ v, (syncTable v).bgr = v.bgr := fun v => by simp
  rw [recordBag, synced]
  rfl

theorem takingsReceived_bgr : (takingsReceived n r g cashier v u w).bgr = { w.bgr with
    bags := Table.set none w.bgr.bags r (some (newBag g .takings (.till n (u.till n).session) (some cashier) v (some v))) } := by
  rw [takingsReceived_eq]
  unfold takingsIn
  simp only [clearOverLimit_keeps, putTill_fields, applyMovement_keeps]
  exact recordBag_bgr ..

/-- R98: leaving the skim queue raises notices and moves no chute. -/
theorem clearOverLimit_onlyChutes (n : Nat) (s : State) : onlyChutes s (clearOverLimit n s) := by
  have notices := onlyNotices_of_notifyAll (clearOverLimit_hpt n s)
  refine ⟨notices, by simp, by simp, fun m => ?_⟩
  have safe : (clearOverLimit n s).safe m = s.safe m := by simp [State.safe]
  rw [safe]
  exact ⟨rfl, rfl, rfl, rfl, rfl⟩

theorem takingsReceived_frame (slot : allocate u = some (r, w)) : onlyChutes u (takingsReceived n r g cashier v u w) ∧
    (takingsReceived n r g cashier v u w).sys = u.sys ∧ (takingsReceived n r g cashier v u w).cru = u.cru ∧
    (takingsReceived n r g cashier v u w).clc = u.clc ∧ (takingsReceived n r g cashier v u w).rcu = u.rcu ∧
    (takingsReceived n r g cashier v u w).wcu = u.wcu ∧ (takingsReceived n r g cashier v u w).hoc = u.hoc := by
  obtain ⟨sys, -, -, cru, -, -, clc, rcu, wcu, -, hoc, -⟩ := allocate_keeps u w r slot
  refine ⟨?_, by simpa [takingsReceived] using sys, by simpa [takingsReceived] using cru, by simpa [takingsReceived] using clc,
    by simpa [takingsReceived] using rcu, by simpa [takingsReceived] using wcu, by simpa [takingsReceived] using hoc⟩
  exact onlyChutes_trans _ _ _ (allocate_onlyChutes u w r slot) (onlyChutes_trans _ _ _ (recordBag_onlyChutes ..)
    (onlyChutes_trans _ _ _ (applyMovement_onlyChutes ..) (onlyChutes_trans _ _ _ (putTill_onlyChutes ..)
      (clearOverLimit_onlyChutes ..))))

theorem takingsReceived_queue (slot : allocate u = some (r, w)) : n ∉ (takingsReceived n r g cashier v u w).tau.skimQueue ∧
    (u.tau.skimQueue.length ≤ 16 → leavesSkim n u (takingsReceived n r g cashier v u w)) := by
  have tau := takingsIn_tau (n := n) (g := g) (cashier := cashier) (v := v) slot
  have queue : (takingsIn n r g cashier v u w).tau.skimQueue = u.tau.skimQueue := by rw [tau]
  have others : ∀ m, m ≠ n → ((takingsIn n r g cashier v u w).till m).overLimit = (u.till m).overLimit := fun m other => by
    rw [takingsIn_till slot, if_neg other]
  rw [takingsReceived_eq]
  refine ⟨not_mem_clearOverLimit n _, fun room => leavesSkim_congr queue others (clearOverLimit_leavesSkim n _ ?_)⟩
  rw [queue]
  exact room

theorem takingsReceived_acu (slot : allocate u = some (r, w)) : (takingsReceived n r g cashier v u w).acu =
    { u.acu with
      accountability := u.acu.accountability + v
      journal := u.acu.journal ++ [nextEntry u .bagIn (some r) (some n) v v]
      nextSeq := seqAfter u.acu.nextSeq } := by
  have same : ∀ x, (clearOverLimit n x).acu = x.acu := fun x => by simp
  rw [takingsReceived_eq, same]
  exact takingsIn_acu slot

theorem takingsReceived_till (slot : allocate u = some (r, w)) (k : Nat) : (takingsReceived n r g cashier v u w).till k =
    if k = n then { u.till n with state := .takingsIn, outstanding := (u.till n).outstanding + 1, overLimit := false }
    else u.till k := by
  rw [takingsReceived_eq, clearOverLimit_till, takingsIn_till slot, takingsIn_till slot, if_pos rfl]
  by_cases same : k = n <;> simp [same, takenTill]

theorem takingsReceived_lists (slot : allocate u = some (r, w)) :
    (takingsReceived n r g cashier v u w).tau.templates = u.tau.templates ∧
    (takingsReceived n r g cashier v u w).tau.postings = u.tau.postings := by
  obtain ⟨-, -, -, -, -, tau, -⟩ := allocate_keeps u w r slot
  simp [takingsReceived, tau]

end Takings

/-- R89: a till with no posting waiting is snooped with no effect. -/
theorem snoopTill_of_none {n : Nat} {s : State} (none : ∀ p ∈ s.tau.postings, p.till ≠ n) : snoopTill n s = s := by
  have mine : s.tau.postings.filter (fun p => decide (p.till = n)) = [] := by simpa [List.filter_eq_nil_iff] using none
  have rest : s.tau.postings.filter (fun p => decide (p.till ≠ n)) = s.tau.postings :=
    List.filter_eq_self.mpr fun p hp => decide_eq_true (none p hp)
  unfold snoopTill
  simp only [mine, rest]
  rfl

theorem snoopTill_postings (n : Nat) (s : State) :
    (snoopTill n s).tau.postings = s.tau.postings.filter (fun p => decide (p.till ≠ n)) :=
  foldl_keeps (fun u => u.tau.postings) applyPosting (fun u p => by simp) _ _

theorem queryTill_ok {n : Nat} {u : State} (low : 1 ≤ n) (high : n ≤ 128) :
    queryTill n u = .ok ⟨snoopTill n u, .ok, tillFields n (snoopTill n u)⟩ := (pass (validTill_of low high)).trans rfl

end Sys2Proof.Machine

namespace Sys2Proof.Proofs.Floats

open Sys2Proof Sys2Proof.Machine

/-- Settles O35. -/
theorem makeFloat : Obligations.MakeFloat := by
  unfold Obligations.MakeFloat
  refine ⟨fun s w tag n m g cred r taken takes present low high entry tagLow tagHigh lines day state free used check room covered space
    slot => ?_, fun l s c b h => ?_⟩
  · obtain ⟨f, body⟩ := makeFloat_ok (u := takeFrom s) (custodianAtOffice_ok cred s present) low high entry tagLow tagHigh lines day state
      free used check room covered space slot
    rw [takeFrom_template] at body
    have ok := exec_ok (i := .makeFloat tag n m g cred) rfl takes body
    have acu := floatMade_acu (n := n) (g := g) (lines := s.template m) (taken := taken) slot
    have tau := floatMade_tau (n := n) (g := g) (lines := s.template m) (taken := taken) slot
    have bgr := floatMade_bgr (n := n) (g := g) (lines := s.template m) (taken := taken) (u := takeFrom s) (w := w) (r := r)
    obtain ⟨chutes, frame⟩ := floatMade_frame (n := n) (g := g) (lines := s.template m) (taken := taken) slot
    generalize floatMade n r g (s.template m) taken (takeFrom s) w = t at ok acu tau bgr chutes frame
    refine ⟨t, f, ok, ?_, fun q other => ?_, by rw [bgr], ?_, fun k other => ?_, ?_, ?_, chutes, frame⟩
    · rw [State.bag, bgr, Table.get_set, if_pos rfl]
      rfl
    · rw [State.bag, bgr, Table.get_set, if_neg other]
      rfl
    · rw [State.till, tau, Table.get_set, if_pos rfl]
      rfl
    · rw [State.till, tau, Table.get_set, if_neg other]
      rfl
    · rw [tau]
      rfl
    · rw [acu]
      rfl
  · obtain ⟨slot, unfit⟩ := takeLine_slot h
    refine ⟨slot, unfit, fun f coin => takeLine_coin coin h, fun f k note strap => ?_⟩
    obtain ⟨broken, change⟩ := takeLine_note note h
    obtain ⟨covers, none, fewest⟩ := strapsBroken_spec (s.slotStock l.slot).loose l.count k strap
    rw [← broken] at covers none fewest
    rw [change]
    dsimp only
    refine ⟨rfl, rfl, by omega, ?_, none, fewest⟩
    generalize b * k = x at covers
    omega

/-- Settles O36. -/
theorem unmakeAndIssueFloat : Obligations.UnmakeAndIssueFloat := by
  unfold Obligations.UnmakeAndIssueFloat
  refine ⟨fun s tag n cred r b takes present low high day ready holds held place room fits => ?unmake,
    fun s tag n cashier custodian r b takes first second differ low high day ready free holds held place room => ?issue⟩
  case unmake =>
    obtain ⟨f, body⟩ := unmakeFloat_ok (u := takeFrom s) (custodianAtOffice_ok cred s present) low high day ready holds held place room fits
    have ok := exec_ok (i := .unmakeFloat tag n cred) rfl takes body
    have acu := floatUnmade_acu (n := n) (r := r) (b := b) (u := takeFrom s)
    have tau := floatUnmade_tau (n := n) (r := r) (b := b) (u := takeFrom s)
    have bgr := floatUnmade_bgr (n := n) (r := r) (b := b) (u := takeFrom s)
    obtain ⟨chutes, frame⟩ := floatUnmade_frame (n := n) (r := r) (b := b) (u := takeFrom s)
    generalize floatUnmade n r b (takeFrom s) = t at ok acu tau bgr chutes frame
    refine ⟨t, f, ok, fun q => ?_, by rw [bgr]; rfl, by rw [bgr]; rfl, ?_, fun k other => ?_, ?_, ?_, chutes, frame⟩
    · rw [State.bag, bgr, Table.get_set]
      rfl
    · rw [State.till, tau, Table.get_set, if_pos rfl]
      rfl
    · rw [State.till, tau, Table.get_set, if_neg other]
      rfl
    · rw [tau]
      rfl
    · rw [acu]
      rfl
  case issue =>
    have ok := exec_ok (i := .issueFloat tag n cashier custodian) rfl takes
      (issueFloat_ok (u := takeFrom s) (cashierWithCustodian_ok cashier custodian s first second differ) low high day ready free holds held
        place room)
    have acu := floatIssued_acu (n := n) (r := r) (cashier := cashier) (b := b) (u := takeFrom s)
    have tills := fun k => floatIssued_till (n := n) (r := r) (cashier := cashier) (b := b) (u := takeFrom s) k
    have bgr := floatIssued_bgr (n := n) (r := r) (cashier := cashier) (b := b) (u := takeFrom s)
    have lists := floatIssued_lists (n := n) (r := r) (cashier := cashier) (b := b) (u := takeFrom s)
    have hpt := floatIssued_hpt (n := n) (r := r) (cashier := cashier) (b := b) (u := takeFrom s)
    obtain ⟨joins, leaves⟩ := floatIssued_queue (n := n) (r := r) (cashier := cashier) (b := b) (u := takeFrom s)
    obtain ⟨chutes, frame⟩ := floatIssued_frame (n := n) (r := r) (cashier := cashier) (b := b) (u := takeFrom s)
    generalize floatIssued n r cashier b (takeFrom s) = t at ok acu tills bgr lists hpt joins leaves chutes frame
    have own : t.till n = { (s.till n).issue cashier b.book with overLimit := ((s.till n).issue cashier b.book).isOver } :=
      (tills n).trans (if_pos rfl)
    refine ⟨t, ok, fun q => ?_, by rw [bgr]; rfl, by rw [bgr]; rfl, own, by rw [own]; rfl, by rw [own]; rfl, by rw [own]; rfl,
      by rw [own]; rfl, by rw [own]; rfl, by rw [own]; rfl, by rw [own]; rfl, fun k other => (tills k).trans (if_neg other), lists.1, lists.2,
      fun limit new room => (joins limit).trans (if_neg (by simp only [not_or, not_le]; exact ⟨new, room⟩)),
      fun limit stays => (joins limit).trans (if_pos stays), leaves, hpt, ?_, chutes, frame⟩
    · rw [State.bag, bgr, Table.get_set]
      rfl
    · rw [acu]
      rfl

/-- Settles O37. -/
theorem takingsAndPosts : Obligations.TakingsAndPosts := by
  unfold Obligations.TakingsAndPosts
  refine ⟨fun s w tag n g cashier custodian r v takes first second differ low high tagLow tagHigh least most day issued check room range
    space slot => ?takings, fun s tag n low high => ⟨fun k v g takes some most tagged room => ?_, fun takes none => ?_, fun takes => ?_⟩⟩
  case takings =>
    have ok := exec_ok (i := .receiveTakings tag n g (some v) cashier custodian) rfl takes
      (receiveTakings_ok (u := takeFrom s) (cashierWithCustodian_ok cashier custodian s first second differ) low high tagLow tagHigh least
        most day issued check room range space slot)
    have acu := takingsReceived_acu (n := n) (g := g) (cashier := cashier) (v := v) slot
    have tills := takingsReceived_till (n := n) (g := g) (cashier := cashier) (v := v) slot
    have bgr := takingsReceived_bgr (n := n) (r := r) (g := g) (cashier := cashier) (v := v) (u := takeFrom s) (w := w)
    have lists := takingsReceived_lists (n := n) (g := g) (cashier := cashier) (v := v) slot
    obtain ⟨out, leaves⟩ := takingsReceived_queue (n := n) (g := g) (cashier := cashier) (v := v) slot
    obtain ⟨chutes, frame⟩ := takingsReceived_frame (n := n) (g := g) (cashier := cashier) (v := v) slot
    generalize takingsReceived n r g cashier v (takeFrom s) w = t at ok acu tills bgr lists out leaves chutes frame
    refine ⟨t, ok, ?_, fun q other => ?_, by rw [bgr], (tills n).trans (if_pos rfl), out, leaves, fun k other => (tills k).trans (if_neg other),
      lists.1, lists.2, ?_, chutes, frame⟩
    · rw [State.bag, bgr, Table.get_set, if_pos rfl]
      rfl
    · rw [State.bag, bgr, Table.get_set, if_neg other]
      rfl
    · rw [acu]
      rfl
  · exact exec_ok rfl takes (postEntry_ok (u := takeFrom s) low high some most tagged room)
  · have ok := exec_ok (i := .queryTill tag n) rfl takes (queryTill_ok (u := takeFrom s) low high)
    rw [snoopTill_of_none (s := takeFrom s) none] at ok
    exact ok
  · have ok := exec_ok (i := .queryTill tag n) rfl takes (queryTill_ok (u := takeFrom s) low high)
    have postings := snoopTill_postings n (takeFrom s)
    generalize snoopTill n (takeFrom s) = t at ok postings
    exact ⟨t, ok, postings⟩

end Sys2Proof.Proofs.Floats
end

section
/-!
A till's figures (R12, R49, R90, R91, R97) and its reports (R96, R100), without the state around it.
-/

namespace Sys2Proof.Machine

open Sys2Proof

set_option Elab.async false

/-! ## Sums that overflow -/

theorem addAmount_inRange {a b : Int} (h : amountInRange (a + b) = true) : addAmount a b = some (a + b) := if_pos h

theorem addAmount_outOfRange {a b : Int} (h : amountInRange (a + b) = false) : addAmount a b = none := if_neg (by simp [h])

theorem addSaturating_inRange {a b : Int} (h : amountInRange (a + b) = true) : addSaturating a b = (a + b, false) := by
  rw [addSaturating, addAmount_inRange h]

theorem addSaturating_outOfRange {a b : Int} (h : amountInRange (a + b) = false) : addSaturating a b = (999999999999, true) := by
  rw [addSaturating, addAmount_outOfRange h]
  rfl

theorem addSigned_inRange {a b : Int} (h : amountInRange (a + b) = true) : addSigned a b = (a + b, false) := by
  rw [addSigned, addAmount_inRange h]

theorem addSigned_outOfRange {a b : Int} (h : amountInRange (a + b) = false) :
    addSigned a b = (if a + b < 0 then -999999999999 else 999999999999, true) := by
  rw [addSigned, addAmount_outOfRange h]
  rfl

theorem charge_inRange {x : VarAccount} {e : Int} (h : amountInRange (x.amount + e) = true) :
    x.charge e = ⟨x.amount + e, x.range⟩ := by
  rw [VarAccount.charge, addSigned_inRange h, Bool.or_false]

theorem charge_outOfRange {x : VarAccount} {e : Int} (h : amountInRange (x.amount + e) = false) :
    x.charge e = ⟨if x.amount + e < 0 then -999999999999 else 999999999999, true⟩ := by
  rw [VarAccount.charge, addSigned_outOfRange h, Bool.or_true]

/-! ## The expected total -/

theorem expectedTotal_eq (t : Till) : t.expectedTotal =
    if amountInRange t.floatValue && amountInRange (t.floatValue + t.sales) &&
        amountInRange (t.floatValue + t.sales - t.refunds) &&
        amountInRange (t.floatValue + t.sales - t.refunds - t.paidOuts) &&
        amountInRange (t.floatValue + t.sales - t.refunds - t.paidOuts + t.paidIns) then
      some (t.floatValue + t.sales - t.refunds - t.paidOuts + t.paidIns)
    else none := by
  simp only [Till.expectedTotal, addAmount, subAmount, zero_add, ← sub_eq_add_neg, Option.bind_eq_bind]
  cases first : amountInRange t.floatValue
  · simp
  cases second : amountInRange (t.floatValue + t.sales)
  · simp [second]
  cases third : amountInRange (t.floatValue + t.sales - t.refunds)
  · simp [second, third]
  cases fourth : amountInRange (t.floatValue + t.sales - t.refunds - t.paidOuts)
  · simp [second, third, fourth]
  simp [second, third, fourth]

theorem reckon_of_some {t : Till} {e : Int} (h : t.expectedTotal = some e) : t.reckon = { t with expected := e } := by
  rw [Till.reckon, h]

theorem reckon_of_none {t : Till} (h : t.expectedTotal = none) : t.reckon = { t with expected := 999999999999, range := true } := by
  rw [Till.reckon, h]
  rfl

/-- R97: the test of the in-drawer estimate. -/
theorem isOver_iff (t : Till) : t.isOver = true ↔ amountInRange (t.expected - t.skims) = true ∧ t.limit < t.expected - t.skims := by
  cases inside : amountInRange (t.expected - t.skims)
  · have overflow := addAmount_outOfRange (a := t.expected) (b := -t.skims) inside
    simp [Till.isOver, subAmount, overflow]
  · have fits := addAmount_inRange (a := t.expected) (b := -t.skims) inside
    simp [Till.isOver, subAmount, fits, ← sub_eq_add_neg]

theorem count_inRange {t : Till} {a : Int} (h : amountInRange (t.counted + a) = true) : t.count a = { t with counted := t.counted + a } := by
  rw [Till.count, addAmount_inRange h]

theorem count_outOfRange {t : Till} {a : Int} (h : amountInRange (t.counted + a) = false) : t.count a = { t with countedRange := true } := by
  rw [Till.count, addAmount_outOfRange h]

/-! ## What a posting leaves of a till -/

theorem accumulate_fields (t : Till) (k : PostingKind) (a : Int) :
    (t.accumulate k a).reckon.state = t.state ∧ (t.accumulate k a).reckon.session = t.session ∧
    (t.accumulate k a).reckon.outstanding = t.outstanding ∧ (t.accumulate k a).reckon.pendingSkims = t.pendingSkims ∧
    (t.accumulate k a).reckon.overLimit = t.overLimit := by
  unfold Till.reckon
  cases k <;> cases (t.accumulate _ a).expectedTotal <;> exact ⟨rfl, rfl, rfl, rfl, rfl⟩

theorem count_fields (t : Till) (v : Int) : (t.count v).state = t.state ∧ (t.count v).isOver = t.isOver := by
  unfold Till.count
  split <;> exact ⟨rfl, rfl⟩

/-! ## Reports -/

theorem takesReport_of {t : Till} {k : Nat} (session : t.session = k) (inSession : t.state.inSession = true) : t.takesReport k = true := by
  simp [Till.takesReport, session, inSession]

theorem takesReport_of_other {t : Till} {k : Nat} (h : t.session ≠ k ∨ t.state.inSession = false) : t.takesReport k = false := by
  rcases h with other | out <;> simp [Till.takesReport, *]

theorem reportedTillAfter_of_other {t : Till} {k : Nat} {v : Int} {s : State} (h : t.session ≠ k ∨ t.state.inSession = false) :
    reportedTillAfter t k v s = t := by
  simp [reportedTillAfter, Till.resultDue, Till.report, takesReport_of_other h]

/-- R96: a report that makes no result. -/
theorem reportedTillAfter_of_more {t : Till} {k : Nat} {v : Int} {s : State} (session : t.session = k)
    (inSession : t.state.inSession = true) (fits : amountInRange (t.counted + v) = true) (more : t.state = .issued ∨ 2 ≤ t.outstanding) :
    reportedTillAfter t k v s = { t with counted := t.counted + v, outstanding := t.outstanding - 1 } := by
  have open' : t.resultDue k = false := by
    rw [Till.resultDue, takesReport_of session inSession]
    rcases more with issued | many
    · simp [issued]
    · simp [show ¬ t.outstanding ≤ 1 by omega]
  rw [reportedTillAfter, open', if_neg Bool.false_ne_true, Till.report, takesReport_of session inSession, if_pos rfl, count_inRange fits]

/-- R100: the report that makes a till's result. -/
theorem reportedTillAfter_of_last {t : Till} {k : Nat} {v : Int} {s : State} (session : t.session = k) (state : t.state = .takingsIn)
    (last : t.outstanding = 1) : reportedTillAfter t k v s =
      ({ t.count v with outstanding := t.outstanding - 1 } : Till).settle s.acu.bandFloor s.acu.bandRate := by
  have takes := takesReport_of session (show t.state.inSession = true by rw [state]; rfl)
  have due : t.resultDue k = true := by simp [Till.resultDue, takes, last, state]
  rw [reportedTillAfter, due, if_pos rfl, Till.report, takes, if_pos rfl]

theorem reportedTillAfter_of_result {t : Till} {k : Nat} {v : Int} {s : State} (session : t.session = k) (state : t.state = .takingsIn)
    (last : t.outstanding = 1) (exact' : t.range = false) (counts : t.countedRange = false)
    (fits : amountInRange (t.counted + v) = true) (apart : amountInRange (t.counted + v - t.expected) = true) :
    reportedTillAfter t k v s = { t with
      counted := t.counted + v, outstanding := 0, state := .reconciled, variance := some (t.counted + v - t.expected)
      classification :=
        some (classify (t.counted + v - t.expected) (bandOf s.acu.bandFloor s.acu.bandRate t.expected)) } := by
  have difference : subAmount (t.counted + v) t.expected = some (t.counted + v - t.expected)  :=
    addAmount_inRange (b := -t.expected) apart
  rw [reportedTillAfter_of_last session state last, count_inRange fits, last]
  simp [Till.settle, Till.resultVariance, exact', counts, difference]

theorem reportedTillAfter_of_range {t : Till} {k : Nat} {v : Int} {s : State} (session : t.session = k) (state : t.state = .takingsIn)
    (last : t.outstanding = 1) (marked : t.range = true) :
    (reportedTillAfter t k v s).classification = some .range ∧ (reportedTillAfter t k v s).variance = none ∧
    (reportedTillAfter t k v s).state = .reconciled := by
  have kept : (t.count v).range = true := by
    unfold Till.count
    split <;> exact marked
  rw [reportedTillAfter_of_last session state last]
  simp [Till.settle, Till.resultVariance, kept]

end Sys2Proof.Machine
end

section
/-!
The application of a posting (R88 to R95).
-/

namespace Sys2Proof.Machine

open Sys2Proof

set_option Elab.async false

/-- R90: the till moved by its posting, before a bag is sought and the estimate is tested. -/
def posted (p : Posting) (v : State) : State := putTill p.till ((v.till p.till).accumulate p.kind p.amount).reckon v

theorem exec_postingApplication {s : State} {p : Posting} {rest : List Posting} (powered : s.sys.powered = true)
    (queue : s.tau.postings = p :: rest) :
    exec .postingApplication s = .next (applyPosting { s with tau.postings := rest } p) := by
  show background applyOldest s = _
  rw [background, if_pos powered, applyOldest, queue]

theorem inSession_iff (x : TillState) : x.inSession = true ↔ x = .issued ∨ x = .takingsIn := by
  cases x <;> simp [TillState.inSession]

section Applied

variable {p : Posting} {g : Nat} {v : State}

theorem applyPosting_inSession (h : (v.till p.till).state.inSession = true) : applyPosting v p = applyInSession p v := by
  unfold applyPosting
  rcases (inSession_iff _).mp h with state | state <;> rw [state]

theorem applyPosting_late (h : (v.till p.till).state = .reconciled) : applyPosting v p = applyLate p v := by
  unfold applyPosting
  rw [h]

theorem applyPosting_orphan (h : (v.till p.till).state = .idle ∨ (v.till p.till).state = .floatReady) :
    applyPosting v p = applyOrphan p v := by
  unfold applyPosting
  rcases h with state | state <;> rw [state]

theorem applyInSession_cash (kind : p.kind ≠ .skim) : applyInSession p v = overLimitTest p.till (posted p v) := by
  unfold applyInSession posted
  cases k : p.kind
  case skim => exact absurd k kind
  all_goals rfl

theorem applyInSession_skim (kind : p.kind = .skim) (tag : p.tagNo = some g) :
    applyInSession p v = overLimitTest p.till (attachSkim p g (posted p v)) := by
  unfold applyInSession posted
  rw [kind, tag]

theorem attachSkim_of_none {s : State} (none : s.attachable g = none) : attachSkim p g s = rememberSkim p g s := by
  unfold attachSkim
  rw [none]

end Applied

/-! ## The test after a posting -/

theorem overLimitTest_own (n : Nat) (w : State) :
    (overLimitTest n w).till n = { w.till n with overLimit := ((overLimitTest n w).till n).overLimit } := by
  have till : (overLimitTest n w).till n = if (w.till n).state = .issued then { w.till n with overLimit := (w.till n).isOver } else w.till n := by
    simp [overLimitTest_till]
  rw [till]
  split <;> rfl

/-- R97, R98: the till and the queue after the test, by the till before it. -/
theorem overLimitTest_effect {n : Nat} {w v : State} (queue : w.tau.skimQueue = v.tau.skimQueue)
    (others : ∀ m, m ≠ n → w.till m = v.till m) :
    (overLimitTest n w).till n = { w.till n with overLimit := ((overLimitTest n w).till n).overLimit } ∧
    ((w.till n).state = .issued → ((overLimitTest n w).till n).overLimit = (w.till n).isOver) ∧
    ((w.till n).state = .takingsIn → ((overLimitTest n w).till n).overLimit = (w.till n).overLimit ∧
      (overLimitTest n w).tau.skimQueue = v.tau.skimQueue) ∧
    ((w.till n).state = .issued → ((overLimitTest n w).till n).overLimit = false → v.tau.skimQueue.length ≤ 16 →
      leavesSkim n v (overLimitTest n w)) ∧
    ((w.till n).state = .issued → ((overLimitTest n w).till n).overLimit = true →
      (overLimitTest n w).tau.skimQueue = if n ∈ v.tau.skimQueue ∨ 16 ≤ v.tau.skimQueue.length then v.tau.skimQueue
        else v.tau.skimQueue ++ [n]) ∧
    (∀ m, m ≠ n → (overLimitTest n w).till m = v.till m) := by
  have till : (overLimitTest n w).till n = if (w.till n).state = .issued then { w.till n with overLimit := (w.till n).isOver } else w.till n := by
    simp [overLimitTest_till]
  have flag : (w.till n).state = .issued → ((overLimitTest n w).till n).overLimit = (w.till n).isOver := fun issued => by
    rw [till, if_pos issued]
  refine ⟨overLimitTest_own n w, flag, fun state => ?_, fun issued within room => ?_, fun issued limit => ?_, fun m other => ?_⟩
  · rw [overLimitTest_of_notIssued (by rw [state]; decide)]
    exact ⟨rfl, queue⟩
  · rw [flag issued] at within
    exact leavesSkim_congr queue (fun m other => congrArg Till.overLimit (others m other))
      (((overLimitTest_queue issued).2 within).2 (queue ▸ room))
  · rw [flag issued] at limit
    rw [← queue]
    exact (overLimitTest_queue issued).1 limit
  · rw [overLimitTest_till, if_neg (fun both => other both.1), others m other]

theorem notify_room {k : NoticeKind} {f : List Field} {s : State} (on : s.hpt.globalEnable = true)
    (class' : classEnabled s.hpt.classEnables k = true) (room : s.hpt.notices.length < 32) :
    (notify k f s).hpt.notices = s.hpt.notices ++ [⟨k, f⟩] := by
  unfold notify
  rw [on, class', if_pos (by rfl), if_pos room]

theorem notifyAll_notices (l : List Notice) (s : State) : s.hpt.notices <+: (notifyAll l s).hpt.notices := by
  induction l generalizing s with
  | nil => exact List.prefix_rfl
  | cons x l ih => exact (notify_notices ..).trans (ih _)

theorem overLimitTest_notices (n : Nat) (s : State) : s.hpt.notices <+: (overLimitTest n s).hpt.notices := by
  rw [overLimitTest_hpt]
  exact notifyAll_notices ..

/-- R92: an orphan's notice stands at the newest end of those before it, whatever follows. -/
theorem orphan_notice {p : Posting} {c : OrphanCause} {n : Nat} {s : State} (on : s.hpt.globalEnable = true)
    (class' : s.hpt.classEnables.tills = true) (room : s.hpt.notices.length < 32) :
    (overLimitTest n (notifyOrphan p c s)).hpt.notices[s.hpt.notices.length]? =
      some ⟨.orphanPosting, [fTill (some p.till), fNamed (codeIn PostingKind.list p.kind), fAmount p.amount, fTag p.tagNo,
        fNamed c.code]⟩ := by
  obtain ⟨later, eq⟩ := overLimitTest_notices n (notifyOrphan p c s)
  have sent : (notifyOrphan p c s).hpt.notices = s.hpt.notices ++ [⟨.orphanPosting, [fTill (some p.till),
      fNamed (codeIn PostingKind.list p.kind), fAmount p.amount, fTag p.tagNo, fNamed c.code]⟩] := notify_room on class' room
  rw [← eq, sent, List.append_assoc, List.getElem?_append_right (le_refl _), Nat.sub_self]
  rfl

theorem notify_onlyNotices (k : NoticeKind) (f : List Field) (s : State) : onlyNotices s (notify k f s) :=
  notifyAll_onlyNotices [⟨k, f⟩] s

theorem notify_onlyChutes (k : NoticeKind) (f : List Field) (s : State) : onlyChutes s (notify k f s) := by
  refine ⟨notify_onlyNotices k f s, by simp, by simp, fun m => ?_⟩
  have safe : (notify k f s).safe m = s.safe m := by simp [State.safe]
  rw [safe]
  exact ⟨rfl, rfl, rfl, rfl, rfl⟩

theorem onlyNotices_trans {s t u : State} (first : onlyNotices s t) (second : onlyNotices t u) : onlyNotices s u := by
  unfold onlyNotices at *
  rw [second, first]

theorem overLimitTest_onlyNotices (n : Nat) (s : State) : onlyNotices s (overLimitTest n s) := onlyNotices_of_notifyAll (overLimitTest_hpt n s)

/-! ## Postings that attach no bag -/

section NoBag

variable {p : Posting} {g : Nat} {v : State}

theorem posted_till (p : Posting) (v : State) (m : Nat) : (posted p v).till m =
    if m = p.till then ((v.till p.till).accumulate p.kind p.amount).reckon else v.till m := putTill_till ..

theorem posted_own (p : Posting) (v : State) : (posted p v).till p.till = ((v.till p.till).accumulate p.kind p.amount).reckon :=
  (posted_till ..).trans (if_pos rfl)

theorem posted_other {m : Nat} (h : m ≠ p.till) : (posted p v).till m = v.till m := (posted_till ..).trans (if_neg h)

theorem rememberSkim_of_room {s : State} (room : (s.till p.till).pendingSkims.length < 4) : rememberSkim p g s =
    putTill p.till { s.till p.till with
      pendingSkims := (s.till p.till).pendingSkims ++ [⟨g, p.amount, (s.till p.till).session⟩] } s := if_pos room

theorem rememberSkim_of_full {s : State} (full : 4 ≤ (s.till p.till).pendingSkims.length) :
    rememberSkim p g s = notifyOrphan p .pendingFull s := if_neg (by omega)

/-- R91: a late posting touches its till and the notices. -/
theorem applyLate_effect (p : Posting) (v : State) :
    (applyLate p v).till p.till = (v.till p.till).addLate (signedEffect p.kind p.amount) ∧
    (∀ m, m ≠ p.till → (applyLate p v).till m = v.till m) ∧
    applyLate p v = { v with tau := (applyLate p v).tau, hpt := (applyLate p v).hpt } ∧ onlyNotices v (applyLate p v) ∧
    (applyLate p v).tau.skimQueue = v.tau.skimQueue ∧ (applyLate p v).tau.templates = v.tau.templates ∧
    (applyLate p v).tau.postings = v.tau.postings := by
  have tills : ∀ m, (applyLate p v).till m = (putTill p.till ((v.till p.till).addLate (signedEffect p.kind p.amount)) v).till m :=
    fun m => by simp [State.till, applyLate]
  refine ⟨(tills _).trans ((putTill_till ..).trans (if_pos rfl)), fun m other => (tills m).trans ((putTill_till ..).trans (if_neg other)),
    ?_, ?_, by simp [applyLate], by simp [applyLate], by simp [applyLate]⟩
  · apply State.eq_of_blocks <;> simp [applyLate]
  · exact notify_onlyNotices .latePosting _ (putTill p.till ((v.till p.till).addLate (signedEffect p.kind p.amount)) v)

/-- R92: an orphan is charged to UNATTRIBUTED. -/
theorem applyOrphan_effect (p : Posting) (v : State) : (applyOrphan p v).tau = v.tau ∧
    (applyOrphan p v).acu = { v.acu with unattributed := v.acu.unattributed.charge (signedEffect p.kind p.amount) } ∧
    applyOrphan p v = { v with tau := (applyOrphan p v).tau, hpt := (applyOrphan p v).hpt, acu := (applyOrphan p v).acu } ∧
    onlyNotices v (applyOrphan p v) := by
  refine ⟨by simp [applyOrphan, chargeAccount], by simp [applyOrphan, chargeAccount], ?_, ?_⟩
  · apply State.eq_of_blocks <;> simp [applyOrphan, chargeAccount]
  · exact notify_onlyNotices .orphanPosting _ (chargeAccount (some (.unattributed, signedEffect p.kind p.amount)) v)

end NoBag

/-! ## A posting that attaches a bag -/

theorem attachable_spec {g r : Nat} {s : State} (h : s.attachable g = some r) : ∃ b, s.bag r = some b ∧ b.tagNo = some g ∧
    b.state.live = true ∧ b.purpose = .skim ∧ b.flags.undeclared = true ∧ b.source = .unknown := by
  have suits := List.find?_some h
  have listed := (List.mem_filter.mp (List.mem_of_find?_eq_some h)).2
  cases held : s.bag r with
  | none => simp [held] at suits
  | some b =>
    simp only [held, Bool.and_eq_true, decide_eq_true_eq] at suits listed
    exact ⟨b, rfl, listed.2, listed.1, suits.1.1, suits.1.2, suits.2⟩

/-- R95: a CONFIRMED bag counted at its book value, before its till leaves the skim queue. -/
def skimCounted (p : Posting) (r : Nat) (b : Bag) (s : State) : State :=
  putBag r (b.attach p.till (s.till p.till).session p.amount) (putTill p.till ((s.till p.till).count b.book) s)

/-- R95: a CONFIRMED bag attached: counted at its book value. -/
def attachedCounted (p : Posting) (r : Nat) (b : Bag) (s : State) : State := clearOverLimit p.till (skimCounted p r b s)

/-- R95: one more bag outstanding. -/
def Till.expecting (t : Till) : Till := { t with outstanding := t.outstanding + 1 }

/-- R95: another bag booked at the posting's Amount, before its till leaves the skim queue. -/
def skimBooked (p : Posting) (r : Nat) (b : Bag) (s : State) : State :=
  putBag r (b.attach p.till (s.till p.till).session p.amount)
    (applyMovement (attachMovement p.till r p.amount) (putTill p.till (s.till p.till).expecting s))

/-- R95: another bag attached: booked at the posting's Amount, and outstanding. -/
def attachedBooked (p : Posting) (r : Nat) (b : Bag) (s : State) : State := clearOverLimit p.till (skimBooked p r b s)

section Attached

variable {p : Posting} {g r : Nat} {b : Bag} {s : State}

theorem attachSkim_of_confirmed (bag : s.attachable g = some r) (held : s.bag r = some b) (state : b.state = .confirmed) :
    attachSkim p g s = attachedCounted p r b s := by
  unfold attachSkim
  simp only [bag, held, if_pos state]
  rfl

theorem attachSkim_of_room (bag : s.attachable g = some r) (held : s.bag r = some b) (state : b.state ≠ .confirmed)
    (fits : checkMovement (attachMovement p.till r p.amount) s = none) : attachSkim p g s = attachedBooked p r b s := by
  unfold attachSkim
  simp only [bag, held, if_neg state, fits]
  rfl

theorem attachSkim_of_fail {f : MoveFail} (bag : s.attachable g = some r) (held : s.bag r = some b) (state : b.state ≠ .confirmed)
    (fails : checkMovement (attachMovement p.till r p.amount) s = some f) : attachSkim p g s = notifyOrphan p .noRoom s := by
  unfold attachSkim
  simp only [bag, held, if_neg state, fails]

theorem checkMovement_attach (n r : Nat) (a : Int) (s : State) :
    (1 ≤ s.journalFree → amountInRange (s.acu.accountability + a) = true → checkMovement (attachMovement n r a) s = none) ∧
    ((s.journalFree = 0 ∨ amountInRange (s.acu.accountability + a) = false) →
      ∃ f, checkMovement (attachMovement n r a) s = some f) := by
  have stock : stockCheck (attachMovement n r a) s = none := by
    simp [stockCheck, attachMovement, entriesOnly, List.findSome?_eq_none_iff]
  have delta : (attachMovement n r a).delta = a := by simp [attachMovement, entriesOnly, Movement.delta]
  have origin : decide ((attachMovement n r a).origin = .host) = false := rfl
  have room : s.hasRoom (attachMovement n r a).origin (attachMovement n r a).entries.length = decide (1 ≤ s.journalFree) := by
    rfl
  unfold checkMovement
  rw [stock, delta, origin, room]
  refine ⟨fun some fits => by simp [some, fits], fun fails => ?_⟩
  rcases fails with full | overflow
  · exact ⟨_, by simp [full]; rfl⟩
  · by_cases some : 1 ≤ s.journalFree
    · exact ⟨_, by simp [some, overflow]; rfl⟩
    · exact ⟨_, by simp [some]; rfl⟩

theorem skimCounted_till (m : Nat) : (skimCounted p r b s).till m =
    if m = p.till then (s.till p.till).count b.book else s.till m := putTill_till ..

theorem attachedCounted_till (m : Nat) : (attachedCounted p r b s).till m =
    if m = p.till then { (s.till p.till).count b.book with overLimit := false } else s.till m := by
  rw [attachedCounted, clearOverLimit_till, skimCounted_till, skimCounted_till, if_pos rfl]
  by_cases same : m = p.till <;> simp [same]

theorem skimBooked_tau : (skimBooked p r b s).tau = (putTill p.till (s.till p.till).expecting s).tau := by
  unfold skimBooked
  rw [(putBag_fields ..).2.2.2.2.2.2.2.2.1, applyMovement_tau_of_none _ rfl]

theorem skimBooked_till (m : Nat) : (skimBooked p r b s).till m = if m = p.till then (s.till p.till).expecting else s.till m := by
  rw [State.till, skimBooked_tau]
  exact putTill_till ..

theorem attachedBooked_till (m : Nat) : (attachedBooked p r b s).till m =
    if m = p.till then { (s.till p.till).expecting with overLimit := false } else s.till m := by
  rw [attachedBooked, clearOverLimit_till, skimBooked_till, skimBooked_till, if_pos rfl]
  by_cases same : m = p.till <;> simp [same]

theorem attachedCounted_bgr : (attachedCounted p r b s).bgr =
    { s.bgr with bags := Table.set none s.bgr.bags r (some (b.attach p.till (s.till p.till).session p.amount)) } := by
  have kept : ∀ v, (clearOverLimit p.till v).bgr = v.bgr := fun v => by simp
  rw [attachedCounted, kept]
  rfl

theorem attachedBooked_bgr : (attachedBooked p r b s).bgr =
    { s.bgr with bags := Table.set none s.bgr.bags r (some (b.attach p.till (s.till p.till).session p.amount)) } := by
  have booked : (applyMovement (attachMovement p.till r p.amount) (putTill p.till (s.till p.till).expecting s)).bgr = s.bgr := by simp
  have kept : ∀ v, (clearOverLimit p.till v).bgr = v.bgr := fun v => by simp
  rw [attachedBooked, kept, skimBooked, putBag]
  dsimp only
  rw [booked]

theorem attachedCounted_acu : (attachedCounted p r b s).acu = s.acu := by simp [attachedCounted, skimCounted]

theorem attachedBooked_acu : (attachedBooked p r b s).acu = { s.acu with
    accountability := s.acu.accountability + p.amount
    journal := s.acu.journal ++ [nextEntry s .bagAttach (some r) (some p.till) p.amount p.amount]
    nextSeq := seqAfter s.acu.nextSeq } := by
  have kept : ∀ v, (clearOverLimit p.till v).acu = v.acu := fun v => by simp
  rw [attachedBooked, kept, skimBooked, (putBag_fields ..).2.2.2.2.1, applyMovement_acu_eq]
  simp [attachMovement, entriesOnly, Movement.delta, writtenEntries, nextEntry, seqAfterAll]

theorem attachedCounted_onlyChutes : onlyChutes s (attachedCounted p r b s) :=
  onlyChutes_trans _ _ _ (onlyChutes_of_eq _ _ rfl rfl rfl) (clearOverLimit_onlyChutes ..)

theorem putBag_onlyChutes (r : Nat) (b : Bag) (s : State) : onlyChutes s (putBag r b s) := onlyChutes_of_eq _ _ rfl rfl rfl

theorem attachedBooked_onlyChutes : onlyChutes s (attachedBooked p r b s) :=
  onlyChutes_trans _ _ _ (putTill_onlyChutes ..) (onlyChutes_trans _ _ _ (applyMovement_onlyChutes ..)
    (onlyChutes_trans _ _ _ (putBag_onlyChutes ..) (clearOverLimit_onlyChutes ..)))

theorem attachedCounted_leavesSkim (room : s.tau.skimQueue.length ≤ 16) : leavesSkim p.till s (attachedCounted p r b s) := by
  have queue : (skimCounted p r b s).tau.skimQueue = s.tau.skimQueue := rfl
  refine leavesSkim_congr queue (fun m other => ?_) (clearOverLimit_leavesSkim p.till _ (queue ▸ room))
  rw [skimCounted_till, if_neg other]

theorem attachedBooked_leavesSkim (room : s.tau.skimQueue.length ≤ 16) : leavesSkim p.till s (attachedBooked p r b s) := by
  have queue : (skimBooked p r b s).tau.skimQueue = s.tau.skimQueue := by rw [skimBooked_tau]; rfl
  refine leavesSkim_congr queue (fun m other => ?_) (clearOverLimit_leavesSkim p.till _ (queue ▸ room))
  rw [skimBooked_till, if_neg other]

end Attached

/-! ## What every attachment leaves -/

/-- R95: the tills and bags but the two that an attachment writes, and the estimate of an ISSUED till. -/
def AttachesOnly (n r : Nat) (u : Till) (s t : State) : Prop :=
  (∀ m, m ≠ n → t.till m = s.till m) ∧ (∀ q, q ≠ r → t.bag q = s.bag q) ∧ t.bgr = { s.bgr with bags := t.bgr.bags } ∧
  onlyChutes s t ∧ ((s.till n).state = .issued → (t.till n).overLimit = u.isOver)

theorem overLimitTest_attachesOnly {n r : Nat} {u : Till} {v w : State} (tills : ∀ m, m ≠ n → w.till m = v.till m)
    (bags : ∀ q, q ≠ r → w.bag q = v.bag q) (bgr : w.bgr = { v.bgr with bags := w.bgr.bags }) (chutes : onlyChutes v w)
    (state : (w.till n).state = (v.till n).state) (estimate : (w.till n).isOver = u.isOver) :
    AttachesOnly n r u v (overLimitTest n w) := by
  have kept : (overLimitTest n w).bgr = w.bgr := by simp
  refine ⟨fun m other => ?_, fun q other => ?_, by rw [kept]; exact bgr, onlyChutes_trans _ _ _ chutes (overLimitTest_onlyChutes ..),
    fun issued => ?_⟩
  · rw [overLimitTest_till, if_neg (fun both => other both.1), tills m other]
  · rw [State.bag, kept]
    exact bags q other
  · rw [overLimitTest_till, if_pos ⟨rfl, state.trans issued⟩]
    exact estimate

section Outcomes

variable {p : Posting} {g r : Nat} {b : Bag} {v : State}

theorem posted_state (p : Posting) (v : State) : ((posted p v).till p.till).state = (v.till p.till).state := by
  rw [posted_own]
  exact (accumulate_fields ..).1

theorem posted_session (p : Posting) (v : State) : ((posted p v).till p.till).session = (v.till p.till).session := by
  rw [posted_own]
  exact (accumulate_fields ..).2.1

theorem bag_of_set {s t : State} {x : Option Bag} (h : t.bgr = { s.bgr with bags := Table.set none s.bgr.bags r x }) (q : Nat) :
    t.bag q = if q = r then x else s.bag q := by
  rw [State.bag, h, Table.get_set]
  rfl

theorem attachedCounted_attachesOnly :
    AttachesOnly p.till r ((posted p v).till p.till) v (overLimitTest p.till (attachedCounted p r b (posted p v))) := by
  have bags := bag_of_set (s := posted p v) (attachedCounted_bgr (p := p) (r := r) (b := b) (s := posted p v))
  have own := (attachedCounted_till (p := p) (r := r) (b := b) (s := posted p v) p.till).trans (if_pos rfl)
  obtain ⟨state, estimate⟩ := count_fields ((posted p v).till p.till) b.book
  refine overLimitTest_attachesOnly (fun m other => ?_) (fun q other => (bags q).trans (if_neg other)) ?_
    (onlyChutes_trans _ _ _ (putTill_onlyChutes ..) attachedCounted_onlyChutes) ?_ ?_
  · rw [attachedCounted_till, if_neg other, posted_other other]
  · rw [attachedCounted_bgr]
    rfl
  · rw [own]
    exact state.trans (posted_state p v)
  · rw [own]
    exact estimate

theorem attachedBooked_attachesOnly :
    AttachesOnly p.till r ((posted p v).till p.till) v (overLimitTest p.till (attachedBooked p r b (posted p v))) := by
  have bags := bag_of_set (s := posted p v) (attachedBooked_bgr (p := p) (r := r) (b := b) (s := posted p v))
  have own := (attachedBooked_till (p := p) (r := r) (b := b) (s := posted p v) p.till).trans (if_pos rfl)
  refine overLimitTest_attachesOnly (fun m other => ?_) (fun q other => (bags q).trans (if_neg other)) ?_
    (onlyChutes_trans _ _ _ (putTill_onlyChutes ..) attachedBooked_onlyChutes) ?_ ?_
  · rw [attachedBooked_till, if_neg other, posted_other other]
  · rw [attachedBooked_bgr]
    rfl
  · rw [own]
    exact posted_state p v
  · rw [own]
    rfl

theorem noRoom_attachesOnly :
    AttachesOnly p.till r ((posted p v).till p.till) v (overLimitTest p.till (notifyOrphan p .noRoom (posted p v))) := by
  have tau : (notifyOrphan p .noRoom (posted p v)).tau = (posted p v).tau := by simp
  have bgr : (notifyOrphan p .noRoom (posted p v)).bgr = v.bgr := by simp [posted]
  have till : ∀ m, (notifyOrphan p .noRoom (posted p v)).till m = (posted p v).till m := fun m => by rw [State.till, tau]; rfl
  refine overLimitTest_attachesOnly (fun m other => ?_) (fun q _ => ?_) ?_ ?_ ?_ ?_
  · rw [till, posted_other other]
  · rw [State.bag, bgr]
    rfl
  · rw [bgr]
  · exact onlyChutes_trans _ _ _ (putTill_onlyChutes ..) (notify_onlyChutes .orphanPosting _ (posted p v))
  · rw [till]
    exact posted_state p v
  · rw [till]

/-- R95, R98: the till of an attachment after the test, whose flag an attachment clears. -/
theorem attached_own {y : Till} {w : State} (own : w.till p.till = { y with overLimit := false })
    (state : y.state = (v.till p.till).state) (leaves : (posted p v).tau.skimQueue.length ≤ 16 → leavesSkim p.till (posted p v) w) :
    (overLimitTest p.till w).till p.till = { y with overLimit := ((overLimitTest p.till w).till p.till).overLimit } ∧
    ((v.till p.till).state = .takingsIn → ((overLimitTest p.till w).till p.till).overLimit = false ∧
      (v.tau.skimQueue.length ≤ 16 → leavesSkim p.till v (overLimitTest p.till w))) := by
  refine ⟨(overLimitTest_own ..).trans (by rw [own]), fun taken => ?_⟩
  rw [overLimitTest_of_notIssued (by rw [own, state, taken]; decide), own]
  exact ⟨rfl, fun room => leavesSkim_congr (s := posted p v) rfl (fun m other => congrArg Till.overLimit (posted_other other)) (leaves room)⟩

theorem overLimitTest_bag (n : Nat) (w : State) (q : Nat) : (overLimitTest n w).bag q = w.bag q := by simp [State.bag]

end Outcomes

/-- R90: what a posting that attaches no bag leaves as it was. -/
def OnlyTills (v t : State) : Prop := t = { v with tau := t.tau, hpt := t.hpt } ∧ onlyNotices v t ∧
  t.tau.templates = v.tau.templates ∧ t.tau.postings = v.tau.postings

theorem overLimitTest_onlyTills {n : Nat} {v w : State} (h : OnlyTills v w) : OnlyTills v (overLimitTest n w) := by
  obtain ⟨blocks, notices, templates, postings⟩ := h
  refine ⟨?_, onlyNotices_trans notices (overLimitTest_onlyNotices ..), by simpa using templates, by simpa using postings⟩
  rw [overLimitTest_frame, blocks]

theorem posted_onlyTills (p : Posting) (v : State) : OnlyTills v (posted p v) := ⟨rfl, rfl, rfl, rfl⟩

theorem putTill_onlyTills {n : Nat} {x : Till} {v w : State} (h : OnlyTills v w) : OnlyTills v (putTill n x w) := by
  obtain ⟨blocks, notices, templates, postings⟩ := h
  refine ⟨?_, notices, templates, postings⟩
  rw [putTill, blocks]

theorem notify_onlyTills {k : NoticeKind} {f : List Field} {v w : State} (h : OnlyTills v w) : OnlyTills v (notify k f w) := by
  obtain ⟨blocks, notices, templates, postings⟩ := h
  refine ⟨?_, onlyNotices_trans notices (notify_onlyNotices ..), by simpa using templates, by simpa using postings⟩
  rw [notify_eq, blocks]

/-- R93: a SKIM posting whose bag is not found, with room for it among the pending skims. -/
theorem remembered_effect {p : Posting} {g : Nat} {v : State} (kind : p.kind = .skim) (room : (v.till p.till).pendingSkims.length < 4) :
    (overLimitTest p.till (rememberSkim p g (posted p v))).till p.till =
      { ((v.till p.till).accumulate .skim p.amount).reckon with
        overLimit := ((overLimitTest p.till (rememberSkim p g (posted p v))).till p.till).overLimit
        pendingSkims := (v.till p.till).pendingSkims ++ [⟨g, p.amount, (v.till p.till).session⟩] } ∧
    (∀ m, m ≠ p.till → (overLimitTest p.till (rememberSkim p g (posted p v))).till m = v.till m) ∧
    OnlyTills v (overLimitTest p.till (rememberSkim p g (posted p v))) := by
  obtain ⟨-, session, -, pending, -⟩ := accumulate_fields (v.till p.till) .skim p.amount
  have own : (posted p v).till p.till = ((v.till p.till).accumulate .skim p.amount).reckon := by rw [posted_own, kind]
  rw [rememberSkim_of_room (by rw [own, pending]; exact room)]
  refine ⟨?_, fun m other => ?_, overLimitTest_onlyTills (putTill_onlyTills (posted_onlyTills p v))⟩
  · rw [overLimitTest_own, putTill_till, if_pos rfl, own, session, pending]
  · rw [overLimitTest_till, if_neg (fun both => other both.1), putTill_till, if_neg other, posted_other other]

/-- R90: a posting of cash to a till in session. -/
theorem cash_effect {p : Posting} {v : State} (kind : p.kind ≠ .skim) (inSession : (v.till p.till).state.inSession = true) :
    (applyPosting v p).till p.till = { ((v.till p.till).accumulate p.kind p.amount).reckon with
      overLimit := ((applyPosting v p).till p.till).overLimit } ∧
    ((v.till p.till).state = .issued →
      ((applyPosting v p).till p.till).overLimit = ((v.till p.till).accumulate p.kind p.amount).reckon.isOver) ∧
    ((v.till p.till).state = .takingsIn → ((applyPosting v p).till p.till).overLimit = (v.till p.till).overLimit ∧
      (applyPosting v p).tau.skimQueue = v.tau.skimQueue) ∧
    ((v.till p.till).state = .issued → ((applyPosting v p).till p.till).overLimit = false → v.tau.skimQueue.length ≤ 16 →
      leavesSkim p.till v (applyPosting v p)) ∧
    ((v.till p.till).state = .issued → ((applyPosting v p).till p.till).overLimit = true →
      (applyPosting v p).tau.skimQueue = if p.till ∈ v.tau.skimQueue ∨ 16 ≤ v.tau.skimQueue.length then v.tau.skimQueue
        else v.tau.skimQueue ++ [p.till]) ∧
    (∀ m, m ≠ p.till → (applyPosting v p).till m = v.till m) ∧ OnlyTills v (applyPosting v p) := by
  rw [applyPosting_inSession inSession, applyInSession_cash kind]
  obtain ⟨state, -, -, -, flag⟩ := accumulate_fields (v.till p.till) p.kind p.amount
  have effect := overLimitTest_effect (n := p.till) (w := posted p v) (v := v) rfl (fun m => posted_other)
  rw [posted_own, state, flag] at effect
  obtain ⟨own, issued, taken, within, limit, others⟩ := effect
  exact ⟨own, issued, taken, within, limit, others, overLimitTest_onlyTills (posted_onlyTills p v)⟩

/-- R93: a SKIM posting whose bag is not found, with the till's pending skims full. -/
theorem full_effect {p : Posting} {g : Nat} {v : State} (kind : p.kind = .skim) (full : 4 ≤ (v.till p.till).pendingSkims.length) :
    (overLimitTest p.till (rememberSkim p g (posted p v))).till p.till =
      { ((v.till p.till).accumulate .skim p.amount).reckon with
        overLimit := ((overLimitTest p.till (rememberSkim p g (posted p v))).till p.till).overLimit } ∧
    (∀ m, m ≠ p.till → (overLimitTest p.till (rememberSkim p g (posted p v))).till m = v.till m) ∧
    OnlyTills v (overLimitTest p.till (rememberSkim p g (posted p v))) ∧
    (v.hpt.globalEnable = true → v.hpt.classEnables.tills = true → v.hpt.notices.length < 32 →
      (overLimitTest p.till (rememberSkim p g (posted p v))).hpt.notices[v.hpt.notices.length]? = some ⟨.orphanPosting,
        [fTill (some p.till), fNamed (codeIn PostingKind.list p.kind), fAmount p.amount, fTag p.tagNo, fNamed 2]⟩) := by
  obtain ⟨-, -, -, pending, -⟩ := accumulate_fields (v.till p.till) .skim p.amount
  have own : (posted p v).till p.till = ((v.till p.till).accumulate .skim p.amount).reckon := by rw [posted_own, kind]
  have till : ∀ m, (notifyOrphan p .pendingFull (posted p v)).till m = (posted p v).till m := fun m => by simp [State.till]
  rw [rememberSkim_of_full (by rw [own, pending]; exact full)]
  refine ⟨?_, fun m other => ?_, overLimitTest_onlyTills (notify_onlyTills (posted_onlyTills p v)), fun on class' room =>
    orphan_notice (s := posted p v) on class' room⟩
  · rw [overLimitTest_own, till, own]
  · rw [overLimitTest_till, if_neg (fun both => other both.1), till, posted_other other]

theorem attachable_posted (p : Posting) (g : Nat) (v : State) : (posted p v).attachable g = v.attachable g := rfl

section Attach

variable {p : Posting} {g r : Nat} {b : Bag} {v : State}

/-- R95: what a posting with a bag to attach leaves, whatever the bag and the room. -/
theorem attach_attachesOnly (bag : v.attachable g = some r) (held : v.bag r = some b) :
    AttachesOnly p.till r ((posted p v).till p.till) v (overLimitTest p.till (attachSkim p g (posted p v))) := by
  by_cases state : b.state = .confirmed
  · rw [attachSkim_of_confirmed (s := posted p v) bag held state]
    exact attachedCounted_attachesOnly
  · cases check : checkMovement (attachMovement p.till r p.amount) (posted p v) with
    | none =>
      rw [attachSkim_of_room (s := posted p v) bag held state check]
      exact attachedBooked_attachesOnly
    | some f =>
      rw [attachSkim_of_fail (s := posted p v) bag held state check]
      exact noRoom_attachesOnly

theorem confirmed_effect (bag : v.attachable g = some r) (held : v.bag r = some b) (state : b.state = .confirmed) :
    (overLimitTest p.till (attachSkim p g (posted p v))).bag r = some { b with
      source := .till p.till (v.till p.till).session, declared := some p.amount, flags := { b.flags with undeclared := false } } ∧
    (overLimitTest p.till (attachSkim p g (posted p v))).till p.till = { ((posted p v).till p.till).count b.book with
      overLimit := ((overLimitTest p.till (attachSkim p g (posted p v))).till p.till).overLimit } ∧
    ((v.till p.till).state = .takingsIn →
      ((overLimitTest p.till (attachSkim p g (posted p v))).till p.till).overLimit = false ∧
      (v.tau.skimQueue.length ≤ 16 → leavesSkim p.till v (overLimitTest p.till (attachSkim p g (posted p v))))) ∧
    (overLimitTest p.till (attachSkim p g (posted p v))).acu = v.acu := by
  rw [attachSkim_of_confirmed (s := posted p v) bag held state]
  obtain ⟨own, taken⟩ := attached_own (p := p) (v := v) ((attachedCounted_till (r := r) (b := b) p.till).trans (if_pos rfl))
    ((count_fields ..).1.trans (posted_state p v)) attachedCounted_leavesSkim
  refine ⟨?_, own, taken, ?_⟩
  · rw [overLimitTest_bag, bag_of_set attachedCounted_bgr, if_pos rfl, Bag.attach, if_pos state, posted_session]
  · have kept : ∀ w, (overLimitTest p.till w).acu = w.acu := fun w => by simp
    rw [kept, attachedCounted_acu]
    rfl

theorem booked_effect (bag : v.attachable g = some r) (held : v.bag r = some b) (state : b.state ≠ .confirmed)
    (room : 1 ≤ v.journalFree) (fits : amountInRange (v.acu.accountability + p.amount) = true) :
    (overLimitTest p.till (attachSkim p g (posted p v))).bag r = some { b with
      source := .till p.till (v.till p.till).session, declared := some p.amount, book := p.amount
      flags := { b.flags with undeclared := false } } ∧
    (overLimitTest p.till (attachSkim p g (posted p v))).till p.till = { ((posted p v).till p.till).expecting with
      overLimit := ((overLimitTest p.till (attachSkim p g (posted p v))).till p.till).overLimit } ∧
    ((v.till p.till).state = .takingsIn →
      ((overLimitTest p.till (attachSkim p g (posted p v))).till p.till).overLimit = false ∧
      (v.tau.skimQueue.length ≤ 16 → leavesSkim p.till v (overLimitTest p.till (attachSkim p g (posted p v))))) ∧
    (overLimitTest p.till (attachSkim p g (posted p v))).acu = { v.acu with
      accountability := v.acu.accountability + p.amount
      journal := v.acu.journal ++ [nextEntry v .bagAttach (some r) (some p.till) p.amount p.amount]
      nextSeq := seqAfter v.acu.nextSeq } := by
  rw [attachSkim_of_room (s := posted p v) bag held state ((checkMovement_attach ..).1 room fits)]
  obtain ⟨own, taken⟩ := attached_own (p := p) (v := v) ((attachedBooked_till (r := r) (b := b) p.till).trans (if_pos rfl))
    (posted_state p v) attachedBooked_leavesSkim
  refine ⟨?_, own, taken, ?_⟩
  · rw [overLimitTest_bag, bag_of_set attachedBooked_bgr, if_pos rfl, Bag.attach, if_neg state, posted_session]
  · have kept : ∀ w, (overLimitTest p.till w).acu = w.acu := fun w => by simp
    rw [kept, attachedBooked_acu]
    rfl

theorem noRoom_effect (bag : v.attachable g = some r) (held : v.bag r = some b) (state : b.state ≠ .confirmed)
    (fails : v.journalFree = 0 ∨ amountInRange (v.acu.accountability + p.amount) = false) :
    (overLimitTest p.till (attachSkim p g (posted p v))).bgr = v.bgr ∧
    (overLimitTest p.till (attachSkim p g (posted p v))).acu = v.acu ∧
    (overLimitTest p.till (attachSkim p g (posted p v))).till p.till = { (posted p v).till p.till with
      overLimit := ((overLimitTest p.till (attachSkim p g (posted p v))).till p.till).overLimit } ∧
    (v.hpt.globalEnable = true → v.hpt.classEnables.tills = true → v.hpt.notices.length < 32 →
      (overLimitTest p.till (attachSkim p g (posted p v))).hpt.notices[v.hpt.notices.length]? = some ⟨.orphanPosting,
        [fTill (some p.till), fNamed (codeIn PostingKind.list p.kind), fAmount p.amount, fTag p.tagNo, fNamed 3]⟩) := by
  obtain ⟨f, check⟩ := (checkMovement_attach p.till r p.amount (posted p v)).2 fails
  rw [attachSkim_of_fail (s := posted p v) bag held state check]
  have till : (notifyOrphan p .noRoom (posted p v)).till p.till = (posted p v).till p.till := by simp [State.till]
  exact ⟨by simp [posted], by simp [posted], (overLimitTest_own ..).trans (by rw [till]), fun on class' room =>
    orphan_notice (s := posted p v) on class' room⟩

/-- R95: the blocks that no attachment touches. -/
theorem attach_frame : (overLimitTest p.till (attachSkim p g (posted p v))).tau.postings = v.tau.postings ∧
    (overLimitTest p.till (attachSkim p g (posted p v))).tau.templates = v.tau.templates ∧
    (overLimitTest p.till (attachSkim p g (posted p v))).sys = v.sys ∧ (overLimitTest p.till (attachSkim p g (posted p v))).cru = v.cru ∧
    (overLimitTest p.till (attachSkim p g (posted p v))).clc = v.clc ∧ (overLimitTest p.till (attachSkim p g (posted p v))).rcu = v.rcu ∧
    (overLimitTest p.till (attachSkim p g (posted p v))).wcu = v.wcu ∧
    (overLimitTest p.till (attachSkim p g (posted p v))).hoc = v.hoc := by
  simp [posted]

end Attach

end Sys2Proof.Machine

namespace Sys2Proof.Proofs.Postings

open Sys2Proof Sys2Proof.Machine

/-- Settles O38. -/
theorem postingsAndTillReports : Obligations.PostingsAndTillReports := by
  unfold Obligations.PostingsAndTillReports
  refine ⟨fun s p rest powered queue => ?_, fun g r s bag => ?_, fun s p rest g r b u powered queue kind tag inSession bag held hu => ?_,
    fun t a => ⟨expectedTotal_eq t, fun e => reckon_of_some, reckon_of_none, fun h => ?_, fun h => ?_, fun h => ?_, fun h => ?_, fun h => ?_,
      fun h => ?_, fun h => ?_, fun h => ?_, fun h => ?_, fun h => ?_, isOver_iff t, count_inRange, count_outOfRange⟩,
    fun a => ⟨rfl, rfl, rfl, rfl, rfl⟩, fun t e => ⟨rfl, fun h => ?_, fun h => ?_, fun h => ?_, fun v h => ⟨fun fits => ?_, fun fits => ?_⟩⟩,
    fun x e => ⟨charge_inRange, charge_outOfRange⟩, fun t k v s => ⟨reportedTillAfter_of_other, reportedTillAfter_of_more,
      reportedTillAfter_of_result, reportedTillAfter_of_range⟩⟩
  · have app := exec_postingApplication powered queue
    refine ⟨fun kind inSession => ?cash, fun late => ?late, fun orphan => ?orphan, fun g kind tag inSession none room => ?pending,
      fun g kind tag inSession none full => ?full⟩
    case cash =>
      have effect := cash_effect (v := { s with tau.postings := rest }) kind inSession
      generalize applyPosting { s with tau.postings := rest } p = t at app effect
      obtain ⟨own, issued, taken, within, limit, others, blocks, notices, templates, postings⟩ := effect
      exact ⟨t, app, postings, own, issued, taken, within, limit, others, blocks, notices, templates⟩
    case late =>
      have effect := applyLate_effect p { s with tau.postings := rest }
      rw [applyPosting_late (v := { s with tau.postings := rest }) late] at app
      generalize applyLate p { s with tau.postings := rest } = t at app effect
      obtain ⟨own, others, blocks, notices, skims, templates, postings⟩ := effect
      exact ⟨t, app, postings, own, others, blocks, notices, skims, templates⟩
    case orphan =>
      have effect := applyOrphan_effect p { s with tau.postings := rest }
      rw [applyPosting_orphan (v := { s with tau.postings := rest }) orphan] at app
      generalize applyOrphan p { s with tau.postings := rest } = t at app effect
      obtain ⟨tau, acu, blocks, notices⟩ := effect
      exact ⟨t, app, tau, acu, blocks, notices⟩
    all_goals rw [applyPosting_inSession (v := { s with tau.postings := rest }) inSession, applyInSession_skim kind tag,
      attachSkim_of_none (s := posted p { s with tau.postings := rest }) none] at app
    case pending =>
      have effect := remembered_effect (g := g) (v := { s with tau.postings := rest }) kind room
      generalize overLimitTest p.till (rememberSkim p g (posted p { s with tau.postings := rest })) = t at app effect
      obtain ⟨own, others, blocks, notices, templates, postings⟩ := effect
      exact ⟨t, app, postings, own, others, blocks, notices, templates⟩
    case full =>
      have effect := full_effect (g := g) (v := { s with tau.postings := rest }) kind full
      generalize overLimitTest p.till (rememberSkim p g (posted p { s with tau.postings := rest })) = t at app effect
      rw [kind, tag] at effect
      obtain ⟨own, others, ⟨blocks, notices, -, postings⟩, sent⟩ := effect
      exact ⟨t, app, postings, own, others, blocks, notices, sent⟩
  · obtain ⟨b, held, tag, live, purpose, undeclared, source⟩ := attachable_spec bag
    exact ⟨b, held, tag, live, purpose, undeclared, source⟩
  · have app := exec_postingApplication powered queue
    rw [applyPosting_inSession (v := { s with tau.postings := rest }) inSession, applyInSession_skim kind tag] at app
    have only := attach_attachesOnly (p := p) (v := { s with tau.postings := rest }) bag held
    have confirmed := confirmed_effect (p := p) (v := { s with tau.postings := rest }) bag held
    have booked := booked_effect (p := p) (v := { s with tau.postings := rest }) bag held
    have noRoom := noRoom_effect (p := p) (v := { s with tau.postings := rest }) bag held
    have frame := attach_frame (p := p) (g := g) (v := { s with tau.postings := rest })
    have own : (posted p { s with tau.postings := rest }).till p.till = u := by
      rw [posted_own, kind, hu]
      rfl
    rw [own] at only confirmed booked noRoom
    rw [kind, tag] at noRoom
    generalize overLimitTest p.till (attachSkim p g (posted p { s with tau.postings := rest })) = t at app only confirmed booked noRoom frame
    obtain ⟨tills, bags, bgr, chutes, limit⟩ := only
    obtain ⟨postings, templates, sys, cru, clc, rcu, wcu, hoc⟩ := frame
    exact ⟨t, app, postings, templates, tills, bags, bgr, chutes, sys, cru, clc, rcu, wcu, hoc, limit, booked, confirmed, noRoom⟩
  · rw [Till.accumulate, addSaturating_inRange h, Bool.or_false]
  · rw [Till.accumulate, addSaturating_inRange h, Bool.or_false]
  · rw [Till.accumulate, addSaturating_inRange h, Bool.or_false]
  · rw [Till.accumulate, addSaturating_inRange h, Bool.or_false]
  · rw [Till.accumulate, addSaturating_inRange h, Bool.or_false]
  · rw [Till.accumulate, addSaturating_outOfRange h, Bool.or_true]
  · rw [Till.accumulate, addSaturating_outOfRange h, Bool.or_true]
  · rw [Till.accumulate, addSaturating_outOfRange h, Bool.or_true]
  · rw [Till.accumulate, addSaturating_outOfRange h, Bool.or_true]
  · rw [Till.accumulate, addSaturating_outOfRange h, Bool.or_true]
  · rw [Till.addLate, addSigned_inRange h]
  · rw [Till.addLate, addSigned_outOfRange h]
  · rw [Till.addLate, h]
    rfl
  · simp [Till.addLate, h, addSigned_inRange fits]
  · simp [Till.addLate, h, addSigned_outOfRange fits]

end Sys2Proof.Proofs.Postings
end

section
/-!
The Counting Lane Controller (chapter 6): the requests that load, start, stop, close and clear a lane.
-/

namespace Sys2Proof.Machine

open Sys2Proof

set_option Elab.async false

/-! ## Tables of the slots -/

theorem slotNumbers_nodup : slotNumbers.Nodup := by decide

theorem Table.get_foldl_set {α : Type} [DecidableEq α] (d : α) (f : α → Nat → α) {l : List Nat} (once : l.Nodup) (t : Table α) {i : Nat} (mem : i ∈ l) :
    Table.get d (l.foldl (fun t i => Table.set d t i (f (Table.get d t i) i)) t) i = f (Table.get d t i) i := by
  have write : ∀ (t : Table α) (b i : Nat), Table.get d (Table.set d t b (f (Table.get d t b) b)) i =
      if i = id b then f (Table.get d t i) b else Table.get d t i := fun t b i => by
    by_cases same : i = b <;> simp [same]
  exact (Table.get_foldl_write write l t).2 (by rwa [List.map_id]) i mem

theorem get_loadedStraps (s : State) {i : Nat} (slot : i ∈ slotNumbers) :
    Table.get 0 (loadedStraps s) i = ((s.denom i).strap?).getD 0 :=
  Table.get_foldl_set 0 (fun _ i => ((s.denom i).strap?).getD 0) slotNumbers_nodup [] slot

theorem tallySlot_withCoins (y : Tally) (coins : Table Nat) {i : Nat} (slot : i ∈ slotNumbers) :
    tallySlot (withCoins y coins) i = { tallySlot y i with coin := Table.get 0 coins i } := by
  unfold tallySlot withCoins
  dsimp only
  generalize y.slots = slots
  exact Table.get_foldl_set SlotCount.initial (fun c i => { c with coin := Table.get 0 coins i }) slotNumbers_nodup slots slot

theorem withCoins_unreadable (y : Tally) (coins : Table Nat) : (withCoins y coins).unreadable = y.unreadable := by
  unfold withCoins
  generalize slotNumbers = slots
  rfl

/-! ## Hold causes and lanes -/

theorem HoldSet.put_of_has {h : HoldSet} {c : HoldCause} (has : h.has c = true) : h.put c true = h := by
  cases c <;> cases h <;> simp_all [HoldSet.has, HoldSet.put]

/-- R109: the lane to which a hold cause is added. -/
theorem addHold_lane (n m : Nat) (c : HoldCause) (s : State) : (addHold n c s).lane m = if m = n then
      { s.lane n with
        holds := (s.lane n).holds.put c true
        state := if (s.lane n).holds.has c = false ∧ ((s.lane n).state = .running ∨ (s.lane n).state = .ready) then .held
          else (s.lane n).state }
    else s.lane m := by
  unfold addHold
  cases has : (s.lane n).holds.has c
  · rw [if_neg (by simp [has])]
    have sent : ∀ x : State, (if (s.lane n).state = .running then command (.lane n) .stop x else x).lane m = x.lane m := fun x => by
      split <;> rfl
    rw [lane_notify, sent, putLane_lane]
    simp only [true_and]
  · rw [if_pos has]
    simp only [Bool.true_eq_false, false_and, if_false, HoldSet.put_of_has has]
    by_cases same : m = n <;> simp [same]

theorem addHold_frame (n : Nat) (c : HoldCause) (s : State) :
    addHold n c s = { s with clc := (addHold n c s).clc, hpt := (addHold n c s).hpt, ubc := (addHold n c s).ubc } := by
  apply State.eq_of_blocks <;> simp

theorem addHold_onlyNotices (n : Nat) (c : HoldCause) (s : State) : onlyNotices s (addHold n c s) := by
  obtain ⟨-, hpt⟩ := addHold_holdSends n c s
  unfold onlyNotices
  rw [hpt]
  split
  · rfl
  · exact notify_onlyNotices ..

/-- R120, R121: the lane whose current batch has gone. -/
theorem popOrIdle_eq (l : Lane) : popOrIdle l = { l with
    state := if l.stack = [] then .idle else .ready
    batch := l.stack.head?.map Suspended.batch, stack := l.stack.tail
    stacker := 0, reject := 0, holds := HoldSet.empty } := by
  unfold popOrIdle
  split <;> next h => simp [h]

theorem settleHeld_eq (l : Lane) : settleHeld l = { l with state := if l.state = .held ∧ l.holds = HoldSet.empty then .ready else l.state } := by
  unfold settleHeld
  split <;> rfl

theorem clearedLane_of_some {l : Lane} {x : Batch} (h : l.batch = some x) : clearedLane l =
    { l with state := .held, fault := none, locked := false, holds := { l.holds with operator := true } } := by
  unfold clearedLane
  split
  · rfl
  · next none => simp [h] at none

theorem clearedLane_of_none {l : Lane} (h : l.batch = none) :
    clearedLane l = { l with state := .idle, fault := none, locked := false, holds := HoldSet.empty } := by
  unfold clearedLane
  split
  · next some => simp [h] at some
  · rfl

section Bodies

variable {u : State} {n r cred : Nat}

/-- R105 to R107: the checks of LOAD_LANE. -/
theorem loadLane_of {b : Bag} {urgent : Bool} (authorised : authority custodianAtOffice [cred] u = .ok ()) (lane : n ≤ 3) (low : 1 ≤ r)
    (high : r ≤ 1024) (held : u.bag r = some b) (day : u.acu.day = .dayOpen) (stacker : (u.lane n).stacker = 0)
    (reject : (u.lane n).reject = 0) (purpose : b.purpose = .takings ∨ b.purpose = .skim ∨ b.purpose = .changeIn)
    (state : b.state = .intact ∨ b.state = .quarantined) (place : b.custody = .bench) :
    ((u.lane n).state = .idle → loadLane n r urgent cred u =
      .ok ⟨putLane n { u.lane n with state := .ready, batch := some (newBatch r urgent u), holds := HoldSet.empty } (bagToLane n r b u), .ok,
        [fLane (some n), fRef (some r), fNamed (codeIn LaneState.list .ready)]⟩) ∧
    ((u.lane n).state = .ready ∨ (u.lane n).state = .held → urgent = true → (u.lane n).stack.length < 3 → loadLane n r urgent cred u =
      .ok ⟨putLane n (pushedLane r u (u.lane n)) (bagToLane n r b u), .ok,
        [fLane (some n), fRef (some r), fNamed (codeIn LaneState.list .ready), fNum 1 (pushedLane r u (u.lane n)).stack.length]⟩) := by
  have named : (decide (n ≤ 3) && validRef r) = true := by simp [lane, validRef, low, high]
  have pockets : (decide ((u.lane n).stacker = 0) && decide ((u.lane n).reject = 0)) = true := by simp [stacker, reject]
  have purposes : (decide (b.purpose = .takings) || decide (b.purpose = .skim) || decide (b.purpose = .changeIn)) = true := by
    simpa [or_assoc] using purpose
  have states : (decide (b.state = .intact) || decide (b.state = .quarantined)) = true := by simpa using state
  refine ⟨fun idle => ?_, fun atWork isUrgent room => ?_⟩
  · refine (passed authorised).trans ((pass named).trans ((found held).trans ((pass (decide_eq_true day)).trans ((pass (by simp [idle])).trans
      ((pass (by simp [idle])).trans ((pass (by simp [idle])).trans ((pass pockets).trans ((pass (by simp [idle])).trans
        ((pass purposes).trans ((pass states).trans ((pass (decide_eq_true place)).trans ?_)))))))))))
    rw [idle]
    rfl
  · have on : (u.lane n).state ≠ .off ∧ (u.lane n).state ≠ .fault ∧ (u.lane n).state ≠ .faultLocked ∧ (u.lane n).state ≠ .running ∧
        (u.lane n).state ≠ .closing := by
      rcases atWork with ready | waits <;> simp [*]
    obtain ⟨off, fault, locked, running, closing⟩ := on
    refine (passed authorised).trans ((pass named).trans ((found held).trans ((pass (decide_eq_true day)).trans ((pass (by simp [off])).trans
      ((pass (by simp [fault, locked])).trans ((pass (by simp [running, closing, isUrgent])).trans ((pass pockets).trans
        ((pass (by simp [room])).trans ((pass purposes).trans ((pass states).trans ((pass (decide_eq_true place)).trans ?_)))))))))))
    rcases atWork with state | state <;> rw [state] <;> rfl

theorem startLane_ok (authorised : authority custodianAtOffice [cred] u = .ok ()) (lane : n ≤ 3) (state : (u.lane n).state = .ready)
    (latch : u.csc.latch = false) :
    startLane n cred u = .ok ⟨command (.lane n) .run (putLane n { u.lane n with state := .running } u), .ok, []⟩ :=
  (passed authorised).trans ((pass (decide_eq_true lane)).trans ((pass (decide_eq_true state)).trans
    ((pass (by rw [latch]; rfl)).trans rfl)))

theorem stopLane_ok (lane : n ≤ 3) (state : (u.lane n).state = .running ∨ (u.lane n).state = .held) :
    stopLane n u = .ok ⟨addHold n .operator u, .ok, laneStateFields ((addHold n .operator u).lane n)⟩ :=
  (pass (decide_eq_true lane)).trans ((pass (by simpa using state)).trans rfl)

theorem resumeLane_ok (authorised : authority custodianAtOffice [cred] u = .ok ()) (lane : n ≤ 3) (state : (u.lane n).state = .held) :
    resumeLane n cred u = .ok ⟨putLane n (settleHeld { u.lane n with holds := resumedHolds (u.lane n).holds u.csc.latch }) u, .ok,
      laneStateFields (settleHeld { u.lane n with holds := resumedHolds (u.lane n).holds u.csc.latch })⟩ :=
  (passed authorised).trans ((pass (decide_eq_true lane)).trans ((pass (decide_eq_true state)).trans rfl))

/-- R118: the closed batch in the valuation queue, before its entries are reserved. -/
def batchQueued (n : Nat) (coins : Option (Table Nat)) (u : State) : State :=
  putLane n (closingLane coins (u.lane n)) { u with rcu.queue := u.rcu.queue ++ [.lane n] }

/-- R118, R119: the state that CLOSE_BATCH leaves. -/
def batchClosed (n : Nat) (coins : Option (Table Nat)) (u : State) : State := makeReservation (batchQueued n coins u)

theorem closeBatch_ok {coins : Option (Table Nat)} {b : Batch} (authorised : authority custodianAtOffice [cred] u = .ok ()) (lane : n ≤ 3)
    (fits : coinsOk (coins.getD []) u = true) (state : (u.lane n).state = .ready ∨ (u.lane n).state = .held)
    (batch : (u.lane n).batch = some b) (queue : u.rcu.queue.length < 6) (day : u.acu.day = .dayOpen) (room : 11 ≤ u.journalFree) :
    closeBatch n coins cred u = .ok ⟨batchClosed n coins u, .accepted, [fLane (some n), fRef (some b.ref)]⟩ := by
  have on : (u.lane n).state ≠ .off ∧ (u.lane n).state ≠ .idle ∧ (u.lane n).state ≠ .fault ∧ (u.lane n).state ≠ .faultLocked ∧
      (u.lane n).state ≠ .running ∧ (u.lane n).state ≠ .closing := by
    rcases state with ready | waits <;> simp [*]
  obtain ⟨off, idle, fault, locked, running, closing⟩ := on
  have reserves : requireReservation u = .ok () := (pass (decide_eq_true day)).trans (by rw [hostRoom (n := 3) room]; rfl)
  refine (passed authorised).trans ((pass (by simp [lane, fits])).trans ((pass (by simp [off])).trans ((pass (by simp [idle])).trans
    ((pass (by simp [fault, locked])).trans ((pass (by simp [running, closing])).trans ((pass (decide_eq_true queue)).trans
      ((passed reserves).trans ?_)))))))
  have ref : (u.lane n).batch.map Batch.ref = some b.ref := by rw [batch]; rfl
  dsimp only
  rw [ref]
  rfl

/-- R121: the state that ABORT_BATCH leaves. -/
def batchAborted (n r : Nat) (b : Bag) (u : State) : State :=
  putLane n (popOrIdle (u.lane n)) (putBag r { b with state := b.beforeCounting, custody := .bench } u)

theorem abortBatch_ok {x : Batch} {b : Bag} (authorised : authority custodianAtOffice [cred] u = .ok ()) (lane : n ≤ 3)
    (state : (u.lane n).state = .ready ∨ (u.lane n).state = .held) (batch : (u.lane n).batch = some x) (held : u.bag x.ref = some b) :
    abortBatch n cred u = .ok ⟨batchAborted n x.ref b u, .ok, [fRef (some x.ref),
      fNamed (codeOpt BagState.list (((batchAborted n x.ref b u).bag x.ref).map Bag.state)),
      fNamed (codeIn LaneState.list ((batchAborted n x.ref b u).lane n).state)]⟩ := by
  have on : (u.lane n).state ≠ .off ∧ (u.lane n).state ≠ .idle ∧ (u.lane n).state ≠ .fault ∧ (u.lane n).state ≠ .faultLocked ∧
      (u.lane n).state ≠ .running ∧ (u.lane n).state ≠ .closing := by
    rcases state with ready | waits <;> simp [*]
  obtain ⟨off, idle, fault, locked, running, closing⟩ := on
  have ref : ((u.lane n).batch.map Batch.ref).getD 0 = x.ref := by rw [batch]; rfl
  have returned : returnBag x.ref u = putBag x.ref { b with state := b.beforeCounting, custody := .bench } u := by rw [returnBag, held]
  refine (passed authorised).trans ((pass (decide_eq_true lane)).trans ((pass (by simp [off])).trans ((pass (by simp [idle])).trans
    ((pass (by simp [running, closing])).trans ((pass (by simp [fault, locked])).trans ?_)))))
  dsimp only
  rw [ref, returned]
  rfl

theorem clearFault_ok (authorised : authority custodianAtOffice [cred] u = .ok ()) (lane : n ≤ 3)
    (state : (u.lane n).state = .fault ∨ (u.lane n).state = .faultLocked ∧ u.officeClass cred = some .supervisor)
    (free : ∀ x, (u.lane n).batch = some x → x.queued = false) : clearFault n cred u =
      .ok ⟨putLane n (clearedLane (u.lane n)) u, .ok, laneStateFields (clearedLane (u.lane n))⟩ := by
  have owner : (decide ((u.lane n).state ≠ .faultLocked) || decide (u.officeClass cred = some .supervisor)) = true := by
    rcases state with fault | ⟨locked, supervisor⟩
    · simp [fault]
    · simp [supervisor]
  have faulted : (decide ((u.lane n).state = .fault) || decide ((u.lane n).state = .faultLocked)) = true := by
    rcases state with fault | ⟨locked, supervisor⟩ <;> simp [*]
  have idle : (!((u.lane n).batch.map Batch.queued).getD false) = true := by
    cases batch : (u.lane n).batch with
    | none => rfl
    | some x => simp [free x batch]
  exact (passed authorised).trans ((pass owner).trans ((pass (decide_eq_true lane)).trans ((pass faulted).trans ((pass idle).trans rfl))))

end Bodies

/-- R76: a SUPERVISOR present at OFFICE. -/
theorem officeClass_of_presentAs {s : State} {cred : Nat} (h : s.presentAs .office cred [.supervisor] = true) :
    s.officeClass cred = some .supervisor := by
  unfold State.presentAs at h
  cases there : s.presenceOf .office cred with
  | none => simp [there] at h
  | some e =>
    simp only [there, List.mem_singleton, decide_eq_true_eq] at h
    simp [State.officeClass, there, h]

section Closed

variable {n : Nat} {coins : Option (Table Nat)} {u : State}

theorem batchClosed_lane (m : Nat) : (batchClosed n coins u).lane m = if m = n then closingLane coins (u.lane n) else u.lane m := by
  have kept : (batchClosed n coins u).clc = (batchQueued n coins u).clc := by simp [batchClosed]
  rw [State.lane, kept]
  exact putLane_lane ..

theorem batchClosed_acu : (batchClosed n coins u).acu = { u.acu with reserved := u.acu.reserved + 3 } := by
  have synced : ∀ v, (syncJournal v).acu = v.acu := fun v => by simp
  rw [batchClosed, makeReservation, synced]
  rfl

theorem batchClosed_frame : onlyChutes u (batchClosed n coins u) ∧
    (batchClosed n coins u).rcu = { u.rcu with queue := u.rcu.queue ++ [.lane n] } ∧
    (batchClosed n coins u).sys = u.sys ∧ (batchClosed n coins u).cru = u.cru ∧ (batchClosed n coins u).bgr = u.bgr ∧
    (batchClosed n coins u).tau = u.tau ∧ (batchClosed n coins u).wcu = u.wcu ∧ (batchClosed n coins u).hoc = u.hoc :=
  ⟨onlyChutes_trans _ _ _ (onlyChutes_of_eq u (batchQueued n coins u) rfl rfl rfl) (makeReservation_onlyChutes _),
    by simp [batchClosed, batchQueued], by simp [batchClosed, batchQueued], by simp [batchClosed, batchQueued],
    by simp [batchClosed, batchQueued], by simp [batchClosed, batchQueued], by simp [batchClosed, batchQueued],
    by simp [batchClosed, batchQueued]⟩

end Closed

end Sys2Proof.Machine

namespace Sys2Proof.Proofs.Lanes

open Sys2Proof Sys2Proof.Machine

/-- Settles O39. -/
theorem laneLoadStartStop : Obligations.LaneLoadStartStop := by
  unfold Obligations.LaneLoadStartStop
  refine ⟨fun s tag n r cred urgent b taken present lane low high held day stacker reject purpose state place => ?load,
    fun s tag n cred lane => ⟨fun taken present state latch => ?start, fun taken state => ?stop, fun taken present state => ?resume⟩⟩
  case load =>
    obtain ⟨onIdle, onUrgent⟩ := loadLane_of (u := takeFrom s) (urgent := urgent) (custodianAtOffice_ok cred s present) lane low high held
      day stacker reject purpose state place
    refine ⟨fun idle => ?_, fun cur atWork isUrgent batch room => ?_⟩
    · refine ⟨_, _, exec_ok (i := .loadLane tag n r urgent cred) rfl taken (onIdle idle), rfl, fun q => putBag_bag .., ?_,
        fun i slot f k note => ?_, fun m other => (putLane_lane ..).trans (if_neg other)⟩
      · exact (putLane_lane ..).trans (if_pos rfl)
      · rw [get_loadedStraps s slot, note]
        rfl
    · have ok := exec_ok (i := .loadLane tag n r urgent cred) rfl taken (onUrgent atWork isUrgent room)
      refine ⟨_, _, ok, rfl, fun q => putBag_bag .., ?_, fun m other => (putLane_lane ..).trans (if_neg other)⟩
      refine (putLane_lane ..).trans ((if_pos rfl).trans ?_)
      rw [pushedLane, takeFrom_lane, batch]
      rfl
  case start =>
    exact ⟨_, exec_ok (i := .start tag n cred) rfl taken (startLane_ok (u := takeFrom s) (custodianAtOffice_ok cred s present) lane state latch),
      rfl, fun m => putLane_lane ..⟩
  case stop =>
    have ok := exec_ok (i := .stop tag n) rfl taken (stopLane_ok (u := takeFrom s) lane (state.imp And.left id))
    have frame := addHold_frame n .operator (takeFrom s)
    have notices := addHold_onlyNotices n .operator (takeFrom s)
    have lanes := fun m => addHold_lane n m .operator (takeFrom s)
    obtain ⟨ubc, -⟩ := addHold_holdSends n .operator (takeFrom s)
    have same : (takeFrom s).ubc = s.ubc := rfl
    simp only [takeFrom_lane, same] at ubc lanes
    generalize addHold n .operator (takeFrom s) = t at ok frame notices lanes ubc
    refine ⟨t, _, ok, frame, notices, ubc.trans ?_, fun m => (lanes m).trans ?_⟩
    · rcases state with ⟨running, free⟩ | waits
      · have free' : (s.lane n).holds.has .operator = false := free
        simp [running, free']
      · simp [waits]
    · rcases state with ⟨running, free⟩ | waits
      · have free' : (s.lane n).holds.has .operator = false := free
        simp [running, free', HoldSet.put]
      · simp [waits, HoldSet.put]
  case resume =>
    refine ⟨_, _, resumedHolds (s.lane n).holds s.csc.latch, exec_ok (i := .resume tag n cred) rfl taken
      (resumeLane_ok (u := takeFrom s) (custodianAtOffice_ok cred s present) lane state), rfl, rfl, fun m => ?_⟩
    refine (putLane_lane ..).trans ?_
    rw [settleHeld_eq, takeFrom_lane, takeFrom_lane]
    simp only [state, true_and]
    rfl

/-- Settles O42. -/
theorem batchEndsAndFaultClears : Obligations.BatchEndsAndFaultClears := by
  unfold Obligations.BatchEndsAndFaultClears
  refine ⟨fun s tag n cred coins b taken present lane fits state batch queue day room => ?close,
    fun s tag n cred lane present => ⟨fun x b taken state batch held => ?abort, fun taken state free => ?clear⟩⟩
  case close =>
    have ok := exec_ok (i := .closeBatch tag n coins cred) rfl taken (closeBatch_ok (u := takeFrom s) (custodianAtOffice_ok cred s present)
      lane fits state batch queue day room)
    have lanes := fun m => batchClosed_lane (n := n) (coins := coins) (u := takeFrom s) m
    have acu := batchClosed_acu (n := n) (coins := coins) (u := takeFrom s)
    obtain ⟨chutes, rcu, frame⟩ := batchClosed_frame (n := n) (coins := coins) (u := takeFrom s)
    generalize batchClosed n coins (takeFrom s) = t at ok lanes acu chutes rcu frame
    refine ⟨t, { b with tally := withCoins b.tally (coins.getD []), queued := true }, ok, ?_, rfl, rfl, withCoins_unreadable ..,
      fun i slot => ?_, fun m other => (lanes m).trans (if_neg other), rcu, acu, chutes, frame⟩
    rotate_left
    · exact tallySlot_withCoins b.tally (coins.getD []) slot
    rw [lanes, if_pos rfl, closingLane, takeFrom_lane, batch]
    rfl
  case abort =>
    refine ⟨_, _, exec_ok (i := .abortBatch tag n cred) rfl taken
      (abortBatch_ok (u := takeFrom s) (custodianAtOffice_ok cred s present) lane state batch held), rfl, fun q => putBag_bag .., ?_,
      fun m other => (putLane_lane ..).trans (if_neg other)⟩
    refine (putLane_lane ..).trans ((if_pos rfl).trans ?_)
    exact popOrIdle_eq ..
  case clear =>
    have owner := state.imp id (And.imp id (officeClass_of_presentAs (cred := cred)))
    refine ⟨_, _, exec_ok (i := .clearFault tag n cred) rfl taken (clearFault_ok (u := takeFrom s) (custodianAtOffice_ok cred s present) lane
      owner free), rfl, fun x batch => ?_, fun none => ?_, fun m other => (putLane_lane ..).trans (if_neg other)⟩
    · exact (putLane_lane ..).trans ((if_pos rfl).trans (clearedLane_of_some batch))
    · exact (putLane_lane ..).trans ((if_pos rfl).trans (clearedLane_of_none none))

end Sys2Proof.Proofs.Lanes
end

section
/-!
The records of a counting lane (R112 to R117, R122, R123): notes, pockets and jams.
-/

namespace Sys2Proof.Machine

open Sys2Proof

set_option Elab.async false

/-! ## Holding a lane that has just counted a note -/

section Held

variable {n : Nat} {c : HoldCause} {l : Lane} {s : State}

/-- R109: a hold cause added to a lane whose record has changed, but neither its state nor its hold set. -/
theorem addHold_putLane (state : l.state = (s.lane n).state) (holds : l.holds = (s.lane n).holds) (ready : (s.lane n).state ≠ .ready) :
    addHold n c (putLane n l s) = { s with
      clc := (addHold n c (putLane n l s)).clc, hpt := (addHold n c (putLane n l s)).hpt, ubc := (addHold n c (putLane n l s)).ubc } ∧
    holdSends n c s (addHold n c (putLane n l s)) ∧
    (addHold n c (putLane n l s)).lane n = { l with
      holds := (s.lane n).holds.put c true
      state := if (s.lane n).state = .running ∧ (s.lane n).holds.has c = false then .held else (s.lane n).state } ∧
    ∀ m, m ≠ n → (addHold n c (putLane n l s)).lane m = s.lane m := by
  have own : (putLane n l s).lane n = l := by simp
  obtain ⟨ubc, hpt⟩ := addHold_holdSends n c (putLane n l s)
  have lanes := fun m => addHold_lane n m c (putLane n l s)
  have frame := addHold_frame n c (putLane n l s)
  rw [own, state, holds] at ubc
  rw [own, holds] at hpt
  simp only [own, state, holds] at lanes
  generalize addHold n c (putLane n l s) = t at ubc hpt lanes frame
  refine ⟨frame, ⟨ubc, hpt.trans ?_⟩, (lanes n).trans ?_, fun m other => ((lanes m).trans (if_neg other)).trans ?_⟩
  · split
    · rfl
    · exact notify_hpt_congr _ _ _ _ rfl
  · rw [if_pos rfl]
    congr 1
    by_cases running : (s.lane n).state = .running <;> simp [ready, running]
  · exact (putLane_lane ..).trans (if_neg other)

/-- R113, R114: a pocket's count that goes up by one, with the hold cause of the pocket when it is full. -/
theorem counted_effect {k full : Nat} (state : l.state = (s.lane n).state) (holds : l.holds = (s.lane n).holds)
    (ready : (s.lane n).state ≠ .ready) :
    ∃ t, (if k + 1 = full + 1 then addHold n c (putLane n l s) else putLane n l s) = t ∧
      (k ≠ full → t = { s with clc := t.clc } ∧ t.lane n = l) ∧
      (k = full → t = { s with clc := t.clc, hpt := t.hpt, ubc := t.ubc } ∧ holdSends n c s t ∧ t.lane n = { l with
        holds := (s.lane n).holds.put c true
        state := if (s.lane n).state = .running ∧ (s.lane n).holds.has c = false then .held else (s.lane n).state }) ∧
      ∀ m, m ≠ n → t.lane m = s.lane m := by
  refine ⟨_, rfl, fun more => ?_, fun last => ?_, fun m other => ?_⟩
  · rw [if_neg (by omega)]
    exact ⟨rfl, (putLane_lane ..).trans (if_pos rfl)⟩
  · rw [if_pos (by omega)]
    obtain ⟨frame, sends, own, -⟩ := addHold_putLane (c := c) state holds ready
    exact ⟨frame, sends, own⟩
  · split
    · exact (addHold_putLane state holds ready).2.2.2 m other
    · exact (putLane_lane ..).trans (if_neg other)

end Held

/-! ## The batch after a note -/

theorem markLate_eq (b : Batch) (st : LaneState) : b.markLate st = { b with lateNotes := b.lateNotes || decide (st = .closing) } := by
  unfold Batch.markLate
  split
  · next closing => simp [closing]
  · next other => simp [other]

theorem tallySlot_putSlot (b : Batch) (i j : Nat) (c : SlotCount) :
    tallySlot (b.putSlot i c).tally j = if j = i then c else tallySlot b.tally j := by
  by_cases same : j = i <;> simp [tallySlot, Batch.putSlot, same]

theorem countStrap_more {b : Batch} {i k : Nat} (h : 2 ≤ Table.get 0 b.straps i) :
    b.countStrap i k = { b with straps := Table.set 0 b.straps i (Table.get 0 b.straps i - 1) } := if_neg (by omega)

theorem countStrap_full_of_more {b : Batch} {i k : Nat} (h : 2 ≤ Table.get 0 b.straps i) : (b.countStrap i k).full = b.full := by
  rw [countStrap_more h]

theorem countStrap_tally (b : Batch) (i k : Nat) : (b.countStrap i k).tally = b.tally := (countStrap_eq b i k).1

theorem countStrap_fields (b : Batch) (i k : Nat) :
    b.countStrap i k = { b with straps := (b.countStrap i k).straps, full := (b.countStrap i k).full } := by
  unfold Batch.countStrap
  dsimp only
  split <;> rfl

/-- R113: the batch with a stacker note. -/
def stackedBatch (b : Batch) (i strap : Nat) (st : LaneState) : Fitness → Batch
  | .fit => ((b.putSlot i { tallySlot b.tally i with fit := (tallySlot b.tally i).fit + 1 }).countStrap i strap).markLate st
  | .unfit => (b.putSlot i { tallySlot b.tally i with unfit := (tallySlot b.tally i).unfit + 1 }).markLate st

/-- R114: the batch with a reject note; `slot` is its NOTE slot when it counts as a suspect. -/
def rejectedBatch (b : Batch) (st : LaneState) : Option Nat → Batch
  | some i => (b.putSlot i { tallySlot b.tally i with suspect := (tallySlot b.tally i).suspect + 1 }).markLate st
  | none => ({ b with tally := { b.tally with unreadable := b.tally.unreadable + 1 } } : Batch).markLate st

theorem stackedBatch_tally (b : Batch) (i k : Nat) (st : LaneState) (g : Fitness) :
    (∀ j, j ≠ i → tallySlot (stackedBatch b i k st g).tally j = tallySlot b.tally j) ∧
    (stackedBatch b i k st g).tally.unreadable = b.tally.unreadable := by
  cases g <;> simp only [stackedBatch, markLate_eq, countStrap_tally] <;>
    exact ⟨fun j other => (tallySlot_putSlot ..).trans (if_neg other), rfl⟩

/-- R20: the straps and the full straps of a batch with a stacker note. -/
theorem stackedBatch_straps (b : Batch) (i k : Nat) (st : LaneState) (g : Fitness) :
    (g = .unfit → (stackedBatch b i k st g).straps = b.straps ∧ (stackedBatch b i k st g).full = b.full) ∧
    (g = .fit → 2 ≤ Table.get 0 b.straps i → Table.get 0 (stackedBatch b i k st g).straps i = Table.get 0 b.straps i - 1 ∧
      (stackedBatch b i k st g).full = b.full) ∧
    (g = .fit → Table.get 0 b.straps i = 1 → Table.get 0 (stackedBatch b i k st g).straps i = k ∧
      Table.get 0 (stackedBatch b i k st g).full i = Table.get 0 b.full i + 1) ∧
    ∀ j, j ≠ i → Table.get 0 (stackedBatch b i k st g).straps j = Table.get 0 b.straps j ∧
      Table.get 0 (stackedBatch b i k st g).full j = Table.get 0 b.full j := by
  cases g
  · obtain ⟨-, last, more, others⟩ :=
      countStrap_eq (b.putSlot i { tallySlot b.tally i with fit := (tallySlot b.tally i).fit + 1 }) i k
    simp only [stackedBatch, markLate_eq]
    refine ⟨fun unfit => absurd unfit (by decide), fun _ some => ⟨(more some).1, ?_⟩, fun _ one => last (le_of_eq one), others⟩
    exact countStrap_full_of_more (b := b.putSlot i _) some
  · simp only [stackedBatch, markLate_eq]
    exact ⟨fun _ => ⟨rfl, rfl⟩, fun fit => absurd fit (by decide), fun fit => absurd fit (by decide), fun j _ => ⟨rfl, rfl⟩⟩

theorem stackedBatch_fields (b : Batch) (i k : Nat) (st : LaneState) (g : Fitness) : stackedBatch b i k st g = { b with
    tally := (stackedBatch b i k st g).tally, straps := (stackedBatch b i k st g).straps, full := (stackedBatch b i k st g).full
    lateNotes := b.lateNotes || decide (st = .closing) } := by
  cases g
  · simp only [stackedBatch, markLate_eq]
    rw [countStrap_fields]
    rfl
  · simp only [stackedBatch, markLate_eq]
    rfl

theorem rejectedBatch_suspect (b : Batch) (st : LaneState) (i : Nat) :
    tallySlot (rejectedBatch b st (some i)).tally i = { tallySlot b.tally i with suspect := (tallySlot b.tally i).suspect + 1 } ∧
    (∀ j, j ≠ i → tallySlot (rejectedBatch b st (some i)).tally j = tallySlot b.tally j) ∧
    rejectedBatch b st (some i) = { b with
      tally := { b.tally with slots := (rejectedBatch b st (some i)).tally.slots }
      lateNotes := b.lateNotes || decide (st = .closing) } := by
  simp only [rejectedBatch, markLate_eq]
  exact ⟨(tallySlot_putSlot ..).trans (if_pos rfl), fun j other => (tallySlot_putSlot ..).trans (if_neg other), rfl⟩

section Stacked

variable {n i strap : Nat} {g : Fitness} {b : Batch} {s : State}

theorem stackerNote_counts (room : (s.lane n).stacker < 220) (fit : g = .fit → (tallySlot b.tally i).fit < 999999)
    (unfit : g = .unfit → (tallySlot b.tally i).unfit < 999999) : stackerNote n i strap g b s =
      if (s.lane n).stacker + 1 = 200 then
        addHold n .stackerFull (putLane n { s.lane n with
          batch := some (stackedBatch b i strap (s.lane n).state g), stacker := (s.lane n).stacker + 1 } s)
      else putLane n { s.lane n with
          batch := some (stackedBatch b i strap (s.lane n).state g), stacker := (s.lane n).stacker + 1 } s := by
  unfold stackerNote
  cases g
  · have some : ¬ maxPieces ≤ (tallySlot b.tally i).fit := not_le.mpr (fit rfl)
    dsimp only
    rw [if_neg (by omega), if_neg some]
    rfl
  · have some : ¬ maxPieces ≤ (tallySlot b.tally i).unfit := not_le.mpr (unfit rfl)
    dsimp only
    rw [if_neg (by omega), if_neg some]
    rfl

theorem stackerNote_overflow (full : 220 ≤ (s.lane n).stacker) : stackerNote n i strap g b s = faultLane n .overflow s := if_pos full

theorem stackerNote_range (room : (s.lane n).stacker < 220)
    (many : g = .fit ∧ 999999 ≤ (tallySlot b.tally i).fit ∨ g = .unfit ∧ 999999 ≤ (tallySlot b.tally i).unfit) :
    stackerNote n i strap g b s = faultLane n .countRange s := by
  refine (if_neg (by omega)).trans (if_pos ?_)
  rcases many with ⟨rfl, many⟩ | ⟨rfl, many⟩ <;> exact many

end Stacked

section Rejected

variable {n : Nat} {slot : Option Nat} {b : Batch} {s : State}

theorem rejectNote_suspect {i : Nat} (room : (s.lane n).reject < 50) (few : (tallySlot b.tally i).suspect < 999999) :
    rejectNote n (some i) b s =
      if (s.lane n).reject + 1 = 50 then
        addHold n .rejectFull (putLane n { s.lane n with
          batch := some (rejectedBatch b (s.lane n).state (some i)), reject := (s.lane n).reject + 1 } s)
      else putLane n { s.lane n with
          batch := some (rejectedBatch b (s.lane n).state (some i)), reject := (s.lane n).reject + 1 } s :=
  (if_neg (by omega)).trans (if_neg (not_le.mpr few))

theorem rejectNote_unreadable (room : (s.lane n).reject < 50) (few : b.tally.unreadable < 999999) :
    rejectNote n none b s =
      if (s.lane n).reject + 1 = 50 then
        addHold n .rejectFull (putLane n { s.lane n with
          batch := some (rejectedBatch b (s.lane n).state none), reject := (s.lane n).reject + 1 } s)
      else putLane n { s.lane n with
          batch := some (rejectedBatch b (s.lane n).state none), reject := (s.lane n).reject + 1 } s :=
  (if_neg (by omega)).trans (if_neg (not_le.mpr few))

theorem rejectNote_faults_suspect {i : Nat} (fails : 50 ≤ (s.lane n).reject ∨ 999999 ≤ (tallySlot b.tally i).suspect) :
    rejectNote n (some i) b s = faultLane n (if 50 ≤ (s.lane n).reject then .overflow else .countRange) s := by
  by_cases full : 50 ≤ (s.lane n).reject
  · rw [if_pos full]
    exact if_pos full
  · rw [if_neg full]
    exact (if_neg full).trans (if_pos (fails.resolve_left full))

theorem rejectNote_faults_unreadable (fails : 50 ≤ (s.lane n).reject ∨ 999999 ≤ b.tally.unreadable) :
    rejectNote n none b s = faultLane n (if 50 ≤ (s.lane n).reject then .overflow else .countRange) s := by
  by_cases full : 50 ≤ (s.lane n).reject
  · rw [if_pos full]
    exact if_pos full
  · rw [if_neg full]
    exact (if_neg full).trans (if_pos (fails.resolve_left full))

end Rejected

/-! ## What a note is taken as -/

section Taken

variable {n : Nat} {slot : Option Nat} {g : Fitness} {x : Bool} {b : Batch} {s : State}

theorem takeNote_at_work (batch : (s.lane n).batch = some b)
    (work : (s.lane n).state = .running ∨ (s.lane n).state = .held ∨ (s.lane n).state = .closing) {i f k : Nat} (low : i ≤ 7)
    (note : s.denom i = .note f k) :
    takeNote n (some i) g x s = if x then rejectNote n (some i) b s else stackerNote n i k g b s := by
  have held : (some i).filter (fun i => decide (i ≤ 7)) = some i := by simp [low]
  unfold takeNote
  simp only [held, batch, if_pos work, note, Denom.strap?]

theorem takeNote_unreadable (batch : (s.lane n).batch = some b)
    (work : (s.lane n).state = .running ∨ (s.lane n).state = .held ∨ (s.lane n).state = .closing)
    (none' : slot = none ∨ ∃ i, slot = some i ∧ (7 < i ∨ (s.denom i).strap? = none)) : takeNote n slot g x s = rejectNote n none b s := by
  unfold takeNote
  simp only [batch, if_pos work]
  rcases none' with rfl | ⟨i, rfl, high | other⟩
  · rfl
  · have out : (some i).filter (fun i => decide (i ≤ 7)) = none := by simp; omega
    simp only [out]
  · by_cases low : i ≤ 7
    · have held : (some i).filter (fun i => decide (i ≤ 7)) = some i := by simp [low]
      simp only [held, other]
    · have out : (some i).filter (fun i => decide (i ≤ 7)) = none := by simp; omega
      simp only [out]

theorem takeNote_stray (idle : (s.lane n).batch = none ∨ (s.lane n).state = .ready ∨ (s.lane n).state = .fault ∨
    (s.lane n).state = .faultLocked) : takeNote n slot g x s = strayNote n (slot.filter (fun i => decide (i ≤ 7))) g x s := by
  unfold takeNote
  cases batch : (s.lane n).batch with
  | none => simp only [batch]
  | some b =>
    rcases idle with none | state | state | state
    · simp [batch] at none
    all_goals simp [batch, state]

end Taken

/-! ## Jams -/

/-- R122, R123: what a jam leaves of a lane's blocks. -/
def JamLeaves (n : Nat) (s t : State) : Prop :=
  t = { s with clc := t.clc, hpt := t.hpt, ubc := t.ubc } ∧
  t.hpt = (notify .fault [fLane (some n), fNamed (codeIn FaultCause.list .jam), fNamed (codeIn LaneState.list (t.lane n).state),
    fRef (if (s.lane n).state = .idle ∨ (s.lane n).state = .off then none else (s.lane n).batch.map Batch.ref),
    fFlag (decide ((s.lane n).state = .idle ∨ (s.lane n).state = .off))] s).hpt ∧
  t.ubc = { s.ubc with commands :=
    if (s.lane n).state = .running then s.ubc.commands ++ s.ubc.sends [(.lane n, .stop)] else s.ubc.commands } ∧
  ∀ m, m ≠ n → t.lane m = s.lane m

section Jam

variable {n : Nat} {s : State}

theorem takeJam_resting (rests : (s.lane n).state = .idle ∨ (s.lane n).state = .off) :
    JamLeaves n s (takeJam n s) ∧ (takeJam n s).lane n = s.lane n := by
  have sends : takeJam n s = notify .fault [fLane (some n), fNamed (codeIn FaultCause.list .jam),
      fNamed (codeIn LaneState.list (s.lane n).state), fRef none, fFlag true] s := by
    unfold takeJam
    dsimp only
    rcases rests with state | state <;> rw [state] <;> rfl
  have still : (s.lane n).state ≠ .running := by rcases rests with state | state <;> simp [state]
  rw [sends]
  refine ⟨⟨by rw [notify_eq], ?_, ?_, fun m _ => lane_notify ..⟩, lane_notify ..⟩
  · rw [lane_notify, if_pos rests, decide_eq_true rests]
  · rw [if_neg still, notify_eq]

theorem takeJam_fault (state : (s.lane n).state = .fault) :
    JamLeaves n s (takeJam n s) ∧ (takeJam n s).lane n = { s.lane n with state := .faultLocked, locked := true } := by
  have sends : takeJam n s = notifyFault n .jam .faultLocked ((s.lane n).batch.map Batch.ref) false
      (putLane n { s.lane n with state := .faultLocked, locked := true } s) := by
    unfold takeJam
    dsimp only
    rw [state]
  have own : (takeJam n s).lane n = { s.lane n with state := .faultLocked, locked := true } := by
    rw [sends, notifyFault, lane_notify]
    exact (putLane_lane ..).trans (if_pos rfl)
  refine ⟨⟨?_, ?_, ?_, fun m other => ?_⟩, own⟩
  · rw [sends, notifyFault, notify_eq]
    rfl
  · rw [own, sends, state]
    exact notify_hpt_congr _ _ _ _ rfl
  · rw [sends, notifyFault, notify_eq, state]
    rfl
  · rw [sends, notifyFault, lane_notify]
    exact (putLane_lane ..).trans (if_neg other)

theorem takeJam_faultLocked (state : (s.lane n).state = .faultLocked) :
    JamLeaves n s (takeJam n s) ∧ (takeJam n s).lane n = s.lane n := by
  have sends : takeJam n s = notifyFault n .jam .faultLocked ((s.lane n).batch.map Batch.ref) false s := by
    unfold takeJam
    dsimp only
    rw [state]
  have own : (takeJam n s).lane n = s.lane n := by rw [sends, notifyFault, lane_notify]
  refine ⟨⟨?_, ?_, ?_, fun m _ => ?_⟩, own⟩
  · rw [sends, notifyFault, notify_eq]
  · rw [own, sends, state]
    rfl
  · rw [sends, notifyFault, notify_eq, state]
    rfl
  · rw [sends, notifyFault, lane_notify]

theorem takeJam_atWork (work : (s.lane n).state = .ready ∨ (s.lane n).state = .running ∨ (s.lane n).state = .held ∨
    (s.lane n).state = .closing) :
    JamLeaves n s (takeJam n s) ∧ (takeJam n s).lane n = { s.lane n with state := .fault, fault := some .jam } := by
  have falls : takeJam n s = faultLane n .jam s := by
    unfold takeJam
    dsimp only
    rcases work with state | state | state | state <;> rw [state]
  have on : ¬ ((s.lane n).state = .idle ∨ (s.lane n).state = .off) := by rcases work with state | state | state | state <;> simp [state]
  obtain ⟨frame, own, others, ubc, hpt⟩ := faultLane_faults n .jam s
  rw [falls]
  refine ⟨⟨frame, ?_, ubc, others⟩, own⟩
  rw [hpt, own, if_neg on, decide_eq_false on]
  rfl

theorem takeJam_leaves (n : Nat) (s : State) : JamLeaves n s (takeJam n s) := by
  cases state : (s.lane n).state
  case idle => exact (takeJam_resting (.inl state)).1
  case off => exact (takeJam_resting (.inr state)).1
  case fault => exact (takeJam_fault state).1
  case faultLocked => exact (takeJam_faultLocked state).1
  case ready => exact (takeJam_atWork (.inl state)).1
  case running => exact (takeJam_atWork (.inr (.inl state))).1
  case held => exact (takeJam_atWork (.inr (.inr (.inl state)))).1
  case closing => exact (takeJam_atWork (.inr (.inr (.inr state)))).1

end Jam

theorem exec_note {n : Nat} {slot : Option Nat} {g : Fitness} {x : Bool} {s : State} (operates : s.operating = true) (lane : n ≤ 3) :
    exec (.note n slot g x) s = .next (takeNote n slot g x s) := unitRecord_operating _ _ s operates (decide_eq_true lane)

theorem exec_pocket {n : Nat} {p : Pocket} {s : State} (operates : s.operating = true) (lane : n ≤ 3) :
    exec (.pocket n p) s = .next (emptyPocket n p s) := unitRecord_operating _ _ s operates (decide_eq_true lane)

theorem exec_jam {n : Nat} {s : State} (operates : s.operating = true) (lane : n ≤ 3) :
    exec (.jam n) s = .next (takeJam n s) := unitRecord_operating _ _ s operates (decide_eq_true lane)

end Sys2Proof.Machine

namespace Sys2Proof.Proofs.Notes

open Sys2Proof Sys2Proof.Machine

/-- Settles O40. -/
theorem notesAreTallied : Obligations.NotesAreTallied := by
  unfold Obligations.NotesAreTallied
  refine fun s n slot g x operates lane => ⟨fun b i f k batch work low note => ?tallied, fun b none' batch work => ?unreadable, fun idle => ?stray⟩
  case tallied =>
    have ready : (s.lane n).state ≠ .ready := by rcases work with state | state | state <;> simp [state]
    have taken := fun x => (exec_note (g := g) (x := x) operates lane).trans (congrArg Host.Outcome.next (takeNote_at_work batch work low note))
    refine ⟨fun room fit unfit => ?_, fun room few => ?_, fun full => ?_, fun room many => ?_, fun fails => ?_⟩
    · have counts := (taken false).trans (congrArg Host.Outcome.next (stackerNote_counts room fit unfit))
      obtain ⟨t, eq, effect⟩ := counted_effect (c := .stackerFull) (full := 199) (k := (s.lane n).stacker) (l := { s.lane n with
        batch := some (stackedBatch b i k (s.lane n).state g), stacker := (s.lane n).stacker + 1 }) rfl rfl ready
      obtain ⟨more, last, others⟩ := effect
      obtain ⟨slots, unreadable⟩ := stackedBatch_tally b i k (s.lane n).state g
      obtain ⟨unfits, strap, fullStrap, straps⟩ := stackedBatch_straps b i k (s.lane n).state g
      refine ⟨t, stackedBatch b i k (s.lane n).state g, counts.trans (congrArg Host.Outcome.next eq), more, fun at' => ?_, ?_, slots,
        unreadable, unfits, strap, fullStrap, straps, stackedBatch_fields .., others⟩
      · obtain ⟨frame, sends, own⟩ := last at'
        exact ⟨frame, sends, own.trans (by rw [at']; rfl)⟩
      · cases g <;> simp only [stackedBatch, markLate_eq, countStrap_tally] <;> exact (tallySlot_putSlot ..).trans (if_pos rfl)
    · have counts := (taken true).trans (congrArg Host.Outcome.next (rejectNote_suspect room few))
      obtain ⟨t, eq, more, last, others⟩ := counted_effect (c := .rejectFull) (full := 49) (k := (s.lane n).reject) (l := { s.lane n with
        batch := some (rejectedBatch b (s.lane n).state (some i)), reject := (s.lane n).reject + 1 }) rfl rfl ready
      obtain ⟨own, slots, fields⟩ := rejectedBatch_suspect b (s.lane n).state i
      refine ⟨t, _, counts.trans (congrArg Host.Outcome.next eq), more, fun at' => ?_, own, slots, fields, others⟩
      obtain ⟨frame, sends, own⟩ := last at'
      exact ⟨frame, sends, own.trans (by rw [at']; rfl)⟩
    · exact ⟨_, (taken false).trans (congrArg Host.Outcome.next (stackerNote_overflow full)), faultLane_faults ..⟩
    · exact ⟨_, (taken false).trans (congrArg Host.Outcome.next (stackerNote_range room many)), faultLane_faults ..⟩
    · exact ⟨_, (taken true).trans (congrArg Host.Outcome.next (rejectNote_faults_suspect fails)), faultLane_faults ..⟩
  case unreadable =>
    have ready : (s.lane n).state ≠ .ready := by rcases work with state | state | state <;> simp [state]
    have taken := (exec_note (g := g) (x := x) operates lane).trans (congrArg Host.Outcome.next (takeNote_unreadable batch work none'))
    refine ⟨fun room few => ?_, fun fails => ?_⟩
    · have counts := taken.trans (congrArg Host.Outcome.next (rejectNote_unreadable room few))
      obtain ⟨t, eq, more, last, others⟩ := counted_effect (c := .rejectFull) (full := 49) (k := (s.lane n).reject) (l := { s.lane n with
        batch := some (rejectedBatch b (s.lane n).state none), reject := (s.lane n).reject + 1 }) rfl rfl ready
      refine ⟨t, _, counts.trans (congrArg Host.Outcome.next eq), more, fun at' => ?_, markLate_eq .., others⟩
      obtain ⟨frame, sends, own⟩ := last at'
      exact ⟨frame, sends, own.trans (by rw [at']; rfl)⟩
    · exact ⟨_, taken.trans (congrArg Host.Outcome.next (rejectNote_faults_unreadable fails)), faultLane_faults ..⟩
  case stray => exact (exec_note operates lane).trans (congrArg Host.Outcome.next (takeNote_stray idle))

/-- Settles O41. -/
theorem pocketsAndJams : Obligations.PocketsAndJams := by
  unfold Obligations.PocketsAndJams
  refine fun s n operates lane => ⟨⟨_, exec_pocket operates lane, rfl, ?_, fun m other => (putLane_lane ..).trans (if_neg other)⟩,
    ⟨_, exec_pocket operates lane, rfl, ?_, fun m other => (putLane_lane ..).trans (if_neg other)⟩, ?_⟩
  · exact (putLane_lane ..).trans ((if_pos rfl).trans (settleHeld_eq _))
  · exact (putLane_lane ..).trans ((if_pos rfl).trans (settleHeld_eq _))
  · obtain ⟨frame, hpt, ubc, others⟩ := takeJam_leaves n s
    refine ⟨_, exec_jam operates lane, frame, hpt, ubc, ?_, others⟩
    cases state : (s.lane n).state
    case idle => exact (takeJam_resting (.inl state)).2
    case off => exact (takeJam_resting (.inr state)).2
    case fault => exact (takeJam_fault state).2
    case faultLocked => exact (takeJam_faultLocked state).2
    case ready => exact (takeJam_atWork (.inl state)).2
    case running => exact (takeJam_atWork (.inr (.inl state))).2
    case held => exact (takeJam_atWork (.inr (.inr (.inl state)))).2
    case closing => exact (takeJam_atWork (.inr (.inr (.inr state)))).2

end Sys2Proof.Proofs.Notes
end

section
/-!
Counts by hand and the beginning of a valuation (R131, R132), and the requests of the Watch Unit (R154 to R156).
-/

namespace Sys2Proof.Machine

open Sys2Proof

set_option Elab.async false

section Counts

variable {u : State} {r cred : Nat} {y : Tally} {b : Bag}

/-- R131: the count in the queue, before its entries are reserved. -/
def countQueued (r : Nat) (y : Tally) (b : Bag) (u : State) : State :=
  putBag r { b with state := .counting } { u with rcu.queue := u.rcu.queue ++ [.manual r y] }

/-- R131: the state that COUNT_MANUAL leaves. -/
def manualCounted (r : Nat) (y : Tally) (b : Bag) (u : State) : State := makeReservation (countQueued r y b u)

theorem countManual_ok (authorised : authority custodianAtOffice [cred] u = .ok ()) (low : 1 ≤ r) (high : r ≤ 1024)
    (fits : tallyOk y u = true) (held : u.bag r = some b) (purpose : b.purpose = .takings ∨ b.purpose = .skim ∨ b.purpose = .changeIn)
    (state : b.state = .intact ∨ b.state = .quarantined) (place : b.custody = .bench) (queue : u.rcu.queue.length < 6)
    (day : u.acu.day = .dayOpen) (room : 11 ≤ u.journalFree) : countManual r y cred u =
      .ok ⟨manualCounted r y b u, .accepted, [fRef (some r), fNum 1 (u.rcu.queue.length + 1)]⟩ := by
  have named : (validRef r && tallyOk y u) = true := by simp [validRef, low, high, fits]
  have counted : countedPurpose b.purpose = true := by simpa [countedPurpose, or_assoc] using purpose
  have states : (decide (b.state = .intact) || decide (b.state = .quarantined)) = true := by simpa using state
  have reserves : requireReservation u = .ok () := (pass (decide_eq_true day)).trans (by rw [hostRoom (n := 3) room]; rfl)
  exact (passed authorised).trans ((pass named).trans ((found held).trans ((pass counted).trans ((pass states).trans
    ((pass (decide_eq_true place)).trans ((pass (decide_eq_true queue)).trans ((passed reserves).trans rfl)))))))

theorem manualCounted_bag (q : Nat) : (manualCounted r y b u).bag q = if q = r then some { b with state := .counting } else u.bag q := by
  have kept : (manualCounted r y b u).bgr = (countQueued r y b u).bgr := by simp [manualCounted]
  rw [State.bag, kept]
  exact putBag_bag ..

theorem manualCounted_acu : (manualCounted r y b u).acu = { u.acu with reserved := u.acu.reserved + 3 } := by
  have synced : ∀ v, (syncJournal v).acu = v.acu := fun v => by simp
  rw [manualCounted, makeReservation, synced]
  rfl

theorem manualCounted_bgr : (manualCounted r y b u).bgr = { u.bgr with bags := (manualCounted r y b u).bgr.bags } := by
  have kept : (manualCounted r y b u).bgr = (countQueued r y b u).bgr := by simp [manualCounted]
  rw [kept]
  rfl

theorem manualCounted_frame : onlyChutes u (manualCounted r y b u) ∧
    (manualCounted r y b u).rcu = { u.rcu with queue := u.rcu.queue ++ [.manual r y] } ∧
    (manualCounted r y b u).sys = u.sys ∧ (manualCounted r y b u).cru = u.cru ∧ (manualCounted r y b u).tau = u.tau ∧
    (manualCounted r y b u).clc = u.clc ∧ (manualCounted r y b u).wcu = u.wcu ∧ (manualCounted r y b u).hoc = u.hoc :=
  ⟨onlyChutes_trans _ _ _ (onlyChutes_of_eq u (countQueued r y b u) rfl rfl rfl) (makeReservation_onlyChutes _),
    by simp [manualCounted, countQueued], by simp [manualCounted, countQueued], by simp [manualCounted, countQueued],
    by simp [manualCounted, countQueued], by simp [manualCounted, countQueued], by simp [manualCounted, countQueued],
    by simp [manualCounted, countQueued]⟩

end Counts

theorem exec_valuationBegin {s : State} {e : QueueEntry} {rest : List QueueEntry} {q : QueuedCount} (powered : s.sys.powered = true)
    (free : s.rcu.engine = none) (queue : s.rcu.queue = e :: rest) (count : queuedCount e s = some q) :
    exec .valuationBegin s = .next { s with rcu.engine := some ⟨q.tally, valueTally q.tally s⟩ } := by
  show background beginValuation s = _
  rw [background, if_pos powered, beginValuation, free, queue]
  simp only [count]

/-! ## The Audit Hold -/

theorem officeClass_of_auditor {s : State} {cred : Nat} (h : s.presentAs .office cred [.auditor] = true) :
    s.officeClass cred = some .auditor := by
  unfold State.presentAs at h
  cases there : s.presenceOf .office cred with
  | none => simp [there] at h
  | some e =>
    simp only [there, List.mem_singleton, decide_eq_true_eq] at h
    simp [State.officeClass, there, h]

theorem presentAs_mono {s : State} {rd : Reader} {cred : Nat} {few many : List CredClass} (h : s.presentAs rd cred few = true)
    (sub : few ⊆ many) : s.presentAs rd cred many = true := by
  unfold State.presentAs at h ⊢
  cases there : s.presenceOf rd cred with
  | none => simp [there] at h
  | some e =>
    simp only [there, decide_eq_true_eq] at h ⊢
    exact sub h

theorem requireNoAuditHold_ok {u : State} {cred : Nat} (h : u.wcu.auditHold = false ∨ u.officeClass cred = some .auditor) :
    requireNoAuditHold cred u = .ok () := by
  unfold requireNoAuditHold
  rcases h with clear | auditor
  · rw [clear]
    rfl
  · have other : decide (u.officeClass cred = some .supervisor) = false := by simp [auditor]
    rw [other, Bool.and_false]
    rfl

theorem requireNoAuditHold_refuses {u : State} {cred : Nat} (hold : u.wcu.auditHold = true)
    (supervisor : u.officeClass cred = some .supervisor) : requireNoAuditHold cred u = .error ⟨.auditHold, []⟩ := by
  unfold requireNoAuditHold
  rw [hold, decide_eq_true supervisor]
  rfl

section Watch

variable {u : State} {e cred : Nat} {l m : Option Condition} {same : Bool} {a : Option WatchAction}

theorem checkWatch_ok (action : a.isSome = true) (both : same = true → m.isSome = true) (first : ∃ c, l = some c ∧ conditionOk c = true)
    (second : ∀ c, m = some c → conditionOk c = true) : checkWatch l m same a = .ok () := by
  obtain ⟨c, rfl, firstOk⟩ := first
  have pair : (a.isSome && (!same || m.isSome)) = true := by
    cases same
    · simp [action]
    · simp [action, both rfl]
  have secondOk : (m.map conditionOk).getD true = true := by
    cases m with
    | none => rfl
    | some c => exact second c rfl
  exact (pass pair).trans ((pass firstOk).trans (by rw [secondOk]; rfl))

theorem setWatch_ok {en : Bool} (authorised : authority supervisorOrAuditor [cred] u = .ok ()) (hold : requireNoAuditHold cred u = .ok ())
    (entry : e ≤ 7) (checks : en = true → checkWatch l m same a = .ok ()) : setWatch e en cred l m same a u =
      .ok ⟨putWatch e (writtenEntry en l m same a (u.watchEntry e)) u, .ok,
        [.one (entryAtoms e (writtenEntry en l m same a (u.watchEntry e)))]⟩ := by
  refine (passed authorised).trans ((passed hold).trans ((pass (decide_eq_true entry)).trans ?_))
  cases en
  · rfl
  · exact (passed (checks rfl)).trans rfl

theorem rearmWatch_ok (authorised : authority supervisorOrAuditor [cred] u = .ok ()) (hold : requireNoAuditHold cred u = .ok ())
    (entry : e ≤ 7) (on : (u.watchEntry e).state ≠ .off) : rearmWatch e cred u =
      .ok ⟨putWatch e { u.watchEntry e with state := .armed1, captured := none, firedBy := none } u, .ok,
        [fNamed (codeIn WatchState.list (u.watchEntry e).state), .one (firedByAtoms (u.watchEntry e).firedBy)]⟩ :=
  (passed authorised).trans ((passed hold).trans ((pass (decide_eq_true entry)).trans ((pass (decide_eq_true on)).trans rfl)))

theorem setAuditHold_ok (authorised : authority auditorAtOffice [cred] u = .ok ()) (clear : u.wcu.auditHold = false) :
    setAuditHold cred u = .ok ⟨{ u with wcu.auditHold := true }, .ok, []⟩ :=
  (passed authorised).trans ((pass (by rw [clear]; rfl)).trans rfl)

theorem clearAuditHold_ok (authorised : authority auditorAtOffice [cred] u = .ok ()) (hold : u.wcu.auditHold = true) :
    clearAuditHold cred u = .ok ⟨{ u with wcu.auditHold := false }, .ok, []⟩ :=
  (passed authorised).trans ((pass hold).trans rfl)

end Watch

end Sys2Proof.Machine

namespace Sys2Proof.Proofs.Audits

open Sys2Proof Sys2Proof.Machine

/-- Settles O43. -/
theorem countManualAndBegin : Obligations.CountManualAndBegin := by
  unfold Obligations.CountManualAndBegin
  refine ⟨fun s tag r cred y b taken present low high fits held purpose state place queue day room => ?_,
    fun s r y rest powered free queue => exec_valuationBegin (q := ⟨r, y, false, none⟩) powered free queue rfl,
    fun s n x rest powered free queue batch =>
      exec_valuationBegin (q := ⟨x.ref, x.tally, x.lateNotes, some n⟩) powered free queue (by rw [queuedCount, batch]; rfl)⟩
  have ok := exec_ok (i := .countManual tag r y cred) rfl taken (countManual_ok (u := takeFrom s) (custodianAtOffice_ok cred s present)
    low high fits held purpose state place queue day room)
  have bags := fun q => manualCounted_bag (r := r) (y := y) (b := b) (u := takeFrom s) q
  have bgr := manualCounted_bgr (r := r) (y := y) (b := b) (u := takeFrom s)
  have acu := manualCounted_acu (r := r) (y := y) (b := b) (u := takeFrom s)
  obtain ⟨chutes, rcu, frame⟩ := manualCounted_frame (r := r) (y := y) (b := b) (u := takeFrom s)
  generalize manualCounted r y b (takeFrom s) = t at ok bags bgr acu chutes rcu frame
  exact ⟨t, ok, bags, bgr, rcu, acu, chutes, frame⟩

/-- Settles O47. -/
theorem watchRequests : Obligations.WatchRequests := by
  unfold Obligations.WatchRequests
  refine fun s tag e cred => ⟨fun l m same a en taken present free entry conditions => ?set, fun taken present free entry on => ?rearm,
    fun present hold => ⟨fun taken => ?refuseRearm, fun en l m same a taken => ?refuseSet⟩, fun taken present clear => ?hold,
    fun taken present hold => ?release⟩
  case set =>
    refine ⟨_, _, exec_ok (i := .setWatch tag e en cred l m same a) rfl taken (setWatch_ok (u := takeFrom s) (supervisorOrAuditor_ok cred s present)
      (requireNoAuditHold_ok (free.imp id officeClass_of_auditor)) entry fun on => ?_), rfl, fun n => ?_⟩
    · obtain ⟨action, both, first, second⟩ := conditions on
      exact checkWatch_ok action both first second
    · exact putWatch_watchEntry ..
  case rearm =>
    exact ⟨_, _, exec_ok (i := .rearm tag e cred) rfl taken (rearmWatch_ok (u := takeFrom s) (supervisorOrAuditor_ok cred s present)
      (requireNoAuditHold_ok (free.imp id officeClass_of_auditor)) entry on), rfl, fun n => putWatch_watchEntry ..⟩
  case refuseRearm =>
    exact exec_error (i := .rearm tag e cred) rfl taken ((passed (supervisorOrAuditor_ok cred s (presentAs_mono present (by simp)))).trans
      (refused (requireNoAuditHold_refuses (u := takeFrom s) hold (officeClass_of_presentAs present))))
  case refuseSet =>
    exact exec_error (i := .setWatch tag e en cred l m same a) rfl taken ((passed (supervisorOrAuditor_ok cred s (presentAs_mono present
      (by simp)))).trans (refused (requireNoAuditHold_refuses (u := takeFrom s) hold (officeClass_of_presentAs present))))
  case hold => exact exec_ok (i := .auditHold tag cred) rfl taken (setAuditHold_ok (u := takeFrom s) (auditorAtOffice_ok cred s present) clear)
  case release =>
    exact exec_ok (i := .auditRelease tag cred) rfl taken (clearAuditHold_ok (u := takeFrom s) (auditorAtOffice_ok cred s present) hold)

end Sys2Proof.Proofs.Audits
end

section
/-!
Conditions and offers of the Watch Unit (R147 to R153).
-/

namespace Sys2Proof.Machine

open Sys2Proof

set_option Elab.async false

/-! ## Conditions -/

theorem fieldMatches_iff {α : Type} [DecidableEq α] (wanted carried : Option α) :
    fieldMatches wanted carried = true ↔ ∀ x, wanted = some x → carried = some x := by
  cases wanted <;> simp [fieldMatches]

theorem conditionMatches_iff (c : Condition) (r : WatchResult) : conditionMatches c r = true ↔
    c.result = some r.kind ∧ (∀ x, c.sourceKind = some x → r.sourceKind = x) ∧
    (∀ x, c.sourceNumber = some x → r.sourceNumber = some x) ∧ (∀ x, c.declarer = some x → r.declarer = some x) ∧
    (∀ x, c.purpose = some x → r.purpose = some x) ∧ classSetHas c.classes r.cls = true ∧
    testPasses c.test r.variance = true := by
  simp only [conditionMatches, Bool.and_eq_true, decide_eq_true_eq, fieldMatches_iff, Option.some.injEq, and_assoc]

/-! ## One entry and one result -/

section Entry

variable {r : WatchResult} {now : Option ClockTime} {e : WatchEntry}

theorem checkEntry_quiet (h : e.state = .off ∨ e.state = .fired) : checkEntry r now e = (e, none) := by
  unfold checkEntry
  rcases h with state | state <;> rw [state]

theorem checkEntry_armed1 (state : e.state = .armed1) : checkEntry r now e =
    if levelMatches e.level1 r then
      if e.level2.isSome then
        ({ e with state := .armed2, captured := if e.same then some r.source else none }, none)
      else (firedEntry e r 1 now, some 1)
    else (e, none) := by
  unfold checkEntry
  rw [state]

theorem checkEntry_armed2 (state : e.state = .armed2) : checkEntry r now e =
    if levelMatches e.level2 r && (!e.same || decide (e.captured = some r.source)) then (firedEntry e r 2 now, some 2)
    else (e, none) := by
  unfold checkEntry
  rw [state]

/-- R148: an entry that fires was armed, and records the result, the level and the time. -/
theorem checkEntry_fires {level : Nat} (h : (checkEntry r now e).2 = some level) :
    e.state ≠ .fired ∧ e.state ≠ .off ∧ (checkEntry r now e).1 = firedEntry e r level now := by
  cases state : e.state
  case off => simp [checkEntry_quiet (.inl state)] at h
  case fired => simp [checkEntry_quiet (.inr state)] at h
  case armed1 =>
    rw [checkEntry_armed1 state] at h ⊢
    refine ⟨by simp, by simp, ?_⟩
    split at h
    · next level1 =>
        rw [if_pos level1]
        split at h
        · cases h
        · next last =>
            rw [if_neg last, Option.some.inj h]
    · cases h
  case armed2 =>
    rw [checkEntry_armed2 state] at h ⊢
    refine ⟨by simp, by simp, ?_⟩
    split at h
    · next level2 =>
        rw [if_pos level2, Option.some.inj h]
    · cases h

/-- R148: an entry becomes fired by firing. -/
theorem checkEntry_of_fired (before : e.state ≠ .fired) (after : (checkEntry r now e).1.state = .fired) :
    ∃ level, (checkEntry r now e).2 = some level := by
  cases state : e.state
  case off =>
    rw [checkEntry_quiet (.inl state), state] at after
    cases after
  case fired => exact absurd state before
  case armed1 =>
    rw [checkEntry_armed1 state] at after ⊢
    split
    · split
      · next level1 more => simp [level1, more] at after
      · exact ⟨1, rfl⟩
    · next other => simp [other, state] at after
  case armed2 =>
    rw [checkEntry_armed2 state] at after ⊢
    split
    · exact ⟨2, rfl⟩
    · next other => rw [if_neg other, state] at after; cases after

end Entry

/-! ## The firings of an offer -/

section Firings

variable {r : WatchResult} {s : State}

theorem mem_firings {f : Firing} (h : f ∈ firings r s) : f.entry ∈ slotNumbers ∧
    (checkEntry r s.acu.clock (s.watchEntry f.entry)).2 = some f.level ∧ f.action = (s.watchEntry f.entry).action.getD .notice := by
  obtain ⟨n, slot, fires⟩ := List.mem_filterMap.mp h
  obtain ⟨level, check, rfl⟩ := Option.map_eq_some_iff.mp fires
  exact ⟨slot, check, rfl⟩

theorem firings_of_check {n level : Nat} (slot : n ∈ slotNumbers) (h : (checkEntry r s.acu.clock (s.watchEntry n)).2 = some level) :
    ∃ f ∈ firings r s, f.entry = n :=
  ⟨⟨n, level, (s.watchEntry n).action.getD .notice⟩, List.mem_filterMap.mpr ⟨n, slot, by rw [h]; rfl⟩, rfl⟩

theorem firings_rising (r : WatchResult) (s : State) : ((firings r s).map Firing.entry).Pairwise (· < ·) := by
  have rising : slotNumbers.Pairwise (· < ·) := by decide
  rw [List.pairwise_map]
  unfold firings
  rw [List.pairwise_filterMap]
  refine rising.imp fun less f hf g hg => ?_
  obtain ⟨_, -, rfl⟩ := Option.map_eq_some_iff.mp hf
  obtain ⟨_, -, rfl⟩ := Option.map_eq_some_iff.mp hg
  exact less

theorem firings_length (r : WatchResult) (s : State) : (firings r s).length ≤ 8 := by
  have slots : slotNumbers.length = 8 := by decide
  rw [← slots]
  exact List.length_filterMap_le _ _

theorem moveEntries_watchEntry {n : Nat} (slot : n ∈ slotNumbers) :
    (moveEntries r s).watchEntry n = (checkEntry r s.acu.clock (s.watchEntry n)).1 := by
  have entries : (moveEntries r s).wcu.entries =
      Table.update WatchEntry.initial (movedEntry r s.acu.clock) slotNumbers s.wcu.entries := by
    unfold moveEntries
    dsimp only
  rw [State.watchEntry, entries, Table.get_update _ _ _ (by decide), if_pos slot, movedEntry, State.watchEntry]

theorem offer_watchEntry {n : Nat} (slot : n ∈ slotNumbers) :
    (offer r s).1.watchEntry n = (checkEntry r s.acu.clock (s.watchEntry n)).1 := by
  have kept : (offer r s).1.wcu = (moveEntries r s).wcu := foldl_keeps (fun u : State => u.wcu) _ (by intros; simp) _ _
  have same : (offer r s).1.watchEntry n = (moveEntries r s).watchEntry n := by rw [State.watchEntry, kept, State.watchEntry]
  rw [same]
  exact moveEntries_watchEntry slot

end Firings

/-! ## What each firing does -/

/-- R153: lanes that run and are held by no watch, each held in turn. -/
theorem holdAll_effect (c : HoldCause) (l : List Nat) (once : l.Nodup) (s : State)
    (free : ∀ m ∈ l, (s.lane m).state = .running ∧ (s.lane m).holds.has c = false) :
    (∀ m, (l.foldl (fun s n => addHold n c s) s).lane m = if m ∈ l then
      { s.lane m with state := .held, holds := (s.lane m).holds.put c true } else s.lane m) ∧
    (l.foldl (fun s n => addHold n c s) s).ubc = { s.ubc with
      commands := s.ubc.commands ++ s.ubc.sends (l.map (fun m => (.lane m, .stop))) } := by
  induction l generalizing s with
  | nil => exact ⟨fun m => by simp, by simp [Ubc.sends]⟩
  | cons n l ih =>
    rw [List.nodup_cons] at once
    obtain ⟨running, clear⟩ := free n (by simp)
    have lanes := fun m => addHold_lane n m c s
    obtain ⟨ubc, -⟩ := addHold_holdSends n c s
    simp only [running, clear, true_and, true_or, if_true] at lanes ubc
    have others : ∀ m ∈ l, (addHold n c s).lane m = s.lane m := fun m mem => by
      have other : m ≠ n := fun same => once.1 (same ▸ mem)
      rw [lanes, if_neg other]
    obtain ⟨later, sent⟩ := ih once.2 (addHold n c s) fun m mem => by
      rw [others m mem]
      exact free m (by simp [mem])
    refine ⟨fun m => ?_, ?_⟩
    · rw [List.foldl_cons, later]
      by_cases same : m = n
      · subst same
        simp [lanes, once.1]
      · by_cases mem : m ∈ l
        · simp [mem, others m mem]
        · simp [mem, same, lanes]
    · rw [List.foldl_cons, sent, ubc]
      simp [Ubc.sends, Ubc.send, Ubc.address]

theorem haltLanes_effect {s : State} (free : ∀ m ∈ laneNumbers, (s.lane m).state = .running → (s.lane m).holds.watch = false) :
    (∀ m, (haltLanes s).lane m = if m ∈ laneNumbers ∧ (s.lane m).state = .running then
      { s.lane m with state := .held, holds := { (s.lane m).holds with watch := true } } else s.lane m) ∧
    (haltLanes s).ubc = { s.ubc with
      commands := s.ubc.commands ++ s.ubc.sends (s.runningLanes.map (fun m => (.lane m, .stop))) } := by
  have once : s.runningLanes.Nodup := List.Nodup.filter _ (by decide)
  have runs : ∀ m, m ∈ s.runningLanes ↔ m ∈ laneNumbers ∧ (s.lane m).state = .running := fun m => by simp [State.runningLanes]
  obtain ⟨lanes, ubc⟩ := holdAll_effect .watch s.runningLanes once s fun m mem => ⟨((runs m).mp mem).2,
    free m ((runs m).mp mem).1 ((runs m).mp mem).2⟩
  refine ⟨fun m => (lanes m).trans ?_, ubc⟩
  simp only [runs]
  rfl

theorem haltLanes_of_none {s : State} (none : s.runningLanes = []) : haltLanes s = s := by
  unfold haltLanes
  rw [none]
  rfl

/-- R150 to R153: the action of a firing, before its notice. -/
def acted (r : WatchResult) (s : State) (f : Firing) : State :=
  match f.action, heldTill r with
  | .holdTill, some n => putTill n { s.till n with hold := true } s
  | .haltLanes, _ => haltLanes s
  | _, _ => s

/-- R150: the effect that a WATCH notice names. -/
def effectFields (r : WatchResult) (s : State) (f : Firing) : List Field :=
  match f.action, heldTill r with
  | .notice, _ => []
  | .holdTill, none => [fTill none, fNamed 1]
  | .holdTill, some n => [fTill (some n), fNamed 0]
  | .recount, _ => [fNamed (if r.kind = .bag then 1 else 2)]
  | .haltLanes, _ => [.many (s.runningLanes.map (fun n => [.packed 1 n])), fNamed (flagByte s.runningLanes.isEmpty)]

theorem takeFiring_eq (r : WatchResult) (s : State) (f : Firing) :
    takeFiring r s f = notifyWatch f r (effectFields r s f) (acted r s f) := by
  unfold takeFiring effectFields acted
  cases f.action <;> cases heldTill r <;> rfl

section Acted

variable (r : WatchResult) (s : State) (f : Firing)

theorem acted_of_calm (calm : f.action ≠ .haltLanes ∨ s.runningLanes = []) : (acted r s f).clc = s.clc ∧ (acted r s f).ubc = s.ubc := by
  unfold acted
  split
  · exact ⟨rfl, rfl⟩
  · next halts =>
      rw [haltLanes_of_none (calm.resolve_left (not_not_intro halts))]
      exact ⟨rfl, rfl⟩
  · exact ⟨rfl, rfl⟩

theorem acted_of_halt (halts : f.action = .haltLanes) : acted r s f = haltLanes s := by
  unfold acted
  rw [halts]

theorem acted_till (m : Nat) : (acted r s f).till m =
    if f.action = .holdTill ∧ r.sourceKind = .till ∧ r.sourceNumber = some m then { s.till m with hold := true } else s.till m := by
  unfold acted heldTill
  cases action : f.action
  case holdTill =>
    by_cases kind : r.sourceKind = .till
    · cases number : r.sourceNumber with
      | none => simp [kind]
      | some n =>
        by_cases same : m = n
        · simp [kind, same]
        · have other : n ≠ m := fun h => same h.symm
          simp [kind, same, other]
    · simp [kind]
  case haltLanes => simp [State.till]
  case notice => simp
  case recount => simp

end Acted

theorem takeFiring_till (r : WatchResult) (s : State) (f : Firing) (m : Nat) : (takeFiring r s f).till m = (acted r s f).till m := by
  rw [takeFiring_eq, State.till, (notifyWatch_keeps ..).2.2.2.2.2.2.2.2.2.2.2.2.1]
  rfl

theorem takeFiring_clc (r : WatchResult) (s : State) (f : Firing) :
    (takeFiring r s f).clc = (acted r s f).clc ∧ (takeFiring r s f).ubc = (acted r s f).ubc := by
  rw [takeFiring_eq]
  simp

/-! ## Room for the notices of an offer -/

/-- R109, R150: the notices that wait and the lanes that a watch could still hold: what bounds the notices to come. -/
def watchLoad (s : State) : Nat := s.hpt.notices.length + (laneNumbers.filter (fun n => !(s.lane n).holds.watch)).length

theorem notify_length (k : NoticeKind) (l : List Field) (s : State) :
    (notify k l s).hpt.notices.length ≤ s.hpt.notices.length + 1 := by
  unfold notify
  split
  · split
    · simp
    · simp
  · simp

theorem addHold_notices (n : Nat) (c : HoldCause) (s : State) : s.hpt.notices <+: (addHold n c s).hpt.notices := by
  rw [(addHold_holdSends n c s).2]
  split
  · exact List.prefix_rfl
  · exact notify_notices ..

theorem addHold_watchLoad {n : Nat} (lane : n ∈ laneNumbers) (s : State) : watchLoad (addHold n .watch s) ≤ watchLoad s := by
  have lanes := fun m => addHold_lane n m .watch s
  have hpt := (addHold_holdSends n .watch s).2
  cases has : (s.lane n).holds.has .watch
  · have fewer : (laneNumbers.filter (fun m => !((addHold n .watch s).lane m).holds.watch)).length <
        (laneNumbers.filter (fun m => !(s.lane m).holds.watch)).length := by
      have rest : laneNumbers.filter (fun m => !((addHold n .watch s).lane m).holds.watch) =
          (laneNumbers.filter (fun m => !(s.lane m).holds.watch)).filter (fun m => decide (m ≠ n)) := by
        rw [List.filter_filter]
        refine List.filter_congr fun m _ => ?_
        rw [lanes]
        by_cases same : m = n <;> simp [same, HoldSet.put]
      have clear : (s.lane n).holds.watch = false := has
      rw [rest, List.length_filter_lt_length_iff_exists]
      exact ⟨n, List.mem_filter.mpr ⟨lane, by simp [clear]⟩, by simp⟩
    have longer : (addHold n .watch s).hpt.notices.length ≤ s.hpt.notices.length + 1 := by
      rw [hpt, has]
      exact notify_length ..
    unfold watchLoad
    omega
  · have same : addHold n .watch s = s := if_pos has
    rw [same]

theorem haltLanes_spec (s : State) : onlyNotices s (haltLanes s) ∧ s.hpt.notices <+: (haltLanes s).hpt.notices ∧
    watchLoad (haltLanes s) ≤ watchLoad s := by
  have lanes : ∀ n ∈ s.runningLanes, n ∈ laneNumbers := fun n mem => List.mem_of_mem_filter mem
  unfold haltLanes
  generalize s.runningLanes = l at lanes
  induction l generalizing s with
  | nil => exact ⟨rfl, List.prefix_rfl, le_refl _⟩
  | cons n l ih =>
    obtain ⟨only, kept, load⟩ := ih (addHold n .watch s) fun m mem => lanes m (by simp [mem])
    exact ⟨onlyNotices_trans (addHold_onlyNotices ..) only, (addHold_notices ..).trans kept,
      load.trans (addHold_watchLoad (lanes n (by simp)) s)⟩

theorem acted_spec (r : WatchResult) (s : State) (f : Firing) : onlyNotices s (acted r s f) ∧
    s.hpt.notices <+: (acted r s f).hpt.notices ∧ watchLoad (acted r s f) ≤ watchLoad s := by
  unfold acted
  split
  · exact ⟨rfl, List.prefix_rfl, le_refl _⟩
  · exact haltLanes_spec s
  · exact ⟨rfl, List.prefix_rfl, le_refl _⟩

theorem takeFiring_spec (r : WatchResult) (s : State) (f : Firing) : onlyNotices s (takeFiring r s f) ∧
    s.hpt.notices <+: (takeFiring r s f).hpt.notices ∧ watchLoad (takeFiring r s f) ≤ watchLoad s + 1 := by
  obtain ⟨only, kept, load⟩ := acted_spec r s f
  rw [takeFiring_eq]
  refine ⟨onlyNotices_trans only (notify_onlyNotices ..), kept.trans (notify_notices ..), ?_⟩
  have lanes : ∀ m, (notifyWatch f r (effectFields r s f) (acted r s f)).lane m = (acted r s f).lane m := fun m => lane_notify ..
  have longer : (notifyWatch f r (effectFields r s f) (acted r s f)).hpt.notices.length ≤ (acted r s f).hpt.notices.length + 1 :=
    notify_length ..
  unfold watchLoad at load ⊢
  simp only [lanes]
  omega

/-- R150: a firing with room sends its notice, which stands at the newest end. -/
theorem takeFiring_sends (r : WatchResult) (s : State) (f : Firing) (on : s.hpt.globalEnable = true)
    (class' : s.hpt.classEnables.watch = true) (room : watchLoad s < 32) :
    (⟨.watch, [fNum 1 f.entry, fNamed (codeIn WatchAction.list f.action), fNum 1 f.level] ++ resultFields r ++
      effectFields r s f⟩ : Notice) ∈ (takeFiring r s f).hpt.notices := by
  obtain ⟨only, -, load⟩ := acted_spec r s f
  have on' : (acted r s f).hpt.globalEnable = true := by rw [only]; exact on
  have class'' : classEnabled (acted r s f).hpt.classEnables .watch = true := by rw [only]; exact class'
  have few : (acted r s f).hpt.notices.length < 32 := by
    unfold watchLoad at load room
    omega
  rw [takeFiring_eq, notifyWatch, notify_room on' class'' few]
  simp

/-! ## All the firings of an offer -/

theorem foldl_takeFiring_spec (r : WatchResult) (fs : List Firing) (s : State) : onlyNotices s (fs.foldl (takeFiring r) s) ∧
    s.hpt.notices <+: (fs.foldl (takeFiring r) s).hpt.notices ∧ watchLoad (fs.foldl (takeFiring r) s) ≤ watchLoad s + fs.length := by
  induction fs generalizing s with
  | nil => exact ⟨rfl, List.prefix_rfl, le_refl _⟩
  | cons f fs ih =>
    obtain ⟨only, kept, load⟩ := ih (takeFiring r s f)
    obtain ⟨only', kept', load'⟩ := takeFiring_spec r s f
    refine ⟨onlyNotices_trans only' only, kept'.trans kept, ?_⟩
    rw [List.length_cons, List.foldl_cons]
    omega

theorem foldl_takeFiring_till (r : WatchResult) (fs : List Firing) (s : State) (m : Nat) : (fs.foldl (takeFiring r) s).till m =
    if (∃ f ∈ fs, f.action = .holdTill) ∧ r.sourceKind = .till ∧ r.sourceNumber = some m then { s.till m with hold := true }
    else s.till m := by
  induction fs generalizing s with
  | nil => simp
  | cons f fs ih =>
    rw [List.foldl_cons, ih, takeFiring_till, acted_till]
    by_cases names : r.sourceKind = .till ∧ r.sourceNumber = some m
    · by_cases first : f.action = .holdTill <;> by_cases later : ∃ f ∈ fs, f.action = .holdTill <;> simp [names, first, later]
    · simp [names]

theorem runningLanes_congr {s t : State} (h : t.clc = s.clc) : t.runningLanes = s.runningLanes :=
  List.filter_congr fun m _ => by rw [State.lane, h, State.lane]

theorem foldl_takeFiring_calm (r : WatchResult) (fs : List Firing) (s : State)
    (calm : (∀ f ∈ fs, f.action ≠ .haltLanes) ∨ s.runningLanes = []) :
    (fs.foldl (takeFiring r) s).clc = s.clc ∧ (fs.foldl (takeFiring r) s).ubc = s.ubc := by
  induction fs generalizing s with
  | nil => exact ⟨rfl, rfl⟩
  | cons f fs ih =>
    obtain ⟨clc, ubc⟩ := takeFiring_clc r s f
    obtain ⟨clc', ubc'⟩ := acted_of_calm r s f (calm.imp (fun calm => calm f (by simp)) id)
    have still : (takeFiring r s f).runningLanes = s.runningLanes := runningLanes_congr (clc.trans clc')
    obtain ⟨clc'', ubc''⟩ := ih (takeFiring r s f) (calm.imp (fun calm g mem => calm g (by simp [mem])) fun none => still.trans none)
    exact ⟨clc''.trans (clc.trans clc'), ubc''.trans (ubc.trans ubc')⟩

/-- R153: the first firing that halts the lanes stops them all; what stands before and after it leaves them. -/
theorem foldl_takeFiring_halt (r : WatchResult) (fs : List Firing) (s : State) (halts : ∃ f ∈ fs, f.action = .haltLanes)
    (free : ∀ m ∈ laneNumbers, (s.lane m).state = .running → (s.lane m).holds.watch = false) :
    (∀ m, (fs.foldl (takeFiring r) s).lane m = if m ∈ laneNumbers ∧ (s.lane m).state = .running then
      { s.lane m with state := .held, holds := { (s.lane m).holds with watch := true } } else s.lane m) ∧
    (fs.foldl (takeFiring r) s).ubc = { s.ubc with
      commands := s.ubc.commands ++ s.ubc.sends (s.runningLanes.map (fun m => (.lane m, .stop))) } := by
  induction fs generalizing s with
  | nil =>
    obtain ⟨f, mem, -⟩ := halts
    cases mem
  | cons f fs ih =>
    obtain ⟨clc, ubc⟩ := takeFiring_clc r s f
    rw [List.foldl_cons]
    by_cases first : f.action = .haltLanes
    · rw [acted_of_halt r s f first] at clc ubc
      obtain ⟨lanes, sent⟩ := haltLanes_effect free
      have lane : ∀ m, (takeFiring r s f).lane m = (haltLanes s).lane m := fun m => by rw [State.lane, clc, State.lane]
      have stopped : (takeFiring r s f).runningLanes = [] := by
        refine List.filter_eq_nil_iff.mpr fun m mem => ?_
        rw [lane, lanes]
        by_cases runs : (s.lane m).state = .running <;> simp [mem, runs]
      obtain ⟨clc', ubc'⟩ := foldl_takeFiring_calm r fs (takeFiring r s f) (.inr stopped)
      refine ⟨fun m => ?_, ubc'.trans (ubc.trans sent)⟩
      rw [State.lane, clc']
      exact (lane m).trans (lanes m)
    · obtain ⟨clc', ubc'⟩ := acted_of_calm r s f (.inl first)
      have lane : ∀ m, (takeFiring r s f).lane m = s.lane m := fun m => by rw [State.lane, clc, clc', State.lane]
      have later : ∃ g ∈ fs, g.action = .haltLanes := by
        obtain ⟨g, mem, halt⟩ := halts
        rcases List.mem_cons.mp mem with rfl | mem
        · exact absurd halt first
        · exact ⟨g, mem, halt⟩
      obtain ⟨lanes, sent⟩ := ih (takeFiring r s f) later fun m mem => by rw [lane]; exact free m mem
      rw [ubc, ubc', runningLanes_congr (clc.trans clc')] at sent
      exact ⟨fun m => (lanes m).trans (by rw [lane]), sent⟩

/-- R150: the notice of each firing of an offer, with the effect it has on the state in which it is taken. -/
theorem foldl_takeFiring_sends {r : WatchResult} {pre post : List Firing} {f : Firing} {s : State} (on : s.hpt.globalEnable = true)
    (class' : s.hpt.classEnables.watch = true) (room : watchLoad s + pre.length < 32) :
    (⟨.watch, [fNum 1 f.entry, fNamed (codeIn WatchAction.list f.action), fNum 1 f.level] ++ resultFields r ++
      effectFields r (pre.foldl (takeFiring r) s) f⟩ : Notice) ∈ ((pre ++ f :: post).foldl (takeFiring r) s).hpt.notices := by
  obtain ⟨only, -, load⟩ := foldl_takeFiring_spec r pre s
  rw [List.foldl_append, List.foldl_cons]
  generalize pre.foldl (takeFiring r) s = u at only load
  have sent := takeFiring_sends r u f (by rw [only]; exact on) (by rw [only]; exact class') (by omega)
  exact (foldl_takeFiring_spec r post (takeFiring r u f)).2.1.subset sent

/-- R153: a firing that no halt stands before finds the lanes as the offer did. -/
theorem effectFields_halt {r : WatchResult} {pre : List Firing} {f : Firing} {s : State} (halts : f.action = .haltLanes)
    (calm : ∀ g ∈ pre, g.action ≠ .haltLanes) : effectFields r (pre.foldl (takeFiring r) s) f =
      [.many (s.runningLanes.map (fun m => [.packed 1 m])), fNamed (flagByte s.runningLanes.isEmpty)] := by
  have same := runningLanes_congr (foldl_takeFiring_calm r pre s (.inl calm)).1
  unfold effectFields
  rw [halts, same]

theorem effectFields_holdTill {r : WatchResult} {f : Firing} {s : State} (holds : f.action = .holdTill) : effectFields r s f =
    if r.sourceKind = .till ∧ r.sourceNumber.isSome then [fTill r.sourceNumber, fNamed 0] else [fTill none, fNamed 1] := by
  unfold effectFields heldTill
  rw [holds]
  by_cases kind : r.sourceKind = .till
  · cases number : r.sourceNumber <;> simp [kind]
  · simp [kind]

/-! ## The offer -/

section Offer

variable {r : WatchResult} {s : State}

theorem offer_eq (r : WatchResult) (s : State) : (offer r s).1 = (firings r s).foldl (takeFiring r) (moveEntries r s) := rfl

theorem moveEntries_clc (r : WatchResult) (s : State) :
    (moveEntries r s).clc = s.clc ∧ (moveEntries r s).ubc = s.ubc ∧ (moveEntries r s).hpt = s.hpt ∧ (moveEntries r s).tau = s.tau := by
  simp

/-- R148, R149: an entry of the table after an offer. -/
theorem offer_entry {n : Nat} (slot : n ∈ slotNumbers) :
    ((s.watchEntry n).state = .off ∨ (s.watchEntry n).state = .fired → (offer r s).1.watchEntry n = s.watchEntry n) ∧
    ((s.watchEntry n).state = .armed1 → levelMatches (s.watchEntry n).level1 r = true →
      ((s.watchEntry n).level2 = none → (offer r s).1.watchEntry n =
        { s.watchEntry n with state := .fired, captured := none, firedBy := some ⟨r, 1, s.acu.clock⟩ }) ∧
      ((s.watchEntry n).level2 ≠ none → (offer r s).1.watchEntry n =
        { s.watchEntry n with
          state := .armed2
          captured := if (s.watchEntry n).same then some ⟨r.sourceKind, r.sourceNumber⟩ else none })) ∧
    ((s.watchEntry n).state = .armed2 → levelMatches (s.watchEntry n).level2 r = true →
      ((s.watchEntry n).same = false ∨ (s.watchEntry n).captured = some ⟨r.sourceKind, r.sourceNumber⟩) →
      (offer r s).1.watchEntry n =
        { s.watchEntry n with state := .fired, captured := none, firedBy := some ⟨r, 2, s.acu.clock⟩ }) ∧
    ((s.watchEntry n).state = .armed1 → levelMatches (s.watchEntry n).level1 r = false →
      (offer r s).1.watchEntry n = s.watchEntry n) ∧
    ((s.watchEntry n).state = .armed2 → levelMatches (s.watchEntry n).level2 r = false →
      (offer r s).1.watchEntry n = s.watchEntry n) ∧
    ((s.watchEntry n).state = .armed2 → (s.watchEntry n).same = true →
      (s.watchEntry n).captured ≠ some ⟨r.sourceKind, r.sourceNumber⟩ → (offer r s).1.watchEntry n = s.watchEntry n) := by
  rw [offer_watchEntry slot]
  generalize s.watchEntry n = e
  refine ⟨fun quiet => ?_, fun state level1 => ⟨fun last => ?_, fun more => ?_⟩, fun state level2 source => ?_, fun state other => ?_,
    fun state other => ?_, fun state same other => ?_⟩
  · rw [checkEntry_quiet quiet]
  · rw [checkEntry_armed1 state, if_pos level1, last]
    rfl
  · rw [checkEntry_armed1 state, if_pos level1, if_pos (Option.isSome_iff_ne_none.mpr more)]
    rfl
  · have source' : (!e.same || decide (e.captured = some r.source)) = true := by
      rcases source with free | captured
      · simp [free]
      · simp [captured, WatchResult.source]
    rw [checkEntry_armed2 state, level2, source', Bool.and_self, if_pos rfl]
    rfl
  · rw [checkEntry_armed1 state, other]
    rfl
  · rw [checkEntry_armed2 state, other]
    rfl
  · have source' : (!e.same || decide (e.captured = some r.source)) = false := by
      simp only [same, Bool.not_true, Bool.false_or, decide_eq_false_iff_not]
      exact other
    rw [checkEntry_armed2 state, source', Bool.and_false]
    rfl

theorem offer_till (r : WatchResult) (s : State) (m : Nat) : (offer r s).1.till m =
    if (∃ f ∈ firings r s, f.action = .holdTill) ∧ r.sourceKind = .till ∧ r.sourceNumber = some m then
      { s.till m with hold := true }
    else s.till m := by
  have till : (moveEntries r s).till m = s.till m := by rw [State.till, (moveEntries_clc r s).2.2.2, State.till]
  rw [offer_eq, foldl_takeFiring_till, till]

theorem offer_calm (calm : ∀ f ∈ firings r s, f.action ≠ .haltLanes) : (offer r s).1.clc = s.clc ∧ (offer r s).1.ubc = s.ubc := by
  obtain ⟨clc, ubc⟩ := foldl_takeFiring_calm r (firings r s) (moveEntries r s) (.inl calm)
  obtain ⟨clc', ubc', -⟩ := moveEntries_clc r s
  exact ⟨clc.trans clc', ubc.trans ubc'⟩

theorem offer_halt (free : ∀ m ∈ laneNumbers, (s.lane m).state = .running → (s.lane m).holds.watch = false)
    (halts : ∃ f ∈ firings r s, f.action = .haltLanes) :
    (∀ m, (offer r s).1.lane m =
      if m ∈ laneNumbers ∧ (s.lane m).state = .running then
        { s.lane m with state := .held, holds := { (s.lane m).holds with watch := true } }
      else s.lane m) ∧
    (offer r s).1.ubc = { s.ubc with
      commands := s.ubc.commands ++ s.ubc.sends (s.runningLanes.map (fun m => (.lane m, .stop))) } := by
  obtain ⟨clc, ubc, -⟩ := moveEntries_clc r s
  have lane : ∀ m, (moveEntries r s).lane m = s.lane m := fun m => by rw [State.lane, clc, State.lane]
  obtain ⟨lanes, sent⟩ := foldl_takeFiring_halt r (firings r s) (moveEntries r s) halts fun m mem => by rw [lane]; exact free m mem
  rw [ubc, runningLanes_congr clc] at sent
  exact ⟨fun m => (lanes m).trans (by rw [lane]), sent⟩

theorem offer_sends (on : s.hpt.globalEnable = true) (class' : s.hpt.classEnables.watch = true) (few : s.hpt.notices.length ≤ 20)
    (f : Firing) (mem : f ∈ firings r s) :
    ∃ effect, (⟨.watch, [fNum 1 f.entry, fNamed (codeIn WatchAction.list f.action), fNum 1 f.level] ++ resultFields r ++
        effect⟩ : Notice) ∈ (offer r s).1.hpt.notices ∧
      (f.action = .notice → effect = []) ∧
      (f.action = .recount → effect = [fNamed (if r.kind = .bag then 1 else 2)]) ∧
      (f.action = .holdTill → effect =
        if r.sourceKind = .till ∧ r.sourceNumber.isSome then [fTill r.sourceNumber, fNamed 0]
        else [fTill none, fNamed 1]) ∧
      (f.action = .haltLanes → (∀ h ∈ firings r s, h.action = .haltLanes → f.entry ≤ h.entry) → effect =
        [.many (s.runningLanes.map (fun m => [.packed 1 m])), fNamed (flagByte s.runningLanes.isEmpty)]) := by
  obtain ⟨clc, -, hpt, -⟩ := moveEntries_clc r s
  have bound := firings_length r s
  have rising := firings_rising r s
  rw [offer_eq]
  obtain ⟨pre, post, eq⟩ := List.append_of_mem mem
  rw [eq] at bound rising ⊢
  have room : watchLoad (moveEntries r s) + pre.length < 32 := by
    have lanes : (laneNumbers.filter (fun n => !((moveEntries r s).lane n).holds.watch)).length ≤ laneNumbers.length :=
      List.length_filter_le ..
    have four : laneNumbers.length = 4 := by decide
    rw [List.length_append, List.length_cons] at bound
    unfold watchLoad
    rw [hpt]
    omega
  refine ⟨_, foldl_takeFiring_sends (by rw [hpt]; exact on) (by rw [hpt]; exact class') room, fun notice => ?_, fun recount => ?_,
    fun holds => effectFields_holdTill holds, fun halts first => ?_⟩
  · rw [effectFields, notice]
  · rw [effectFields, recount]
  · rw [effectFields_halt halts, runningLanes_congr clc]
    intro g before halts'
    have least := first g (by simp [before]) halts'
    rw [List.map_append, List.pairwise_append] at rising
    have less := rising.2.2 g.entry (List.mem_map_of_mem before) f.entry (by simp)
    omega

theorem offer_frame (r : WatchResult) (s : State) : onlyNotices s (offer r s).1 ∧ (offer r s).1.wcu.auditHold = s.wcu.auditHold ∧
    (offer r s).1.sys = s.sys ∧ (offer r s).1.cru = s.cru ∧ (offer r s).1.acu = s.acu ∧ (offer r s).1.bgr = s.bgr ∧
    (offer r s).1.rcu = s.rcu ∧ (offer r s).1.csc = s.csc ∧ (offer r s).1.hoc = s.hoc ∧
    (offer r s).1.tau = { s.tau with tills := (offer r s).1.tau.tills } := by
  have only := (foldl_takeFiring_spec r (firings r s) (moveEntries r s)).1
  unfold onlyNotices at only
  rw [(moveEntries_clc r s).2.2.1, ← offer_eq] at only
  have templates : (offer r s).1.tau.templates = s.tau.templates := by simp
  have postings : (offer r s).1.tau.postings = s.tau.postings := by simp
  have queue : (offer r s).1.tau.skimQueue = s.tau.skimQueue := by simp
  refine ⟨only, by simp, by simp, by simp, by simp, by simp, by simp, by simp, by simp, ?_⟩
  dsimp only
  rw [← templates, ← postings, ← queue]

end Offer

end Sys2Proof.Machine

namespace Sys2Proof.Proofs.Offers

open Sys2Proof Sys2Proof.Machine

/-- Settles O48. -/
theorem offersMoveEntries : Obligations.OffersMoveEntries := by
  unfold Obligations.OffersMoveEntries
  refine ⟨fun r => rfl, conditionMatches_iff, fun c => ⟨rfl, rfl, rfl, rfl, rfl⟩, fun x lo hi v => ?tests, fun r s => ?offer⟩
  case tests =>
    refine ⟨rfl, rfl, fun other => ?_, ?_, ?_, ?_⟩
    · cases x with
      | any => exact absurd rfl other
      | equal a => rfl
      | inside a b => rfl
      | outside a b => rfl
    · simp [testPasses, amountTest]
    · simp [testPasses, amountTest]
    · simp [testPasses, amountTest]
  case offer =>
    refine ⟨_, rfl, fun n slot => offer_entry slot, rfl, firings_rising r s, fun f mem => ?_, fun n slot before after => ?_, offer_till r s,
      offer_calm, offer_halt, fun m => by simp [State.runningLanes], offer_sends, offer_frame r s⟩
    · obtain ⟨slot, check, action⟩ := mem_firings mem
      obtain ⟨fired, -, moved⟩ := checkEntry_fires check
      rw [offer_watchEntry slot, moved]
      exact ⟨slot, fired, rfl, action⟩
    · rw [offer_watchEntry slot] at after
      obtain ⟨level, check⟩ := checkEntry_of_fired before after
      exact firings_of_check slot check

end Sys2Proof.Proofs.Offers
end

section
/-!
The doors (R159 to R168) and the custody settings (R172 to R174, R177).
-/

namespace Sys2Proof.Machine

open Sys2Proof

set_option Elab.async false

/-! ## What an operation on one door touches -/

/-- R159, R167, R169: an operation on door `d`: its record, the cause OPEN and the chute of its safe, and nothing else of the
part but commands and notices. -/
structure DoorMoves (d : DoorName) (s t : State) : Prop where
  doors : ∀ e, e ≠ d → t.door e = s.door e
  others : ∀ m, d ≠ .drop m → t.safe m = s.safe m
  csc : t.csc = { s.csc with strongroom := t.csc.strongroom, safes := t.csc.safes }
  frame : t = { s with csc := t.csc, hpt := t.hpt, ubc := t.ubc }
  notices : onlyNotices s t
  counts : ∀ n, (t.safe n).count = (s.safe n).count
  causes : ∀ n on, (t.safe n).causes.put .opened on = (s.safe n).causes.put .opened on
  locked : ∀ n, (s.safe n).chuteLocked = (s.safe n).causes.any → (t.safe n).chuteLocked = (t.safe n).causes.any
  ubc : t.ubc.addrs = s.ubc.addrs

section Moves

variable {d : DoorName} {s t u : State}

theorem DoorMoves.refl (d : DoorName) (s : State) : DoorMoves d s s :=
  ⟨fun _ _ => rfl, fun _ _ => rfl, rfl, rfl, rfl, fun _ => rfl, fun _ _ => rfl, fun _ h => h, rfl⟩

theorem DoorMoves.trans (h : DoorMoves d s t) (k : DoorMoves d t u) : DoorMoves d s u where
  doors e ne := (k.doors e ne).trans (h.doors e ne)
  others m ne := (k.others m ne).trans (h.others m ne)
  csc := by rw [k.csc, h.csc]
  frame := by rw [k.frame, h.frame]
  notices := onlyNotices_trans h.notices k.notices
  counts n := (k.counts n).trans (h.counts n)
  causes n on := (k.causes n on).trans (h.causes n on)
  locked n start := k.locked n (h.locked n start)
  ubc := k.ubc.trans h.ubc

theorem DoorMoves.csc_drop {n : Nat} (h : DoorMoves (.drop n) s t) : t.csc = { s.csc with safes := t.csc.safes } := by
  have strongroom : t.csc.strongroom = s.csc.strongroom := h.doors .strongroom (by simp)
  dsimp only
  rw [← strongroom]
  exact h.csc

/-- R163: commands and the alarm leave the custody records. -/
theorem DoorMoves.of_ubc (csc : t.csc = s.csc) (frame : t = { s with ubc := t.ubc }) (addrs : t.ubc.addrs = s.ubc.addrs) :
    DoorMoves d s t := by
  have safes : ∀ n, t.safe n = s.safe n := fun n => by rw [State.safe, csc, State.safe]
  have hpt : t.hpt = s.hpt := by rw [frame]
  have doors : ∀ e, t.door e = s.door e := fun e => by
    cases e
    case strongroom => exact congrArg Csc.strongroom csc
    case drop n => exact congrArg DropSafe.door (safes n)
    case other => rfl
  refine ⟨fun e _ => doors e, fun m _ => safes m, by rw [csc], ?_, ?_, fun n => by rw [safes], fun n on => by rw [safes],
    fun n h => by rw [safes]; exact h, addrs⟩
  · rw [frame]
  · unfold onlyNotices
    rw [hpt]

theorem DoorMoves.command (d : DoorName) (p : UnitPos) (c : UnitCmd) (s : State) : DoorMoves d s (command p c s) := .of_ubc rfl rfl rfl

theorem DoorMoves.driveAlarm (d : DoorName) (s : State) : DoorMoves d s (driveAlarm s) := .of_ubc rfl rfl rfl

theorem notify_csc (k : NoticeKind) (l : List Field) (s : State) :
    (notify k l s).csc = s.csc ∧ (notify k l s).ubc = s.ubc ∧ notify k l s = { s with hpt := (notify k l s).hpt } :=
  ⟨by simp, by simp, notify_eq ..⟩

theorem DoorMoves.notify (d : DoorName) (k : NoticeKind) (l : List Field) (s : State) : DoorMoves d s (notify k l s) := by
  obtain ⟨csc, ubc, frame⟩ := notify_csc k l s
  have safes : ∀ n, (Machine.notify k l s).safe n = s.safe n := fun n => by rw [State.safe, csc, State.safe]
  have doors : ∀ e, (Machine.notify k l s).door e = s.door e := fun e => by
    cases e
    case strongroom => exact congrArg Csc.strongroom csc
    case drop n => exact congrArg DropSafe.door (safes n)
    case other => rfl
  refine ⟨fun e _ => doors e, fun m _ => safes m, by rw [csc], ?_, notify_onlyNotices .., fun n => by rw [safes],
    fun n on => by rw [safes], fun n h => by rw [safes]; exact h, by rw [ubc]⟩
  rw [frame]

end Moves

/-! ## A door's record written -/

section PutDoor

variable (d : DoorName) (x : Door) (s : State)

theorem putDoor_safe (m : Nat) : (putDoor d x s).safe m =
    if d = .drop m then safeWithCause { s.safe m with door := x } .opened (decide (x.state ≠ .secure)) else s.safe m := by
  cases d
  case drop n =>
    have put : ∀ k, (putSafe n { s.safe n with door := x } s).safe k = if k = n then { s.safe n with door := x } else s.safe k :=
      fun k => putSafe_safe ..
    unfold putDoor
    dsimp only
    rw [setChuteCause_safe, put, put, if_pos rfl]
    by_cases same : m = n
    · subst same
      simp
    · have other : n ≠ m := fun h => same h.symm
      simp [same, other]
  all_goals simp [putDoor, State.safe]

theorem put_opened_again (c : ChuteCauses) (a b : Bool) : (c.put .opened a).put .opened b = c.put .opened b := rfl

theorem putDoor_ubc : (putDoor d x s).ubc = { s.ubc with
    commands := s.ubc.commands ++ s.ubc.sends (openCauseCommands d (decide (x.state ≠ .secure)) s) } := by
  cases d
  case drop n =>
    have causes : openCauseCommands (.drop n) (decide (x.state ≠ .secure)) (putSafe n { s.safe n with door := x } s) =
        openCauseCommands (.drop n) (decide (x.state ≠ .secure)) s := by
      simp [openCauseCommands]
    refine (setChuteCause_opened_commands n (decide (x.state ≠ .secure)) (putSafe n { s.safe n with door := x } s)).trans ?_
    rw [causes]
    rfl
  all_goals simp [putDoor, openCauseCommands, Ubc.sends]

theorem openCauseNotified_congr {d : DoorName} {on : Bool} {s t : State} (hpt : t.hpt = s.hpt)
    (causes : ∀ n, d = .drop n → (t.safe n).causes = (s.safe n).causes) : (openCauseNotified d on t).hpt = (openCauseNotified d on s).hpt := by
  cases d
  case drop n =>
    unfold openCauseNotified
    dsimp only
    rw [causes n rfl]
    split
    · exact hpt
    · exact notify_hpt_congr _ _ _ _ hpt
  all_goals exact hpt

theorem openCauseCommands_congr {d : DoorName} {on : Bool} {s t : State}
    (causes : ∀ n, d = .drop n → (t.safe n).causes = (s.safe n).causes) : openCauseCommands d on t = openCauseCommands d on s := by
  cases d
  case drop n =>
    unfold openCauseCommands
    dsimp only
    rw [causes n rfl]
  all_goals rfl

theorem putDoor_hpt : (putDoor d x s).hpt = (openCauseNotified d (decide (x.state ≠ .secure)) s).hpt := by
  cases d
  case drop n =>
    refine (setChuteCause_opened_hpt n (decide (x.state ≠ .secure)) (putSafe n { s.safe n with door := x } s)).trans ?_
    exact openCauseNotified_congr rfl fun m same => by
      cases same
      simp
  all_goals rfl

theorem openCauseNotified_onlyNotices (on : Bool) : onlyNotices s (openCauseNotified d on s) := by
  cases d
  case drop n =>
    unfold openCauseNotified
    dsimp only
    split
    · rfl
    · exact notify_onlyNotices ..
  all_goals rfl

theorem putDoor_csc : (putDoor d x s).csc =
    { s.csc with strongroom := (putDoor d x s).csc.strongroom, safes := (putDoor d x s).csc.safes } := by
  have policy : (putDoor d x s).csc.policy = s.csc.policy := by simp
  have maintenance : (putDoor d x s).csc.maintenance = s.csc.maintenance := by simp
  have freeze : (putDoor d x s).csc.freeze = s.csc.freeze := by simp
  have latch : (putDoor d x s).csc.latch = s.csc.latch := by simp
  have timer : (putDoor d x s).csc.holdTimer = s.csc.holdTimer := by simp
  have running : (putDoor d x s).csc.holdRunning = s.csc.holdRunning := by simp
  dsimp only
  rw [← policy, ← maintenance, ← freeze, ← latch, ← timer, ← running]

theorem DoorMoves.putDoor : DoorMoves d s (putDoor d x s) where
  doors e ne := putDoor_door_ne d x s ne
  others m ne := by rw [putDoor_safe, if_neg ne]
  csc := putDoor_csc d x s
  frame := by apply State.eq_of_blocks <;> simp
  notices := by
    unfold onlyNotices
    rw [putDoor_hpt]
    exact openCauseNotified_onlyNotices ..
  counts n := by
    rw [putDoor_safe]
    split <;> rfl
  causes n on := by
    rw [putDoor_safe]
    split <;> rfl
  locked n start := by
    rw [putDoor_safe]
    split
    · exact safeWithCause_locked _ _ _ start
    · exact start
  ubc := by simp

end PutDoor

/-! ## Securing, releasing and opening -/

/-- R163, R164, R166: the record of a door that returns to SECURE. -/
def securedDoor (x : Door) : Door :=
  { x with state := .secure, named := none, timer := none, lockReleased := false, ajarSent := false, openFor := 0 }

/-- R163: the command that a lock that was released is sent. -/
def engageCommands (d : DoorName) (s : State) : List (UnitPos × UnitCmd) :=
  if (s.door d).lockReleased then [(.door d, .engage)] else []

/-- R163: a lock that was released is engaged. -/
def engaged (d : DoorName) (s : State) : State := if (s.door d).lockReleased then command (.door d) .engage s else s

section Operations

variable (d : DoorName) (s : State)

theorem engaged_eq : engaged d s = { s with ubc.commands := s.ubc.commands ++ s.ubc.sends (engageCommands d s) } := by
  unfold engaged engageCommands
  split
  · rfl
  · simp [Ubc.sends]

theorem engaged_moves : DoorMoves d s (engaged d s) := by
  rw [engaged_eq]
  exact .of_ubc rfl rfl rfl

theorem secureDoor_eq : secureDoor d s = putDoor d (securedDoor (s.door d)) (engaged d s) := rfl

theorem secureDoor_moves : DoorMoves d s (secureDoor d s) := (engaged_moves d s).trans (.putDoor d _ _)

theorem secureDoor_door (valid : validDoor d = true) : (secureDoor d s).door d = securedDoor (s.door d) := by
  have named : d ≠ .other := fun other => by rw [other] at valid; cases valid
  rw [secureDoor_eq, putDoor_door _ _ _ _ named, if_pos rfl]

theorem putDoor_own (x : Door) (valid : validDoor d = true) : (putDoor d x s).door d = x := by
  have named : d ≠ .other := fun other => by rw [other] at valid; cases valid
  rw [putDoor_door _ _ _ _ named, if_pos rfl]

theorem secureDoor_ubc : (secureDoor d s).ubc = { s.ubc with
    commands := s.ubc.commands ++ s.ubc.sends (engageCommands d s ++ openCauseCommands d false s) } := by
  have causes : openCauseCommands d false (engaged d s) = openCauseCommands d false s := by
    refine openCauseCommands_congr fun n _ => ?_
    rw [engaged_eq]
    rfl
  have closed : decide ((securedDoor (s.door d)).state ≠ .secure) = false := rfl
  rw [secureDoor_eq, putDoor_ubc, closed, causes, engaged_eq]
  simp [Ubc.sends, Ubc.send, Ubc.address]

theorem secureDoor_hpt : (secureDoor d s).hpt = (openCauseNotified d false s).hpt := by
  rw [secureDoor_eq, putDoor_hpt]
  refine openCauseNotified_congr ?_ fun n _ => ?_
  · rw [engaged_eq]
  · rw [engaged_eq]
    rfl

theorem secureDoor_causes (n : Nat) (same : d = .drop n) : ((secureDoor d s).safe n).causes = (s.safe n).causes.put .opened false := by
  have safe : (engaged d s).safe n = s.safe n := by
    rw [engaged_eq]
    rfl
  rw [secureDoor_eq, putDoor_safe, if_pos same, safe]
  rfl

/-- R160, R162: the record of a door whose lock is released. -/
def releasedDoor (window : Nat) (x : Door) : Door := { x with state := .released, lockReleased := true, timer := some window }

theorem releaseDoor_eq : releaseDoor d s =
    putDoor d (releasedDoor s.csc.policy.releaseWindow (s.door d)) (command (.door d) .release s) := rfl

theorem releaseDoor_moves : DoorMoves d s (releaseDoor d s) := (DoorMoves.command d _ _ s).trans (.putDoor d _ _)

theorem releaseDoor_ubc : (releaseDoor d s).ubc = { s.ubc with
    commands := s.ubc.commands ++ s.ubc.sends ((.door d, .release) :: openCauseCommands d true s) } := by
  have causes : openCauseCommands d true (command (.door d) .release s) = openCauseCommands d true s :=
    openCauseCommands_congr fun n _ => rfl
  have opens : decide ((releasedDoor s.csc.policy.releaseWindow (s.door d)).state ≠ .secure) = true := rfl
  rw [releaseDoor_eq, putDoor_ubc, opens, causes]
  simp [command, Ubc.sends, Ubc.send, Ubc.address]

theorem releaseDoor_hpt : (releaseDoor d s).hpt = (openCauseNotified d true s).hpt := by
  rw [releaseDoor_eq, putDoor_hpt]
  exact openCauseNotified_congr rfl fun n _ => rfl

theorem putDoor_causes (x : Door) (n : Nat) (same : d = .drop n) :
    ((putDoor d x s).safe n).causes = (s.safe n).causes.put .opened (decide (x.state ≠ .secure)) := by
  rw [putDoor_safe, if_pos same]
  rfl

end Operations

/-! ## A cause OPEN that stands as it should -/

section Idle

variable {d : DoorName} {s : State} {on : Bool}

theorem causes_of_chuteRule (rule : chuteRule s = true) {n : Nat} (valid : validSafe n = true) :
    (s.safe n).chuteLocked = (s.safe n).causes.any ∧ (s.safe n).causes.opened = decide ((s.safe n).door.state ≠ .secure) := by
  have mem : n ∈ safeNumbers := by
    simp only [validSafe, Bool.and_eq_true, decide_eq_true_eq] at valid
    simp [safeNumbers]
    omega
  have held := (safeRule_iff s (s.safe n)).mp (List.all_eq_true.mp rule n mem)
  exact ⟨held.1, held.2 .opened⟩

/-- R169: where the causes are as they should be, a record that leaves whether a door is SECURE sends nothing. -/
theorem openCause_idle (rule : chuteRule s = true) (valid : validDoor d = true) (stands : on = decide ((s.door d).state ≠ .secure)) :
    openCauseCommands d on s = [] ∧ openCauseNotified d on s = s ∧ ∀ n, d = .drop n → (s.safe n).causes.put .opened on = (s.safe n).causes := by
  have put : ∀ n, d = .drop n → (s.safe n).causes.put .opened on = (s.safe n).causes := fun n same => by
    subst same
    rw [stands]
    exact ChuteCauses.put_self _ _ _ (causes_of_chuteRule rule valid).2
  refine ⟨?_, ?_, put⟩
  · cases d
    case drop n => exact if_pos (by rw [put n rfl])
    all_goals rfl
  · cases d
    case drop n => exact if_pos (by rw [put n rfl])
    all_goals rfl

/-- R169: so writing such a record writes the record alone. -/
theorem putDoor_idle {x : Door} (rule : chuteRule s = true) (valid : validDoor d = true)
    (stands : decide (x.state ≠ .secure) = decide ((s.door d).state ≠ .secure)) : (putDoor d x s).ubc = s.ubc ∧
      (putDoor d x s).hpt = s.hpt ∧ ∀ n, d = .drop n → ((putDoor d x s).safe n).causes = (s.safe n).causes := by
  obtain ⟨commands, notified, put⟩ := openCause_idle rule valid stands
  refine ⟨?_, ?_, fun n same => ?_⟩
  · rw [putDoor_ubc, commands]
    simp [Ubc.sends]
  · rw [putDoor_hpt, notified]
  · rw [putDoor_causes d s x n same, put n same]

end Idle

end Sys2Proof.Machine
end

section
/-!
REQUEST_DOOR, CANCEL_DOOR and the custody settings (R160, R166, R168, R172 to R174, R177).
-/

namespace Sys2Proof.Machine

open Sys2Proof

set_option Elab.async false

section Bodies

variable {d : DoorName} {creds : List Nat} {u : State}

theorem requestDoor_latched (suits : (validDoor d && doorCredsOk d creds) = true) (latch : u.csc.latch = true) :
    requestDoor d creds u = .error ⟨.lockdown, []⟩ :=
  (pass suits).trans (fails (by rw [latch]; rfl))

/-- R160, R168: the door with the names of its grant. -/
def namedDoor (d : DoorName) (creds : List Nat) (u : State) : State := putDoor d { u.door d with named := grantedNames d creds } u

/-- R160, R168: the rows of the grant table after the authority check. -/
theorem requestDoor_of (suits : (validDoor d && doorCredsOk d creds) = true) (latch : u.csc.latch = false)
    (secure : (u.door d).state = .secure) (authorised : authority (doorRoles d) creds u = .ok ()) :
    (u.csc.maintenance = true → requestDoor d creds u =
      .ok ⟨releaseDoor d (namedDoor d creds u), .ok, doorFields d (releaseDoor d (namedDoor d creds u))⟩) ∧
    (u.csc.maintenance = false → ∀ delay, grantedDelay d u = some delay → requestDoor d creds u =
      .ok ⟨grantDelay d delay (namedDoor d creds u), .ok, doorFields d (grantDelay d delay (namedDoor d creds u))⟩) ∧
    (u.csc.maintenance = false → grantedDelay d u = none → requestDoor d creds u = .error ⟨.hours, []⟩) := by
  have start : requestDoor d creds u = (if u.csc.maintenance then
      answerOk (releaseDoor d (namedDoor d creds u)) (doorFields d (releaseDoor d (namedDoor d creds u)))
    else do
      let delay ← requireSome (grantedDelay d u) .hours
      answerOk (grantDelay d delay (namedDoor d creds u)) (doorFields d (grantDelay d delay (namedDoor d creds u)))) :=
    (pass suits).trans ((pass (by rw [latch]; rfl)).trans ((pass (by simp [secure])).trans ((pass (by simp [secure])).trans
      ((passed authorised).trans rfl))))
  rw [start]
  refine ⟨fun on => ?_, fun off delay granted => ?_, fun off none => ?_⟩
  · rw [if_pos on]
    rfl
  · rw [if_neg (by simp [off])]
    exact (found granted).trans rfl
  · rw [if_neg (by simp [off]), none]
    rfl

theorem cancelDoor_ok (valid : validDoor d = true)
    (moving : (u.door d).state = .delay ∨ (u.door d).state = .confirm ∨ (u.door d).state = .released) :
    cancelDoor d u = .ok ⟨secureDoor d u, .ok, [fNamed (doorStateCode d (u.door d).state)]⟩ :=
  (pass valid).trans ((pass (by simpa [or_assoc] using moving)).trans rfl)

end Bodies

/-! ## The end of a grant -/

/-- R160, R168: a granted door released, or on its way through a delay. -/
def grantEnd (d : DoorName) (release : Prop) [Decidable release] (secs : Nat) (s : State) : State :=
  if release then releaseDoor d s else putDoor d { s.door d with state := .delay, timer := some secs } s

section Grant

variable (d : DoorName) (release : Prop) [Decidable release] (secs : Nat) (s : State)

theorem grantDelay_drop (n : Nat) : grantDelay (.drop n) secs s = grantEnd (.drop n) (secs = 0) secs s := rfl

theorem grantEnd_moves : DoorMoves d s (grantEnd d release secs s) := by
  unfold grantEnd
  split
  · exact releaseDoor_moves d s
  · exact .putDoor d _ s

theorem grantEnd_door (valid : validDoor d = true) : (grantEnd d release secs s).door d =
    if release then releasedDoor s.csc.policy.releaseWindow (s.door d) else { s.door d with state := .delay, timer := some secs } := by
  unfold grantEnd
  split
  · exact putDoor_own _ _ _ valid
  · exact putDoor_own _ _ _ valid

theorem grantEnd_ubc : (grantEnd d release secs s).ubc = { s.ubc with
    commands := s.ubc.commands ++ s.ubc.sends ((if release then [(.door d, .release)] else []) ++ openCauseCommands d true s) } := by
  unfold grantEnd
  split
  · exact releaseDoor_ubc d s
  · exact putDoor_ubc d _ s

theorem grantEnd_hpt : (grantEnd d release secs s).hpt = (openCauseNotified d true s).hpt := by
  unfold grantEnd
  split
  · exact releaseDoor_hpt d s
  · exact putDoor_hpt d _ s

theorem grantEnd_causes (n : Nat) (same : d = .drop n) :
    ((grantEnd d release secs s).safe n).causes = (s.safe n).causes.put .opened true := by
  unfold grantEnd
  split
  · exact putDoor_causes d _ _ n same
  · exact putDoor_causes d _ _ n same

end Grant

section Drop

variable {n cred secs : Nat} {release : Prop} [Decidable release] {u t : State}

/-- R168: a drop safe's grant, from a door that is SECURE. -/
def dropGranted (n cred : Nat) (release : Prop) [Decidable release] (secs : Nat) (u : State) : State :=
  grantEnd (.drop n) release secs (namedDoor (.drop n) [cred] u)

theorem dropGranted_moves : DoorMoves (.drop n) u (dropGranted n cred release secs u) :=
  (DoorMoves.putDoor ..).trans (grantEnd_moves ..)

theorem dropGranted_door (valid : validDoor (.drop n) = true) : ((dropGranted n cred release secs u).safe n).door =
    if release then releasedDoor u.csc.policy.releaseWindow { (u.safe n).door with named := none }
    else { (u.safe n).door with named := none, state := .delay, timer := some secs } := by
  have named : (namedDoor (.drop n) [cred] u).door (.drop n) = { (u.safe n).door with named := none } := putDoor_own _ _ _ valid
  have policy : (namedDoor (.drop n) [cred] u).csc.policy = u.csc.policy := by simp [namedDoor]
  have last := grantEnd_door (.drop n) release secs (namedDoor (.drop n) [cred] u) valid
  rw [named, policy] at last
  exact last

theorem dropGranted_causes : ((dropGranted n cred release secs u).safe n).causes = (u.safe n).causes.put .opened true :=
  (grantEnd_causes _ _ _ _ n rfl).trans ((DoorMoves.putDoor ..).causes n true)

theorem dropGranted_ubc : (dropGranted n cred release secs u).ubc =
    { u.ubc with commands := (dropGranted n cred release secs u).ubc.commands } := by
  unfold dropGranted namedDoor
  rw [grantEnd_ubc, putDoor_ubc]

/-- R168, R169: where the causes are as they should be, recording the names of a grant sends nothing. -/
theorem namedDoor_idle (rule : chuteRule u = true) (valid : validDoor (.drop n) = true) :
    (namedDoor (.drop n) [cred] u).ubc = u.ubc ∧ (namedDoor (.drop n) [cred] u).hpt = u.hpt ∧
      ((namedDoor (.drop n) [cred] u).safe n).causes = (u.safe n).causes := by
  obtain ⟨ubc, hpt, causes⟩ := putDoor_idle (x := { u.door (.drop n) with named := none }) rule valid rfl
  exact ⟨ubc, hpt, causes n rfl⟩

theorem dropGranted_sends (rule : chuteRule u = true) (valid : validDoor (.drop n) = true) :
    (dropGranted n cred release secs u).hpt = (openCauseNotified (.drop n) true u).hpt ∧
      (dropGranted n cred release secs u).ubc.commands = u.ubc.commands ++
        u.ubc.sends ((if release then [(.door (.drop n), .release)] else []) ++ openCauseCommands (.drop n) true u) := by
  obtain ⟨ubc, hpt, causes⟩ := namedDoor_idle (cred := cred) rule valid
  have same : ∀ m, DoorName.drop n = .drop m →
      ((namedDoor (.drop n) [cred] u).safe m).causes = (u.safe m).causes := fun m eq => by cases eq; exact causes
  unfold dropGranted
  rw [grantEnd_hpt, grantEnd_ubc, openCauseNotified_congr hpt same, openCauseCommands_congr same, ubc]
  exact ⟨rfl, rfl⟩

end Drop

/-- R168: the answer to a drop safe's grant, in either kind. -/
theorem requestDrop_ok {n cred : Nat} {u : State} (valid : validDoor (.drop n) = true) (latch : u.csc.latch = false)
    (secure : (u.door (.drop n)).state = .secure) (present : u.presentAs .office cred custodianClass = true)
    (granted : u.csc.maintenance = true ∨ u.acu.mode = .opened) :
    requestDoor (.drop n) [cred] u =
      .ok ⟨dropGranted n cred (u.csc.maintenance = true ∨ u.csc.policy.dropDelay = 0) u.csc.policy.dropDelay u, .ok,
        doorFields (.drop n)
          (dropGranted n cred (u.csc.maintenance = true ∨ u.csc.policy.dropDelay = 0) u.csc.policy.dropDelay u)⟩ := by
  have suits : (validDoor (.drop n) && doorCredsOk (.drop n) [cred]) = true := by rw [valid]; rfl
  obtain ⟨atOnce, delayed, -⟩ := requestDoor_of suits latch secure (custodianAtOffice_ok cred u present)
  cases on : u.csc.maintenance
  case true =>
    rw [atOnce on]
    simp [dropGranted, grantEnd]
  case false =>
    have mode : u.acu.mode = .opened := granted.resolve_left (by simp [on])
    rw [delayed on u.csc.policy.dropDelay (by unfold grantedDelay; rw [mode])]
    simp [dropGranted, grantDelay_drop]

/-! ## Settings -/

section Settings

variable {u : State} {cred : Nat}

theorem setDoorPolicy_ok {p : PolicyArgs} (authorised : authority supervisorAtOffice [cred] u = .ok ()) (thawed : u.csc.freeze = false)
    (some : carriedTimings p ≠ []) (fit : ∀ v ∈ carriedTimings p, v ≤ 65535) :
    setDoorPolicy p cred u = .ok ⟨{ u with csc.policy := newPolicy p u.csc.policy }, .ok, policyFields (newPolicy p u.csc.policy)⟩ := by
  have carried : (!(carriedTimings p).isEmpty && (carriedTimings p).all (fun v => decide (v ≤ 65535))) = true := by
    rw [Bool.and_eq_true]
    exact ⟨by simpa using some, List.all_eq_true.mpr fun v mem => decide_eq_true (fit v mem)⟩
  exact (passed authorised).trans ((pass (by rw [thawed]; rfl)).trans ((pass carried).trans rfl))

theorem clampTiming_eq (lo hi held : Nat) (given : Option Nat) :
    clampTiming lo hi given held = (given.map (fun v => max lo (min hi v))).getD held := by
  cases given <;> rfl

theorem clampTiming_zero (hi held : Nat) (given : Option Nat) :
    clampTiming 0 hi given held = (given.map (fun v => min hi v)).getD held := by
  cases given <;> simp [clampTiming]

end Settings

end Sys2Proof.Machine

namespace Sys2Proof.Proofs.DoorRequests

open Sys2Proof Sys2Proof.Machine

/-- Settles O49. -/
theorem doorRequests : Obligations.DoorRequests := by
  unfold Obligations.DoorRequests
  refine ⟨fun s tag a b taken => ⟨fun latch => ?_, fun latch secure first second distinct => ?_⟩,
    fun s tag => ⟨fun n a taken low high latch secure present granted => ?_, fun d taken valid moving => ?_⟩⟩
  · exact exec_error (i := .requestDoor tag .strongroom [a, b]) rfl taken (requestDoor_latched rfl latch)
  · have authorised := twoCustodiansAtStrongroom_ok a b (takeFrom s) first second distinct
    obtain ⟨atOnce, delayed, closed⟩ := requestDoor_of (d := .strongroom) (creds := [a, b]) (u := takeFrom s) rfl latch secure authorised
    refine ⟨fun on => ?_, fun off d granted => ?_, fun off mode visit => ?_⟩
    · exact ⟨_, exec_ok (i := .requestDoor tag .strongroom [a, b]) rfl taken (atOnce on), rfl⟩
    · have delay : grantedDelay .strongroom (takeFrom s) = some d := by
        unfold grantedDelay
        rcases granted with ⟨mode, eq⟩ | ⟨mode, due, eq⟩
        · rw [show (takeFrom s).acu.mode = .opened from mode, eq]
          rfl
        · rw [show (takeFrom s).acu.mode = .afterHours from mode, eq]
          exact if_pos due
      refine ⟨_, exec_ok (i := .requestDoor tag .strongroom [a, b]) rfl taken (delayed off d delay), ?_⟩
      unfold grantDelay
      by_cases zero : d = 0
      · rw [if_pos zero, if_pos zero]
        rfl
      · rw [if_neg zero, if_neg zero]
        rfl
    · refine exec_error (i := .requestDoor tag .strongroom [a, b]) rfl taken (closed off ?_)
      unfold grantedDelay
      rw [show (takeFrom s).acu.mode = .afterHours from mode]
      exact if_neg (by rw [show (takeFrom s).visitDue = false from visit]; decide)
  · have valid : validDoor (.drop n) = true := by simp [validDoor, validSafe, low, high]
    have ok := exec_ok (i := .requestDoor tag (.drop n) [a]) rfl taken (requestDrop_ok (u := takeFrom s) valid latch secure present granted)
    have moves := dropGranted_moves (n := n) (cred := a) (u := takeFrom s) (secs := s.csc.policy.dropDelay)
      (release := s.csc.maintenance = true ∨ s.csc.policy.dropDelay = 0)
    have door := dropGranted_door (cred := a) (u := takeFrom s) (secs := s.csc.policy.dropDelay)
      (release := s.csc.maintenance = true ∨ s.csc.policy.dropDelay = 0) valid
    have causes := dropGranted_causes (n := n) (cred := a) (u := takeFrom s) (secs := s.csc.policy.dropDelay)
      (release := s.csc.maintenance = true ∨ s.csc.policy.dropDelay = 0)
    have ubc := dropGranted_ubc (n := n) (cred := a) (u := takeFrom s) (secs := s.csc.policy.dropDelay)
      (release := s.csc.maintenance = true ∨ s.csc.policy.dropDelay = 0)
    have sends := fun rule => dropGranted_sends (cred := a) (u := takeFrom s) (secs := s.csc.policy.dropDelay)
      (release := s.csc.maintenance = true ∨ s.csc.policy.dropDelay = 0) rule valid
    change exec _ s = .next (reply tag .requestDoor .ok (doorFields _ (dropGranted n a (s.csc.maintenance = true ∨
      s.csc.policy.dropDelay = 0) s.csc.policy.dropDelay (takeFrom s))) (dropGranted n a (s.csc.maintenance = true ∨
      s.csc.policy.dropDelay = 0) s.csc.policy.dropDelay (takeFrom s))) at ok
    generalize dropGranted n a (s.csc.maintenance = true ∨ s.csc.policy.dropDelay = 0) s.csc.policy.dropDelay (takeFrom s) = t
      at ok moves door causes ubc sends
    refine ⟨t, ok, ?_⟩
    refine ⟨door, by rw [causes]; rfl, moves.counts n, fun m ne => moves.others m (by simpa using ne.symm), moves.csc_drop, moves.frame,
      moves.notices, ubc, fun rule => ?_⟩
    obtain ⟨hpt, commands⟩ := sends rule
    have locked := moves.locked n (causes_of_chuteRule (s := takeFrom s) rule valid).1
    exact ⟨causes, by rw [locked, causes]; simp [ChuteCauses.any, ChuteCauses.put], hpt, commands⟩
  · have moves := secureDoor_moves d (takeFrom s)
    refine ⟨_, exec_ok (i := .cancelDoor tag d) rfl taken (cancelDoor_ok valid moving), secureDoor_door d _ valid, moves.doors,
      ?_, secureDoor_hpt d _, fun n same => ⟨secureDoor_causes d _ n same, moves.counts n⟩, moves.csc, moves.frame, moves.notices⟩
    exact secureDoor_ubc d (takeFrom s)

/-- Settles O52. -/
theorem custodySettings : Obligations.CustodySettings := by
  unfold Obligations.CustodySettings
  refine fun s tag cred present => ?_
  have authorised := supervisorAtOffice_ok cred s present
  refine ⟨fun p taken thawed some fit => ⟨newPolicy p s.csc.policy, exec_ok rfl taken (setDoorPolicy_ok authorised thawed some fit),
      clampTiming_zero .., clampTiming_zero .., clampTiming_zero .., clampTiming_eq .., clampTiming_eq .., clampTiming_eq ..,
      clampTiming_eq ..⟩,
    fun v taken thawed => ?_, fun v taken frozen => ?_, fun taken thawed => ?_, fun taken frozen => ?_, fun e taken => ?_⟩
  · exact exec_ok (i := .setMaintenance tag (some v) cred) rfl taken ((passed authorised).trans ((Machine.pass (by
      rw [show (takeFrom s).csc.freeze = false from thawed]; rfl)).trans rfl))
  · exact exec_error (i := .setMaintenance tag (some v) cred) rfl taken ((passed authorised).trans (fails (by
      rw [show (takeFrom s).csc.freeze = true from frozen]; rfl)))
  · exact exec_ok (i := .freezeSettings tag cred) rfl taken ((passed authorised).trans ((Machine.pass (by
      rw [show (takeFrom s).csc.freeze = false from thawed]; rfl)).trans rfl))
  · exact exec_error (i := .freezeSettings tag cred) rfl taken ((passed authorised).trans (fails (by
      rw [show (takeFrom s).csc.freeze = true from frozen]; rfl)))
  · exact exec_ok (i := .setPanicEdge tag (some e) cred) rfl taken ((passed authorised).trans ((found rfl).trans rfl))

end Sys2Proof.Proofs.DoorRequests
end

section
/-!
The expiries of the doors and the DOOR records (R161 to R165, R168).
-/

namespace Sys2Proof.Machine

open Sys2Proof

set_option Elab.async false

theorem validDrop_of {n : Nat} (low : 1 ≤ n) (high : n ≤ 6) : validSafe n = true := by simp [validSafe, low, high]

theorem Ubc.sends_append (u : Ubc) (l m : List (UnitPos × UnitCmd)) : u.sends (l ++ m) = u.sends l ++ u.sends m := List.map_append

theorem openCauseCommands_open (n : Nat) (s : State) :
    openCauseCommands (.drop n) true s = if (s.safe n).causes.any then [] else [(.chute n, .lock)] := by
  unfold openCauseCommands
  simp [ChuteCauses.any, ChuteCauses.put]

theorem openCauseCommands_closed (n : Nat) (s : State) : openCauseCommands (.drop n) false s =
    if (s.safe n).causes.any ∧ ((s.safe n).causes.put .opened false).any = false then [(.chute n, .unlock)] else [] := by
  unfold openCauseCommands
  dsimp only
  rcases (s.safe n).causes with ⟨full, table, journal, lockdown, opened⟩
  cases full <;> cases table <;> cases journal <;> cases lockdown <;> cases opened <;> rfl

/-! ## Expiries -/

section Expiries

variable {d : DoorName} {x : DoorState} {s : State}

theorem doorExpired_iff : doorExpired d x s = true ↔ (s.door d).state = x ∧ (s.door d).timer = some 0 := by
  simp [doorExpired]

theorem expired_of (state : (s.door d).state = x) (timer : (s.door d).timer = some 0) : doorExpired d x s = true :=
  doorExpired_iff.mpr ⟨state, timer⟩

theorem not_expired_of (timer : (s.door d).timer ≠ some 0) : ¬doorExpired d x s = true :=
  fun expired => timer (doorExpired_iff.mp expired).2

/-- R164: the record of a door left open beyond its limit. -/
def ajarDoor (d : DoorName) (s : State) : State := putDoor d { s.door d with timer := none, ajarSent := true } s

theorem expireOpen_eq (state : (s.door d).state = .opened) (timer : (s.door d).timer = some 0) :
    expireOpen d s = notify .doorAjar [fDoor d, fNum 3 (s.door d).openFor] (ajarDoor d s) := if_pos (expired_of state timer)

theorem exec_dropDelayExpiry {n : Nat} (operates : s.operating = true) (valid : validSafe n = true) :
    exec (.dropDelayExpiry n) s = .next (expireDelay (.drop n) s) := (if_pos valid).trans (event_of_operating operates)

theorem exec_releaseWindowExpiry (operates : s.operating = true) (valid : validDoor d = true) :
    exec (.releaseWindowExpiry d) s = .next (expireRelease d s) := (if_pos valid).trans (event_of_operating operates)

theorem exec_openLimitExpiry (operates : s.operating = true) (valid : validDoor d = true) :
    exec (.openLimitExpiry d) s = .next (expireOpen d s) := (if_pos valid).trans (event_of_operating operates)

end Expiries

/-! ## DOOR records -/

/-- R168, R169: a drop safe's cause OPEN written with its door. -/
def CauseWritten (d : DoorName) (s t : State) : Prop :=
  ∀ n, d = .drop n → (t.safe n).causes = (s.safe n).causes.put .opened (decide ((t.safe n).door.state ≠ .secure))

section Records

variable {d : DoorName} {s u v : State} {x : Door}

theorem CauseWritten.putDoor (moves : DoorMoves d s v) (x : Door) : CauseWritten d s (putDoor d x v) := fun n same => by
  rw [putDoor_safe, if_pos same]
  exact moves.causes n _

theorem CauseWritten.of_csc (h : CauseWritten d s u) (csc : v.csc = u.csc) : CauseWritten d s v := fun n same => by
  have safe : v.safe n = u.safe n := by rw [State.safe, csc, State.safe]
  rw [safe]
  exact h n same

/-- R163, R165: the record of a door that stands open. -/
def openedDoor (limit : Nat) (x : Door) : Door :=
  { x with state := .opened, timer := some limit, contactOpen := true, ajarSent := false, openFor := 0 }

theorem openDoor_eq (d : DoorName) (s : State) : openDoor d s = putDoor d (openedDoor s.csc.policy.openLimit (s.door d)) s := rfl

/-- R165: the door with no names any more. -/
def unnamed (d : DoorName) (s : State) : State := putDoor d { s.door d with named := none } s

theorem unnamed_idle (rule : chuteRule s = true) (valid : validDoor d = true) : (unnamed d s).ubc = s.ubc ∧
    (unnamed d s).hpt = s.hpt ∧ ∀ n, d = .drop n → ((unnamed d s).safe n).causes = (s.safe n).causes :=
  putDoor_idle rule valid rfl

/-- R165: a forced door's records, before ALARM and FORCED. -/
def forcedOpen (d : DoorName) (s : State) : State := openDoor d (unnamed d s)

theorem forceDoor_eq (d : DoorName) (s : State) : forceDoor d s =
    notify .forced [fDoor d, fNamed (doorStateCode d (s.door d).state)] (driveAlarm (forcedOpen d s)) := rfl

theorem forcedOpen_moves (d : DoorName) (s : State) : DoorMoves d s (forcedOpen d s) := (DoorMoves.putDoor ..).trans (.putDoor ..)

theorem forceDoor_moves (d : DoorName) (s : State) : DoorMoves d s (forceDoor d s) :=
  ((forcedOpen_moves d s).trans (.driveAlarm d _)).trans (.notify d _ _ _)

theorem forceDoor_csc (d : DoorName) (s : State) : (forceDoor d s).csc = (forcedOpen d s).csc := (notify_csc ..).1

theorem door_of_csc (csc : v.csc = u.csc) : v.door d = u.door d := by
  cases d
  case strongroom => exact congrArg Csc.strongroom csc
  case drop n => simp only [State.door, State.safe, csc]
  case other => rfl

theorem forceDoor_door (valid : validDoor d = true) : (forceDoor d s).door d =
    openedDoor s.csc.policy.openLimit { s.door d with named := none } := by
  have policy : (unnamed d s).csc.policy = s.csc.policy := by simp [unnamed]
  rw [door_of_csc (forceDoor_csc d s), forcedOpen, openDoor_eq, putDoor_own _ _ _ valid, policy, unnamed, putDoor_own _ _ _ valid]

theorem forceDoor_ubc (d : DoorName) (s : State) :
    (forceDoor d s).ubc = { (forcedOpen d s).ubc with alarm := true, alarmTimer := some 180 } := (notify_csc ..).2.1

theorem forceDoor_sends (rule : chuteRule s = true) (valid : validDoor d = true) :
    (forceDoor d s).ubc = { s.ubc with
      alarm := true, alarmTimer := some 180
      commands := s.ubc.commands ++ s.ubc.sends (openCauseCommands d true s) } ∧
    (forceDoor d s).hpt =
      (notify .forced [fDoor d, fNamed (doorStateCode d (s.door d).state)] (openCauseNotified d true s)).hpt := by
  obtain ⟨ubc, hpt, causes⟩ := unnamed_idle rule valid
  have opens : decide ((openedDoor (unnamed d s).csc.policy.openLimit ((unnamed d s).door d)).state ≠ .secure) = true := rfl
  refine ⟨?_, ?_⟩
  · rw [forceDoor_ubc, forcedOpen, openDoor_eq, putDoor_ubc, opens, openCauseCommands_congr causes, ubc]
  · rw [forceDoor_eq]
    refine notify_hpt_congr _ _ _ _ ?_
    exact (putDoor_hpt d _ (unnamed d s)).trans (openCauseNotified_congr (on := true) hpt causes)

theorem takeDoor_forced (closed : (s.door d).state = .secure ∨ (s.door d).state = .delay ∨ (s.door d).state = .confirm) :
    takeDoor d true s = forceDoor d s := by
  refine (if_pos rfl).trans ?_
  unfold doorOpened
  rcases closed with state | state | state <;> rw [state]

theorem takeDoor_released (released : (s.door d).state = .released) :
    takeDoor d true s = putDoor d (openedDoor s.csc.policy.openLimit (s.door d)) s := by
  refine (if_pos rfl).trans ?_
  unfold doorOpened
  rw [released]
  rfl

theorem takeDoor_stands (opened : (s.door d).state = .opened) :
    takeDoor d true s = putDoor d { s.door d with contactOpen := true } s := by
  refine (if_pos rfl).trans ?_
  unfold doorOpened
  rw [opened]

/-- R164: a door whose contact has closed. -/
def contactClosed (d : DoorName) (s : State) : State := putDoor d { s.door d with contactOpen := false } s

theorem contactClosed_idle (rule : chuteRule s = true) (valid : validDoor d = true) : (contactClosed d s).ubc = s.ubc ∧
    (contactClosed d s).hpt = s.hpt ∧ ∀ n, d = .drop n → ((contactClosed d s).safe n).causes = (s.safe n).causes :=
  putDoor_idle rule valid rfl

theorem takeDoor_closes (opened : (s.door d).state = .opened) : takeDoor d false s = secureDoor d (contactClosed d s) := by
  refine (if_neg (by decide)).trans ?_
  exact if_pos opened

theorem takeDoor_shut (shut : (s.door d).state ≠ .opened) : takeDoor d false s = contactClosed d s := by
  refine (if_neg (by decide)).trans ?_
  exact if_neg shut

theorem closes_sends (rule : chuteRule s = true) (valid : validDoor d = true) :
    (secureDoor d (contactClosed d s)).ubc = { s.ubc with
      commands := s.ubc.commands ++ s.ubc.sends (engageCommands d s ++ openCauseCommands d false s) } ∧
    (secureDoor d (contactClosed d s)).hpt = (openCauseNotified d false s).hpt := by
  obtain ⟨ubc, hpt, causes⟩ := contactClosed_idle rule valid
  have lock : engageCommands d (contactClosed d s) = engageCommands d s := by
    unfold engageCommands contactClosed
    rw [putDoor_own _ _ _ valid]
  rw [secureDoor_ubc, secureDoor_hpt, lock, openCauseCommands_congr causes, openCauseNotified_congr hpt causes, ubc]
  exact ⟨rfl, rfl⟩

/-- R163 to R165, R168: what every DOOR record does, by the five states a door is in. -/
theorem takeDoor_effect (d : DoorName) (b : Bool) (s : State) (valid : validDoor d = true) :
    DoorMoves d s (takeDoor d b s) ∧ CauseWritten d s (takeDoor d b s) ∧ ((takeDoor d b s).door d).contactOpen = b := by
  have put : ∀ x : Door, x.contactOpen = b → takeDoor d b s = putDoor d x s →
      DoorMoves d s (takeDoor d b s) ∧ CauseWritten d s (takeDoor d b s) ∧ ((takeDoor d b s).door d).contactOpen = b :=
    fun x contact eq => by
      rw [eq, putDoor_own _ _ _ valid]
      exact ⟨.putDoor .., .putDoor (.refl d s) x, contact⟩
  have force : b = true → takeDoor d b s = forceDoor d s →
      DoorMoves d s (takeDoor d b s) ∧ CauseWritten d s (takeDoor d b s) ∧ ((takeDoor d b s).door d).contactOpen = b :=
    fun on eq => by
      rw [eq, forceDoor_door valid, on]
      exact ⟨forceDoor_moves d s, (CauseWritten.putDoor (.putDoor ..) _).of_csc (forceDoor_csc d s), rfl⟩
  cases b
  case false =>
    by_cases opened : (s.door d).state = .opened
    · rw [takeDoor_closes opened]
      refine ⟨(DoorMoves.putDoor ..).trans (secureDoor_moves ..),
        .putDoor ((DoorMoves.putDoor ..).trans (engaged_moves ..)) _, ?_⟩
      rw [secureDoor_door _ _ valid, contactClosed, putDoor_own _ _ _ valid]
      rfl
    · exact put _ rfl (takeDoor_shut opened)
  case true =>
    cases state : (s.door d).state
    case released => exact put _ rfl (takeDoor_released state)
    case opened => exact put _ rfl (takeDoor_stands state)
    case secure => exact force rfl (takeDoor_forced (.inl state))
    case delay => exact force rfl (takeDoor_forced (.inr (.inl state)))
    case confirm => exact force rfl (takeDoor_forced (.inr (.inr state)))

end Records

/-- R162: a presentation while the strongroom is in CONFIRM. -/
theorem presentedAtStrongroom_confirm {n a b : Nat} {s : State} (state : s.csc.strongroom.state = .confirm)
    (named : s.csc.strongroom.named = some (a, b)) :
    presentedAtStrongroom n s = if n = a ∨ n = b then releaseDoor .strongroom s else s := by
  unfold presentedAtStrongroom
  dsimp only
  rw [state, named]

end Sys2Proof.Machine

namespace Sys2Proof.Proofs.DoorEvents

open Sys2Proof Sys2Proof.Machine

/-- Settles O50. -/
theorem doorTimersExpire : Obligations.DoorTimersExpire := by
  unfold Obligations.DoorTimersExpire
  refine fun s operates => ⟨fun state timer => ?_, fun n low high state timer => ?_, fun state timer locked => ?_,
    fun d valid state timer => ?_, fun d valid state timer => ?_, fun timer => ?_, fun n low high timer => ?_⟩
  · exact (event_of_operating operates).trans (congrArg Host.Outcome.next (if_pos (expired_of (d := .strongroom) state timer)))
  · have valid := validDrop_of low high
    have moves := releaseDoor_moves (.drop n) s
    have expires : expireDelay (.drop n) s = releaseDoor (.drop n) s := if_pos (expired_of (d := .drop n) state timer)
    refine ⟨releaseDoor (.drop n) s, (exec_dropDelayExpiry operates valid).trans (congrArg _ expires), ?_,
      fun m ne => moves.others m (by simpa using ne.symm), moves.csc_drop, ?_, moves.frame, moves.notices⟩
    · exact putDoor_own (.drop n) _ _ valid
    · rw [releaseDoor_ubc, openCauseCommands_open]
  · refine (event_of_operating operates).trans (congrArg Host.Outcome.next ?_)
    refine (if_pos (expired_of (d := .strongroom) state timer)).trans ?_
    rw [secureDoor_eq, engaged, if_neg (by rw [show (s.door .strongroom).lockReleased = false from locked]; decide)]
    rfl
  · have moves := secureDoor_moves d s
    have expires : expireRelease d s = secureDoor d s := if_pos (expired_of state timer)
    refine ⟨secureDoor d s, (exec_releaseWindowExpiry operates valid).trans (congrArg _ expires), secureDoor_door d s valid,
      moves.doors, moves.csc, ⟨s.ubc.sends (openCauseCommands d false s), ?_, fun same => ?_, fun n same => ?_⟩, moves.frame,
      moves.notices⟩
    · rw [secureDoor_ubc, Ubc.sends_append, List.append_assoc]
      rfl
    · rw [same]
      rfl
    · rw [same, openCauseCommands_closed]
  · have moves := DoorMoves.putDoor d { s.door d with timer := none, ajarSent := true } s
    have still : decide ((s.door d).state ≠ .secure) = true := by simp [state]
    refine ⟨ajarDoor d s, (exec_openLimitExpiry operates valid).trans (congrArg _ (expireOpen_eq state timer)),
      putDoor_own _ _ _ valid, moves.doors, moves.csc,
      ⟨s.ubc.sends (openCauseCommands d true s), ?_, fun same => ?_, fun n same => ?_⟩, moves.frame, moves.notices⟩
    · rw [ajarDoor, putDoor_ubc]
      dsimp only
      rw [still]
    · rw [same]
      rfl
    · rw [same, openCauseCommands_open]
  · have idle : ∀ x, ¬doorExpired .strongroom x s = true := fun x => not_expired_of (d := .strongroom) timer
    refine ⟨(event_of_operating operates).trans (congrArg _ ?_), (event_of_operating operates).trans (congrArg _ ?_),
      (exec_releaseWindowExpiry operates rfl).trans (congrArg _ ?_), (exec_openLimitExpiry operates rfl).trans (congrArg _ ?_)⟩
    · exact if_neg (idle _)
    · exact if_neg (idle _)
    · exact if_neg (idle _)
    · exact if_neg (idle _)
  · have valid := validDrop_of low high
    have idle : ∀ x, ¬doorExpired (.drop n) x s = true := fun x => not_expired_of (d := .drop n) timer
    refine ⟨(exec_dropDelayExpiry operates valid).trans (congrArg _ ?_),
      (exec_releaseWindowExpiry (d := .drop n) operates valid).trans (congrArg _ ?_),
      (exec_openLimitExpiry (d := .drop n) operates valid).trans (congrArg _ ?_)⟩
    · exact if_neg (idle _)
    · exact if_neg (idle _)
    · exact if_neg (idle _)

/-- Settles O51. -/
theorem doorContactsAndConfirm : Obligations.DoorContactsAndConfirm := by
  unfold Obligations.DoorContactsAndConfirm
  refine ⟨fun s d operates valid b => ?_, fun s u n a b c p operates small held active counted state names eq => ?_⟩
  · obtain ⟨moves, written, contact⟩ := takeDoor_effect d b s valid
    refine ⟨takeDoor d b s, unitRecord_operating _ _ s operates valid, contact, moves.doors, moves.csc, moves.frame, moves.notices,
      fun n same => ⟨moves.counts n, fun rule => ⟨written n same, ?_⟩⟩, fun on released => ?_, fun on closed => ?_,
      fun on opened => ?_, fun off opened => ?_, fun off shut => ?_⟩
    · subst same
      exact moves.locked n (causes_of_chuteRule rule valid).1
    · subst on
      rw [takeDoor_released released]
      refine ⟨putDoor_own _ _ _ valid, by rw [putDoor_ubc], by rw [putDoor_ubc], fun rule => ?_⟩
      obtain ⟨ubc, hpt, -⟩ := putDoor_idle (d := d) (s := s) (x := openedDoor s.csc.policy.openLimit (s.door d)) rule valid
        (by rw [released]; rfl)
      exact ⟨ubc, hpt⟩
    · subst on
      rw [takeDoor_forced closed]
      refine ⟨forceDoor_door valid, by rw [forceDoor_ubc], by rw [forceDoor_ubc], fun rule => forceDoor_sends rule valid⟩
    · subst on
      rw [takeDoor_stands opened]
      refine ⟨putDoor_own _ _ _ valid, fun rule => ?_⟩
      obtain ⟨ubc, hpt, -⟩ := putDoor_idle (d := d) (s := s) (x := { s.door d with contactOpen := true }) rule valid rfl
      exact ⟨ubc, hpt⟩
    · subst off
      rw [takeDoor_closes opened]
      refine ⟨?_, fun rule => closes_sends rule valid⟩
      rw [secureDoor_door _ _ valid, contactClosed, putDoor_own _ _ _ valid]
      rfl
    · subst off
      rw [takeDoor_shut shut]
      refine ⟨putDoor_own _ _ _ valid, fun rule => ?_⟩
      obtain ⟨ubc, hpt, -⟩ := contactClosed_idle rule valid
      exact ⟨ubc, hpt⟩
  · subst eq
    have told := badge_presents .strongroom s n c p operates small held active counted
    obtain ⟨hoc, csc, acu, bgr⟩ := presented_keeps .strongroom n c p s
    have calm : p = .ok → (presented .strongroom n c p s).ubc = s.ubc ∧ (presented .strongroom n c p s).hpt = s.hpt := fun ok => by
      rw [presented_of_ok (by rw [ok]; decide)]
      exact ⟨rfl, rfl⟩
    have alarm : p = .duress → (presented .strongroom n c p s).ubc.alarm = true ∧
        (presented .strongroom n c p s).ubc.alarmTimer = some 180 := fun under => by
      rw [under, presented_of_duress]
      simp
    have ubc : (presented .strongroom n c p s).ubc.commands = s.ubc.commands ∧ (presented .strongroom n c p s).ubc.addrs = s.ubc.addrs := by
      by_cases under : p = .duress
      · rw [under, presented_of_duress]
        simp
      · rw [presented_of_ok under]
        exact ⟨rfl, rfl⟩
    obtain ⟨commands, addrs⟩ := ubc
    refine ⟨csc, commands, calm, alarm, hoc, acu, bgr, fun mine => ?_, fun first second => ?_⟩
    · have releases : tellOwner .strongroom n c.cls (presented .strongroom n c p s) =
          releaseDoor .strongroom (presented .strongroom n c p s) := by
        refine (presentedAtStrongroom_confirm (a := a) (b := b) ?_ ?_).trans (if_pos mine)
        · rw [csc, state]
        · rw [csc, names]
      rw [told, releases]
      refine congrArg _ ?_
      generalize presented .strongroom n c p s = u at csc commands addrs
      have sends : s.ubc.sends [(.door .strongroom, .release)] = u.ubc.sends [(.door .strongroom, .release)] := by
        simp [Ubc.sends, Ubc.send, Ubc.address, addrs]
      rw [sends, ← csc, ← commands]
      rfl
    · have waits : tellOwner .strongroom n c.cls (presented .strongroom n c p s) = presented .strongroom n c p s := by
        refine (presentedAtStrongroom_confirm (a := a) (b := b) ?_ ?_).trans (if_neg (not_or.mpr ⟨first, second⟩))
        · rw [csc, state]
        · rw [csc, names]
      rw [told, waits]

end Sys2Proof.Proofs.DoorEvents
end

section
/-!
The lockdown latch (R175, R176), ALARM (R202) and the PANIC input.
-/

namespace Sys2Proof.Machine

open Sys2Proof

set_option Elab.async false

/-! ## The steps of a setting of the latch -/

/-- R175 steps 1 and 2: the doors and the chutes. -/
def latchSealed (s : State) : State := lockChutes (secureDoors s.movingDoors { s with csc.latch := true })

/-- R175 steps 3 to 5: ALARM, the hold and LOCKDOWN_SET. -/
def latchTold (c : LockdownCause) (s : State) : State :=
  notifyLockdown c false s.movingDoors (startHold (driveAlarm (latchSealed s)))

theorem setLatch_eq (c : LockdownCause) (s : State) : setLatch c s = abortHandover (lockdownLanes (latchTold c s)) := rfl

section Setting

variable (c : LockdownCause) (s : State)

theorem secureDoors_latch_safe (n : Nat) : (secureDoors s.movingDoors { s with csc.latch := true }).safe n =
    { s.safe n with door := if .drop n ∈ s.movingDoors then droppedDoor (s.safe n).door else (s.safe n).door } := by
  rw [secureDoors_safe, secureDoors_door _ (movingDoors_nodup s)]
  rfl

theorem latchSealed_safe (n : Nat) (valid : n ∈ safeNumbers) : (latchSealed s).safe n = lockedSafe
    { s.safe n with door := if .drop n ∈ s.movingDoors then droppedDoor (s.safe n).door else (s.safe n).door } := by
  rw [latchSealed, (lockChutes_does _).1, if_pos valid, secureDoors_latch_safe]

theorem latchSealed_safe_other (n : Nat) (other : n ∉ safeNumbers) : (latchSealed s).safe n = s.safe n := by
  have still : DoorName.drop n ∉ s.movingDoors := fun mem => by
    have listed := (mem_allDoors _).mp (List.mem_filter.mp mem).1
    exact other (by simp [validDoor, validSafe] at listed; simp [safeNumbers]; omega)
  rw [latchSealed, (lockChutes_does _).1, if_neg other, secureDoors_latch_safe, if_neg still]

theorem chutesToLock_secured :
    (secureDoors s.movingDoors { s with csc.latch := true }).chutesToLock = s.chutesToLock := by
  unfold State.chutesToLock
  exact List.filter_congr fun n _ => by rw [secureDoors_latch_safe]

theorem latchSealed_commands : (latchSealed s).ubc.commands = s.ubc.commands ++
    s.ubc.sends ((s.movingDoors.filter (fun d => (s.door d).lockReleased)).map (fun d => (.door d, .engage)) ++
      s.chutesToLock.map (fun n => (.chute n, .lock))) := by
  have doors : ∀ d, ({ s with csc.latch := true } : State).door d = s.door d := fun d => by cases d <;> rfl
  rw [latchSealed, (lockChutes_does _).2.1, chutesToLock_secured, secureDoors_commands _ (movingDoors_nodup s),
    sends_of_addrs (u := (secureDoors s.movingDoors { s with csc.latch := true }).ubc) (v := s.ubc) (by simp), Ubc.sends_append]
  simp only [doors, List.append_assoc]

theorem latchTold_hpt : (latchTold c s).hpt = (notifyAll
    (s.chutesToLock.map (fun n => ⟨.chuteLocked, [fNum 1 n, fNamed 1, fSet [false, false, false, true, false]]⟩) ++
      [⟨.lockdownSet, [fNamed c.code, fNamed 0, .many (s.movingDoors.map doorAtoms)]⟩]) s).hpt := by
  have locks : (latchSealed s).hpt = (notifyAll (s.chutesToLock.map (fun n =>
      ⟨.chuteLocked, [fNum 1 n, fNamed 1, fSet [false, false, false, true, false]]⟩)) s).hpt := by
    rw [latchSealed, (lockChutes_does _).2.2, chutesToLock_secured]
    exact notifyAll_hpt_congr _ _ _ (by simp)
  have hold : ∀ v : State, (startHold (driveAlarm v)).hpt = v.hpt := fun _ => rfl
  exact notifyAll_trans _ _ s (latchSealed s) (latchTold c s) locks (notifyLockdown_sends c s.movingDoors _ (latchSealed s) (hold _))

theorem latchTold_ubc : (latchTold c s).ubc = { (latchSealed s).ubc with alarm := true, alarmTimer := some 180 } := by
  simp [latchTold, startHold, driveAlarm, alarmPeriod]

theorem latchTold_lane (n : Nat) : (latchTold c s).lane n = s.lane n := by
  simp [latchTold, startHold, driveAlarm, latchSealed, State.lane]

theorem lanesToHold_told : (latchTold c s).lanesToHold = s.lanesToHold := by
  unfold State.lanesToHold
  simp only [latchTold_lane]

theorem setLatch_ubc : (setLatch c s).ubc = { s.ubc with
    alarm := true, alarmTimer := some 180
    commands := s.ubc.commands ++ s.ubc.sends (lockdownCommands s) } := by
  have addrs : (latchTold c s).ubc.addrs = s.ubc.addrs := by simp [latchTold, startHold, driveAlarm, latchSealed]
  have commands : (setLatch c s).ubc.commands = s.ubc.commands ++ s.ubc.sends (lockdownCommands s) := by
    rw [setLatch_eq, (abortHandover_keeps _).2.2.2.2.2.2.2.2.1, (lockdownLanes_does _).2.1, lanesToHold_told, sends_of_addrs (u := (latchTold c s).ubc) (v := s.ubc) addrs,
      latchTold_ubc, latchSealed_commands]
    simp only [latchTold_lane, lockdownCommands, Ubc.sends_append, List.append_assoc]
  have alarm : (setLatch c s).ubc.alarm = true := by simp [setLatch, startHold, driveAlarm]
  have timer : (setLatch c s).ubc.alarmTimer = some 180 := by simp [setLatch, startHold, driveAlarm, alarmPeriod]
  have kept : (setLatch c s).ubc.addrs = s.ubc.addrs ∧ (setLatch c s).ubc.panicSel = s.ubc.panicSel ∧
      (setLatch c s).ubc.panicHigh = s.ubc.panicHigh ∧ (setLatch c s).ubc.unitErrors = s.ubc.unitErrors := by simp
  obtain ⟨same, sel, high, errors⟩ := kept
  rw [← commands, ← alarm, ← timer]
  dsimp only
  rw [← same, ← sel, ← high, ← errors]

theorem setLatch_hpt : (setLatch c s).hpt = (notifyAll (lockdownNotices c s) s).hpt := by
  have hoc : (lockdownLanes (latchTold c s)).inHandover = s.inHandover := by
    simp [State.inHandover, State.manifestsWhere, State.manifest, latchTold, startHold, driveAlarm, latchSealed]
  have lanes := (lockdownLanes_does (latchTold c s)).2.2
  have closes := abortHandover_sends (lockdownLanes (latchTold c s))
  simp only [lanesToHold_told, latchTold_lane] at lanes
  rw [hoc] at closes
  rw [setLatch_eq]
  exact notifyAll_trans _ _ _ _ _ (notifyAll_trans _ _ _ _ _ (latchTold_hpt c s) lanes) closes

theorem setLatch_csc : (setLatch c s).csc = { s.csc with
    latch := true, holdTimer := s.csc.policy.lockdownHold, holdRunning := true
    strongroom := (setLatch c s).csc.strongroom, safes := (setLatch c s).csc.safes } := by
  have kept : (setLatch c s).csc.policy = s.csc.policy ∧ (setLatch c s).csc.maintenance = s.csc.maintenance ∧
      (setLatch c s).csc.freeze = s.csc.freeze := by simp
  obtain ⟨policy, maintenance, freeze⟩ := kept
  have latch : (setLatch c s).csc.latch = true := by simp [setLatch, startHold, driveAlarm]
  have running : (setLatch c s).csc.holdRunning = true := by simp [setLatch, startHold, driveAlarm]
  have timer : (setLatch c s).csc.holdTimer = s.csc.policy.lockdownHold := by simp [setLatch, startHold, driveAlarm]
  generalize (setLatch c s).csc = x at policy maintenance freeze latch running timer
  cases x
  simp_all

theorem setLatch_safe (n : Nat) : (setLatch c s).safe n = (latchSealed s).safe n := by
  simp [setLatch, startHold, driveAlarm, latchSealed, State.safe]

theorem setLatch_lane (n : Nat) : (setLatch c s).lane n =
    if n ∈ laneNumbers ∧ takesLockdown (s.lane n) = true then lockedLane (s.lane n) else s.lane n := by
  have lanes := (lockdownLanes_does (latchTold c s)).1 n
  rw [latchTold_lane] at lanes
  rw [← lanes, setLatch_eq]
  simp [State.lane]

theorem lockdownLanes_told_hoc : (lockdownLanes (latchTold c s)).hoc = s.hoc := by
  simp [latchTold, startHold, driveAlarm, latchSealed]

theorem inHandover_of_hoc {s t : State} (hoc : t.hoc = s.hoc) : t.inHandover = s.inHandover := by
  simp only [State.inHandover, State.manifestsWhere, State.manifest, hoc]

theorem closeRecord_hoc (n : Nat) (m : Manifest) (st : ManifestState) (k : CloseCause) {s t : State} (hoc : t.hoc = s.hoc) :
    (closeRecord n m st k t).hoc = (closeRecord n m st k s).hoc := by
  unfold closeRecord putManifest
  dsimp only
  rw [hoc]

theorem setLatch_hoc_of_none (none : s.inHandover = none) : (setLatch c s).hoc = s.hoc := by
  have hoc := lockdownLanes_told_hoc c s
  rw [setLatch_eq, abortHandover, inHandover_of_hoc hoc, none]
  exact hoc

theorem setLatch_hoc_of_some {n : Nat} {m : Manifest} (some : s.inHandover = some (n, m)) :
    (setLatch c s).hoc = (closeRecord n m .aborted .lockdown s).hoc := by
  have hoc := lockdownLanes_told_hoc c s
  rw [setLatch_eq, abortHandover, inHandover_of_hoc hoc, some]
  dsimp only
  rw [← closeRecord_hoc n m .aborted .lockdown hoc, closeManifest]
  simp

theorem mem_movingDoors {d : DoorName} (listed : d ∈ allDoors) : d ∈ s.movingDoors ↔
    (s.door d).state = .delay ∨ (s.door d).state = .confirm ∨ (s.door d).state = .released := by
  simp [State.movingDoors, listed, or_assoc]

/-- R175: a drop safe's door stands open after the latch is set where it did before. -/
theorem droppedDoor_opened (n : Nat) (valid : n ∈ safeNumbers) :
    decide ((if .drop n ∈ s.movingDoors then droppedDoor (s.safe n).door else (s.safe n).door).state ≠ .secure) =
      decide ((s.safe n).door.state = .opened) := by
  have listed : DoorName.drop n ∈ allDoors := by simp [allDoors, valid]
  have moving : DoorName.drop n ∈ s.movingDoors ↔
      (s.safe n).door.state = .delay ∨ (s.safe n).door.state = .confirm ∨ (s.safe n).door.state = .released :=
    mem_movingDoors s listed
  split
  · next mem =>
      rcases moving.mp mem with state | state | state <;> simp [droppedDoor, state]
  · next still =>
      cases state : (s.safe n).door.state <;> simp_all

end Setting

/-! ## ALARM and the release of the latch -/

/-- R202: ALARM as it settles. -/
theorem settleAlarm_eq (s : State) :
    settleAlarm s = { s with ubc.alarm := s.ubc.alarm && (s.ubc.alarmTimer.isSome || s.csc.latch) } := by
  unfold settleAlarm
  split
  · next quiet =>
      obtain ⟨timer, latch⟩ := quiet
      rw [timer, latch]
      simp
  · next held =>
      have driven : (s.ubc.alarmTimer.isSome || s.csc.latch) = true := by
        cases timer : s.ubc.alarmTimer <;> simp_all
      rw [driven, Bool.and_true]

theorem settleAlarm_csc (s : State) : (settleAlarm s).csc = s.csc := by rw [settleAlarm_eq]

theorem settleAlarm_hpt (s : State) : (settleAlarm s).hpt = s.hpt := by rw [settleAlarm_eq]

/-- R176: the state a release leaves before its notice. -/
def latchCleared (s : State) : State := setChuteCauseAll .lockdown false { s with csc.latch := false }

theorem latchCleared_does (s : State) :
    (latchCleared s).ubc.commands = s.ubc.commands ++ s.ubc.sends (s.chutesToUnlock.map (fun n => (.chute n, .unlock))) ∧
    (latchCleared s).hpt = (notifyAll (s.chutesToUnlock.map (fun n =>
      ⟨.chuteLocked, [fNum 1 n, fNamed 2, fSet [false, false, false, false, false]]⟩)) s).hpt := by
  obtain ⟨commands, hpt⟩ := clearLockdown_does { s with csc.latch := false }
  exact ⟨commands, hpt.trans (notifyAll_hpt_congr _ _ _ rfl)⟩

theorem latchCleared_safe (s : State) (n : Nat) (valid : n ∈ safeNumbers) :
    (latchCleared s).safe n = safeWithCause (s.safe n) .lockdown false := by
  rw [latchCleared, setChuteCauseAll_safe, if_pos valid]
  rfl

/-- R176: the state a release of the latch leaves. -/
def latchReleased (a b : Nat) (s : State) : State :=
  settleAlarm (notify .lockdownCleared [fNum 3 a, fNum 3 b] (latchCleared s))

section Release

variable {a b : Nat} {s u : State}

theorem releaseLockdown_clear (authorised : authority twoSupervisors [a, b] u = .ok ()) (clear : u.csc.latch = false) :
    releaseLockdown a b u = .error ⟨.wrongState, []⟩ :=
  (passed authorised).trans (fails clear)

theorem releaseLockdown_held (authorised : authority twoSupervisors [a, b] u = .ok ()) (set : u.csc.latch = true)
    (running : u.csc.holdRunning = true) : releaseLockdown a b u = .error ⟨.holdRunning, [fNum 2 u.csc.holdTimer]⟩ :=
  (passed authorised).trans ((pass set).trans (fails (by rw [running]; rfl)))

theorem releaseLockdown_ok (authorised : authority twoSupervisors [a, b] u = .ok ()) (set : u.csc.latch = true)
    (over' : u.csc.holdRunning = false) : releaseLockdown a b u = .ok ⟨latchReleased a b u, .ok, []⟩ :=
  (passed authorised).trans ((pass set).trans ((pass (by rw [over']; rfl)).trans rfl))

theorem latchReleased_csc (a b : Nat) (s : State) : (latchReleased a b s).csc = (latchCleared s).csc := by
  rw [latchReleased, settleAlarm_csc, (notify_csc ..).1]

theorem latchReleased_ubc (a b : Nat) (s : State) : (latchReleased a b s).ubc = { s.ubc with
    alarm := s.ubc.alarm && s.ubc.alarmTimer.isSome
    commands := s.ubc.commands ++ s.ubc.sends (s.chutesToUnlock.map (fun n => (.chute n, .unlock))) } := by
  have kept : (latchCleared s).ubc.addrs = s.ubc.addrs ∧ (latchCleared s).ubc.panicSel = s.ubc.panicSel ∧
      (latchCleared s).ubc.panicHigh = s.ubc.panicHigh ∧ (latchCleared s).ubc.unitErrors = s.ubc.unitErrors ∧
      (latchCleared s).ubc.alarm = s.ubc.alarm ∧ (latchCleared s).ubc.alarmTimer = s.ubc.alarmTimer ∧
      (latchCleared s).csc.latch = false := by simp [latchCleared]
  obtain ⟨addrs, sel, high, errors, alarm, timer, latch⟩ := kept
  rw [latchReleased, settleAlarm_eq]
  dsimp only
  rw [(notify_csc ..).2.1, (notify_csc ..).1, (latchCleared_does s).1, addrs, sel, high, errors, alarm, timer, latch, Bool.or_false]

theorem latchReleased_hpt (a b : Nat) (s : State) : (latchReleased a b s).hpt = (notifyAll
    (s.chutesToUnlock.map (fun n => ⟨.chuteLocked, [fNum 1 n, fNamed 2, fSet [false, false, false, false, false]]⟩) ++
      [⟨.lockdownCleared, [fNum 3 a, fNum 3 b]⟩]) s).hpt := by
  rw [latchReleased, settleAlarm_hpt]
  exact notifyAll_trans _ [⟨.lockdownCleared, _⟩] _ (latchCleared s) _ (latchCleared_does s).2 rfl

theorem latchReleased_frame (a b : Nat) (s : State) : latchReleased a b s = { s with
    csc := (latchReleased a b s).csc, hpt := (latchReleased a b s).hpt, ubc := (latchReleased a b s).ubc } := by
  apply State.eq_of_blocks <;> simp [latchReleased, latchCleared, settleAlarm_eq]

theorem latchCleared_csc (s : State) : (latchCleared s).csc = { s.csc with latch := false, safes := (latchCleared s).csc.safes } := by
  have kept : (latchCleared s).csc.policy = s.csc.policy ∧ (latchCleared s).csc.maintenance = s.csc.maintenance ∧
      (latchCleared s).csc.freeze = s.csc.freeze ∧ (latchCleared s).csc.strongroom = s.csc.strongroom ∧
      (latchCleared s).csc.holdTimer = s.csc.holdTimer ∧ (latchCleared s).csc.holdRunning = s.csc.holdRunning ∧
      (latchCleared s).csc.latch = false := by simp [latchCleared]
  obtain ⟨policy, maintenance, freeze, strongroom, timer, running, latch⟩ := kept
  rw [← latch]
  dsimp only
  rw [← policy, ← maintenance, ← freeze, ← strongroom, ← timer, ← running]

theorem panicEdge_eq (e : Edge) (s : State) : panicEdge e s =
    if selects s.ubc.panicSel e = true then lockdown .panic { s with ubc.panicHigh := decide (e = .rising) }
    else { s with ubc.panicHigh := decide (e = .rising) } := by
  cases e <;> rfl

end Release

end Sys2Proof.Machine

namespace Sys2Proof.Proofs.Latch

open Sys2Proof Sys2Proof.Machine

/-- Settles O54. -/
theorem lockdown : Obligations.Lockdown := by
  unfold Obligations.Lockdown
  refine ⟨fun s => ⟨fun tag taken => ?_, fun e operates chosen => ?_, fun e operates ignored => ?_, fun c => ?_⟩,
    fun s => ⟨fun operates running zero => ?_, fun operates zero => ?_, fun tag a b taken first second distinct => ?_⟩⟩
  · exact exec_ok (i := .lockdown tag) rfl taken rfl
  · exact (if_pos operates).trans (congrArg Host.Outcome.next ((panicEdge_eq e s).trans (if_pos chosen)))
  · exact (if_pos operates).trans (congrArg Host.Outcome.next ((panicEdge_eq e s).trans (if_neg (by simp [ignored]))))
  · refine ⟨Machine.lockdown c s, rfl, fun clear => ?_, fun set => ?_⟩
    · have sets : Machine.lockdown c s = setLatch c s := if_neg (by rw [clear]; decide)
      rw [sets]
      have lane := setLatch_lane c s
      refine ⟨?_, setLatch_csc c s, fun d listed state => ?_, fun d listed state => ?_, fun n valid => ?_, fun n other => ?_,
        fun n valid state free => ?_, fun n state held => ?_, fun n running ready held => ?_, fun n other => ?_, fun none => ?_,
        fun n m some => ?_, setLatch_ubc c s, setLatch_hpt c s⟩
      · apply State.eq_of_blocks <;> simp
      · rw [setLatch_door, if_pos ((mem_movingDoors s listed).mpr state)]
        rfl
      · rw [setLatch_door, if_neg fun mem => ?_]
        have now := (mem_movingDoors s listed).mp mem
        rcases state with state | state <;> simp [state] at now
      · rw [setLatch_safe, latchSealed_safe s n valid]
        refine ⟨rfl, ?_, fun start => ?_⟩
        · unfold lockedSafe
          dsimp only [safeWithCause]
          rw [droppedDoor_opened s n valid]
          rfl
        · have locked := safeWithCause_locked (safeWithCause { s.safe n with
            door := if .drop n ∈ s.movingDoors then droppedDoor (s.safe n).door else (s.safe n).door } .lockdown true) .opened
            (decide ((if .drop n ∈ s.movingDoors then droppedDoor (s.safe n).door else (s.safe n).door).state ≠ .secure))
            (safeWithCause_locked _ _ _ start)
          refine Eq.trans locked ?_
          simp [safeWithCause, ChuteCauses.any, ChuteCauses.put]
      · rw [setLatch_safe, latchSealed_safe_other s n other]
      · have takes : takesLockdown (s.lane n) = true := by
          rcases state with state | state | state <;> simp [takesLockdown, state, free]
        exact (lane n).trans (if_pos ⟨valid, takes⟩)
      · rw [lane, if_neg (by simp [takesLockdown, held])]
      · rw [lane, if_neg (by simp [takesLockdown, running, ready, held])]
      · rw [lane, if_neg fun both => other both.1]
      · exact setLatch_hoc_of_none c s none
      · have hoc := setLatch_hoc_of_some c s some
        refine ⟨?_, fun k ne => ?_, by rw [hoc]; rfl⟩
        · rw [State.manifest, hoc]
          exact (putManifest_manifest ..).trans (if_pos rfl)
        · rw [State.manifest, hoc]
          exact (putManifest_manifest ..).trans (if_neg ne)
    · exact if_pos set
  · exact (event_of_operating operates).trans (congrArg Host.Outcome.next (if_pos ⟨running, zero⟩))
  · refine (event_of_operating operates).trans (congrArg Host.Outcome.next ((if_pos zero).trans ?_))
    rw [settleAlarm_eq]
    rfl
  · have authorised := twoSupervisors_ok a b s first second distinct
    have chutes : (takeFrom s).chutesToUnlock = s.chutesToUnlock := rfl
    have ubc := latchReleased_ubc a b (takeFrom s)
    have hpt := latchReleased_hpt a b (takeFrom s)
    rw [chutes] at ubc hpt
    refine ⟨fun clear => exec_error (i := .releaseLockdown tag a b) rfl taken (releaseLockdown_clear authorised clear),
      fun set running => exec_error (i := .releaseLockdown tag a b) rfl taken (releaseLockdown_held authorised set running),
      fun set rest => ⟨latchReleased a b (takeFrom s), ?_, ?_, fun n valid => ?_, ?_, ubc, hpt, latchReleased_frame a b (takeFrom s)⟩⟩
    · have body := releaseLockdown_ok (u := takeFrom s) authorised set rest
      have ok := exec_ok (i := .releaseLockdown tag a b) rfl taken body
      exact ok
    · rw [latchReleased_csc]
      simp [latchCleared]
    · have safe : (latchReleased a b (takeFrom s)).safe n = safeWithCause (s.safe n) .lockdown false := by
        rw [State.safe, latchReleased_csc]
        exact latchCleared_safe (takeFrom s) n valid
      rw [safe]
      exact ⟨rfl, safeWithCause_locked _ _ _, rfl, rfl⟩
    · rw [latchReleased_csc]
      exact latchCleared_csc (takeFrom s)

end Sys2Proof.Proofs.Latch
end

section
/-!
The manifest table and the handover (R182 to R186, R189 to R191).
-/

namespace Sys2Proof.Machine

open Sys2Proof

set_option Elab.async false

/-! ## The manifest table -/

/-- R183: the lowest-numbered free entry. -/
theorem manifestSlot_of_free {s : State} {n : Nat} (range : n ≤ 3) (free : s.manifest n = none)
    (lower : ∀ k < n, s.manifest k ≠ none) : s.manifestSlot = some n := by
  have taken : ∀ k < n, (s.manifest k).isNone = false := fun k less => by simpa [Option.isSome_iff_ne_none] using lower k less
  have found : manifestNumbers.find? (fun k => (s.manifest k).isNone) = some n := by
    interval_cases n
    · simp [manifestNumbers, free]
    · simp [manifestNumbers, free, taken 0]
    · simp [manifestNumbers, free, taken 0, taken 1]
    · simp [manifestNumbers, free, taken 0, taken 1, taken 2]
  rw [State.manifestSlot, found]
  rfl

theorem manifestSlot_of_full {s : State} (full : ∀ n ∈ manifestNumbers, s.manifest n ≠ none) :
    s.manifestSlot = s.hoc.closedOrder.head? := by
  have found : manifestNumbers.find? (fun k => (s.manifest k).isNone) = none := by
    simpa [List.find?_eq_none] using full
  rw [State.manifestSlot, found]
  rfl

theorem manifestsWhere_eq_nil {s : State} {p : Manifest → Bool} (none : ∀ k ∈ manifestNumbers, ∀ m, s.manifest k = some m → p m = false) :
    s.manifestsWhere p = [] := by
  rw [State.manifestsWhere, List.filterMap_eq_nil_iff]
  intro k mem
  cases held : s.manifest k with
  | none => rfl
  | some m => simp [none k mem m held]

theorem manifestsWhere_congr {s t : State} (hoc : t.hoc = s.hoc) (p : Manifest → Bool) : t.manifestsWhere p = s.manifestsWhere p := by
  simp only [State.manifestsWhere, State.manifest, hoc]

section Create

variable {v c cred n : Nat} {a b now : ClockTime} {w : Option Nat} {o : List Nat} {i : List InboundArg} {u : State}

theorem createManifest_ok (authorised : authority supervisorAtOffice [cred] u = .ok ()) (clock : u.acu.clock = some now)
    (fields : manifestFieldsOk v a b now w o i = true) (courier : (u.credential c).map Credential.cls = some .courier)
    (fresh : u.manifestsWhere (fun m => m.isOpen && decide (m.visit = v)) = []) (ready : ∀ r ∈ o, depositReady u r = true)
    (listed : inboundFailure u i [] = none) (slot : u.manifestSlot = some n) : createManifest v c a b w o i cred u =
      .ok ⟨manifestCreated n (newManifest v c a b w o i u) u, .ok,
        [fNum 1 n, fNum 2 (heldWindow w), fNumOpt 2 ((u.manifest n).map Manifest.visit)]⟩ := by
  have bags : firstFailing (fun r => (u.bag r).isSome) o = none := firstFailing_none fun r mem => by
    have suits := ready r mem
    unfold depositReady at suits
    cases held : u.bag r with
    | none => simp [held] at suits
    | some b => rfl
  refine (passed authorised).trans ((found clock).trans ((pass fields).trans ((pass (decide_eq_true courier)).trans
    ((pass ?_).trans ((pass ?_).trans ((pass ?_).trans ?_))))))
  · rw [fresh]
    rfl
  · rw [bags]
    rfl
  · rw [firstFailing_none ready]
    rfl
  · rw [listed]
    exact (found slot).trans rfl

theorem inboundFailure_takeFrom (s : State) (l : List InboundArg) (earlier : List Nat) :
    inboundFailure (takeFrom s) l earlier = inboundFailure s l earlier := by
  have same : ∀ g, tagCheck g .changeIn (takeFrom s) = tagCheck g .changeIn s := fun g => by simp
  induction l generalizing earlier with
  | nil => rfl
  | cons x l ih =>
    unfold inboundFailure
    simp only [same, ih]

theorem manifestCreated_manifest (n : Nat) (m : Manifest) (s : State) (k : Nat) :
    (manifestCreated n m s).manifest k = if k = n then some m else s.manifest k := putManifest_manifest ..

end Create

/-- R191: a manifest that closes, and its notice. -/
theorem closeManifest_effect (n : Nat) (m : Manifest) (st : ManifestState) (k : CloseCause) (s : State) :
    closeManifest n m st k s = { s with hoc := (closeManifest n m st k s).hoc, hpt := (closeManifest n m st k s).hpt } ∧
      (closeManifest n m st k s).hpt = (notify .manifestClosed (closedFields n (m.close st k)) s).hpt ∧
      (closeManifest n m st k s).hoc.closedOrder = s.hoc.closedOrder ++ [n] ∧
      ∀ j, (closeManifest n m st k s).manifest j = if j = n then some (m.close st k) else s.manifest j := by
  have hoc : (closeManifest n m st k s).hoc = (closeRecord n m st k s).hoc := by simp [closeManifest]
  refine ⟨?_, notify_hpt_congr _ _ _ _ rfl, by rw [hoc]; rfl, fun j => ?_⟩
  · rw [closeManifest, notify_eq]
    rfl
  · rw [State.manifest, hoc]
    exact putManifest_manifest ..

theorem cancelManifest_ok {v cred n : Nat} {m : Manifest} {l : List (Nat × Manifest)} {u : State}
    (authorised : authority supervisorAtOffice [cred] u = .ok ()) (low : 1 ≤ v) (high : v ≤ 9999)
    (first : u.manifestsWhere (fun x => x.isOpen && decide (x.visit = v)) = (n, m) :: l) :
    cancelManifest v cred u =
      .ok ⟨closeManifest n m (if m.state = .handover then .aborted else .cancelled) .host u, .ok,
        [fNamed (codeIn ManifestState.list (if m.state = .handover then .aborted else .cancelled))]⟩ := by
  have named : (u.manifestsWhere (fun x => x.isOpen && decide (x.visit = v))).head? = some (n, m) := by rw [first]; rfl
  exact (passed authorised).trans ((pass (by simp [validVisit, low, high])).trans ((found named).trans rfl))

/-! ## The start test -/

section Start

variable {n courier i : Nat} {k : CredClass} {u : State} {p : Presence} {m : Manifest}

/-- R185: the PLANNED manifests of a courier. -/
def plannedOf (courier : Nat) (u : State) : List (Nat × Manifest) :=
  u.manifestsWhere (fun m => decide (m.state = .planned) && decide (m.courier = courier))

/-- R185: the manifests of those whose window covers the time. -/
def coveredOf (courier : Nat) (u : State) : List (Nat × Manifest) :=
  (plannedOf courier u).filter (fun x => windowCovers x.2.opens x.2.closes u)

/-- R185: the visits that UNEXPECTED_COURIER lists. -/
def visitsOf (courier : Nat) (u : State) : List Field :=
  [fNamed 1, .many ((plannedOf courier u).map (fun x => [.packed 2 x.2.visit]))]

theorem startTest_disregards (none : candidateCourier n k u = none) : startTest n k u = u := by
  unfold startTest
  rw [none]

theorem startTest_unplanned (candidate : candidateCourier n k u = some courier) (none : plannedOf courier u = []) :
    startTest n k u = if k = .courier then notify .unexpectedCourier [fNum 3 courier, fNamed 1, fNamed 0] u else u := by
  unfold startTest
  rw [candidate]
  exact if_pos (by rw [show u.manifestsWhere (fun m => decide (m.state = .planned) && decide (m.courier = courier)) = [] from none]; rfl)

theorem not_isEmpty_of_ne_nil {α : Type} {l : List α} (some : l ≠ []) : ¬l.isEmpty = true := by simpa using some

theorem startTest_alone (candidate : candidateCourier n k u = some courier) (some : plannedOf courier u ≠ [])
    (alone : u.newestAtHatch (fun e => isCustodian e.cls) = none) : startTest n k u = u := by
  unfold startTest
  rw [candidate]
  refine (if_neg (not_isEmpty_of_ne_nil some)).trans ?_
  rw [alone]

theorem notifyUnexpected_visits (reason : Nat) : notifyUnexpected courier reason (some ((plannedOf courier u).map (fun x => x.2.visit))) u =
    notify .unexpectedCourier ([fNum 3 courier, fNamed reason] ++ visitsOf courier u) u := by
  unfold notifyUnexpected visitsOf
  simp [fManyOpt, fNamed, List.map_map, Function.comp_def]

theorem startTest_outside (candidate : candidateCourier n k u = some courier) (some : plannedOf courier u ≠ [])
    (beside : u.newestAtHatch (fun e => isCustodian e.cls) = .some p) (none : coveredOf courier u = []) :
    startTest n k u = notify .unexpectedCourier ([fNum 3 courier, fNamed 2] ++ visitsOf courier u) u := by
  have earliest : earliestManifest (coveredOf courier u) = .none := by rw [none]; rfl
  unfold startTest
  rw [candidate]
  refine (if_neg (not_isEmpty_of_ne_nil some)).trans ?_
  rw [beside]
  dsimp only
  rw [show earliestManifest ((u.manifestsWhere _).filter _) = .none from earliest]
  exact notifyUnexpected_visits 2

/-- R185: the custody of an unstaged bag as STAGING_INCOMPLETE carries it. -/
def stagedAtoms : Option Place → List Atom
  | none => [.byte 0, .byte 0]
  | some p => placeAtoms p

/-- R185, R186: the test's end for the manifest chosen. -/
theorem startTest_chosen (candidate : candidateCourier n k u = some courier)
    (beside : u.newestAtHatch (fun e => isCustodian e.cls) = .some p)
    (chosen : earliestManifest (coveredOf courier u) = some (i, m)) : startTest n k u =
      if u.csc.latch then notify .unexpectedCourier ([fNum 3 courier, fNamed 3] ++ visitsOf courier u) u
      else if (unstaged m u).isEmpty then
        putManifest i { m with state := .handover, custodian := some p.number, timer := some m.window } u
      else notify .stagingIncomplete
        [fNum 2 m.visit, .many ((unstaged m u).map (fun x => .packed 2 x.1 :: stagedAtoms x.2))] u := by
  have planned : plannedOf courier u ≠ [] := fun empty => by
    rw [coveredOf, empty] at chosen
    cases chosen
  unfold startTest
  rw [candidate]
  refine (if_neg (not_isEmpty_of_ne_nil planned)).trans ?_
  rw [beside]
  dsimp only
  rw [show earliestManifest ((u.manifestsWhere _).filter _) = some (i, m) from chosen]
  dsimp only
  rw [← notifyUnexpected_visits 3]
  congr 2

/-- R185: the manifest chosen has the earliest window start, and of those the lowest entry. -/
theorem earliest_covered (mem : (i, m) ∈ plannedOf courier u) (covers : windowCovers m.opens m.closes u = true)
    (least : ∀ x ∈ plannedOf courier u, windowCovers x.2.opens x.2.closes u = true →
      clockKey m.opens < clockKey x.2.opens ∨ clockKey m.opens = clockKey x.2.opens ∧ i ≤ x.1) :
    earliestManifest (coveredOf courier u) = some (i, m) := by
  refine earliestManifest_is _ i m ((manifestsWhere_rising ..).filter _) (List.mem_filter.mpr ⟨mem, covers⟩) fun x listed => ?_
  obtain ⟨planned, now⟩ := List.mem_filter.mp listed
  exact least x planned now

theorem unstaged_eq_nil (staged : ∀ o ∈ m.outbound, (u.bag o.ref).map Bag.custody = some .bench) : unstaged m u = [] := by
  simp only [unstaged, List.filter_eq_nil_iff, List.mem_map]
  rintro x ⟨o, mem, rfl⟩
  simp [staged o mem]

theorem unstaged_eq (m : Manifest) (u : State) : unstaged m u =
    (m.outbound.filter (fun o => decide ((u.bag o.ref).map Bag.custody ≠ some .bench))).map
      (fun o => (o.ref, (u.bag o.ref).map Bag.custody)) := by
  rw [unstaged, List.filter_map]
  rfl

theorem candidateCourier_courier (n : Nat) (u : State) : candidateCourier n .courier u = some n := rfl

theorem candidateCourier_custodian (custodian : isCustodian k = true) :
    candidateCourier n k u = (u.newestAtHatch (fun e => decide (e.cls = .courier))).map Presence.number := by
  cases k
  case custodian => rfl
  case supervisor => rfl
  all_goals cases custodian

end Start

/-! ## Acceptance -/

/-- R190: how an acceptance ends a handover. -/
theorem acceptHandover_eq (n : Nat) (m : Manifest) (s : State) : acceptHandover n m s =
    closeManifest n m (if (∀ o ∈ m.outbound, o.scanned = true) ∧ ∀ x ∈ m.inbound, x.received.isSome = true then .complete else .short)
      .accepted s := by
  have whole : (m.outbound.all OutItem.scanned && m.inbound.all (fun i => i.received.isSome)) = true ↔
      (∀ o ∈ m.outbound, o.scanned = true) ∧ ∀ x ∈ m.inbound, x.received.isSome = true := by simp
  unfold acceptHandover
  dsimp only
  by_cases all : (∀ o ∈ m.outbound, o.scanned = true) ∧ ∀ x ∈ m.inbound, x.received.isSome = true
  · rw [if_pos all, if_pos (whole.mpr all)]
  · rw [if_neg all, if_neg fun both => all (whole.mp both)]

theorem presentedAtHatch_start {n : Nat} {k : CredClass} {u : State} (none : u.inHandover = none) :
    presentedAtHatch n k u = startTest n k u := by
  unfold presentedAtHatch
  rw [none]

theorem presentedAtHatch_handover {n i : Nat} {m : Manifest} {k : CredClass} {u : State} (now : u.inHandover = some (i, m)) :
    presentedAtHatch n k u = if m.courier = n then acceptHandover i m u else u := by
  unfold presentedAtHatch
  rw [now]

theorem expireHandover_eq {n : Nat} {m : Manifest} {s : State} (now : s.inHandover = some (n, m)) :
    expireHandover s = if m.timer = some 0 then closeManifest n m .expired .window s else s := by
  unfold expireHandover
  rw [now]

end Sys2Proof.Machine

namespace Sys2Proof.Proofs.Handovers

open Sys2Proof Sys2Proof.Machine

/-- Settles O56. -/
theorem manifestRequests : Obligations.ManifestRequests := by
  unfold Obligations.ManifestRequests
  refine ⟨fun s => ⟨fun n range free lower => manifestSlot_of_free range free lower, manifestSlot_of_full⟩,
    fun s tag v c cred n a b now w o i taken present clock fields courier fresh ready listed slot => ?_,
    fun s tag v cred n m l taken present low high first => ?_, fun n m => ?_⟩
  · have none : (takeFrom s).manifestsWhere (fun m => m.isOpen && decide (m.visit = v)) = [] :=
      manifestsWhere_eq_nil fun k mem m held => by
        cases isOpen : m.isOpen
        case false => rfl
        case true => simp [fresh k mem m held isOpen]
    have body := createManifest_ok (n := n) (u := takeFrom s) (supervisorAtOffice_ok cred s present) clock fields courier none ready
      ((inboundFailure_takeFrom ..).trans listed) slot
    refine ⟨manifestCreated n (newManifest v c a b w o i (takeFrom s)) (takeFrom s), _,
      exec_ok (i := .createManifest tag v c a b w o i cred) rfl taken body, rfl, rfl, fun k => ?_⟩
    exact manifestCreated_manifest ..
  · obtain ⟨frame, hpt, order, manifests⟩ := closeManifest_effect n m (if m.state = .handover then .aborted else .cancelled) .host
      (takeFrom s)
    have body := cancelManifest_ok (u := takeFrom s) (supervisorAtOffice_ok cred s present) low high first
    have ok := exec_ok (i := .cancelManifest tag v cred) rfl taken body
    exact ⟨_, _, rfl, ok, frame, hpt, order, manifests⟩
  · simp [closedFields, List.countP_eq_length_filter]

/-- Settles O57. -/
theorem handoverStartsAndEnds : Obligations.HandoverStartsAndEnds := by
  unfold Obligations.HandoverStartsAndEnds
  refine ⟨fun s u n courier c p planned visits operates small held active counted none eq listed shown => ?_,
    fun s u n i c p m operates small held active counted now eq => ?_, fun s n m operates now => ?_⟩
  · obtain ⟨hoc, csc, acu, bgr⟩ := presented_keeps .hatch n c p s
    have told := badge_presents .hatch s n c p operates small held active counted
    rw [← eq] at hoc csc acu bgr told
    have tests : exec (.badge .hatch n p) s = .next (startTest n c.cls u) :=
      told.trans (congrArg _ (presentedAtHatch_start ((inHandover_of_hoc hoc).trans none)))
    have same : plannedOf courier u = planned := (manifestsWhere_congr hoc _).trans listed.symm
    have shows : visitsOf courier u = visits := by rw [visitsOf, same, shown]
    have covers : ∀ a b, windowCovers a b u = windowCovers a b s := fun a b => by rw [windowCovers, acu, windowCovers]
    have bags : ∀ r, u.bag r = s.bag r := fun r => by rw [State.bag, bgr, State.bag]
    rw [tests]
    refine ⟨fun others => ?_, fun custodian alone => ?_, fun candidate => ?_⟩
    · refine congrArg _ (startTest_disregards ?_)
      rcases others with cls | cls <;> rw [cls] <;> rfl
    · refine congrArg _ (startTest_disregards ?_)
      rw [candidateCourier_custodian custodian, alone]
      rfl
    · have named : candidateCourier n c.cls u = some courier := by
        rcases candidate with ⟨cls, rfl⟩ | ⟨custodian, newest⟩
        · rw [cls]
          rfl
        · rw [candidateCourier_custodian custodian, newest]
      refine ⟨fun empty cls => ?_, fun empty cls => ?_, fun some alone => ?_, fun k some beside outside => ?_,
        fun i m k mem now least beside => ?_⟩
      · rw [startTest_unplanned named (same.trans empty), if_pos cls]
      · rw [startTest_unplanned named (same.trans empty), if_neg cls]
      · rw [startTest_alone named (by rwa [same]) alone]
      · rw [startTest_outside named (by rwa [same]) beside, shows]
        rw [coveredOf, same, List.filter_eq_nil_iff]
        exact fun x mem => by rw [covers, outside x mem]; decide
      · have chosen : earliestManifest (coveredOf courier u) = some (i, m) :=
          earliest_covered (by rwa [same]) (by rwa [covers]) fun x listed now => least x (same ▸ listed) (by rwa [← covers])
        have ends := startTest_chosen named beside chosen
        refine ⟨fun latch => ?_, fun latch known away => ?_, fun latch staged => ?_⟩
        · rw [ends, if_pos (by rw [csc]; exact latch), shows]
        · have some : ¬(unstaged m u).isEmpty = true := by
            obtain ⟨o, mem, away⟩ := away
            rw [unstaged_eq]
            rw [List.isEmpty_iff, List.map_eq_nil_iff, List.filter_eq_nil_iff]
            exact fun all => all o mem (by rw [bags]; exact decide_eq_true away)
          rw [ends, if_neg (by rw [csc, latch]; decide), if_neg some, unstaged_eq, List.map_map]
          refine congrArg _ (congrArg (fun l => notify .stagingIncomplete [fNum 2 m.visit, .many l] u) ?_)
          simp only [bags]
          refine List.map_congr_left fun o listed => ?_
          obtain ⟨b, found⟩ := Option.isSome_iff_exists.mp (known o (List.mem_filter.mp listed).1)
          simp [found, stagedAtoms]
        · have all : unstaged m u = [] := unstaged_eq_nil fun o mem => by rw [bags]; exact staged o mem
          rw [ends, if_neg (by rw [csc, latch]; decide), if_pos (by rw [all]; rfl)]
          refine ⟨_, rfl, ?_⟩
          have order : u.hoc.closedOrder = s.hoc.closedOrder := by rw [hoc]
          refine ⟨rfl, order, fun j => ?_⟩
          rw [putManifest_manifest, State.manifest, hoc]
          rfl
  · obtain ⟨hoc, -, -, -⟩ := presented_keeps .hatch n c p s
    have told := badge_presents .hatch s n c p operates small held active counted
    rw [← eq] at hoc told
    have tests := told.trans (congrArg Host.Outcome.next (presentedAtHatch_handover ((inHandover_of_hoc hoc).trans now)))
    refine ⟨fun other => ?_, fun own => ?_⟩
    · rw [tests, if_neg other]
    · rw [if_pos own, acceptHandover_eq] at tests
      obtain ⟨frame, hpt, order, manifests⟩ := closeManifest_effect i m
        (if (∀ o ∈ m.outbound, o.scanned = true) ∧ ∀ x ∈ m.inbound, x.received.isSome = true then .complete else .short) .accepted u
      refine ⟨_, _, rfl, tests, frame, hpt, order.trans (by rw [hoc]), fun j => (manifests j).trans ?_⟩
      rw [State.manifest, hoc]
      rfl
  · have expires : exec .handoverWindowExpiry s = .next (expireHandover s) := event_of_operating operates
    rw [expires, expireHandover_eq now]
    refine ⟨fun zero => ?_, fun running => ?_⟩
    · rw [if_pos zero]
      obtain ⟨frame, hpt, order, manifests⟩ := closeManifest_effect n m .expired .window s
      exact ⟨_, rfl, frame, hpt, order, manifests⟩
    · rw [if_neg running]

end Sys2Proof.Proofs.Handovers
end

section
/-!
Movements of one entry, and the scans at the hatch (R187 to R189).
-/

namespace Sys2Proof.Machine

open Sys2Proof

set_option Elab.async false

/-! ## A movement of one entry -/

/-- R47: a movement that only writes one journal entry, in the field. -/
def fieldEntry (e : EntrySpec) : Movement := entriesOnly .field [e]

section Entry

variable {e : EntrySpec} {r : Nat} {b : Bag} {s w : State}

theorem checkMovement_field (e : EntrySpec) (s : State) : checkMovement (fieldEntry e) s =
    if s.journalFree = 0 then some .journalFull
    else if amountInRange (s.acu.accountability + e.delta) then none else some (.amountRange none) := by
  have stock : stockCheck (fieldEntry e) s = none := by simp [stockCheck, fieldEntry, entriesOnly, List.findSome?_eq_none_iff]
  have delta : (fieldEntry e).delta = e.delta := by simp [fieldEntry, entriesOnly, Movement.delta]
  have room : s.hasRoom (fieldEntry e).origin (fieldEntry e).entries.length = decide (1 ≤ s.journalFree) := rfl
  unfold checkMovement
  rw [stock, delta, room]
  refine (if_neg (by simp [fieldEntry, entriesOnly])).trans ?_
  by_cases full : s.journalFree = 0
  · simp [full]
  · simp [full, Nat.one_le_iff_ne_zero]

theorem checkMovement_field_none (room : 1 ≤ s.journalFree) (fits : amountInRange (s.acu.accountability + e.delta) = true) :
    checkMovement (fieldEntry e) s = none := by
  rw [checkMovement_field, if_neg (by omega), if_pos fits]

theorem checkMovement_field_full (full : s.journalFree = 0) : checkMovement (fieldEntry e) s = some .journalFull := by
  rw [checkMovement_field, if_pos full]

theorem checkMovement_field_range (room : 1 ≤ s.journalFree) (exceeds : amountInRange (s.acu.accountability + e.delta) = false) :
    checkMovement (fieldEntry e) s = some (.amountRange none) := by
  rw [checkMovement_field, if_neg (by omega), if_neg (by simp [exceeds])]

theorem fieldEntry_acu (e : EntrySpec) (s : State) : (applyMovement (fieldEntry e) s).acu = { s.acu with
    accountability := s.acu.accountability + e.delta
    journal := s.acu.journal ++ [nextEntry s e.kind e.ref e.till e.amount e.delta]
    nextSeq := seqAfter s.acu.nextSeq } := by
  rw [applyMovement_acu_eq]
  simp [fieldEntry, entriesOnly, Movement.delta, writtenEntries, nextEntry, seqAfterAll, chargeAccount]

/-- R28, R47: a bag recorded and its entry written. -/
def bagEntered (e : EntrySpec) (r : Nat) (b : Bag) (w : State) : State := applyMovement (fieldEntry e) (recordBag r b w)

theorem bagEntered_bgr : (bagEntered e r b w).bgr = { w.bgr with bags := Table.set none w.bgr.bags r (some b) } := by
  obtain ⟨-, -, -, bgr, -⟩ := applyMovement_frame (fieldEntry e) (recordBag r b w)
  exact bgr.trans (recordBag_bgr r b w)

theorem bagEntered_acu : (bagEntered e r b w).acu = { w.acu with
    accountability := w.acu.accountability + e.delta
    journal := w.acu.journal ++ [nextEntry w e.kind e.ref e.till e.amount e.delta]
    nextSeq := seqAfter w.acu.nextSeq } := by
  have acu : (recordBag r b w).acu = w.acu := by simp
  rw [bagEntered, fieldEntry_acu, nextEntry, acu]
  rfl

theorem bagEntered_tau : (bagEntered e r b w).tau = w.tau := by
  have tau : (recordBag r b w).tau = w.tau := by simp
  rw [bagEntered, applyMovement_tau_of_none _ rfl, tau]

theorem bagEntered_frame : onlyChutes w (bagEntered e r b w) ∧ (bagEntered e r b w).sys = w.sys ∧ (bagEntered e r b w).cru = w.cru ∧
    (bagEntered e r b w).clc = w.clc ∧ (bagEntered e r b w).rcu = w.rcu ∧ (bagEntered e r b w).wcu = w.wcu ∧
    (bagEntered e r b w).hoc = w.hoc :=
  ⟨onlyChutes_trans _ _ _ (recordBag_onlyChutes ..) (applyMovement_onlyChutes ..), by simp [bagEntered], by simp [bagEntered],
    by simp [bagEntered], by simp [bagEntered], by simp [bagEntered], by simp [bagEntered]⟩

theorem allocate_eq (slot : allocate s = some (r, w)) : w = { s with bgr := w.bgr } := by
  unfold allocate at slot
  split at slot
  · obtain ⟨rfl, rfl⟩ := Prod.mk.inj (Option.some.inj slot)
    rfl
  · split at slot
    · cases slot
    · obtain ⟨rfl, rfl⟩ := Prod.mk.inj (Option.some.inj slot)
      rfl

end Entry

/-! ## The scans -/

section Scan

variable {n g r : Nat} {m : Manifest} {o : OutItem} {i : InItem} {b : Bag} {s u : State}

theorem exec_hatchScan {tag : Option Nat} (operates : s.operating = true) (valid : ∀ x, tag = some x → 1 ≤ x ∧ x ≤ 99999999) :
    exec (.hatchScan tag) s = .next (takeScan tag s) := by
  refine unitRecord_operating _ _ s operates ?_
  cases tag with
  | none => rfl
  | some x =>
    obtain ⟨low, high⟩ := valid x rfl
    exact validTagNo_of low high

/-- R187: what an outbound scan that is taken writes. -/
def outboundEntry (r : Nat) (b : Bag) : EntrySpec := ⟨.bagOut, some r, none, -b.book, -b.book⟩

/-- R188: what an inbound scan that is taken writes. -/
def inboundEntry (r : Nat) (i : InItem) : EntrySpec := ⟨.bagIn, some r, none, i.declared, i.declared⟩

/-- R187: the manifest with an outbound bag marked as scanned. -/
def markScanned (r : Nat) (m : Manifest) : Manifest :=
  { m with outbound := m.outbound.map (fun x => if x.ref = r then { x with scanned := true } else x) }

/-- R188: the manifest with an inbound bag received. -/
def markReceived (g r : Nat) (m : Manifest) : Manifest :=
  { m with inbound := m.inbound.map (fun x => if x.tagNo = g then { x with received := some r } else x) }

/-- R187: the bag despatched and its entry written. -/
def despatched (r : Nat) (b : Bag) (s : State) : State :=
  retireBag r { b with state := .despatched, custody := .inTransit } (applyMovement (fieldEntry (outboundEntry r b)) s)

/-- R188: the record of a bag received at the hatch. -/
def inboundBag (i : InItem) (visit : Nat) (u : State) : Bag :=
  { newBag i.tagNo .changeIn (.courier visit) none i.declared (some i.declared) with
    flags := { AnomalyFlags.none with duplicate := u.tagInUse i.tagNo } }

theorem scanOutbound_again (scanned : o.scanned = true) : scanOutbound n m o g s = notifyDuplicate g o.ref s := if_pos scanned

theorem scanOutbound_unstaged (fresh : o.scanned = false) (away : ∀ b, s.bag o.ref = some b → b.custody ≠ .bench) :
    scanOutbound n m o g s = refuseScan (some g) (some o.ref) .notStaged s := by
  refine (if_neg (by simp [fresh])).trans ?_
  cases held : s.bag o.ref with
  | none => rfl
  | some b => exact if_pos (away b held)

theorem scanOutbound_staged (fresh : o.scanned = false) (held : s.bag o.ref = some b) (bench : b.custody = .bench) :
    (∀ f, checkMovement (fieldEntry (outboundEntry o.ref b)) s = some f →
      scanOutbound n m o g s = refuseScan (some g) (some o.ref) (scanReasonOf f) s) ∧
    (checkMovement (fieldEntry (outboundEntry o.ref b)) s = none →
      scanOutbound n m o g s = putManifest n (markScanned o.ref m) (despatched o.ref b s)) := by
  unfold scanOutbound fieldEntry outboundEntry
  rw [if_neg (by simp [fresh]), held]
  dsimp only
  rw [if_neg (by simp [bench])]
  refine ⟨fun f fails => ?_, fun fits => ?_⟩
  · rw [fails]
  · rw [fits]
    rfl

theorem scanInbound_again (again : i.received = some r) : scanInbound n m i s = notifyDuplicate i.tagNo r s := by
  unfold scanInbound
  rw [again]

theorem scanInbound_full (fresh : i.received = none) (full : s.available ≤ 8) :
    scanInbound n m i s = refuseScan (some i.tagNo) none .tableFull s := by
  unfold scanInbound
  rw [fresh, if_neg (by simp [State.canAllocate, full])]

theorem scanInbound_room (fresh : i.received = none) (room : 8 < s.available) (slot : allocate s = some (r, u)) :
    (∀ f, checkMovement (fieldEntry (inboundEntry r i)) s = some f →
      scanInbound n m i s = refuseScan (some i.tagNo) none (scanReasonOf f) s) ∧
    (checkMovement (fieldEntry (inboundEntry r i)) s = none → scanInbound n m i s =
      putManifest n (markReceived i.tagNo r m) (bagEntered (inboundEntry r i) r (inboundBag i m.visit u) u)) := by
  unfold scanInbound fieldEntry inboundEntry
  rw [fresh, if_pos (by simp [State.canAllocate, room]), slot]
  dsimp only
  refine ⟨fun f fails => ?_, fun fits => ?_⟩
  · rw [fails]
  · rw [fits]
    rfl

/-! ### Which entry a tag names -/

theorem takeScan_late {tag : Option Nat} (none : s.inHandover = none) :
    takeScan tag s = notify .lateScan [fTag tag, fNumOpt 2 s.lastClosedVisit] (command .hatch .reject s) := by
  unfold takeScan
  rw [none]

theorem takeScan_untagged (now : s.inHandover = some (n, m)) : takeScan none s = refuseScan none none .noTag s := by
  unfold takeScan
  rw [now]

theorem takeScan_outbound (now : s.inHandover = some (n, m)) (listed : m.outbound.find? (fun x => decide (x.tagNo = some g)) = some o) :
    takeScan (some g) s = scanOutbound n m o g s := by
  unfold takeScan
  rw [now]
  dsimp only
  rw [listed]

theorem find_none_of_ne {α β : Type} [DecidableEq β] {key : α → β} {x : β} {l : List α} (other : ∀ y ∈ l, key y ≠ x) :
    l.find? (fun y => decide (key y = x)) = none := by
  simpa [List.find?_eq_none] using other

theorem takeScan_inbound (now : s.inHandover = some (n, m)) (other : ∀ x ∈ m.outbound, x.tagNo ≠ some g)
    (listed : m.inbound.find? (fun x => decide (x.tagNo = g)) = some i) : takeScan (some g) s = scanInbound n m i s := by
  unfold takeScan
  rw [now]
  dsimp only
  rw [find_none_of_ne other]
  dsimp only
  rw [listed]

theorem takeScan_unlisted (now : s.inHandover = some (n, m)) (out : ∀ x ∈ m.outbound, x.tagNo ≠ some g)
    (inn : ∀ x ∈ m.inbound, x.tagNo ≠ g) : takeScan (some g) s = refuseScan (some g) none .notListed s := by
  unfold takeScan
  rw [now]
  dsimp only
  rw [find_none_of_ne out]
  dsimp only
  rw [find_none_of_ne inn]

/-! ### What a scan that is taken leaves -/

theorem putManifest_onlyChutes (n : Nat) (m : Manifest) (s : State) : onlyChutes s (putManifest n m s) :=
  onlyChutes_of_eq s (putManifest n m s) rfl rfl rfl

theorem despatched_bgr (r : Nat) (b : Bag) (s : State) : (despatched r b s).bgr = { s.bgr with
    bags := Table.set none s.bgr.bags r (some { b with state := .despatched, custody := .inTransit }), retired := s.bgr.retired ++ [r] } :=
  retired_bgr ..

theorem despatched_acu (r : Nat) (b : Bag) (s : State) : (despatched r b s).acu = { s.acu with
    accountability := s.acu.accountability - b.book
    journal := s.acu.journal ++ [nextEntry s .bagOut (some r) none (-b.book) (-b.book)]
    nextSeq := seqAfter s.acu.nextSeq } := by
  rw [despatched, retired_acu, fieldEntry_acu]
  rfl

theorem despatched_frame (r : Nat) (b : Bag) (s : State) : onlyChutes s (despatched r b s) ∧ (despatched r b s).sys = s.sys ∧
    (despatched r b s).cru = s.cru ∧ (despatched r b s).clc = s.clc ∧ (despatched r b s).rcu = s.rcu ∧
    (despatched r b s).wcu = s.wcu ∧ (despatched r b s).hoc = s.hoc ∧ (despatched r b s).tau = s.tau := by
  obtain ⟨chutes, sys, cru, clc, rcu, wcu, hoc⟩ :=
    retired_frame (r := r) (fieldEntry (outboundEntry r b)) { b with state := .despatched, custody := .inTransit } s
  exact ⟨chutes, sys, cru, clc, rcu, wcu, hoc, retired_tau _ _ rfl⟩

end Scan

end Sys2Proof.Machine

namespace Sys2Proof.Proofs.Scans

open Sys2Proof Sys2Proof.Machine

/-- Settles O58. -/
theorem hatchScans : Obligations.HatchScans := by
  unfold Obligations.HatchScans
  refine fun s operates => ⟨fun g valid none => ?late, fun n g m o b low high now listed fresh held bench room fits => ?outbound,
    fun n g r m i u low high now other listed fresh space slot room fits => ?inbound, fun n g m o low high now listed => ?outboundRefused,
    fun n g m i low high now other listed => ?inboundRefused, fun n m now => ?unlisted⟩
  case late => rw [exec_hatchScan operates valid, takeScan_late none, command]
  case outbound =>
    have scans := exec_hatchScan (tag := some g) operates fun x eq => by cases eq; exact ⟨low, high⟩
    rw [takeScan_outbound now listed, (scanOutbound_staged fresh held bench).2 (checkMovement_field_none room
      (by rwa [sub_eq_add_neg] at fits))] at scans
    have bgr := despatched_bgr o.ref b s
    have acu := despatched_acu o.ref b s
    obtain ⟨chutes, sys, cru, clc, rcu, wcu, hoc, tau⟩ := despatched_frame o.ref b s
    generalize despatched o.ref b s = t at scans bgr acu chutes sys cru clc rcu wcu hoc tau
    have bags : ∀ q, t.bag q = if q = o.ref then some { b with state := .despatched, custody := .inTransit } else s.bag q := fun q => by
      rw [State.bag, bgr, Table.get_set]
      rfl
    have retired : t.bgr.retired = s.bgr.retired ++ [o.ref] := by rw [bgr]
    have ranges : t.bgr.ranges = s.bgr.ranges := by rw [bgr]
    have order : t.hoc.closedOrder = s.hoc.closedOrder := by rw [hoc]
    refine ⟨putManifest n (markScanned o.ref m) t, scans, bags, retired, ranges, acu, fun k => ?_,
      order, onlyChutes_trans _ _ _ chutes (putManifest_onlyChutes ..), sys, cru, tau, clc, rcu, wcu⟩
    rw [putManifest_manifest, State.manifest, hoc]
    rfl
  case inbound =>
    have named : i.tagNo = g := by simpa using List.find?_some listed
    subst named
    have scans := exec_hatchScan (tag := some i.tagNo) operates fun x eq => by cases eq; exact ⟨low, high⟩
    rw [takeScan_inbound now other listed, (scanInbound_room fresh space slot).2 (checkMovement_field_none room fits)] at scans
    have alloc := allocate_eq slot
    have uacu : u.acu = s.acu := by rw [alloc]
    have utau : u.tau = s.tau := by rw [alloc]
    have uhoc : u.hoc = s.hoc := by rw [alloc]
    have bgr := bagEntered_bgr (e := inboundEntry r i) (r := r) (b := inboundBag i m.visit u) (w := u)
    have acu := bagEntered_acu (e := inboundEntry r i) (r := r) (b := inboundBag i m.visit u) (w := u)
    have tau := bagEntered_tau (e := inboundEntry r i) (r := r) (b := inboundBag i m.visit u) (w := u)
    obtain ⟨chutes, sys, cru, clc, rcu, wcu, hoc⟩ :=
      bagEntered_frame (e := inboundEntry r i) (r := r) (b := inboundBag i m.visit u) (w := u)
    have flags : inboundBag i m.visit u = { newBag i.tagNo .changeIn (.courier m.visit) none i.declared (some i.declared) with
        flags := ⟨false, u.tagInUse i.tagNo, false, false⟩ } := rfl
    generalize bagEntered (inboundEntry r i) r (inboundBag i m.visit u) u = t at scans bgr acu tau chutes sys cru clc rcu wcu hoc
    have bags : ∀ q, t.bag q = if q = r then some (inboundBag i m.visit u) else u.bag q := fun q => bag_of_set bgr q
    refine ⟨putManifest n (markReceived i.tagNo r m) t, scans, (bags r).trans ((if_pos rfl).trans (congrArg some flags)),
      fun q ne => (bags q).trans (if_neg ne), ?_, ?_, fun k => ?_, ?_,
      onlyChutes_trans _ _ _ (allocate_onlyChutes _ _ _ slot) (onlyChutes_trans _ _ _ chutes (putManifest_onlyChutes ..)),
      sys.trans ?_, cru.trans ?_, tau.trans utau, clc.trans ?_, rcu.trans ?_, wcu.trans ?_⟩
    · change t.bgr = { u.bgr with bags := t.bgr.bags }
      rw [bgr]
    · change t.acu = _
      rw [acu, uacu, nextEntry, uacu]
      rfl
    · rw [putManifest_manifest, State.manifest, hoc, uhoc]
      rfl
    · change t.hoc.closedOrder = _
      rw [hoc, uhoc]
    all_goals rw [alloc]
  case outboundRefused =>
    have scans := exec_hatchScan (tag := some g) operates fun x eq => by cases eq; exact ⟨low, high⟩
    rw [takeScan_outbound now listed] at scans
    refine ⟨fun again => ?_, fun fresh away => ?_, fun b fresh held bench => ⟨fun full => ?_, fun room exceeds => ?_⟩⟩
    · rw [scans, scanOutbound_again again, notifyDuplicate]
    · rw [scans, scanOutbound_unstaged fresh away]
      rfl
    · rw [scans, (scanOutbound_staged fresh held bench).1 _ (checkMovement_field_full full)]
      rfl
    · rw [scans, (scanOutbound_staged fresh held bench).1 _ (checkMovement_field_range room (by rwa [sub_eq_add_neg] at exceeds))]
      rfl
  case inboundRefused =>
    have named : i.tagNo = g := by simpa using List.find?_some listed
    subst named
    have scans := exec_hatchScan (tag := some i.tagNo) operates fun x eq => by cases eq; exact ⟨low, high⟩
    rw [takeScan_inbound now other listed] at scans
    refine ⟨fun r again => ?_, fun fresh => ⟨fun full => ?_, fun space slot full => ?_, fun space slot room exceeds => ?_⟩⟩
    · rw [scans, scanInbound_again again, notifyDuplicate]
    · rw [scans, scanInbound_full fresh full]
      rfl
    · obtain ⟨⟨r, u⟩, slot⟩ := Option.ne_none_iff_exists'.mp slot
      rw [scans, (scanInbound_room fresh space slot).1 _ (checkMovement_field_full full)]
      rfl
    · obtain ⟨⟨r, u⟩, slot⟩ := Option.ne_none_iff_exists'.mp slot
      rw [scans, (scanInbound_room fresh space slot).1 _ (checkMovement_field_range room exceeds)]
      rfl
  case unlisted =>
    refine ⟨?_, fun g low high out inn => ?_⟩
    · rw [exec_hatchScan operates fun x eq => (by cases eq), takeScan_untagged now]
      rfl
    · rw [exec_hatchScan operates fun x eq => (by cases eq; exact ⟨low, high⟩), takeScan_unlisted now out inn]
      rfl

end Sys2Proof.Proofs.Scans
end

section
/-!
The drop safes: DROP (R38, R94, R170) and CLEAR_DROP_SAFE (R171).
-/

namespace Sys2Proof.Machine

open Sys2Proof

set_option Elab.async false

/-! ## The bag count -/

/-- R170 steps 2 and 3: what counting a bag into safe `n` does. -/
structure CountedIn (n : Nat) (v t : State) : Prop where
  count : (t.safe n).count = min 9999 ((v.safe n).count + 1)
  full : (v.safe n).count = 39 → (t.safe n).causes.full = true
  door : (t.safe n).door = (v.safe n).door
  others : ∀ m, m ≠ n → t.safe m = v.safe m
  csc : t.csc = { v.csc with safes := t.csc.safes }
  frame : t = { v with csc := t.csc, hpt := t.hpt, ubc := t.ubc }
  notices : onlyNotices v t
  ubc : t.ubc = { v.ubc with commands := t.ubc.commands }

/-- R170 step 2: OVERFILL where it applies. -/
def overfilled (n : Nat) (tag ref : Option Nat) (v : State) : State :=
  if 40 ≤ (v.safe n).count ∨ ref = none then
    notify .overfill [fNum 1 n, fNum 2 (min maxDropCount ((v.safe n).count + 1)), fTag tag, fRef ref, fNamed (flagByte ref.isNone)] v
  else v

/-- R170 step 3: the bag count. -/
def countWritten (n after : Nat) (v : State) : State := putSafe n { v.safe n with count := after } v

/-- R170 step 3: FULL from the fortieth bag on. -/
def markedFull (n after : Nat) (v : State) : State := if after = 40 then setChuteCause n .full true v else v

section Count

variable {n m after : Nat} {tag ref : Option Nat} {c : ChuteCause} {on : Bool} {v : State}

theorem countInSafe_eq (n : Nat) (tag ref : Option Nat) (v : State) : countInSafe n tag ref v =
    markedFull n (min maxDropCount ((v.safe n).count + 1))
      (countWritten n (min maxDropCount ((v.safe n).count + 1)) (overfilled n tag ref v)) := rfl

theorem overfilled_effect (n : Nat) (tag ref : Option Nat) (v : State) :
    overfilled n tag ref v = { v with hpt := (overfilled n tag ref v).hpt } ∧ onlyNotices v (overfilled n tag ref v) := by
  unfold overfilled
  split
  · exact ⟨notify_eq .., notify_onlyNotices ..⟩
  · exact ⟨rfl, rfl⟩

theorem overfilled_safe (m : Nat) : (overfilled n tag ref v).safe m = v.safe m := by
  rw [(overfilled_effect n tag ref v).1]
  rfl

theorem setChuteCause_onlyNotices (n : Nat) (c : ChuteCause) (on : Bool) (v : State) : onlyNotices v (setChuteCause n c on v) := by
  obtain ⟨l, -, hpt⟩ := setChuteCause_notices n c on v
  exact onlyNotices_of_notifyAll hpt

theorem setChuteCause_csc (n : Nat) (c : ChuteCause) (on : Bool) (v : State) :
    (setChuteCause n c on v).csc = { v.csc with safes := (setChuteCause n c on v).csc.safes } := by
  have kept : (setChuteCause n c on v).csc.policy = v.csc.policy ∧ (setChuteCause n c on v).csc.maintenance = v.csc.maintenance ∧
      (setChuteCause n c on v).csc.freeze = v.csc.freeze ∧ (setChuteCause n c on v).csc.strongroom = v.csc.strongroom ∧
      (setChuteCause n c on v).csc.holdTimer = v.csc.holdTimer ∧ (setChuteCause n c on v).csc.holdRunning = v.csc.holdRunning ∧
      (setChuteCause n c on v).csc.latch = v.csc.latch := by simp
  obtain ⟨policy, maintenance, freeze, strongroom, timer, running, latch⟩ := kept
  dsimp only
  rw [← policy, ← maintenance, ← freeze, ← strongroom, ← timer, ← running, ← latch]

theorem setChuteCause_ubc (n : Nat) (c : ChuteCause) (on : Bool) (v : State) :
    (setChuteCause n c on v).ubc = { v.ubc with commands := (setChuteCause n c on v).ubc.commands } := by
  have kept : (setChuteCause n c on v).ubc.addrs = v.ubc.addrs ∧ (setChuteCause n c on v).ubc.panicSel = v.ubc.panicSel ∧
      (setChuteCause n c on v).ubc.panicHigh = v.ubc.panicHigh ∧ (setChuteCause n c on v).ubc.alarm = v.ubc.alarm ∧
      (setChuteCause n c on v).ubc.alarmTimer = v.ubc.alarmTimer ∧ (setChuteCause n c on v).ubc.unitErrors = v.ubc.unitErrors := by simp
  obtain ⟨addrs, sel, high, alarm, timer, errors⟩ := kept
  dsimp only
  rw [← addrs, ← sel, ← high, ← alarm, ← timer, ← errors]

theorem setChuteCause_frame (n : Nat) (c : ChuteCause) (on : Bool) (v : State) : setChuteCause n c on v = { v with
    csc := (setChuteCause n c on v).csc, hpt := (setChuteCause n c on v).hpt, ubc := (setChuteCause n c on v).ubc } := by
  apply State.eq_of_blocks <;> simp

theorem setChuteCause_keepsSafe (n m : Nat) (c : ChuteCause) (on : Bool) (v : State) :
    ((setChuteCause n c on v).safe m).count = (v.safe m).count ∧ ((setChuteCause n c on v).safe m).door = (v.safe m).door ∧
      (m ≠ n → (setChuteCause n c on v).safe m = v.safe m) := by
  rw [setChuteCause_safe]
  by_cases same : m = n
  · subst same
    rw [if_pos rfl]
    exact ⟨rfl, rfl, fun other => absurd rfl other⟩
  · rw [if_neg same]
    exact ⟨rfl, rfl, fun _ => rfl⟩

theorem markedFull_effect (n after : Nat) (v : State) :
    (∀ m, ((markedFull n after v).safe m).count = (v.safe m).count ∧ ((markedFull n after v).safe m).door = (v.safe m).door ∧
      (m ≠ n → (markedFull n after v).safe m = v.safe m)) ∧
    (after = 40 → ((markedFull n after v).safe n).causes.full = true) ∧
    (markedFull n after v).csc = { v.csc with safes := (markedFull n after v).csc.safes } ∧
    (markedFull n after v).ubc = { v.ubc with commands := (markedFull n after v).ubc.commands } ∧
    markedFull n after v = { v with
      csc := (markedFull n after v).csc, hpt := (markedFull n after v).hpt, ubc := (markedFull n after v).ubc } ∧
    onlyNotices v (markedFull n after v) := by
  unfold markedFull
  split
  · refine ⟨fun m => setChuteCause_keepsSafe .., fun _ => ?_, setChuteCause_csc .., setChuteCause_ubc .., setChuteCause_frame ..,
      setChuteCause_onlyNotices ..⟩
    rw [setChuteCause_safe, if_pos rfl]
    rfl
  · next few => exact ⟨fun m => ⟨rfl, rfl, fun _ => rfl⟩, fun eq => absurd eq few, rfl, rfl, rfl, rfl⟩

theorem countInSafe_effect (n : Nat) (tag ref : Option Nat) (v : State) : CountedIn n v (countInSafe n tag ref v) := by
  rw [countInSafe_eq]
  obtain ⟨told, notices⟩ := overfilled_effect n tag ref v
  have safes := overfilled_safe (n := n) (tag := tag) (ref := ref) (v := v)
  generalize overfilled n tag ref v = w at told notices safes
  generalize hafter : min maxDropCount ((v.safe n).count + 1) = after
  have written : ∀ m, (countWritten n after w).safe m = if m = n then { v.safe n with count := after } else v.safe m := fun m => by
    rw [countWritten, putSafe_safe, safes, safes]
  have csc : (countWritten n after w).csc = { v.csc with safes := (countWritten n after w).csc.safes } := by
    rw [told]
    rfl
  have frame : countWritten n after w = { v with csc := (countWritten n after w).csc, hpt := w.hpt } := by
    rw [told]
    rfl
  have queue : onlyNotices v (countWritten n after w) := notices
  generalize countWritten n after w = y at written csc frame queue
  obtain ⟨kept, full, marked, ubc, last, more⟩ := markedFull_effect n after y
  generalize markedFull n after y = t at kept full marked ubc last more
  have yubc : y.ubc = v.ubc := by rw [frame]
  refine ⟨?_, fun nearly => full ?_, ?_, fun m other => ?_, ?_, ?_, onlyNotices_trans queue more, by rw [ubc, yubc]⟩
  · rw [(kept n).1, written, if_pos rfl, ← hafter]
    rfl
  · rw [← hafter, nearly]
    rfl
  · rw [(kept n).2.1, written, if_pos rfl]
  · rw [(kept m).2.2 other, written, if_neg other]
  · rw [marked, csc]
  · rw [last, frame]

/-- R170 step 2: OVERFILL of a table overrun stands first among the new notices. -/
theorem countInSafe_overrun (on : v.hpt.globalEnable = true) (custody : v.hpt.classEnables.custody = true)
    (room : v.hpt.notices.length < 32) : (countInSafe n tag none v).hpt.notices[v.hpt.notices.length]? = some ⟨.overfill,
      [fNum 1 n, fNum 2 (min 9999 ((v.safe n).count + 1)), fTag tag, fRef none, fNamed 1]⟩ := by
  have sent : (overfilled n tag none v).hpt.notices = v.hpt.notices ++ [⟨.overfill,
      [fNum 1 n, fNum 2 (min 9999 ((v.safe n).count + 1)), fTag tag, fRef none, fNamed 1]⟩] := by
    unfold overfilled
    rw [if_pos (.inr rfl)]
    exact notify_room on custody room
  have marks : ∀ after w, w.hpt.notices <+: (markedFull n after w).hpt.notices := fun after w => by
    unfold markedFull
    split
    · obtain ⟨l, -, hpt⟩ := setChuteCause_notices n .full true w
      rw [hpt]
      exact notifyAll_notices ..
    · exact List.prefix_rfl
  obtain ⟨later, eq⟩ := marks (min maxDropCount ((v.safe n).count + 1))
    (countWritten n (min maxDropCount ((v.safe n).count + 1)) (overfilled n tag none v))
  rw [countInSafe_eq, ← eq]
  change ((overfilled n tag none v).hpt.notices ++ later)[_]? = _
  rw [sent, List.append_assoc, List.getElem?_append_right (le_refl _), Nat.sub_self]
  rfl

end Count

/-! ## The record of a dropped bag -/

/-- R94: what recording a bag leaves of the state but the bag table, the books and the tills. -/
structure Recorded (v w : State) : Prop where
  chutes : onlyChutes v w
  sys : w.sys = v.sys
  cru : w.cru = v.cru
  clc : w.clc = v.clc
  rcu : w.rcu = v.rcu
  wcu : w.wcu = v.wcu
  hoc : w.hoc = v.hoc

theorem Recorded.trans {u v w : State} (h : Recorded u v) (k : Recorded v w) : Recorded u w :=
  ⟨onlyChutes_trans _ _ _ h.chutes k.chutes, k.sys.trans h.sys, k.cru.trans h.cru, k.clc.trans h.clc, k.rcu.trans h.rcu,
    k.wcu.trans h.wcu, k.hoc.trans h.hoc⟩

section Record

variable {n r g : Nat} {tag : Option Nat} {flags : AnomalyFlags} {noRoom : Bool} {x : TakenSkim} {s u v : State}

theorem allocate_recorded (slot : allocate s = some (r, u)) : Recorded s u := by
  have eq := allocate_eq slot
  refine ⟨allocate_onlyChutes _ _ _ slot, ?_, ?_, ?_, ?_, ?_, ?_⟩ <;> rw [eq]

/-- R94: the record of an undeclared bag. -/
def undeclaredBag (n : Nat) (tag : Option Nat) (flags : AnomalyFlags) : Bag := droppedBag n tag flags .unknown 0 none true

theorem recordUndeclared_bgr : (recordUndeclared n r tag flags noRoom v).bgr =
    { v.bgr with bags := Table.set none v.bgr.bags r (some (undeclaredBag n tag flags)) } := by
  have kept : ∀ k f w, (notify k f w).bgr = w.bgr := fun k f w => by simp
  rw [recordUndeclared, kept]
  exact recordBag_bgr ..

theorem recordUndeclared_recorded : Recorded v (recordUndeclared n r tag flags noRoom v) :=
  ⟨onlyChutes_trans _ _ _ (recordBag_onlyChutes ..) (notify_onlyChutes ..), by simp, by simp, by simp, by simp, by simp, by simp⟩

/-- R94: the record of a bag declared by a pending skim. -/
def declaredBag (n : Nat) (tag : Option Nat) (flags : AnomalyFlags) (x : TakenSkim) : Bag :=
  droppedBag n tag flags (.till x.till x.entry.session) x.entry.amount (some x.entry.amount) false

/-- R94: the entry of a bag declared by a pending skim. -/
def declaredEntry (r : Nat) (x : TakenSkim) : EntrySpec := ⟨.bagIn, some r, some x.till, x.entry.amount, x.entry.amount⟩

theorem removePending_books : (removePending x v).acu = v.acu ∧ (removePending x v).journalFree = v.journalFree := by
  have acu : (removePending x v).acu = v.acu := by simp
  exact ⟨acu, by rw [State.journalFree, acu, State.journalFree]⟩

theorem recordDeclared_of_room (room : 1 ≤ v.journalFree) (fits : amountInRange (v.acu.accountability + x.entry.amount) = true) :
    recordDeclared n r tag flags x v =
      countDrop x (bagEntered (declaredEntry r x) r (declaredBag n tag flags x) (removePending x v)) := by
  obtain ⟨acu, free⟩ := removePending_books (x := x) (v := v)
  unfold recordDeclared bagEntered
  dsimp only
  generalize removePending x v = w at acu free
  have check : checkMovement (fieldEntry (declaredEntry r x)) w = none :=
    checkMovement_field_none (by rw [free]; exact room) (by rw [acu]; exact fits)
  unfold fieldEntry declaredEntry at check
  rw [check]
  rfl

theorem recordDeclared_of_fail (fails : v.journalFree = 0 ∨ amountInRange (v.acu.accountability + x.entry.amount) = false) :
    recordDeclared n r tag flags x v = recordUndeclared n r tag flags true (removePending x v) := by
  obtain ⟨acu, free⟩ := removePending_books (x := x) (v := v)
  unfold recordDeclared
  dsimp only
  generalize removePending x v = w at acu free
  obtain ⟨f, check⟩ : ∃ f, checkMovement (fieldEntry (declaredEntry r x)) w = some f := by
    by_cases full : v.journalFree = 0
    · exact ⟨_, checkMovement_field_full (by rw [free, full])⟩
    · exact ⟨_, checkMovement_field_range (by rw [free]; exact Nat.one_le_iff_ne_zero.mpr full) (by rw [acu]; exact fails.resolve_left full)⟩
  unfold fieldEntry declaredEntry at check
  rw [check]

/-- R94: the till of a pending skim that a drop has taken. -/
def skimTaken (x : TakenSkim) (t : Till) : Till := { t with pendingSkims := t.pendingSkims.erase x.entry }

theorem removePending_till (m : Nat) : (removePending x v).till m = if m = x.till then skimTaken x (v.till x.till) else v.till m :=
  putTill_till ..

/-- R94: one more bag outstanding, while the session of the skim runs. -/
def skimExpected (x : TakenSkim) (t : Till) : Till :=
  { t with outstanding := if t.session = x.entry.session ∧ t.state.inSession then t.outstanding + 1 else t.outstanding }

theorem countDrop_eq : countDrop x v = clearOverLimit x.till (if (v.till x.till).session = x.entry.session ∧
    (v.till x.till).state.inSession then putTill x.till (v.till x.till).expecting v else v) := by
  unfold countDrop
  dsimp only
  split <;> rfl

theorem countDrop_till (m : Nat) : (countDrop x v).till m =
    if m = x.till then { skimExpected x (v.till x.till) with overLimit := false } else v.till m := by
  rw [countDrop_eq, clearOverLimit_till]
  by_cases current : (v.till x.till).session = x.entry.session ∧ (v.till x.till).state.inSession = true
  · rw [if_pos current, putTill_till, putTill_till, if_pos rfl, skimExpected, if_pos current]
    by_cases same : m = x.till <;> simp [same, Till.expecting]
  · rw [if_neg current, skimExpected, if_neg current]

theorem countDrop_leavesSkim (room : v.tau.skimQueue.length ≤ 16) : leavesSkim x.till v (countDrop x v) := by
  rw [countDrop_eq]
  split
  · exact leavesSkim_congr (s := putTill x.till (v.till x.till).expecting v) rfl
      (fun m other => congrArg Till.overLimit ((putTill_till ..).trans (if_neg other))) (clearOverLimit_leavesSkim x.till _ room)
  · exact clearOverLimit_leavesSkim x.till _ room

theorem countDrop_onlyChutes : onlyChutes v (countDrop x v) := by
  rw [countDrop_eq]
  split
  · exact onlyChutes_trans _ _ _ (putTill_onlyChutes ..) (clearOverLimit_onlyChutes ..)
  · exact clearOverLimit_onlyChutes ..

/-- R94: the state of a bag declared and counted. -/
def declaredDrop (n r : Nat) (tag : Option Nat) (flags : AnomalyFlags) (x : TakenSkim) (v : State) : State :=
  countDrop x (bagEntered (declaredEntry r x) r (declaredBag n tag flags x) (removePending x v))

theorem declaredDrop_bgr : (declaredDrop n r tag flags x v).bgr =
    { v.bgr with bags := Table.set none v.bgr.bags r (some (declaredBag n tag flags x)) } := by
  have kept : ∀ w, (countDrop x w).bgr = w.bgr := fun w => by simp
  rw [declaredDrop, kept]
  exact bagEntered_bgr

theorem declaredDrop_acu : (declaredDrop n r tag flags x v).acu = { v.acu with
    accountability := v.acu.accountability + x.entry.amount
    journal := v.acu.journal ++ [nextEntry v .bagIn (some r) (some x.till) x.entry.amount x.entry.amount]
    nextSeq := seqAfter v.acu.nextSeq } := by
  have kept : ∀ w, (countDrop x w).acu = w.acu := fun w => by simp
  rw [declaredDrop, kept]
  exact bagEntered_acu

theorem declaredDrop_till (m : Nat) : (declaredDrop n r tag flags x v).till m =
    if m = x.till then { skimExpected x (skimTaken x (v.till x.till)) with overLimit := false } else v.till m := by
  have till : ∀ k, (bagEntered (declaredEntry r x) r (declaredBag n tag flags x) (removePending x v)).till k =
      if k = x.till then skimTaken x (v.till x.till) else v.till k := fun k => by
    rw [State.till, bagEntered_tau]
    exact removePending_till k
  rw [declaredDrop, countDrop_till, till, till, if_pos rfl]
  by_cases same : m = x.till <;> simp [same]

theorem declaredDrop_leavesSkim (room : v.tau.skimQueue.length ≤ 16) : leavesSkim x.till v (declaredDrop n r tag flags x v) := by
  have tau := bagEntered_tau (e := declaredEntry r x) (r := r) (b := declaredBag n tag flags x) (w := removePending x v)
  have leaves := countDrop_leavesSkim (x := x)
    (v := bagEntered (declaredEntry r x) r (declaredBag n tag flags x) (removePending x v)) (by rw [tau]; exact room)
  refine leavesSkim_congr (by rw [tau]; rfl) (fun m other => ?_) leaves
  rw [State.till, tau]
  exact congrArg Till.overLimit ((removePending_till m).trans (if_neg other))

theorem declaredDrop_lists : (declaredDrop n r tag flags x v).tau.postings = v.tau.postings ∧
    (declaredDrop n r tag flags x v).tau.templates = v.tau.templates := by
  have postings : ∀ w, (countDrop x w).tau.postings = w.tau.postings := fun w => by simp
  have templates : ∀ w, (countDrop x w).tau.templates = w.tau.templates := fun w => by simp
  rw [declaredDrop, postings, templates, bagEntered_tau]
  exact ⟨rfl, rfl⟩

theorem putTill_recorded (m : Nat) (y : Till) (v : State) : Recorded v (putTill m y v) :=
  ⟨putTill_onlyChutes .., rfl, rfl, rfl, rfl, rfl, rfl⟩

theorem declaredDrop_recorded : Recorded v (declaredDrop n r tag flags x v) := by
  obtain ⟨chutes, sys, cru, clc, rcu, wcu, hoc⟩ :=
    bagEntered_frame (e := declaredEntry r x) (r := r) (b := declaredBag n tag flags x) (w := removePending x v)
  refine (putTill_recorded x.till (skimTaken x (v.till x.till)) v).trans
    ((⟨chutes, sys, cru, clc, rcu, wcu, hoc⟩ : Recorded (removePending x v) _).trans ?_)
  exact ⟨countDrop_onlyChutes, by simp [declaredDrop], by simp [declaredDrop], by simp [declaredDrop], by simp [declaredDrop],
    by simp [declaredDrop], by simp [declaredDrop]⟩

end Record

end Sys2Proof.Machine
end

section
/-!
A DROP record from its allocation to the bag count, and the clearing of a drop safe (R94, R170, R171).
-/

namespace Sys2Proof.Machine

open Sys2Proof

set_option Elab.async false

/-! ## The search for the skim of a dropped bag -/

section Search

variable {n r g k : Nat} {e : PendingSkim} {flags : AnomalyFlags} {p : Posting} {s u v w : State}

theorem findPending_congr (tau : w.tau = v.tau) : findPending g w = findPending g v := by
  simp only [findPending, State.till, tau]

theorem skimSearch_none (unposted : ∀ p ∈ v.tau.postings, p.kind = .skim → p.tagNo ≠ some g) : skimSearch g v = v := by
  have found : v.tau.postings.find? (fun p => decide (p.kind = .skim) && decide (p.tagNo = some g)) = Option.none := by
    simpa [List.find?_eq_none] using unposted
  rw [skimSearch, found]

theorem skimSearch_posting (found : v.tau.postings.find? (fun p => decide (p.kind = .skim) && decide (p.tagNo = some g)) = some p) :
    skimSearch g v = applyPosting { v with tau.postings := v.tau.postings.erase p } p := by
  rw [skimSearch, found]

theorem findPending_none (unnamed : ∀ m ∈ tillNumbers, ∀ e ∈ (v.till m).pendingSkims, e.tagNo ≠ g) : findPending g v = none := by
  rw [findPending, List.findSome?_eq_none_iff]
  intro m mem
  rw [find_none_of_ne (unnamed m mem)]
  rfl

/-- R94: a pending skim that no other till names, the newest of its own till's list. -/
theorem findPending_newest {l : List PendingSkim} (valid : k ∈ tillNumbers)
    (others : ∀ m ∈ tillNumbers, m ≠ k → ∀ e ∈ (v.till m).pendingSkims, e.tagNo ≠ g) (list : (v.till k).pendingSkims = l ++ [e])
    (older : ∀ e ∈ l, e.tagNo ≠ g) (named : e.tagNo = g) : findPending g v = some ⟨k, e⟩ := by
  obtain ⟨before, after, split⟩ := List.append_of_mem valid
  have once := tillNumbers_nodup
  rw [split, List.nodup_append] at once
  rw [findPending, List.findSome?_eq_some_iff]
  refine ⟨before, k, after, split, ?_, fun m mem => ?_⟩
  · rw [list, List.find?_append, find_none_of_ne older]
    simp [named]
  · have other : m ≠ k := once.2.2 m mem k (.head _)
    rw [find_none_of_ne (others m (by rw [split]; exact List.mem_append_left _ mem) other)]
    rfl

theorem recordDrop_unknown (search : skimSearch g v = w) (none : findPending g w = none) :
    recordDrop n r (some g) v = recordUndeclared n r (some g) (dropFlags (some g) v) false w := by
  unfold recordDrop
  dsimp only
  rw [search, none]

theorem recordDrop_known {x : TakenSkim} (search : skimSearch g v = w) (found : findPending g w = some x) :
    recordDrop n r (some g) v = recordDeclared n r (some g) (dropFlags (some g) v) x w := by
  unfold recordDrop
  dsimp only
  rw [search, found]

theorem OnlyTills.recorded (h : OnlyTills v w) : Recorded v w := by
  obtain ⟨frame, notices, -, -⟩ := h
  have csc : w.csc = v.csc := by rw [frame]
  have safes : ∀ m, w.safe m = v.safe m := fun m => by rw [State.safe, csc, State.safe]
  refine ⟨⟨notices, ?_, ?_, fun m => by rw [safes]; exact ⟨rfl, rfl, rfl, rfl, rfl⟩⟩, ?_, ?_, ?_, ?_, ?_, ?_⟩ <;> rw [frame]

/-- R94 step 1: the state after the posting that names a dropped bag has been applied, and its skim waits. -/
def postingApplied (p : Posting) (g : Nat) (v : State) : State :=
  overLimitTest p.till (rememberSkim p g (posted p { v with tau.postings := v.tau.postings.erase p }))

theorem skimSearch_applied (found : v.tau.postings.find? (fun p => decide (p.kind = .skim) && decide (p.tagNo = some g)) = some p)
    (inSession : (v.till p.till).state.inSession = true) (none : v.attachable g = none) : skimSearch g v = postingApplied p g v := by
  have suits := List.find?_some found
  simp only [Bool.and_eq_true, decide_eq_true_eq] at suits
  obtain ⟨kind, tag⟩ := suits
  rw [skimSearch_posting found, applyPosting_inSession (v := { v with tau.postings := v.tau.postings.erase p }) inSession,
    applyInSession_skim kind tag, attachSkim_of_none (s := posted p { v with tau.postings := v.tau.postings.erase p }) none]
  rfl

/-- R94: the pending skim that an applied posting leaves. -/
def appliedSkim (p : Posting) (g : Nat) (v : State) : TakenSkim := ⟨p.till, ⟨g, p.amount, (v.till p.till).session⟩⟩

theorem postingApplied_effect (found : v.tau.postings.find? (fun p => decide (p.kind = .skim) && decide (p.tagNo = some g)) = some p)
    (low : 1 ≤ p.till) (high : p.till ≤ 128) (room : (v.till p.till).pendingSkims.length < 4)
    (unnamed : ∀ m ∈ tillNumbers, ∀ e ∈ (v.till m).pendingSkims, e.tagNo ≠ g) :
    findPending g (postingApplied p g v) = some (appliedSkim p g v) ∧
    (∃ flag, (postingApplied p g v).till p.till = { ((v.till p.till).accumulate .skim p.amount).reckon with
      overLimit := flag, pendingSkims := (v.till p.till).pendingSkims ++ [(appliedSkim p g v).entry] }) ∧
    (∀ m, m ≠ p.till → (postingApplied p g v).till m = v.till m) ∧
    OnlyTills { v with tau.postings := v.tau.postings.erase p } (postingApplied p g v) := by
  have suits := List.find?_some found
  simp only [Bool.and_eq_true, decide_eq_true_eq] at suits
  obtain ⟨own, others, only⟩ := remembered_effect (g := g) (v := { v with tau.postings := v.tau.postings.erase p }) suits.1 room
  have valid : p.till ∈ tillNumbers := List.mem_range'_1.mpr ⟨low, by omega⟩
  refine ⟨?_, ⟨_, own⟩, others, only⟩
  exact findPending_newest (e := (appliedSkim p g v).entry) valid
    (fun m mem other => by rw [postingApplied, others m other]; exact unnamed m mem) (congrArg Till.pendingSkims own)
    (unnamed p.till valid) rfl

/-- R94: the till whose posting a drop has applied: one more bag outstanding, and the skim gone from its list again. -/
theorem appliedTill {t : Till} {flag : Bool} (inSession : (v.till p.till).state.inSession = true)
    (unnamed : ∀ e ∈ (v.till p.till).pendingSkims, e.tagNo ≠ g)
    (own : t = { ((v.till p.till).accumulate .skim p.amount).reckon with
      overLimit := flag, pendingSkims := (v.till p.till).pendingSkims ++ [(appliedSkim p g v).entry] }) :
    { skimExpected (appliedSkim p g v) (skimTaken (appliedSkim p g v) t) with overLimit := false } =
      { ((v.till p.till).accumulate .skim p.amount).reckon with
        outstanding := (((v.till p.till).accumulate .skim p.amount).reckon).outstanding + 1, overLimit := false } := by
  obtain ⟨state, session, -, pending, -⟩ := accumulate_fields (v.till p.till) .skim p.amount
  have fresh : (appliedSkim p g v).entry ∉ (v.till p.till).pendingSkims := fun mem => unnamed _ mem rfl
  have erased : ((v.till p.till).pendingSkims ++ [(appliedSkim p g v).entry]).erase (appliedSkim p g v).entry =
      (v.till p.till).pendingSkims := by
    rw [List.erase_append_right _ fresh, List.erase_cons_head, List.append_nil]
  subst own
  unfold skimExpected skimTaken
  dsimp only
  rw [erased, if_pos ⟨session, by rw [state]; exact inSession⟩, ← pending]

end Search

/-! ## A DROP record as a whole -/

/-- R170: what a DROP leaves of the state it found, and of the state `w` in which its bag is recorded. -/
structure DropEnds (n : Nat) (s w t : State) : Prop where
  count : (t.safe n).count = min 9999 ((s.safe n).count + 1)
  full : (s.safe n).count = 39 → (t.safe n).causes.full = true
  door : (t.safe n).door = (s.safe n).door
  others : ∀ m, m ≠ n → (t.safe m).count = (s.safe m).count ∧ (t.safe m).door = (s.safe m).door
  csc : t.csc = { s.csc with safes := t.csc.safes }
  notices : onlyNotices s t
  ubc : t.ubc = { s.ubc with commands := t.ubc.commands }
  sys : t.sys = s.sys
  cru : t.cru = s.cru
  clc : t.clc = s.clc
  rcu : t.rcu = s.rcu
  wcu : t.wcu = s.wcu
  hoc : t.hoc = s.hoc
  acu : t.acu = w.acu
  tau : t.tau = w.tau
  bgr : t.bgr = w.bgr

section Drop

variable {n r g : Nat} {tag ref : Option Nat} {s u w : State}

theorem dropEnds_of (recorded : Recorded s w) (n : Nat) (tag ref : Option Nat) : DropEnds n s w (countInSafe n tag ref w) := by
  have counted := countInSafe_effect n tag ref w
  obtain ⟨⟨notices, ubc, csc, safes⟩, sys, cru, clc, rcu, wcu, hoc⟩ := recorded
  generalize countInSafe n tag ref w = t at counted
  obtain ⟨count, full, door, others, tcsc, frame, queue, tubc⟩ := counted
  refine ⟨?_, fun nearly => full ?_, ?_, fun m other => ?_, ?_, onlyNotices_trans notices queue, ?_, ?_, ?_, ?_, ?_, ?_, ?_, ?_, ?_, ?_⟩
  · rw [count, (safes n).2.1]
  · rw [(safes n).2.1, nearly]
  · rw [door, (safes n).1]
  · rw [others m other]
    exact ⟨(safes m).2.1, (safes m).1⟩
  · rw [tcsc, csc]
  · rw [tubc, ubc]
  · rw [frame]
    exact sys
  · rw [frame]
    exact cru
  · rw [frame]
    exact clc
  · rw [frame]
    exact rcu
  · rw [frame]
    exact wcu
  · rw [frame]
    exact hoc
  all_goals rw [frame]

theorem exec_drop (operates : s.operating = true) (low : 1 ≤ n) (high : n ≤ 6) (valid : ∀ x, tag = some x → 1 ≤ x ∧ x ≤ 99999999) :
    exec (.drop n tag) s = .next (takeDrop n tag s) := by
  refine unitRecord_operating _ _ s operates ?_
  rw [validDrop_of low high]
  cases tag with
  | none => rfl
  | some x =>
    obtain ⟨first, last⟩ := valid x rfl
    exact validTagNo_of first last

theorem takeDrop_of_slot (slot : allocate s = some (r, u)) : takeDrop n tag s = countInSafe n tag (some r) (recordDrop n r tag u) := by
  rw [takeDrop, slot]

theorem takeDrop_overrun (none : allocate s = none) : takeDrop n tag s = countInSafe n tag Option.none s := by
  rw [takeDrop, none]

end Drop

/-! ## CLEAR_DROP_SAFE -/

/-- R171: the live bags of a drop safe. -/
def bagsIn (n : Nat) (u : State) : List Nat := u.refsWhere (fun b => b.state.live && decide (b.custody = .drop n))

/-- R171: those bags at the BENCH. -/
def benched (l : List Nat) (u : State) : State := l.foldl benchBag u

section Clear

variable {n cred : Nat} {u : State}

theorem benchBag_bag (u : State) (r q : Nat) :
    (benchBag u r).bag q = if q = r then (u.bag q).map (fun b => { b with custody := .bench }) else u.bag q := by
  unfold benchBag
  split
  · next none =>
      split
      · next same => rw [same, none]; rfl
      · rfl
  · next b held =>
      rw [putBag_bag]
      split
      · next same => rw [same, held]; rfl
      · rfl

theorem benched_bag (l : List Nat) (u : State) (q : Nat) :
    (benched l u).bag q = if q ∈ l then (u.bag q).map (fun b => { b with custody := .bench }) else u.bag q := by
  unfold benched
  induction l generalizing u with
  | nil => rfl
  | cons r l ih =>
    rw [List.foldl_cons, ih, benchBag_bag]
    by_cases same : q = r
    · subst same
      by_cases again : q ∈ l <;> simp [again, Option.map_map, Function.comp_def]
    · simp [same]

theorem benched_frame (l : List Nat) (u : State) : benched l u = { u with bgr := (benched l u).bgr } ∧
    (benched l u).bgr = { u.bgr with bags := (benched l u).bgr.bags } := by
  have one : ∀ (v : State) r, benchBag v r = { v with bgr := (benchBag v r).bgr } ∧
      (benchBag v r).bgr = { v.bgr with bags := (benchBag v r).bgr.bags } := fun v r => by
    unfold benchBag
    split
    · exact ⟨rfl, rfl⟩
    · exact ⟨rfl, rfl⟩
  unfold benched
  induction l generalizing u with
  | nil => exact ⟨rfl, rfl⟩
  | cons r l ih =>
    obtain ⟨frame, bgr⟩ := one u r
    obtain ⟨later, rest⟩ := ih (benchBag u r)
    rw [List.foldl_cons]
    refine ⟨?_, ?_⟩
    · rw [later, frame]
    · rw [rest, bgr]

theorem mem_bagsIn {r : Nat} {b : Bag} (low : 1 ≤ r) (high : r ≤ 1024) (held : u.bag r = some b) :
    r ∈ bagsIn n u ↔ b.state.live = true ∧ b.custody = .drop n := by
  have valid : r ∈ bagNumbers := List.mem_range'_1.mpr ⟨low, by omega⟩
  simp [bagsIn, State.refsWhere, valid, held]

/-- R171: the safe emptied. -/
def dropCleared (n : Nat) (u : State) : State :=
  setChuteCause n .full false (countWritten n 0 (benched (bagsIn n u) u))

theorem clearDropSafe_ok (authorised : authority custodianAtOffice [cred] u = .ok ()) (low : 1 ≤ n) (high : n ≤ 6)
    (opened : (u.safe n).door.state = .opened) : clearDropSafe n cred u =
      .ok ⟨dropCleared n u, .ok, [fNum 2 (u.safe n).count, fNum 2 (bagsIn n u).length]⟩ :=
  (passed authorised).trans ((pass (validDrop_of low high)).trans ((pass (decide_eq_true opened)).trans rfl))

theorem dropCleared_effect (n : Nat) (u : State) :
    (dropCleared n u).bgr = (benched (bagsIn n u) u).bgr ∧ ((dropCleared n u).safe n).count = 0 ∧
    ((dropCleared n u).safe n).causes.full = false ∧ ((dropCleared n u).safe n).door = (u.safe n).door ∧
    (∀ m, m ≠ n → (dropCleared n u).safe m = u.safe m) ∧
    (dropCleared n u).csc = { u.csc with safes := (dropCleared n u).csc.safes } ∧
    dropCleared n u = { u with
      bgr := (dropCleared n u).bgr, csc := (dropCleared n u).csc, hpt := (dropCleared n u).hpt, ubc := (dropCleared n u).ubc } ∧
    onlyNotices u (dropCleared n u) ∧ (dropCleared n u).ubc = { u.ubc with commands := (dropCleared n u).ubc.commands } := by
  obtain ⟨frame, -⟩ := benched_frame (bagsIn n u) u
  unfold dropCleared
  generalize benched (bagsIn n u) u = w at frame
  have safes : ∀ m, w.safe m = u.safe m := fun m => by rw [frame]; rfl
  have written : ∀ m, (countWritten n 0 w).safe m = if m = n then { u.safe n with count := 0 } else u.safe m := fun m => by
    rw [countWritten, putSafe_safe, safes, safes]
  have bgr : (countWritten n 0 w).bgr = w.bgr := rfl
  have csc : (countWritten n 0 w).csc = { u.csc with safes := (countWritten n 0 w).csc.safes } := by
    rw [frame]
    rfl
  have whole : countWritten n 0 w = { u with bgr := w.bgr, csc := (countWritten n 0 w).csc } := by
    rw [frame]
    rfl
  generalize countWritten n 0 w = y at written bgr csc whole
  have kept := setChuteCause_keepsSafe n (c := .full) (on := false) (v := y)
  have causes : ((setChuteCause n .full false y).safe n).causes.full = false := by
    rw [setChuteCause_safe, if_pos rfl]
    rfl
  have ycsc := setChuteCause_csc n .full false y
  have yubc := setChuteCause_ubc n .full false y
  have yframe := setChuteCause_frame n .full false y
  have notices := setChuteCause_onlyNotices n .full false y
  have ybgr : (setChuteCause n .full false y).bgr = y.bgr := by simp
  generalize setChuteCause n .full false y = t at kept causes ycsc yubc yframe notices ybgr
  have hpt : y.hpt = u.hpt := by rw [whole]
  have ubc : y.ubc = u.ubc := by rw [whole]
  refine ⟨ybgr.trans bgr, ?_, causes, ?_, fun m other => ?_, ?_, ?_, ?_, ?_⟩
  · rw [(kept n).1, written, if_pos rfl]
  · rw [(kept n).2.1, written, if_pos rfl]
  · rw [(kept m).2.2 other, written, if_neg other]
  · rw [ycsc, csc]
  · rw [yframe, whole]
  · unfold onlyNotices at notices ⊢
    rw [notices, hpt]
  · rw [yubc, ubc]

end Clear

end Sys2Proof.Machine

namespace Sys2Proof.Proofs.SafeDrops

open Sys2Proof Sys2Proof.Machine

/-- Settles O53. -/
theorem dropsAndClearing : Obligations.DropsAndClearing := by
  unfold Obligations.DropsAndClearing
  refine ⟨fun s => ⟨rfl, fun g => ⟨fun check => ?_, fun check => ?_, fun check => ?_, fun check => ?_⟩⟩,
    fun s u n r tag operates low high valid slot unnamed => ?undeclared,
    fun s u n r g k e operates low high first last slot unposted found room fits => ?declared,
    fun s u n r g k e operates low high first last slot unposted found fails => ?noRoom,
    fun s u n r g p w operates low high first last slot found tillLow tillHigh inSession none pending unnamed room fits eq => ?applied,
    fun s n tag operates low high valid none => ?overrun, fun s tag n cred taken present low high opened => ?clear⟩
  · simp [dropFlags, check, AnomalyFlags.none]
  · simp [dropFlags, check, AnomalyFlags.none]
  · simp [dropFlags, check, AnomalyFlags.none]
  · rcases check with check | check <;> simp [dropFlags, check, AnomalyFlags.none]
  case undeclared =>
    have execs := (exec_drop operates low high valid).trans (congrArg _ (takeDrop_of_slot slot))
    have tau : u.tau = s.tau := by rw [allocate_eq slot]
    have acu : u.acu = s.acu := by rw [allocate_eq slot]
    have record : recordDrop n r tag u = recordUndeclared n r tag (dropFlags tag u) false u := by
      cases tag with
      | none => rfl
      | some g =>
        obtain ⟨unposted, unpending⟩ := unnamed g rfl
        exact recordDrop_unknown (skimSearch_none (by rw [tau]; exact unposted))
          ((findPending_congr tau).trans (findPending_none unpending))
    have bgr := recordUndeclared_bgr (n := n) (r := r) (tag := tag) (flags := dropFlags tag u) (noRoom := false) (v := u)
    have books : (recordUndeclared n r tag (dropFlags tag u) false u).acu = u.acu ∧
        (recordUndeclared n r tag (dropFlags tag u) false u).tau = u.tau := by simp
    rw [record] at execs
    have ends := dropEnds_of ((allocate_recorded slot).trans (recordUndeclared_recorded (n := n) (r := r) (tag := tag)
      (flags := dropFlags tag u) (noRoom := false))) n tag (some r)
    generalize recordUndeclared n r tag (dropFlags tag u) false u = w at execs bgr books ends
    generalize countInSafe n tag (some r) w = t at execs ends
    have bags := bag_of_set (ends.bgr.trans bgr)
    refine ⟨t, execs, (bags r).trans (if_pos rfl), fun q other => (bags q).trans (if_neg other), ?_, ends.count, ends.full, ends.door,
      ends.others, ends.csc, ends.acu.trans (books.1.trans acu), ends.tau.trans (books.2.trans tau), ends.notices, ends.ubc, ends.sys,
      ends.cru, ends.clc, ends.rcu, ends.wcu, ends.hoc⟩
    rw [ends.bgr, bgr]
  case declared =>
    have execs := (exec_drop (tag := some g) operates low high fun x eq => (by cases eq; exact ⟨first, last⟩)).trans
      (congrArg _ (takeDrop_of_slot slot))
    have tau : u.tau = s.tau := by rw [allocate_eq slot]
    have acu : u.acu = s.acu := by rw [allocate_eq slot]
    have free : u.journalFree = s.journalFree := by rw [State.journalFree, acu, State.journalFree]
    have record : recordDrop n r (some g) u = declaredDrop n r (some g) (dropFlags (some g) u) ⟨k, e⟩ u :=
      (recordDrop_known (skimSearch_none (by rw [tau]; exact unposted)) ((findPending_congr tau).trans found)).trans
        (recordDeclared_of_room (by rw [free]; exact room) (by rw [acu]; exact fits))
    rw [record] at execs
    have bgr := declaredDrop_bgr (n := n) (r := r) (tag := some g) (flags := dropFlags (some g) u) (x := ⟨k, e⟩) (v := u)
    have books := declaredDrop_acu (n := n) (r := r) (tag := some g) (flags := dropFlags (some g) u) (x := ⟨k, e⟩) (v := u)
    have tills := declaredDrop_till (n := n) (r := r) (tag := some g) (flags := dropFlags (some g) u) (x := ⟨k, e⟩) (v := u)
    have leaves := declaredDrop_leavesSkim (n := n) (r := r) (tag := some g) (flags := dropFlags (some g) u) (x := ⟨k, e⟩) (v := u)
    have lists := declaredDrop_lists (n := n) (r := r) (tag := some g) (flags := dropFlags (some g) u) (x := ⟨k, e⟩) (v := u)
    have ends := dropEnds_of ((allocate_recorded slot).trans (declaredDrop_recorded (n := n) (r := r) (tag := some g)
      (flags := dropFlags (some g) u) (x := ⟨k, e⟩))) n (some g) (some r)
    generalize declaredDrop n r (some g) (dropFlags (some g) u) ⟨k, e⟩ u = w at execs bgr books tills leaves lists ends
    generalize countInSafe n (some g) (some r) w = t at execs ends
    have bags := bag_of_set (ends.bgr.trans bgr)
    have same : ∀ m, u.till m = s.till m := fun m => by rw [State.till, tau, State.till]
    have till : ∀ m, t.till m = w.till m := fun m => by rw [State.till, ends.tau, State.till]
    have own : t.till k = { skimExpected ⟨k, e⟩ (skimTaken ⟨k, e⟩ (s.till k)) with overLimit := false } := by
      rw [till, tills, if_pos rfl, same]
    refine ⟨t, execs, (bags r).trans (if_pos rfl), fun q other => (bags q).trans (if_neg other), ?_, ?_, ?_, fun queue => ?_, ?_,
      fun m other => ?_, ?_, ?_, ?_, ends.count, fun m other => (ends.others m other).1, ends.csc, ends.notices, ends.ubc, ends.sys,
      ends.cru, ends.clc, ends.rcu, ends.wcu, ends.hoc⟩
    · rw [ends.bgr, bgr]
    · rw [own]
      rfl
    · rw [own]
    · have leaving := leaves (by rw [tau]; exact queue)
      refine leavesSkim_congr (by rw [tau]) (fun m _ => by rw [same]) ?_
      unfold leavesSkim at leaving ⊢
      rw [ends.tau]
      exact leaving
    · rw [own]
      rfl
    · rw [till, tills, if_neg other, same]
    · rw [ends.tau, lists.1, tau]
    · rw [ends.tau, lists.2, tau]
    · rw [ends.acu, books, nextEntry, acu]
      rfl
  case noRoom =>
    have execs := (exec_drop (tag := some g) operates low high fun x eq => (by cases eq; exact ⟨first, last⟩)).trans
      (congrArg _ (takeDrop_of_slot slot))
    have tau : u.tau = s.tau := by rw [allocate_eq slot]
    have acu : u.acu = s.acu := by rw [allocate_eq slot]
    have free : u.journalFree = s.journalFree := by rw [State.journalFree, acu, State.journalFree]
    have record : recordDrop n r (some g) u =
        recordUndeclared n r (some g) (dropFlags (some g) u) true (removePending ⟨k, e⟩ u) :=
      (recordDrop_known (skimSearch_none (by rw [tau]; exact unposted)) ((findPending_congr tau).trans found)).trans
        (recordDeclared_of_fail (by rw [free, acu]; exact fails))
    rw [record] at execs
    have bgr := recordUndeclared_bgr (n := n) (r := r) (tag := some g) (flags := dropFlags (some g) u) (noRoom := true)
      (v := removePending ⟨k, e⟩ u)
    have books : (recordUndeclared n r (some g) (dropFlags (some g) u) true (removePending ⟨k, e⟩ u)).acu = u.acu := by simp
    have tills : (recordUndeclared n r (some g) (dropFlags (some g) u) true (removePending ⟨k, e⟩ u)).tau =
        (removePending ⟨k, e⟩ u).tau := by simp
    have ends := dropEnds_of ((allocate_recorded slot).trans ((putTill_recorded k (skimTaken ⟨k, e⟩ (u.till k)) u).trans
      (recordUndeclared_recorded (n := n) (r := r) (tag := some g) (flags := dropFlags (some g) u) (noRoom := true)
        (v := removePending ⟨k, e⟩ u)))) n (some g) (some r)
    generalize recordUndeclared n r (some g) (dropFlags (some g) u) true (removePending ⟨k, e⟩ u) = w at execs bgr books tills ends
    generalize countInSafe n (some g) (some r) w = t at execs ends
    have bags := bag_of_set (s := u) (ends.bgr.trans bgr)
    have same : ∀ m, u.till m = s.till m := fun m => by rw [State.till, tau, State.till]
    refine ⟨t, execs, (bags r).trans (if_pos rfl), fun q other => (bags q).trans (if_neg other), ?_, fun m => ?_, ?_, ?_, ends.count,
      ends.notices⟩
    · rw [ends.bgr, bgr]
      rfl
    · rw [State.till, ends.tau, tills]
      refine (removePending_till m).trans ?_
      rw [same, same]
      rfl
    · rw [ends.tau, tills, ← tau]
      rfl
    · rw [ends.acu, books, acu]
  case applied =>
    have execs := (exec_drop (tag := some g) operates low high fun x eq => (by cases eq; exact ⟨first, last⟩)).trans
      (congrArg _ (takeDrop_of_slot slot))
    have tau : u.tau = s.tau := by rw [allocate_eq slot]
    have acu : u.acu = s.acu := by rw [allocate_eq slot]
    have same : ∀ m, u.till m = s.till m := fun m => by rw [State.till, tau, State.till]
    have queued := found
    rw [← tau] at queued
    obtain ⟨sought, ⟨flag, own⟩, others, only⟩ := postingApplied_effect (g := g) (v := u) queued tillLow tillHigh
      (by rw [same]; exact pending) (fun m mem => by rw [same]; exact unnamed m mem)
    have search := skimSearch_applied (g := g) (v := u) queued (by rw [same]; exact inSession) none
    have recorded := only.recorded
    obtain ⟨frame, -, templates, postings⟩ := only
    generalize postingApplied p g u = v at sought own others search recorded frame templates postings
    have vacu : v.acu = s.acu := by rw [frame]; exact acu
    have vbgr : v.bgr = u.bgr := by rw [frame]
    have free : v.journalFree = s.journalFree := by rw [State.journalFree, vacu, State.journalFree]
    have record : recordDrop n r (some g) u = declaredDrop n r (some g) (dropFlags (some g) u) (appliedSkim p g u) v :=
      (recordDrop_known search sought).trans (recordDeclared_of_room (by rw [free]; exact room) (by rw [vacu]; exact fits))
    rw [record] at execs
    have bgr := declaredDrop_bgr (n := n) (r := r) (tag := some g) (flags := dropFlags (some g) u) (x := appliedSkim p g u) (v := v)
    have books := declaredDrop_acu (n := n) (r := r) (tag := some g) (flags := dropFlags (some g) u) (x := appliedSkim p g u) (v := v)
    have tills := declaredDrop_till (n := n) (r := r) (tag := some g) (flags := dropFlags (some g) u) (x := appliedSkim p g u) (v := v)
    have lists := declaredDrop_lists (n := n) (r := r) (tag := some g) (flags := dropFlags (some g) u) (x := appliedSkim p g u) (v := v)
    have ends := dropEnds_of ((allocate_recorded slot).trans ((⟨onlyChutes_of_eq u { u with tau.postings := u.tau.postings.erase p }
      rfl rfl rfl, rfl, rfl, rfl, rfl, rfl, rfl⟩ : Recorded u { u with tau.postings := u.tau.postings.erase p }).trans (recorded.trans
      (declaredDrop_recorded (n := n) (r := r) (tag := some g) (flags := dropFlags (some g) u) (x := appliedSkim p g u)))))
      n (some g) (some r)
    generalize declaredDrop n r (some g) (dropFlags (some g) u) (appliedSkim p g u) v = y at execs bgr books tills lists ends
    generalize countInSafe n (some g) (some r) y = t at execs ends
    have bags := bag_of_set (ends.bgr.trans bgr)
    have till : ∀ m, t.till m = y.till m := fun m => by rw [State.till, ends.tau, State.till]
    refine ⟨t, execs, ?_, ?_, fun q other => ?_, ?_, ?_, fun m other => ?_, ?_, ?_, ends.count, fun m other => (ends.others m other).1,
      ends.notices, ends.sys, ends.cru, ends.clc, ends.rcu, ends.wcu, ends.hoc⟩
    · rw [ends.tau, lists.1, postings, tau]
    · refine ((bags r).trans (if_pos rfl)).trans ?_
      rw [declaredBag, appliedSkim, same]
      rfl
    · rw [bags, if_neg other, State.bag, vbgr, State.bag]
    · rw [ends.bgr, bgr, vbgr]
    · rw [till, tills]
      refine (if_pos rfl).trans ?_
      refine (appliedTill (by rw [same]; exact inSession) (fun e mem => ?_) own).trans ?_
      · rw [same] at mem
        exact unnamed p.till (List.mem_range'_1.mpr ⟨tillLow, by omega⟩) e mem
      · rw [same, eq]
    · rw [till, tills]
      exact (if_neg other).trans ((others m other).trans (same m))
    · rw [ends.tau, lists.2, templates, tau]
    · rw [ends.acu, books, nextEntry, vacu]
      rfl
  case overrun =>
    have execs := (exec_drop operates low high valid).trans (congrArg _ (takeDrop_overrun none))
    have counted := countInSafe_effect n tag Option.none s
    have notice := countInSafe_overrun (n := n) (tag := tag) (v := s)
    generalize countInSafe n tag Option.none s = t at execs counted notice
    obtain ⟨count, -, door, others, csc, frame, queue, ubc⟩ := counted
    refine ⟨t, execs, ?_, ?_, ?_, count, door, others, csc, queue, notice, ?_, ?_, ?_, ?_, ?_, ?_⟩
    all_goals rw [frame]
  case clear =>
    have ok := exec_ok (i := .clearDropSafe tag n cred) rfl taken
      (clearDropSafe_ok (u := takeFrom s) (custodianAtOffice_ok cred s present) low high opened)
    obtain ⟨bgr, count, full, door, others, csc, frame, notices, ubc⟩ := dropCleared_effect n (takeFrom s)
    have bags := benched_bag (bagsIn n (takeFrom s)) (takeFrom s)
    obtain ⟨-, table⟩ := benched_frame (bagsIn n (takeFrom s)) (takeFrom s)
    generalize dropCleared n (takeFrom s) = t at ok bgr count full door others csc frame notices ubc
    have tbags : ∀ q, t.bag q = if q ∈ bagsIn n (takeFrom s) then ((takeFrom s).bag q).map (fun b => { b with custody := .bench })
        else (takeFrom s).bag q := fun q => by
      rw [State.bag, bgr]
      exact bags q
    refine ⟨t, _, ok, fun r b low high held => ?_, fun r free => ?_, count, full, door, others, ?_, csc, frame, notices, ubc⟩
    · have inside := mem_bagsIn (n := n) (u := takeFrom s) low high held
      rw [tbags, show (takeFrom s).bag r = some b from held]
      by_cases dropped : b.state.live = true ∧ b.custody = .drop n
      · rw [if_pos (inside.mpr dropped), if_pos dropped]
        rfl
      · rw [if_neg (fun mem => dropped (inside.mp mem)), if_neg dropped]
    · rw [tbags, show (takeFrom s).bag r = Option.none from free]
      split <;> rfl
    · rw [bgr, table]
      rfl

end Sys2Proof.Proofs.SafeDrops
end

section
/-!
MAKE_DEPOSIT (R180, R181).
-/

namespace Sys2Proof.Machine

open Sys2Proof

set_option Elab.async false

/-- R181: the deposit made: its bag recorded, its lines out of stock and its entry written. -/
def depositMade (r g : Nat) (l : List DepositLine) (u w : State) : State :=
  applyMovement (depositMovement r l u) (recordBag r (newBag g .deposit .office none (depositValue l u) none) w)

section Deposit

variable {r g cred : Nat} {l : List DepositLine} {u w : State}

theorem makeDeposit_ok (authorised : authority custodianAtOffice [cred] u = .ok ()) (low : 1 ≤ g) (high : g ≤ 99999999) (some : l ≠ [])
    (few : l.length ≤ 8) (counts : ∀ x ∈ l, x.slot ≤ 7 ∧ depositCountsOk x = true) (once : (l.map DepositLine.slot).Nodup)
    (day : u.acu.day = .dayOpen) (suits : ∀ x ∈ l, depositLineSuits u x = true) (check : tagCheck g .deposit u = .ok)
    (room : 9 ≤ u.journalFree) (covered : ∀ x ∈ l, depositLineCovered u x = true) (space : 8 < u.available)
    (slot : allocate u = .some (r, w)) : makeDeposit g l cred u =
      .ok ⟨depositMade r g l u w, .ok, [fRef (.some r), fAmount (depositValue l u)]⟩ := by
  have fields : (validTagNo g && !l.isEmpty && decide (l.length ≤ 8) &&
      l.all (fun l => decide (l.slot ≤ 7) && depositCountsOk l) && distinct (l.map DepositLine.slot)) = true := by
    simp only [Bool.and_eq_true, List.all_eq_true, decide_eq_true_eq]
    exact ⟨⟨⟨⟨validTagNo_of low high, by simpa using some⟩, few⟩, counts⟩, distinct_of_nodup once⟩
  have fit : firstFailing (depositLineSuits u) l = none := firstFailing_none suits
  have stock : l.find? (fun l => !depositLineCovered u l) = none := by
    simpa [List.find?_eq_none] using covered
  refine (passed authorised).trans ((pass fields).trans ((pass (decide_eq_true day)).trans ((pass (by rw [fit]; rfl)).trans
    ((passed (requireTag_of check)).trans ((pass (hostRoom (n := 1) room)).trans ((pass (by rw [stock]; rfl)).trans
      ((ok_bind (requireAllocation_of space slot)).trans rfl)))))))

theorem depositMade_bgr : (depositMade r g l u w).bgr = { w.bgr with
    bags := Table.set none w.bgr.bags r (some (newBag g .deposit .office none (depositValue l u) none)) } := by
  obtain ⟨-, -, -, bgr, -⟩ := applyMovement_frame (depositMovement r l u)
    (recordBag r (newBag g .deposit .office none (depositValue l u) none) w)
  exact bgr.trans (recordBag_bgr ..)

theorem depositMade_acu (slot : allocate u = some (r, w)) : (depositMade r g l u w).acu = { u.acu with
    stock := (l.map depositChange).foldl applyStock u.acu.stock
    journal := u.acu.journal ++ [nextEntry u .stockToBag (some r) none (depositValue l u) 0]
    nextSeq := seqAfter u.acu.nextSeq } := by
  have acu : w.acu = u.acu := by rw [allocate_eq slot]
  have same : ∀ b, (recordBag r b w).acu = u.acu := fun b => by simp [acu]
  have charge : ∀ v, chargeAccount (depositMovement r l u).charge v = v := fun v => rfl
  rw [depositMade, applyMovement_acu_eq, charge, same]
  simp [depositMovement, Movement.delta, writtenEntries, nextEntry, seqAfterAll]

theorem depositMade_frame (slot : allocate u = some (r, w)) : Recorded u (depositMade r g l u w) ∧ (depositMade r g l u w).tau = u.tau := by
  have recorded := allocate_recorded slot
  have tau : w.tau = u.tau := by rw [allocate_eq slot]
  refine ⟨recorded.trans ⟨onlyChutes_trans _ _ _ (recordBag_onlyChutes ..) (applyMovement_onlyChutes ..), by simp [depositMade],
    by simp [depositMade], by simp [depositMade], by simp [depositMade], by simp [depositMade], by simp [depositMade]⟩, ?_⟩
  rw [depositMade, applyMovement_tau_of_none _ rfl]
  simpa using tau

/-- R181: each line's pieces leave its slot, and no other slot changes. -/
theorem depositStock (l : List DepositLine) (t : Table SlotStock) :
    (∀ i, i ∉ l.map DepositLine.slot → Table.get SlotStock.initial ((l.map depositChange).foldl applyStock t) i =
      Table.get SlotStock.initial t i) ∧
    ((l.map DepositLine.slot).Nodup → ∀ x ∈ l, Table.get SlotStock.initial ((l.map depositChange).foldl applyStock t) x.slot =
      ⟨(Table.get SlotStock.initial t x.slot).strapped - x.strapped.getD 0, (Table.get SlotStock.initial t x.slot).loose,
       (Table.get SlotStock.initial t x.slot).unfit - x.unfit.getD 0, (Table.get SlotStock.initial t x.slot).coin - x.coin.getD 0⟩) := by
  rw [List.foldl_map]
  have leaves : ∀ a b : Nat, ((a : Int) + -(b : Int)).toNat = a - b := fun a b => by omega
  refine Table.get_foldl_write (g := fun t x => applyStock t (depositChange x)) (key := DepositLine.slot)
    (f := fun k x => ⟨k.strapped - x.strapped.getD 0, k.loose, k.unfit - x.unfit.getD 0, k.coin - x.coin.getD 0⟩) (fun t x i => ?_) l t
  rw [get_applyStock]
  by_cases same : i = x.slot
  · rw [if_pos same, if_pos (show i = (depositChange x).slot from same), depositChange, leaves, leaves, leaves, Int.add_zero, Int.toNat_natCast]
  · rw [if_neg same, if_neg (show i ≠ (depositChange x).slot from same)]

end Deposit

end Sys2Proof.Machine

namespace Sys2Proof.Proofs.Deposits

open Sys2Proof Sys2Proof.Machine

/-- Settles O55. -/
theorem makeDeposit : Obligations.MakeDeposit := by
  unfold Obligations.MakeDeposit
  intro s u tag g cred r l taken present low high some few counts once day suits check room covered space slot
  have body := makeDeposit_ok (u := takeFrom s) (custodianAtOffice_ok cred s present) low high some few counts once day suits check room
    covered space slot
  have ok := exec_ok (i := .makeDeposit tag g l cred) rfl taken body
  have acu := depositMade_acu (g := g) (l := l) slot
  have bgr := depositMade_bgr (r := r) (g := g) (l := l) (u := takeFrom s) (w := u)
  obtain ⟨⟨chutes, sys, cru, clc, rcu, wcu, hoc⟩, tau⟩ := depositMade_frame (g := g) (l := l) slot
  generalize depositMade r g l (takeFrom s) u = t at ok acu bgr chutes sys cru clc rcu wcu hoc tau
  have bags := bag_of_set bgr
  obtain ⟨others, own⟩ := depositStock l s.acu.stock
  have stock : t.acu.stock = (l.map depositChange).foldl applyStock s.acu.stock := by rw [acu]; rfl
  refine ⟨t, ok, (bags r).trans (if_pos rfl), fun q other => (bags q).trans (if_neg other), by rw [bgr], fun x mem => ?_,
    fun i outside => ?_, ?_, chutes, sys, cru, tau, clc, rcu, wcu, hoc⟩
  · rw [State.slotStock, stock]
    exact own once x mem
  · rw [State.slotStock, stock]
    exact others i outside
  · rw [stock]
    exact acu

end Sys2Proof.Proofs.Deposits
end

section
/-!
The COLD start, RESET and the loss of supply (R201 to R203).
-/

namespace Sys2Proof.Machine

open Sys2Proof

set_option Elab.async false

/-! ## Without the supply -/

section Unpowered

variable {s : State}

theorem event_unpowered (f : State → State) (off : s.operating = false) : event f s = .next s := if_neg (by simp [off])

theorem valid_event_unpowered (ok : Bool) (f : State → State) (off : s.operating = false) :
    (if ok then event f s else .next s) = .next s := by
  rw [event_unpowered f off, ite_self]

theorem background_unpowered (f : State → State) (off : s.sys.powered = false) : background f s = .next s := if_neg (by simp [off])

theorem unitRecord_unpowered (ok : Bool) (f : State → State) (off : s.sys.powered = false) : unitRecord ok f s = .next s :=
  if_pos (by simp [off])

theorem hostRequest_unpowered (q : RequestForm) (i : Instr) (off : s.operating = false) :
    hostRequest i q.tag q.kind q.body s = .next s := if_pos (by simp [off])

/-- R203: without the supply nothing but a start, the clock, a loss and the level of PANIC has an effect. -/
theorem exec_unpowered {i : Instr} (off : s.sys.powered = false) (panic : ∀ e, i ≠ .panicEdge e) (tick : i ≠ .clockTick)
    (cold : i ≠ .coldStart) (power : i ≠ .powerStart) (loss : ∀ b, i ≠ .lossOfSupply b) : exec i s = .next s := by
  have idle : s.operating = false := by simp [State.operating, off]
  cases asked : requestOf i with
  | some q => exact (exec_of_requestOf i q s asked).trans (hostRequest_unpowered q i idle)
  | none =>
    cases i <;> simp only [requestOf, reduceCtorEq] at asked
    case frameReceived bytes => exact event_unpowered (fun s => bytes.foldl feedByte s) idle
    case frameTimeout => exact event_unpowered _ idle
    case messageSend => exact event_unpowered _ idle
    case note => exact unitRecord_unpowered _ _ off
    case pocket => exact unitRecord_unpowered _ _ off
    case jam => exact unitRecord_unpowered _ _ off
    case badge => exact unitRecord_unpowered _ _ off
    case door => exact unitRecord_unpowered _ _ off
    case drop => exact unitRecord_unpowered _ _ off
    case hatchScan => exact unitRecord_unpowered _ _ off
    case unitRecordDiscarded => exact unitRecord_unpowered _ _ off
    case panicEdge e => exact absurd rfl (panic e)
    case resetAsserted => exact congrArg Host.Outcome.next (if_neg (by simp [off]))
    case lineStart => exact congrArg Host.Outcome.next (if_neg (by simp [off]))
    case coldStart => exact absurd rfl cold
    case powerStart => exact absurd rfl power
    case restartStart => exact if_neg (by simp [idle])
    case clockTick => exact absurd rfl tick
    case presenceExpiry => exact event_unpowered _ idle
    case delayExpiry => exact event_unpowered _ idle
    case dropDelayExpiry => exact valid_event_unpowered _ _ idle
    case confirmWindowExpiry => exact event_unpowered _ idle
    case releaseWindowExpiry => exact valid_event_unpowered _ _ idle
    case openLimitExpiry => exact valid_event_unpowered _ _ idle
    case lockdownHoldExpiry => exact event_unpowered _ idle
    case handoverWindowExpiry => exact event_unpowered _ idle
    case alarmPeriodExpiry => exact event_unpowered _ idle
    case postingApplication => exact background_unpowered _ off
    case valuationBegin => exact background_unpowered _ off
    case valuationCompletion => exact background_unpowered _ off
    case lossOfSupply b => exact absurd rfl (loss b)

end Unpowered

/-! ## Records that are discarded -/

section Discarded

variable {s : State}

theorem unitRecord_discarded {ok : Bool} (f : State → State) (powered : s.sys.powered = true)
    (refused : s.sys.resetAsserted = true ∨ ok = false) :
    unitRecord ok f s = .next { s with ubc.unitErrors := min 65535 (s.ubc.unitErrors + 1) } := by
  refine (if_neg (by simp [powered])).trans (if_pos ?_)
  rcases refused with asserted | wrong <;> simp [*]

/-- R201: a record that no known position sends, or with a field out of its set, is not taken. -/
theorem recordTaken_false {a : Nat} {t : RecordType} {ok : Bool}
    (wrong : ok = false ∨ ∀ p < 21, s.ubc.addrs[p]? = some a → positionSends p t = false) : recordTaken a t ok s = false := by
  rcases wrong with field | unknown
  · simp [recordTaken, field]
  · have none : (List.range 21).any (fun p => decide (s.ubc.addrs[p]? = some a) && positionSends p t) = false := by
      rw [List.any_eq_false]
      intro p mem
      by_cases sent : s.ubc.addrs[p]? = some a
      · simp [unknown p (List.mem_range.mp mem) sent]
      · simp [sent]
    rw [recordTaken, none, Bool.and_false]

end Discarded

/-! ## Addresses -/

theorem address_of_safe {n : Nat} (u : Ubc) (valid : n ∈ safeNumbers) :
    u.address (.door (.drop n)) = u.addrs[7 + n]? ∧ u.address (.chute n) = u.addrs[13 + n]? := by
  have range : 1 ≤ n ∧ n ≤ 6 := by
    simp [safeNumbers] at valid
    omega
  constructor
  · exact congrArg (fun p : Option Nat => p.bind (fun i => u.addrs[i]?)) (if_pos range)
  · exact congrArg (fun p : Option Nat => p.bind (fun i => u.addrs[i]?)) (if_pos range)

theorem address_of_lane {n : Nat} (u : Ubc) (valid : n < 4) : u.address (.lane n) = u.addrs[n]? :=
  congrArg (fun p : Option Nat => p.bind (fun i => u.addrs[i]?)) (if_pos valid)

theorem levelAfter_eq (e : Edge) : levelAfter e = decide (e = .rising) := by cases e <;> rfl

end Sys2Proof.Machine

namespace Sys2Proof.Proofs.Supply

open Sys2Proof Sys2Proof.Machine

/-- Settles O59. -/
theorem coldStartResetAndSupply : Obligations.ColdStartResetAndSupply := by
  unfold Obligations.ColdStartResetAndSupply
  refine ⟨fun s => ⟨coldStart s, rfl, rfl, rfl, rfl, rfl, rfl, rfl, rfl, rfl, rfl, rfl, rfl, rfl, rfl⟩,
    fun s => ⟨fun i off panic tick cold power loss => exec_unpowered off panic tick cold power loss, fun e off => ?_, fun off => ?_,
      fun powered => ?_, fun b => rfl, fun b invalid => ⟨?_, fun powered => ?_⟩, fun a t f powered wrong => ?_,
      fun powered asserted i record => ?_⟩,
    fun p c s => rfl, fun u => ⟨fun n valid => address_of_lane u valid, rfl, rfl, rfl, rfl, fun n valid => address_of_safe u valid, rfl⟩⟩
  · have idle : ¬s.operating = true := by simp [State.operating, off]
    exact (if_neg idle).trans (by rw [levelAfter_eq])
  · have idle : ¬s.operating = true := by simp [State.operating, off]
    exact congrArg (fun v => Host.Outcome.next (tickClock v)) (if_neg idle)
  · exact congrArg Host.Outcome.next (if_pos powered)
  · exact congrArg Host.Outcome.next (if_neg (by simp [invalid]))
  · exact congrArg Host.Outcome.next ((if_pos powered).trans (if_neg (by simp [invalid])))
  · refine unitRecord_discarded id powered ?_
    rcases wrong with field | asserted | unknown
    · exact .inr (recordTaken_false (.inl field))
    · exact .inl asserted
    · exact .inr (recordTaken_false (.inr unknown))
  · rcases record with ⟨n, p, rfl⟩ | ⟨n, rfl⟩ | ⟨n, x, f, b, rfl⟩ | ⟨r, n, p, rfl⟩ | ⟨d, b, rfl⟩ | ⟨n, g, rfl⟩ | ⟨g, rfl⟩
    all_goals exact unitRecord_discarded _ powered (.inl asserted)

end Sys2Proof.Proofs.Supply
end

section
/-!
The starts that keep the retained store (R203).
-/

namespace Sys2Proof.Machine

open Sys2Proof

set_option Elab.async false

/-! ## The bags of the batches and the MANUAL entries -/

/-- R27: a bag that returns to the BENCH without a completed valuation. -/
def returnedBag (b : Bag) : Bag := { b with state := b.beforeCounting, custody := .bench }

theorem returnBag_bag (u : State) (r q : Nat) : (returnBag r u).bag q = if q = r then (u.bag q).map returnedBag else u.bag q := by
  unfold returnBag
  split
  · next free =>
      split
      · next same => rw [same, free]; rfl
      · rfl
  · next b held =>
      rw [putBag_bag]
      split
      · next same => rw [same, held]; rfl
      · rfl

theorem returnedBag_again (b : Bag) : returnedBag (returnedBag b) = returnedBag b := rfl

theorem returnBags_bag (l : List Nat) (u : State) (q : Nat) :
    (returnBags l u).bag q = if q ∈ l then (u.bag q).map returnedBag else u.bag q := by
  unfold returnBags
  induction l generalizing u with
  | nil => rfl
  | cons r l ih =>
    rw [List.foldl_cons, ih, returnBag_bag]
    by_cases same : q = r
    · subst same
      by_cases again : q ∈ l <;> simp [again, Option.map_map, Function.comp_def, returnedBag_again]
    · simp [same]

theorem mem_countingBags (s : State) (r : Nat) : r ∈ s.countingBags ↔
    (∃ n ∈ laneNumbers, (∃ x, (s.lane n).batch = some x ∧ x.ref = r) ∨ ∃ x ∈ (s.lane n).stack, x.batch.ref = r) ∨
      ∃ y, QueueEntry.manual r y ∈ s.rcu.queue := by
  rw [State.countingBags, List.mem_append]
  apply or_congr
  · simp [List.mem_flatMap]
  · rw [List.mem_filterMap]
    constructor
    · rintro ⟨e, mem, eq⟩
      cases e with
      | manual ref y => exact ⟨y, by cases eq; exact mem⟩
      | lane n => cases eq
    · rintro ⟨y, mem⟩
      exact ⟨_, mem, rfl⟩

/-! ## What a start leaves -/

/-- R203: the state of a start before its notices are sent. -/
def startPrepared (c : StartCause) (s : State) : State :=
  let s1 := resetUnitBus (resetHostPort (emptyPresence (abortAtStart (resolveCustody (decide (c = .power)) (abandonCounts s)))))
  { s1 with
    sys := { s1.sys with powered := true, resetAsserted := false, lastCause := c, retentionValid := true }
    ubc.commands := s1.ubc.commands ++ s1.ubc.sends (startCommands s1) }

theorem sendAborted_hpt (w : Option (Nat × Manifest)) (u : State) :
    (sendAborted w u).hpt = { u.hpt with sent := (sendAborted w u).hpt.sent } := by
  cases w <;> rfl

theorem sendAborted_sent (w : Option (Nat × Manifest)) (u : State) : (sendAborted w u).hpt.sent = u.hpt.sent ++
    (w.map (fun x => Message.notice ⟨.manifestClosed,
      closedFields x.1 { x.2 with state := .aborted, timer := none, cause := some .start }⟩)).toList := by
  cases w with
  | none => exact (List.append_nil _).symm
  | some x => rfl

section Start

variable (c : StartCause) (s : State)

theorem warmStart_eq : warmStart c s = sendAborted s.inHandover (sendStart c (startPrepared c s)) := rfl

theorem warmStart_bag (q : Nat) :
    (warmStart c s).bag q = if q ∈ s.countingBags then (s.bag q).map returnedBag else s.bag q := by
  rw [← returnBags_bag]
  simp [State.bag, warmStart, resetUnitBus, resetHostPort, emptyPresence, abandonCounts]

theorem warmStart_lane {n : Nat} (valid : n ∈ laneNumbers) :
    (warmStart c s).lane n = { Lane.initial with state := if s.acu.mode = .opened then .idle else .off } := by
  have lanes : (warmStart c s).clc = (abandonCounts s).clc := by simp [warmStart, resetUnitBus, resetHostPort, emptyPresence]
  rw [State.lane, lanes, abandonCounts]
  dsimp only
  rw [Table.get_update _ _ laneNumbers (by decide), if_pos valid]

theorem warmStart_strongroom : (warmStart c s).door .strongroom = resolveDoor s.csc.policy.openLimit (s.door .strongroom) := by
  simp [State.door, warmStart, resetUnitBus, resetHostPort, emptyPresence, resolveCustody]

theorem warmStart_safe {n : Nat} (valid : n ∈ safeNumbers) : (warmStart c s).safe n = resolveSafe s.csc.policy.openLimit
    (decide ((warmStart c s).available ≤ 8)) (decide ((warmStart c s).journalFree ≤ 8)) s.csc.latch (s.safe n) := by
  simp [State.safe, State.available, State.journalFree, warmStart, resetUnitBus, resetHostPort, emptyPresence, resolveCustody,
    Table.get_update _ _ safeNumbers (by decide), valid]

theorem warmStart_resolves {d : DoorName} (valid : d ∈ allDoors) :
    (warmStart c s).door d = resolveDoor s.csc.policy.openLimit (s.door d) := by
  cases d with
  | strongroom => exact warmStart_strongroom c s
  | drop n =>
    have listed : n ∈ safeNumbers := by simpa [allDoors] using valid
    exact congrArg DropSafe.door (warmStart_safe c s listed)
  | other => exact absurd ((mem_allDoors _).mp valid) (by decide)

theorem resolveDoor_fields (limit : Nat) (x : Door) :
    (resolveDoor limit x).state = (if x.contactOpen then .opened else .secure) ∧ (resolveDoor limit x).lockReleased = false ∧
      (resolveDoor limit x).contactOpen = x.contactOpen ∧
      (resolveDoor limit x).timer = (if x.contactOpen then some limit else none) := by
  unfold resolveDoor
  cases x.contactOpen <;> exact ⟨rfl, rfl, rfl, rfl⟩

theorem warmStart_hoc : (s.inHandover = none → (warmStart c s).hoc = s.hoc) ∧
    ∀ n m, s.inHandover = some (n, m) → (warmStart c s).hoc = (closeRecord n m .aborted .start s).hoc := by
  have hoc : (warmStart c s).hoc = (abortAtStart (resolveCustody (decide (c = .power)) (abandonCounts s))).hoc := by
    simp [warmStart, resetUnitBus, resetHostPort, emptyPresence]
  have held : (resolveCustody (decide (c = .power)) (abandonCounts s)).hoc = s.hoc := by simp
  refine ⟨fun none => ?_, fun n m some => ?_⟩
  · rw [hoc, abortAtStart, inHandover_of_hoc held, none]
    exact held
  · rw [hoc, abortAtStart, inHandover_of_hoc held, some]
    exact closeRecord_hoc n m .aborted .start held

theorem warmStart_sent : (warmStart c s).hpt.sent = s.hpt.sent ++
    [.notice ⟨.start, [fNamed (codeIn StartCause.list c), fNamed 1, fNamed (codeIn DayState.list s.acu.day),
      fNamed (codeIn OfficeMode.list s.acu.mode), fClock s.acu.clock, fFlag s.csc.latch]⟩] ++
    (s.inHandover.map (fun x => Message.notice ⟨.manifestClosed,
      closedFields x.1 { x.2 with state := .aborted, timer := none, cause := some .start }⟩)).toList := by
  have start : (sendStart c (startPrepared c s)).hpt.sent = s.hpt.sent ++
      [.notice ⟨.start, [fNamed (codeIn StartCause.list c), fNamed 1, fNamed (codeIn DayState.list s.acu.day),
        fNamed (codeIn OfficeMode.list s.acu.mode), fClock s.acu.clock, fFlag s.csc.latch]⟩] := by
    simp [sendStart, sendNotice, startPrepared, resetUnitBus, resetHostPort, emptyPresence, retentionCode]
  rw [warmStart_eq, sendAborted_sent, start]

theorem warmStart_hpt :
    (warmStart c s).hpt = ⟨none, [], [], [], true, NoticeEnables.all, false, 0, false, (warmStart c s).hpt.sent⟩ := by
  have prepared : (startPrepared c s).hpt = ⟨none, [], [], [], true, NoticeEnables.all, false, 0, false, s.hpt.sent⟩ := by
    simp [startPrepared, resetUnitBus, resetHostPort, emptyPresence]
  rw [warmStart_eq, sendAborted_hpt, sendStart, sendNotice, prepared]

theorem warmStart_ubc : (warmStart c s).ubc.addrs = strapAddresses ∧ (warmStart c s).ubc.alarm = s.csc.latch ∧
    (warmStart c s).ubc.alarmTimer = none ∧ (warmStart c s).ubc.unitErrors = 0 ∧
    (warmStart c s).ubc.commands = s.ubc.commands ++ (warmStart c s).ubc.sends (startCommands (warmStart c s)) := by
  have addrs : (warmStart c s).ubc.addrs = strapAddresses := by simp [warmStart, resetUnitBus]
  have commands : startCommands (resetUnitBus (resetHostPort (emptyPresence (abortAtStart
      (resolveCustody (decide (c = .power)) (abandonCounts s)))))) = startCommands (warmStart c s) := by
    simp [startCommands, State.safe, warmStart, resetUnitBus, resetHostPort, emptyPresence]
  refine ⟨addrs, by simp [warmStart, resetUnitBus, resetHostPort, emptyPresence], by simp [warmStart, resetUnitBus],
    by simp [warmStart, resetUnitBus], ?_⟩
  have ubc : (warmStart c s).ubc = (startPrepared c s).ubc := by rw [warmStart_eq]; simp
  rw [sends_of_addrs (u := (warmStart c s).ubc) (v := (resetUnitBus (resetHostPort (emptyPresence (abortAtStart
      (resolveCustody (decide (c = .power)) (abandonCounts s)))))).ubc) addrs, ← commands, ubc, startPrepared]
  simp [resetUnitBus, resetHostPort, emptyPresence]

theorem warmStart_blocks (valid : s.sys.storeValid = true) : (warmStart c s).sys = ⟨true, false, c, true, true⟩ ∧
    (warmStart c s).cru = { s.cru with office := [], strongroom := [], hatch := [] } ∧
    (warmStart c s).acu = { s.acu with reserved := 0 } ∧ (warmStart c s).tau = s.tau ∧ (warmStart c s).wcu = s.wcu ∧
    (warmStart c s).rcu = ⟨[], none⟩ ∧ (warmStart c s).bgr = { s.bgr with bags := (warmStart c s).bgr.bags } := by
  have retired : (warmStart c s).bgr.retired = s.bgr.retired ∧ (warmStart c s).bgr.ranges = s.bgr.ranges := by simp
  refine ⟨by simp [warmStart, resetUnitBus, resetHostPort, emptyPresence, valid],
    by simp [warmStart, resetUnitBus, resetHostPort, emptyPresence],
    by simp [warmStart, resetUnitBus, resetHostPort, emptyPresence, abandonCounts], by simp, by simp,
    by simp [warmStart, resetUnitBus, resetHostPort, emptyPresence, abandonCounts], ?_⟩
  dsimp only
  rw [← retired.1, ← retired.2]

theorem warmStart_custody : (warmStart c s).csc.freeze = (s.csc.freeze && decide (c ≠ .power)) ∧
    (s.csc.latch = true → (warmStart c s).csc.holdRunning = true ∧ (warmStart c s).csc.holdTimer = s.csc.policy.lockdownHold) := by
  refine ⟨by simp [warmStart, resetUnitBus, resetHostPort, emptyPresence, resolveCustody], fun latch => ?_⟩
  simp [warmStart, resetUnitBus, resetHostPort, emptyPresence, resolveCustody, latch]

end Start

/-! ## Each start -/

/-- R203: a start of each cause, from a valid store: the state it starts from, and the replies that have left. -/
theorem exec_start {i : Instr} {c : StartCause} {s : State} (valid : s.sys.storeValid = true)
    (start : i = .powerStart ∧ c = .power ∨ i = .lineStart true ∧ c = .line ∧ s.sys.powered = true ∨
      i = .restartStart true ∧ c = .restart ∧ s.operating = true ∧ s.hpt.restartPending = true) :
    ∃ h, exec i s = .next (warmStart c { s with hpt := h }) ∧
      h.sent = s.hpt.sent ++ (if c = .restart then s.hpt.replies.map .reply else []) := by
  have keeps : ∀ c u, u.sys.storeValid = true → startWith c true u = warmStart c u := fun c u ok => if_pos (by simp [ok])
  rcases start with ⟨rfl, rfl⟩ | ⟨rfl, rfl, powered⟩ | ⟨rfl, rfl, operates, pending⟩
  · exact ⟨s.hpt, congrArg Host.Outcome.next (keeps _ _ valid), (List.append_nil _).symm⟩
  · exact ⟨s.hpt, congrArg Host.Outcome.next ((if_pos powered).trans (keeps _ _ valid)), (List.append_nil _).symm⟩
  · refine ⟨(sendReplies s).hpt, ?_, rfl⟩
    exact (if_pos (by simp [operates, pending])).trans (congrArg Host.Outcome.next (keeps _ (sendReplies s) valid))

end Sys2Proof.Machine

namespace Sys2Proof.Proofs.Starts

open Sys2Proof Sys2Proof.Machine

/-- Settles O60. -/
theorem warmStartKeepsRecords : Obligations.WarmStartKeepsRecords := by
  unfold Obligations.WarmStartKeepsRecords
  intro s c valid i start
  obtain ⟨h, exec, left⟩ := exec_start valid start
  obtain ⟨sys, cru, acu, tau, wcu, rcu, bgr⟩ := warmStart_blocks c { s with hpt := h } valid
  obtain ⟨calm, aborted⟩ := warmStart_hoc c { s with hpt := h }
  obtain ⟨addrs, alarm, timer, errors, commands⟩ := warmStart_ubc c { s with hpt := h }
  obtain ⟨freeze, hold⟩ := warmStart_custody c { s with hpt := h }
  have bags := warmStart_bag c { s with hpt := h }
  have lanes := fun n => warmStart_lane (n := n) c { s with hpt := h }
  have doors := fun d => warmStart_resolves (d := d) c { s with hpt := h }
  have safes := fun n => warmStart_safe (n := n) c { s with hpt := h }
  have sent := warmStart_sent c { s with hpt := h }
  have port := warmStart_hpt c { s with hpt := h }
  have settings : (warmStart c { s with hpt := h }).csc.policy = s.csc.policy ∧
      (warmStart c { s with hpt := h }).csc.maintenance = s.csc.maintenance ∧
      (warmStart c { s with hpt := h }).csc.latch = s.csc.latch ∧
      (warmStart c { s with hpt := h }).ubc.panicSel = s.ubc.panicSel := by simp
  obtain ⟨policy, maintenance, latch, sel⟩ := settings
  generalize warmStart c { s with hpt := h } = t at *
  refine ⟨t, exec, sys, cru, acu, tau, wcu, rcu, bgr, fun r => bags r, mem_countingBags s, fun n => lanes n, fun d listed => ?_,
    fun n listed => ?_, policy, maintenance, latch, freeze, hold, alarm, timer, errors, sel, ?_, ?_, ?_, ?_, ?_, ?_, ?_, ?_, ?_, ?_,
    addrs, commands, calm, fun n m now => ?_⟩
  · rw [doors d listed]
    exact resolveDoor_fields ..
  · rw [safes n listed]
    refine ⟨rfl, rfl, rfl, rfl, rfl, rfl, ?_⟩
    change decide ((resolveDoor s.csc.policy.openLimit (s.safe n).door).state ≠ .secure) = (s.safe n).door.contactOpen
    unfold resolveDoor
    cases (s.safe n).door.contactOpen <;> rfl
  · rw [port]
  · rw [port]
  · rw [port]
  · rw [port]
  · rw [port]
  · rw [port]
  · rw [port]
  · rw [port]
  · rw [port]
  · rw [sent, left]
    change _ ++ (s.inHandover.map _).toList = _
    cases s.inHandover with
    | none => rfl
    | some x => rfl
  · have hoc := aborted n m now
    refine ⟨?_, fun k other => ?_, by rw [hoc]; rfl⟩
    · rw [State.manifest, hoc]
      exact (putManifest_manifest ..).trans (if_pos rfl)
    · rw [State.manifest, hoc]
      exact (putManifest_manifest ..).trans (if_neg other)

end Sys2Proof.Proofs.Starts
end

section
/-!
A tally that is merged into stock (R21, R44, R50, R140, R144).
-/

namespace Sys2Proof.Machine

open Sys2Proof

set_option Elab.async false

/-! ## Whether stock can take a tally -/

theorem countFail_none_iff (i now : Nat) (change : Int) :
    countFail i now change = none ↔ 0 ≤ (now : Int) + change ∧ (now : Int) + change ≤ 999999 := by
  have bound : ((maxPieces : Nat) : Int) = 999999 := rfl
  rw [countFail, bound]
  split_ifs with low high
  · exact iff_of_false (by simp) (by omega)
  · exact iff_of_false (by simp) (by omega)
  · exact iff_of_true rfl (by omega)

theorem suspectFail_none_iff (s : State) (i k : Nat) : suspectFail s (i, k) = none ↔ s.suspect i + k ≤ 999999 := by
  have bound : maxPieces = 999999 := rfl
  rw [suspectFail, bound]
  split_ifs with high
  · exact iff_of_false (by simp) (Nat.not_le.mpr high)
  · exact iff_of_true rfl (Nat.not_lt.mp high)

/-- Two searches of a list that agree on its members find the same. -/
theorem findSome_congr {α β : Type} {f g : α → Option β} {l : List α} (same : ∀ x ∈ l, f x = g x) :
    l.findSome? f = l.findSome? g := by
  induction l with
  | nil => rfl
  | cons x l ih =>
    rw [List.findSome?_cons, List.findSome?_cons, same x (by simp), ih fun z mem => same z (by simp [mem])]

/-- R47, R140: the failure of one slot of a merge. -/
def slotFail (y : Tally) (s : State) (i : Nat) : Option MoveFail :=
  (stockFail s (mergeChange y s i)).or (suspectFail s (i, (tallySlot y i).suspect))

theorem mergeChange_slot (y : Tally) (s : State) (i : Nat) : (mergeChange y s i).slot = i := by
  unfold mergeChange
  cases s.denom i <;> rfl

section Fits

variable {y : Tally} {s t : State} {m : Movement}

/-- R47 check 3: a merge fails at the first slot that cannot take its pieces. -/
theorem stockCheck_merge (stock : m.stock = slotNumbers.map (mergeChange y s)) (suspects : m.suspects = mergeSuspects y) :
    stockCheck m s = slotNumbers.findSome? (slotFail y s) := by
  have own : ∀ i ∈ slotNumbers, slotNumbers.filter (fun j => decide (j = i)) = [i] := by decide
  unfold stockCheck
  refine findSome_congr fun i slot => ?_
  rw [stock, suspects, mergeSuspects, List.filter_map, List.filter_map]
  simp only [Function.comp_def, mergeChange_slot, own i slot, List.map_cons, List.map_nil, List.findSome?_cons, List.findSome?_nil]
  unfold slotFail
  cases stockFail s (mergeChange y s i) <;> cases suspectFail s (i, (tallySlot y i).suspect) <;> rfl

theorem mergeFits_eq (y : Tally) (s : State) : mergeFits y s = (slotNumbers.findSome? (slotFail y s)).isNone := by
  rw [mergeFits, stockCheck_merge rfl rfl]

theorem mergeFits_iff (y : Tally) (s : State) : mergeFits y s = true ↔ ∀ i ∈ slotNumbers, slotFail y s i = none := by
  rw [mergeFits_eq, Option.isNone_iff_eq_none, List.findSome?_eq_none_iff]

/-- R140: the slots' failures depend on the table and the counts alone. -/
theorem slotFail_congr (denoms : t.acu.denoms = s.acu.denoms) (stock : t.acu.stock = s.acu.stock)
    (suspects : t.acu.suspects = s.acu.suspects) : slotFail y t = slotFail y s := by
  funext i
  have change : mergeChange y t i = mergeChange y s i := by simp only [mergeChange, State.denom, denoms]
  rw [slotFail, change, stockFail, suspectFail, State.slotStock, State.denom, State.suspect, denoms, stock, suspects]
  rfl

theorem mergeFits_congr (denoms : t.acu.denoms = s.acu.denoms) (stock : t.acu.stock = s.acu.stock)
    (suspects : t.acu.suspects = s.acu.suspects) : mergeFits y t = mergeFits y s := by
  rw [mergeFits_eq, mergeFits_eq, slotFail_congr denoms stock suspects]

/-- R44: a slot with its counts in range and its straps whole takes its pieces exactly when no count passes 999,999. -/
theorem slotFail_none_iff {i : Nat} (strapped : (s.slotStock i).strapped ≤ 999999) (loose : (s.slotStock i).loose ≤ 999999)
    (unfit : (s.slotStock i).unfit ≤ 999999) (coin : (s.slotStock i).coin ≤ 999999)
    (whole : ∀ f k, s.denom i = .note f k → (s.slotStock i).strapped % k = 0) : slotFail y s i = none ↔
      (∀ f k, s.denom i = .note f k → (s.slotStock i).strapped + (tallySlot y i).fit / k * k ≤ 999999 ∧
        (s.slotStock i).loose + (tallySlot y i).fit % k ≤ 999999 ∧
        (s.slotStock i).unfit + (tallySlot y i).unfit ≤ 999999) ∧
      (∀ f, s.denom i = .coin f → (s.slotStock i).coin + (tallySlot y i).coin ≤ 999999) ∧
      s.suspect i + (tallySlot y i).suspect ≤ 999999 := by
  rw [slotFail, Option.or_eq_none_iff, suspectFail_none_iff, ← and_assoc]
  refine and_congr_left fun _ => ?_
  unfold stockFail mergeChange
  cases denom : s.denom i with
  | unused => simp [Option.or_eq_none_iff, countFail_none_iff, noChange, denom, Denom.strap?]; omega
  | coin f =>
    simp [Option.or_eq_none_iff, countFail_none_iff, noChange, denom, Denom.strap?]
    omega
  | note f k =>
    have straps : ((s.slotStock i).strapped + (tallySlot y i).fit / k * k) % k = 0 := by
      rw [Nat.add_mul_mod_self_right]
      exact whole f k denom
    have straps' : (((s.slotStock i).strapped : Int) + (((tallySlot y i).fit / k * k : Nat) : Int)) % (k : Int) = 0 := by
      exact_mod_cast straps
    simp only [Option.or_eq_none_iff, countFail_none_iff, noChange, denom, Denom.strap?, straps', if_true, and_true,
      Denom.note.injEq, reduceCtorEq, false_implies, implies_true]
    constructor
    · rintro ⟨s1, l1, u1, -⟩ f' k' ⟨rfl, rfl⟩
      exact ⟨by exact_mod_cast s1.2, by exact_mod_cast l1.2, by exact_mod_cast u1.2⟩
    · intro h
      obtain ⟨s1, l1, u1⟩ := h f k ⟨rfl, rfl⟩
      omega

/-! ## What a merge leaves -/

/-- R47: the counts of a slot after a change of them. -/
def changedStock (k : SlotStock) (c : StockChange) : SlotStock :=
  ⟨((k.strapped : Int) + c.strapped).toNat, ((k.loose : Int) + c.loose).toNat, ((k.unfit : Int) + c.unfit).toNat,
   ((k.coin : Int) + c.coin).toNat⟩

theorem merged_slotStock {i : Nat} (slot : i ∈ slotNumbers)
    (stock : t.acu.stock = (slotNumbers.map (mergeChange y s)).foldl applyStock s.acu.stock) :
    t.slotStock i = changedStock (s.slotStock i) (mergeChange y s i) := by
  have slots : (slotNumbers.map (mergeChange y s)).map StockChange.slot = slotNumbers := by
    simp [Function.comp_def, mergeChange_slot]
  have own := (Table.get_foldl_write (f := changedStock) get_applyStock (slotNumbers.map (mergeChange y s)) s.acu.stock).2
    (by rw [slots]; decide) (mergeChange y s i) (List.mem_map_of_mem slot)
  rw [mergeChange_slot] at own
  rw [State.slotStock, stock, own]
  rfl

theorem merged_note {i f k : Nat} (slot : i ∈ slotNumbers)
    (stock : t.acu.stock = (slotNumbers.map (mergeChange y s)).foldl applyStock s.acu.stock) (note : s.denom i = .note f k) :
    t.slotStock i = { s.slotStock i with
      strapped := (s.slotStock i).strapped + (tallySlot y i).fit / k * k
      loose := (s.slotStock i).loose + (tallySlot y i).fit % k
      unfit := (s.slotStock i).unfit + (tallySlot y i).unfit } := by
  rw [merged_slotStock slot stock, mergeChange, note]
  simp only [changedStock, noChange, SlotStock.mk.injEq]
  omega

theorem merged_coin {i f : Nat} (slot : i ∈ slotNumbers)
    (stock : t.acu.stock = (slotNumbers.map (mergeChange y s)).foldl applyStock s.acu.stock) (coin : s.denom i = .coin f) :
    t.slotStock i = { s.slotStock i with coin := (s.slotStock i).coin + (tallySlot y i).coin } := by
  rw [merged_slotStock slot stock, mergeChange, coin]
  simp only [changedStock, noChange, SlotStock.mk.injEq]
  omega

theorem merged_suspect {i : Nat} (slot : i ∈ slotNumbers)
    (suspects : t.acu.suspects = (mergeSuspects y).foldl applySuspect s.acu.suspects) :
    t.suspect i = s.suspect i + (tallySlot y i).suspect := by
  have slots : (mergeSuspects y).map Prod.fst = slotNumbers := by simp [mergeSuspects, Function.comp_def]
  have own := (Table.get_foldl_write (f := fun k c => k + c.2) get_applySuspect (mergeSuspects y) s.acu.suspects).2
    (by rw [slots]; decide) (i, (tallySlot y i).suspect) (List.mem_map.mpr ⟨i, slot, rfl⟩)
  rw [State.suspect, suspects, own]
  rfl

end Fits

/-! ## MERGE_BAG -/

section Merge

variable {r cred : Nat} {b : Bag} {y : Tally} {u : State}

/-- R144: the state after a merge. -/
def bagMerged (r : Nat) (b : Bag) (u : State) : State :=
  retireBag r { b with state := .emptied } (applyMovement (mergeMovement r b u) u)

theorem mergeBag_ok (authorised : authority custodianAtOffice [cred] u = .ok ()) (low : 1 ≤ r) (high : r ≤ 1024)
    (held : u.bag r = some b)
    (state : b.state = .confirmed) (fits : checkMovement (mergeMovement r b u) u = none) :
    mergeBag r cred u = .ok ⟨bagMerged r b u, .ok, [fNamed (codeIn BagState.list .emptied)]⟩ := by
  unfold mergeBag
  rw [passed authorised, bagFound low high held, pass (by simp [state]), fits]
  rfl

theorem bagMerged_acu (tally : b.tally = some y) : (bagMerged r b u).acu = { u.acu with
    journal := u.acu.journal ++ [nextEntry u .bagToStock (some r) b.source.till? b.book 0]
    nextSeq := seqAfter u.acu.nextSeq
    stock := (slotNumbers.map (mergeChange y u)).foldl applyStock u.acu.stock
    suspects := (mergeSuspects y).foldl applySuspect u.acu.suspects } := by
  rw [bagMerged, retired_acu, applyMovement_acu_eq, mergeMovement, tally]
  simp [Movement.delta, writtenEntries, nextEntry, seqAfterAll, chargeAccount]

theorem bagMerged_bag (q : Nat) : (bagMerged r b u).bag q = if q = r then some { b with state := .emptied } else u.bag q := by
  have moved : (applyMovement (mergeMovement r b u) u).bag q = u.bag q := by
    rw [State.bag, (applyMovement_frame _ _).2.2.2.1, State.bag]
  rw [bagMerged, retireBag_bag, moved]

/-- R144: the counts after a merge. -/
theorem bagMerged_counts (tally : b.tally = some y) :
    (∀ i ∈ slotNumbers, ∀ f k, u.denom i = .note f k → (bagMerged r b u).slotStock i =
      { u.slotStock i with
        strapped := (u.slotStock i).strapped + (tallySlot y i).fit / k * k
        loose := (u.slotStock i).loose + (tallySlot y i).fit % k
        unfit := (u.slotStock i).unfit + (tallySlot y i).unfit }) ∧
    (∀ i ∈ slotNumbers, ∀ f, u.denom i = .coin f → (bagMerged r b u).slotStock i =
      { u.slotStock i with coin := (u.slotStock i).coin + (tallySlot y i).coin }) ∧
    ∀ i ∈ slotNumbers, (bagMerged r b u).suspect i = u.suspect i + (tallySlot y i).suspect := by
  have acu := bagMerged_acu (r := r) (u := u) tally
  have stock : (bagMerged r b u).acu.stock = (slotNumbers.map (mergeChange y u)).foldl applyStock u.acu.stock := by rw [acu]
  have suspects : (bagMerged r b u).acu.suspects = (mergeSuspects y).foldl applySuspect u.acu.suspects := by rw [acu]
  exact ⟨fun i slot f k note => merged_note slot stock note, fun i slot f coin => merged_coin slot stock coin,
    fun i slot => merged_suspect slot suspects⟩

/-- R30, R144: what a merge leaves of the other blocks. -/
theorem bagMerged_frame : (bagMerged r b u).bgr.retired = u.bgr.retired ++ [r] ∧ (bagMerged r b u).bgr.ranges = u.bgr.ranges ∧
    (bagMerged r b u).tau = u.tau ∧ onlyChutes u (bagMerged r b u) ∧ (bagMerged r b u).sys = u.sys ∧
    (bagMerged r b u).cru = u.cru ∧ (bagMerged r b u).clc = u.clc ∧ (bagMerged r b u).rcu = u.rcu ∧
    (bagMerged r b u).wcu = u.wcu ∧ (bagMerged r b u).hoc = u.hoc := by
  have bgr := retired_bgr (r := r) (mergeMovement r b u) { b with state := .emptied } u
  have tau := retired_tau (r := r) (m := mergeMovement r b u) { b with state := .emptied } u rfl
  unfold bagMerged
  exact ⟨by rw [bgr], by rw [bgr], tau, retired_frame ..⟩

end Merge

end Sys2Proof.Machine
end

section
/-!
A confirmation and the report it makes (R21, R96, R100, R139, R140, R143).
-/

namespace Sys2Proof.Machine

open Sys2Proof

set_option Elab.async false

/-! ## The till that a confirmation reports to -/

section Report

variable {b : Bag} {c : Confirmation} {n k : Nat} {s u w : State}

theorem reportedTill_of (source : b.source = .till n k) (purpose : b.purpose = .takings ∨ b.purpose = .skim) :
    reportedTill b = some (n, k) := by
  unfold reportedTill
  rw [source]
  exact if_pos purpose

theorem source_of_reportedTill (h : reportedTill b = some (n, k)) :
    b.source = .till n k ∧ (b.purpose = .takings ∨ b.purpose = .skim) := by
  unfold reportedTill at h
  split at h
  · split at h
    · next source purpose =>
        obtain ⟨rfl, rfl⟩ := Prod.mk.inj (Option.some.inj h)
        exact ⟨source, purpose⟩
    · cases h
  · cases h
  · cases h
  · cases h

theorem reportedTill_none (h : ∀ n k, b.source ≠ .till n k) : reportedTill b = none := by
  cases r : reportedTill b with
  | none => rfl
  | some x => exact absurd (source_of_reportedTill r).1 (h x.1 x.2)

/-- R96, R100: the till after a report depends on the band and on the till. -/
theorem reportedTillAfter_congr (t : Till) (k : Nat) (v : Int) (floor : u.acu.bandFloor = s.acu.bandFloor)
    (rate : u.acu.bandRate = s.acu.bandRate) : reportedTillAfter t k v u = reportedTillAfter t k v s := by
  rw [reportedTillAfter, floor, rate, reportedTillAfter]

theorem count_charged (t : Till) (x v : Int) :
    ({ t with day := t.day.charge x } : Till).count v = { t.count v with day := t.day.charge x } := by
  unfold Till.count
  dsimp only
  cases addAmount t.counted v <;> rfl

theorem report_charged (t : Till) (x v : Int) (k : Nat) :
    ({ t with day := t.day.charge x } : Till).report k v = { t.report k v with day := t.day.charge x } := by
  have takes : ({ t with day := t.day.charge x } : Till).takesReport k = t.takesReport k := rfl
  rw [Till.report, Till.report, takes, count_charged]
  cases t.takesReport k <;> rfl

/-- R49, R96: the charge of a till's day and its report do not meet. -/
theorem reportedTillAfter_charged (t : Till) (k : Nat) (x v : Int) (s : State) :
    reportedTillAfter { t with day := t.day.charge x } k v s = { reportedTillAfter t k v s with day := t.day.charge x } := by
  have due : ({ t with day := t.day.charge x } : Till).resultDue k = t.resultDue k := rfl
  rw [reportedTillAfter, reportedTillAfter, due, report_charged]
  cases t.resultDue k <;> rfl

theorem resultEntries_none (h : reportedTill c.bag = none) : resultEntries c s = [] := by
  rw [resultEntries, h]

theorem resultEntries_some (h : reportedTill c.bag = some (n, k)) : resultEntries c s =
    if (s.till n).resultDue k then [resultEntry n (reportedTillAfter (s.till n) k c.counted s)] else [] := by
  rw [resultEntries, h]

/-- R100: a report makes one entry at most, and none of them changes the accountability. -/
theorem resultEntries_cases (c : Confirmation) (s : State) :
    resultEntries c s = [] ∨ ∃ n t, resultEntries c s = [resultEntry n t] := by
  unfold resultEntries
  split
  · exact .inl rfl
  · split
    · exact .inr ⟨_, _, rfl⟩
    · exact .inl rfl

end Report

/-! ## The movement of a confirmation -/

section Movement

variable {c : Confirmation} {merge : Bool} {s : State}

theorem confirmMovement_delta (c : Confirmation) (merge : Bool) (s : State) : (confirmMovement c merge s).delta = c.variance := by
  simp only [confirmMovement, Movement.delta, List.map_append, List.sum_append]
  have made : ((resultEntries c s).map EntrySpec.delta).sum = 0 := by
    rcases resultEntries_cases c s with none | ⟨n, t, one⟩
    · rw [none]
      rfl
    · rw [one]
      rfl
  rw [made]
  by_cases zero : c.variance = 0 <;> cases merge <;> simp [zero]

theorem confirmMovement_length (c : Confirmation) (merge : Bool) (s : State) : (confirmMovement c merge s).entries.length ≤ 3 := by
  simp only [confirmMovement, List.length_append]
  have made : (resultEntries c s).length ≤ 1 := by
    rcases resultEntries_cases c s with none | ⟨n, t, one⟩
    · simp [none]
    · simp [one]
  have varied : (if c.variance = 0 then []
      else [(⟨c.entry, some c.ref, c.bag.source.till?, c.variance, c.variance⟩ : EntrySpec)]).length ≤ 1 := by
    split <;> simp
  have merged : (if merge then [(⟨.bagToStock, some c.ref, c.bag.source.till?, c.counted, 0⟩ : EntrySpec)] else []).length ≤ 1 := by
    split <;> simp
  omega

/-- R47, R53: when a confirmation has room and keeps the accountability in range, its merge alone can fail it. -/
def Confirmable (c : Confirmation) (s : State) : Prop :=
  (c.origin = .reserved ∨ c.origin = .host ∧ s.acu.day = .dayOpen ∧ 11 ≤ s.journalFree) ∧
  amountInRange (s.acu.accountability + c.variance) = true

theorem Confirmable.room (h : Confirmable c s) : s.hasRoom c.origin (confirmMovement c merge s).entries.length = true := by
  have few := confirmMovement_length c merge s
  rcases h.1 with origin | ⟨origin, -, room⟩ <;> rw [origin]
  · rfl
  · exact hostRoom (by omega)

theorem Confirmable.check (h : Confirmable c s) :
    checkMovement (confirmMovement c true s) s = slotNumbers.findSome? (slotFail c.tally s) := by
  have stock : stockCheck (confirmMovement c true s) s = slotNumbers.findSome? (slotFail c.tally s) := stockCheck_merge rfl rfl
  have day : (decide (c.origin = .host) && decide (s.acu.day ≠ .dayOpen)) = false := by
    rcases h.1 with origin | ⟨-, day, -⟩ <;> simp [*]
  have origin : (confirmMovement c true s).origin = c.origin := rfl
  unfold checkMovement
  rw [stock, confirmMovement_delta, origin, day, h.room, if_neg (by simp), if_neg (by simp), if_pos h.2]
  cases slotNumbers.findSome? (slotFail c.tally s) <;> rfl

/-- R139, R140: a confirmation takes the tally into stock exactly when stock can take it. -/
theorem Confirmable.confirm (h : Confirmable c s) :
    confirm c s = (applyConfirmation c (mergeFits c.tally s) s, slotNumbers.findSome? (slotFail c.tally s)) := by
  rw [Machine.confirm, h.check, mergeFits_eq]
  cases slotNumbers.findSome? (slotFail c.tally s) <;> rfl

end Movement

/-! ## What a confirmation leaves -/

/-- R139, R140: the record of a confirmed bag. -/
def confirmedBag (c : Confirmation) (merge : Bool) : Bag :=
  { c.bag with
    book := c.counted
    state := if merge then .emptied else .confirmed }

section Apply

variable (c : Confirmation) (merge : Bool) (s : State)

/-- R139: the state before a confirmed bag is recorded. -/
def reported : State := applyReport c (applyMovement (confirmMovement c merge s) s)

theorem applyConfirmation_eq : applyConfirmation c merge s =
    if merge then retireBag c.ref (confirmedBag c merge) (reported c merge s)
    else putBag c.ref (confirmedBag c merge) (reported c merge s) := by
  unfold applyConfirmation confirmedBag reported
  cases merge <;> simp only [Bool.false_eq_true, if_false, if_true]

theorem applyConfirmation_bag (q : Nat) :
    (applyConfirmation c merge s).bag q = if q = c.ref then some (confirmedBag c merge) else s.bag q := by
  have bgr : (reported c merge s).bgr = s.bgr := by simp [reported]
  have before : (reported c merge s).bag q = s.bag q := by rw [State.bag, bgr, State.bag]
  rw [applyConfirmation_eq, ← before]
  cases merge
  · exact putBag_bag ..
  · exact retireBag_bag ..

theorem applyConfirmation_bgr : (applyConfirmation c merge s).bgr = { s.bgr with
    bags := (applyConfirmation c merge s).bgr.bags
    retired := if merge then s.bgr.retired ++ [c.ref] else s.bgr.retired } := by
  have bgr : (reported c merge s).bgr = s.bgr := by simp [reported]
  rw [applyConfirmation_eq]
  cases merge
  · simp [putBag, bgr]
  · simp [retireBag, putBag, bgr]

theorem applyConfirmation_acu : (applyConfirmation c merge s).acu = (applyMovement (confirmMovement c merge s) s).acu := by
  rw [applyConfirmation_eq]
  cases merge <;> simp [reported]

theorem applyConfirmation_tau : (applyConfirmation c merge s).tau = (reported c merge s).tau := by
  rw [applyConfirmation_eq]
  cases merge <;> simp

/-- R139, R141: a confirmation raises CHUTE_LOCKED or nothing. -/
theorem applyConfirmation_notices : ∃ chutes : List Notice, (∀ x ∈ chutes, x.kind = .chuteLocked) ∧
    (applyConfirmation c merge s).hpt = (notifyAll chutes s).hpt := by
  obtain ⟨l, hl, moved⟩ := applyMovement_notices (confirmMovement c merge s) s
  have before : (reported c merge s).hpt = (notifyAll l s).hpt := by
    rw [← moved, reported]
    simp
  rw [applyConfirmation_eq]
  cases merge with
  | false => exact ⟨l, hl, before⟩
  | true =>
    obtain ⟨m, hm, retired⟩ := retireBag_notices c.ref (confirmedBag c true) (reported c true s)
    exact ⟨l ++ m, fun x hx => (List.mem_append.mp hx).elim (hl x) (hm x), notifyAll_trans l m _ _ _ before retired⟩

theorem applyConfirmation_frame : onlyChutes s (applyConfirmation c merge s) ∧ (applyConfirmation c merge s).sys = s.sys ∧
    (applyConfirmation c merge s).cru = s.cru ∧ (applyConfirmation c merge s).clc = s.clc ∧
    (applyConfirmation c merge s).rcu = s.rcu ∧ (applyConfirmation c merge s).wcu = s.wcu ∧
    (applyConfirmation c merge s).hoc = s.hoc := by
  have report : ∀ v, onlyChutes v (applyReport c v) := fun v => onlyChutes_of_eq _ _ (by simp) (by simp) (by simp)
  have chutes : onlyChutes s (reported c merge s) := onlyChutes_trans _ _ _ (applyMovement_onlyChutes ..) (report _)
  refine ⟨?_, by simp, by simp, by simp, by simp, by simp, by simp⟩
  rw [applyConfirmation_eq]
  cases merge
  · exact onlyChutes_trans _ _ _ chutes (onlyChutes_of_eq _ _ rfl rfl rfl)
  · exact onlyChutes_trans _ _ _ chutes (retireBag_onlyChutes ..)

/-- R49, R96, R139: the tills of a confirmation of a till's takings or skim. -/
theorem applyConfirmation_till {n k : Nat} (source : c.bag.source = .till n k)
    (purpose : c.bag.purpose = .takings ∨ c.bag.purpose = .skim)
    (m : Nat) : (applyConfirmation c merge s).till m =
      if m = n then reportedTillAfter { s.till n with day := (s.till n).day.charge c.variance } k c.counted s else s.till m := by
  have charge : (confirmMovement c merge s).charge = some (.till n, c.variance) := by simp [confirmMovement, source, Source.account]
  have moved : ∀ q, (applyMovement (confirmMovement c merge s) s).till q =
      if q = n then { s.till n with day := (s.till n).day.charge c.variance } else s.till q := fun q => by
    rw [State.till, applyMovement_tau, charge]
    exact chargeAccount_till n q c.variance s
  have tills : ∀ v, (applyReport c v).till m = if m = n then reportedTillAfter (v.till n) k c.counted v else v.till m := fun v => by
    rw [applyReport, reportedTill_of source purpose]
    exact putTill_till ..
  have till : (applyConfirmation c merge s).till m = (reported c merge s).till m := by
    rw [State.till, applyConfirmation_tau, State.till]
  rw [till, reported, tills]
  by_cases same : m = n
  · rw [if_pos same, if_pos same, moved, if_pos rfl]
    exact reportedTillAfter_congr _ _ _ (by simp) (by simp)
  · rw [if_neg same, if_neg same, moved, if_neg same]

/-- R49: a confirmation of a bag from no till leaves the tills alone. -/
theorem applyConfirmation_tau_of_other (source : ∀ n k, c.bag.source ≠ .till n k) : (applyConfirmation c merge s).tau = s.tau := by
  have unreported : ∀ v, applyReport c v = v := fun v => by rw [applyReport, reportedTill_none source]
  rw [applyConfirmation_tau, reported, unreported, applyMovement_tau]
  have charge : (confirmMovement c merge s).charge = c.bag.source.account.map (fun a => (a, c.variance)) := rfl
  rw [charge]
  cases named : c.bag.source with
  | till n k => exact absurd named (source n k)
  | courier v => rfl
  | office => rfl
  | unknown => rfl

theorem applyConfirmation_stock : (applyConfirmation c merge s).acu.stock =
      (if merge then (slotNumbers.map (mergeChange c.tally s)).foldl applyStock s.acu.stock else s.acu.stock) ∧
    (applyConfirmation c merge s).acu.suspects =
      (if merge then (mergeSuspects c.tally).foldl applySuspect s.acu.suspects else s.acu.suspects) := by
  rw [applyConfirmation_acu, applyMovement_acu_eq]
  cases merge <;> exact ⟨rfl, rfl⟩

end Apply

/-! ## The announcement of a till's result -/

section Announce

variable {c : Confirmation} {r : WatchResult} {n k : Nat} {s u w : State}

theorem firings_quiet (quiet : ∀ i ∈ slotNumbers, (s.watchEntry i).state = .off ∨ (s.watchEntry i).state = .fired) :
    firings r s = [] := by
  rw [firings, List.filterMap_eq_nil_iff]
  intro i slot
  rw [checkEntry_quiet (quiet i slot)]
  rfl

theorem offer_of_quiet (quiet : ∀ i ∈ slotNumbers, (s.watchEntry i).state = .off ∨ (s.watchEntry i).state = .fired) :
    (offer r s).1 = moveEntries r s := by
  rw [offer_eq, firings_quiet quiet]
  rfl

theorem announceReport_of_none (h : reportedTill c.bag = none) : announceReport c w s = s := by
  rw [announceReport, h]

theorem announceReport_of_open (report : reportedTill c.bag = some (n, k)) (more : (w.till n).resultDue k = false) :
    announceReport c w s = s := by
  rw [announceReport, report]
  exact if_neg (by simp [more])

theorem announceReport_of_due (report : reportedTill c.bag = some (n, k)) (due : (w.till n).resultDue k = true) :
    announceReport c w s = announceResult n s := by
  rw [announceReport, report]
  exact if_pos due

/-- R141: a till's result and its offer while no watch entry is armed. -/
theorem announceReport_quiet (quiet : ∀ i ∈ slotNumbers, (s.watchEntry i).state = .off ∨ (s.watchEntry i).state = .fired) :
    (announceReport c w s).tau = s.tau ∧ (announceReport c w s).clc = s.clc := by
  unfold announceReport announceResult
  split
  · exact ⟨rfl, rfl⟩
  · split
    · dsimp only
      rw [offer_of_quiet (fun i slot => by simpa [State.watchEntry] using quiet i slot)]
      simp
    · exact ⟨rfl, rfl⟩

end Announce

end Sys2Proof.Machine
end

section
/-!
The resolution of a dispute and MERGE_BAG (R142 to R144).
-/

namespace Sys2Proof.Machine

open Sys2Proof

set_option Elab.async false

section Dispute

variable {r a c : Nat} {k : DisputeChoice} {m : Option Tally} {b : Bag} {y : Tally} {value x : Int} {s u : State}

theorem valueTally_congr (denoms : u.acu.denoms = s.acu.denoms) : valueTally y u = valueTally y s := by
  simp only [valueTally, State.denom, denoms]

theorem recordChoice_fields (b : Bag) (y : Tally) : (recordChoice b y).tally = some y ∧ (recordChoice b y).source = b.source ∧
    (recordChoice b y).purpose = b.purpose ∧ (recordChoice b y).custody = b.custody := by
  unfold recordChoice
  split
  · next held => exact ⟨held, rfl, rfl, rfl⟩
  · exact ⟨rfl, rfl, rfl, rfl⟩

/-- R143: the confirmation that a resolution makes. -/
def resolution (r : Nat) (b : Bag) (y : Tally) (value x : Int) : Confirmation :=
  ⟨r, recordChoice b y, y, value, x, .host, .resolve⟩

/-- R140: the state after a confirmation, and STOCK_RANGE when its merge is held. -/
def confirmedWith (c : Confirmation) (u : State) : State :=
  notifyStockRange c.ref (slotNumbers.findSome? (slotFail c.tally u)) (applyConfirmation c (mergeFits c.tally u) u)

/-- R141, R143: the state after a confirmation, its notices and the announcement of the till result it makes. -/
def confirmedAll (c : Confirmation) (u : State) : State := announceReport c u (confirmedWith c u)

theorem confirmedAll_eq (c : Confirmation) (u : State) :
    (confirmedAll c u).bgr = (applyConfirmation c (mergeFits c.tally u) u).bgr ∧
    (confirmedAll c u).acu = (applyConfirmation c (mergeFits c.tally u) u).acu ∧
    (confirmedAll c u).csc.latch = u.csc.latch ∧ (confirmedAll c u).sys = u.sys ∧ (confirmedAll c u).cru = u.cru ∧
    (confirmedAll c u).rcu = u.rcu ∧ (confirmedAll c u).hoc = u.hoc := by
  simp [confirmedAll, confirmedWith]

/-- R141: with no watch entry armed the announcement moves no till and no lane. -/
theorem confirmedAll_quiet (c : Confirmation)
    (quiet : ∀ i ∈ slotNumbers, (u.watchEntry i).state = .off ∨ (u.watchEntry i).state = .fired) :
    (confirmedAll c u).tau = (applyConfirmation c (mergeFits c.tally u) u).tau ∧ (confirmedAll c u).clc = u.clc := by
  have wcu : (confirmedWith c u).wcu = u.wcu := by simp [confirmedWith]
  have still := announceReport_quiet (c := c) (w := u) (s := confirmedWith c u) fun i slot => by
    rw [State.watchEntry, wcu]
    exact quiet i slot
  refine ⟨still.1.trans ?_, still.2.trans ?_⟩ <;> simp [confirmedWith]

theorem confirmedAll_bag (c : Confirmation) (u : State) (q : Nat) :
    (confirmedAll c u).bag q = if q = c.ref then some (confirmedBag c (mergeFits c.tally u)) else u.bag q := by
  rw [← applyConfirmation_bag, State.bag, (confirmedAll_eq c u).1, State.bag]

theorem confirmedAll_retired (c : Confirmation) (u : State) :
    (confirmedAll c u).bgr.retired = if mergeFits c.tally u then u.bgr.retired ++ [c.ref] else u.bgr.retired := by
  rw [(confirmedAll_eq c u).1, applyConfirmation_bgr]

theorem confirmedAll_held {c : Confirmation} (held : mergeFits c.tally u = false) :
    (confirmedAll c u).acu.stock = u.acu.stock ∧ (confirmedAll c u).acu.suspects = u.acu.suspects := by
  have counts := applyConfirmation_stock c (mergeFits c.tally u) u
  rw [(confirmedAll_eq c u).2.1]
  rw [held] at counts ⊢
  exact counts

theorem confirmedAll_figures {c : Confirmation} (host : c.origin = .host) :
    (confirmedAll c u).acu.accountability = u.acu.accountability + c.variance ∧
    (confirmedAll c u).acu.reserved = u.acu.reserved := by
  have origin : (confirmMovement c (mergeFits c.tally u) u).origin = .host := host
  rw [(confirmedAll_eq c u).2.1, applyConfirmation_acu, applyMovement_acu_eq, confirmMovement_delta, origin]
  exact ⟨rfl, rfl⟩

theorem valuationResult_of {floor : Int} {rate : Nat} {book : Int} (variance : subAmount value book = some x) :
    valuationResult (some value) book floor rate =
      ⟨some value, some x, some (bandOf floor rate book), classify x (bandOf floor rate book)⟩ := by
  rw [valuationResult, variance]

/-- R142, R143: a dispute settled, with room for its entries. -/
theorem settleDispute_ok (valued : valueTally y u = some value) (variance : subAmount value b.book = some x)
    (sound : Confirmable (resolution r b y value x) u) : ∃ f, settleDispute r b y u =
      ⟨confirmedAll (resolution r b y value x) u, .ok, f⟩ := by
  have room : u.hasRoom .host (confirmMovement ⟨r, recordChoice b y, y, value, x, .host, .resolve⟩ true u).entries.length = true :=
    sound.room (merge := true)
  have range : amountInRange (u.acu.accountability + x) = true := sound.2
  have confirmed := sound.confirm
  unfold resolution at confirmed
  unfold settleDispute
  rw [valued, valuationResult_of variance]
  dsimp only
  rw [range, room, confirmed]
  exact ⟨_, rfl⟩

theorem resolveDispute_ok (authorised : authority twoSupervisors [a, c] u = .ok ()) (low : 1 ≤ r) (high : r ≤ 1024)
    (manual : manualTallyOk k m u = true) (held : u.bag r = some b) (state : b.state = .disputed) (chosen : chosenTally b k m = some y)
    (day : u.acu.day = .dayOpen) : resolveDispute r (some k) m a c u = .ok (settleDispute r b y (snoopFor b u)) := by
  have valid : validRef r = true := by simp [validRef, low, high]
  unfold resolveDispute
  rw [passed authorised, pass valid, found rfl, pass manual, found held, pass (by simp [state]), found chosen, pass (by simp [day])]

end Dispute

theorem snoopFor_of_other {b : Bag} {s : State} (source : ∀ n k, b.source ≠ .till n k) : snoopFor b s = s := by
  have due : snoopDue b s = none := by
    unfold snoopDue
    cases named : b.source with
    | till n k => exact absurd named (source n k)
    | courier v => rfl
    | office => rfl
    | unknown => rfl
  rw [snoopFor, due]

end Sys2Proof.Machine

namespace Sys2Proof.Proofs.Disputes

open Sys2Proof Sys2Proof.Machine

/-- Settles O46. -/
theorem mergeAndResolve : Obligations.MergeAndResolve := by
  unfold Obligations.MergeAndResolve
  refine ⟨?merge, ?resolve, ?fits⟩
  case merge =>
    intro s tag r cred b y taken present low high held state tally fits
    have body := mergeBag_ok (u := takeFrom s) (custodianAtOffice_ok cred s present) low high held state fits
    have ok := exec_ok (i := .mergeBag tag r cred) rfl taken body
    have bags := bagMerged_bag (r := r) (b := b) (u := takeFrom s)
    have acu := bagMerged_acu (r := r) (u := takeFrom s) tally
    obtain ⟨notes, coins, suspects⟩ := bagMerged_counts (r := r) (u := takeFrom s) tally
    obtain ⟨retired, ranges, tau, chutes, sys, cru, clc, rcu, wcu, hoc⟩ := bagMerged_frame (r := r) (b := b) (u := takeFrom s)
    generalize bagMerged r b (takeFrom s) = t at ok bags acu notes coins suspects retired ranges tau chutes sys cru clc rcu wcu hoc
    refine ⟨t, _, ok, bags, retired, ranges, notes, coins, suspects, (congrArg Acu.accountability acu).trans rfl,
      (congrArg Acu.journal acu).trans rfl, (congrArg Acu.reserved acu).trans rfl, (congrArg Acu.denoms acu).trans rfl, tau, chutes,
      sys, cru, clc, rcu, wcu, hoc⟩
  case resolve =>
    intro s u tag r a c choice m b y value x taken first second distinct low high manual held state chosen day quiet snooped valued
      variance range room
    have body := resolveDispute_ok (u := takeFrom s) (twoSupervisors_ok a c s first second distinct) low high manual held state chosen day
    have ok := exec_ok (i := .resolveDispute tag r (some choice) m a c) rfl taken body
    have kept : u.acu.denoms = s.acu.denoms ∧ u.acu.day = s.acu.day ∧ u.wcu = s.wcu ∧ u.bgr.retired = s.bgr.retired ∧
        u.acu.stock = s.acu.stock ∧ u.acu.suspects = s.acu.suspects ∧ u.acu.reserved = s.acu.reserved ∧ u.csc.latch = s.csc.latch ∧
        u.sys = s.sys ∧ u.cru = s.cru ∧ u.clc = s.clc ∧ u.rcu = s.rcu ∧ u.hoc = s.hoc := by
      rw [snooped]
      simp
    obtain ⟨denoms, day', wcu, retired, stock, suspects, reserved, latch, sys, cru, clc, rcu, hoc⟩ := kept
    have untilled : (∀ n k, b.source ≠ .till n k) → u = takeFrom s := fun source => snooped.trans (snoopFor_of_other source)
    have valued' : valueTally y u = some value := by rw [valueTally_congr denoms, valued]
    have sound : Confirmable (resolution r b y value x) u := ⟨.inr ⟨rfl, day'.trans day, room⟩, range⟩
    obtain ⟨f, settled⟩ := settleDispute_ok valued' variance sound
    rw [← snooped, settled] at ok
    obtain ⟨tally, source, purpose, custody⟩ := recordChoice_fields b y
    obtain ⟨-, acu, latch', sys', cru', rcu', hoc'⟩ := confirmedAll_eq (resolution r b y value x) u
    obtain ⟨tau, clc'⟩ := confirmedAll_quiet (resolution r b y value x) fun i slot => by
      rw [State.watchEntry, wcu]
      exact quiet i slot
    have bags := confirmedAll_bag (resolution r b y value x) u
    have retire := confirmedAll_retired (resolution r b y value x) u
    have stays : mergeFits y u = false → _ := fun held => confirmedAll_held (u := u) (c := resolution r b y value x) held
    obtain ⟨accountability, reserve⟩ := confirmedAll_figures (u := u) (c := resolution r b y value x) rfl
    have figures := applyConfirmation_acu (resolution r b y value x) (mergeFits y u) u
    have tills : ∀ n k, b.source = .till n k → _ := fun n k named =>
      applyConfirmation_till (resolution r b y value x) (mergeFits y u) u (n := n) (k := k) (source.trans named)
    have others := applyConfirmation_tau_of_other (resolution r b y value x) (mergeFits y u) u
    replace acu := acu.trans figures
    generalize confirmedAll (resolution r b y value x) u = t at *
    have till : ∀ q, t.till q = (applyConfirmation (resolution r b y value x) (mergeFits y u) u).till q := fun q => by
      rw [State.till, tau, State.till]
      rfl
    refine ⟨untilled, t, f, confirmedBag (resolution r b y value x) (mergeFits y u), ok, (bags r).trans (if_pos rfl), rfl, tally, source,
      custody, fun q other => (bags q).trans (if_neg other),
      fun fits => ⟨congrArg (fun m => if m then BagState.emptied else .confirmed) fits, ?_⟩,
      fun full => ?_, acu, accountability,
      reserve.trans reserved, fun n k named suits => ?_, fun named => ?_, latch'.trans latch, sys'.trans sys, cru'.trans cru,
      clc'.trans clc, rcu'.trans rcu, hoc'.trans hoc⟩
    · exact (retire.trans (if_pos fits)).trans (congrArg (· ++ [r]) retired)
    · obtain ⟨stock', suspects'⟩ := stays full
      exact ⟨congrArg (fun m => if m then BagState.emptied else .confirmed) full,
        (retire.trans (if_neg (Bool.not_eq_true _ ▸ full))).trans
        retired, stock'.trans stock, suspects'.trans suspects⟩
    · have moved := tills n k named (purpose.symm ▸ suits)
      exact ⟨(till n).trans ((moved n).trans (if_pos rfl)), fun q other => (till q).trans ((moved q).trans (if_neg other))⟩
    · have still := others fun n k => source.symm ▸ named n k
      rw [tau]
      refine still.trans ?_
      rw [untilled named]
      rfl
  case fits =>
    intro y s counts
    rw [mergeFits_iff]
    refine forall_congr' fun i => forall_congr' fun slot => ?_
    obtain ⟨strapped, loose, unfit, coin, whole⟩ := counts i slot
    exact slotFail_none_iff strapped loose unfit coin whole

end Sys2Proof.Proofs.Disputes
end

section
/-!
A second offer (R141): what it leaves alone of the watch entries and the lanes; and the lane, the queue and the first held slot
of a completed valuation (R120, R138, R140).
-/

namespace Sys2Proof.Machine

open Sys2Proof

set_option Elab.async false

/-! ## Tables whose first keys are written in turn -/

section Update

variable {α : Type} {d : α} {f g : α → α} {t : Table α} {n : Nat}

/-- The entries of a table at and above a key, in their order. -/
def Table.above (n : Nat) (t : Table α) : Table α := t.filter (fun p => decide (n ≤ p.1))

theorem Table.erase_eq_filter (t : Table α) (i : Nat) : Table.erase t i = t.filter (fun p => decide (p.1 ≠ i)) := by
  induction t with
  | nil => rfl
  | cons p t ih =>
    obtain ⟨k, v⟩ := p
    by_cases same : k = i <;> simp [Table.erase, same, ih]

theorem Table.erase_keys (l : Table α) (t : Table α) (low : ∀ p ∈ l, p.1 < n) :
    Table.erase (l ++ Table.above n t) n = l ++ Table.above (n + 1) t := by
  rw [Table.erase_eq_filter, List.filter_append, Table.above, Table.above, List.filter_filter]
  congr 1
  · exact List.filter_eq_self.mpr fun p mem => by simp [Nat.ne_of_lt (low p mem)]
  · refine List.filter_congr fun p _ => ?_
    rw [← Bool.decide_and, decide_eq_decide]
    omega

theorem Table.place_keys (l r : Table α) (v : α) (low : ∀ p ∈ l, p.1 < n) (high : ∀ p ∈ r, n < p.1) :
    Table.place n v (l ++ r) = l ++ (n, v) :: r := by
  induction l with
  | nil =>
    cases r with
    | nil => rfl
    | cons p r => exact if_pos (high p (by simp))
  | cons p l ih =>
    have below := low p (by simp)
    rw [List.cons_append, Table.place, if_neg (by omega), ih fun q mem => low q (by simp [mem])]
    rfl

variable [DecidableEq α]

/-- The listing of the first `n` keys of a table with `f` applied. -/
def Table.firstKeys (d : α) (f : α → α) (n : Nat) (t : Table α) : Table α :=
  (List.range n).filterMap (fun i => if f (Table.get d t i) = d then none else some (i, f (Table.get d t i)))

theorem Table.firstKeys_lt {p : Nat × α} (h : p ∈ Table.firstKeys d f n t) : p.1 < n := by
  obtain ⟨i, mem, eq⟩ := List.mem_filterMap.mp h
  split at eq
  · cases eq
  · rw [← Option.some.inj eq]
    exact List.mem_range.mp mem

/-- The first `n` keys written in turn stand at the head of the table, in order. -/
theorem Table.update_range (d : α) (f : α → α) (n : Nat) (t : Table α) :
    Table.update d f (List.range n) t = Table.firstKeys d f n t ++ Table.above n t := by
  induction n with
  | zero => simp [Table.update, Table.firstKeys, Table.above]
  | succ n ih =>
    have low : ∀ p ∈ Table.firstKeys d f n t, p.1 < n := fun p mem => Table.firstKeys_lt mem
    have high : ∀ p ∈ Table.above (n + 1) t, n < p.1 := fun p mem => by
      have bound := (List.mem_filter.mp mem).2
      simp only [decide_eq_true_eq] at bound
      omega
    have before : Table.get d (Table.update d f (List.range n) t) n = Table.get d t n := by
      rw [Table.get_update d f _ List.nodup_range, if_neg (by simp)]
    have step : Table.update d f (List.range (n + 1)) t =
        Table.set d (Table.update d f (List.range n) t) n (f (Table.get d (Table.update d f (List.range n) t) n)) := by
      rw [List.range_succ, Table.update, List.foldl_append]
      rfl
    rw [step, before, ih, Table.set, Table.erase_keys _ _ low]
    by_cases blank : f (Table.get d t n) = d
    · rw [if_pos blank, Table.firstKeys, Table.firstKeys, List.range_succ, List.filterMap_append]
      simp [blank]
    · rw [if_neg blank, Table.place_keys _ _ _ low high, Table.firstKeys, Table.firstKeys, List.range_succ, List.filterMap_append]
      simp [blank]

/-- A second writing of the same keys that changes no value leaves the table as it is. -/
theorem Table.update_again (same : ∀ i < n, g (f (Table.get d t i)) = f (Table.get d t i)) :
    Table.update d g (List.range n) (Table.update d f (List.range n) t) = Table.update d f (List.range n) t := by
  have reads : ∀ i < n, Table.get d (Table.update d f (List.range n) t) i = f (Table.get d t i) := fun i low => by
    rw [Table.get_update d f _ List.nodup_range, if_pos (List.mem_range.mpr low)]
  rw [Table.update_range d g]
  have head : Table.firstKeys d g n (Table.update d f (List.range n) t) = Table.firstKeys d f n t := by
    refine List.filterMap_congr fun i mem => ?_
    rw [reads i (List.mem_range.mp mem), same i (List.mem_range.mp mem)]
  have tail : Table.above n (Table.update d f (List.range n) t) = Table.above n t := by
    rw [Table.update_range, Table.above, List.filter_append, Table.above, List.filter_filter]
    have none : (Table.firstKeys d f n t).filter (fun p => decide (n ≤ p.1)) = [] :=
      List.filter_eq_nil_iff.mpr fun p mem => by simp [Table.firstKeys_lt mem]
    rw [none]
    simp
  rw [head, tail, Table.update_range]

end Update

/-! ## A second offer -/

section Second

variable {r q : WatchResult} {s t : State} {n : Nat}

theorem offer_wcu (r : WatchResult) (s : State) : (offer r s).1.wcu = (moveEntries r s).wcu :=
  foldl_keeps (fun u : State => u.wcu) _ (by intros; simp) _ _

/-- R148: an offer made when the one before it has left no entry armed moves none. -/
theorem offer_again (wcu : t.wcu = (offer r s).1.wcu)
    (quiet : ∀ i ∈ slotNumbers, (t.watchEntry i).state = .off ∨ (t.watchEntry i).state = .fired) : (offer q t).1.wcu = t.wcu := by
  have slots : slotNumbers = List.range 8 := rfl
  have entries : t.wcu.entries = Table.update WatchEntry.initial (movedEntry r s.acu.clock) slotNumbers s.wcu.entries := by
    rw [wcu, offer_wcu, moveEntries]
  rw [offer_wcu, moveEntries]
  dsimp only
  have again : Table.update WatchEntry.initial (movedEntry q t.acu.clock) slotNumbers t.wcu.entries = t.wcu.entries := by
    rw [entries, slots]
    refine Table.update_again fun i low => ?_
    have slot : i ∈ slotNumbers := by rw [slots]; exact List.mem_range.mpr low
    have reads : t.watchEntry i = movedEntry r s.acu.clock (s.watchEntry i) := by
      rw [State.watchEntry, entries, Table.get_update _ _ _ (by decide), if_pos slot, State.watchEntry]
    have calm := quiet i slot
    rw [reads] at calm
    have still : (checkEntry q t.acu.clock (movedEntry r s.acu.clock (s.watchEntry i))).1 = movedEntry r s.acu.clock (s.watchEntry i) := by
      rw [checkEntry_quiet calm]
    exact still
  rw [again]

theorem addHold_still {m : Nat} {c : HoldCause} (other : m ≠ n) : (addHold m c s).lane n = s.lane n := by
  rw [addHold_lane, if_neg fun same => other same.symm]

theorem haltLanes_still (still : (s.lane n).state ≠ .running) : (haltLanes s).lane n = s.lane n := by
  have outside : ∀ m ∈ s.runningLanes, m ≠ n := fun m mem same => by
    have runs := (List.mem_filter.mp mem).2
    rw [same] at runs
    exact still (of_decide_eq_true runs)
  unfold haltLanes
  generalize s.runningLanes = l at outside
  induction l generalizing s with
  | nil => rfl
  | cons m l ih =>
    have first : (addHold m .watch s).lane n = s.lane n := addHold_still (outside m (by simp))
    rw [List.foldl_cons, ih (by rw [first]; exact still) fun k mem => outside k (by simp [mem]), first]

theorem acted_still (f : Firing) (still : (s.lane n).state ≠ .running) : (acted r s f).lane n = s.lane n := by
  unfold acted
  split
  · rfl
  · exact haltLanes_still still
  · rfl

/-- R153: an offer leaves a lane that does not run. -/
theorem offer_still (still : (s.lane n).state ≠ .running) : (offer r s).1.lane n = s.lane n := by
  have moved : (moveEntries r s).lane n = s.lane n := by rw [State.lane, (moveEntries_clc r s).1, State.lane]
  rw [offer_eq, ← moved]
  rw [← moved] at still
  generalize firings r s = fs
  generalize moveEntries r s = u at still
  induction fs generalizing u with
  | nil => rfl
  | cons f fs ih =>
    have first : (takeFiring r u f).lane n = u.lane n := by
      rw [State.lane, (takeFiring_clc r u f).1]
      exact acted_still f still
    rw [List.foldl_cons, ih _ (by rw [first]; exact still), first]

end Second

/-! ## The lane and the queue of a completed valuation -/

section Queue

variable {q : QueuedCount} {s : State}

/-- R120: a lane as the completion of its batch leaves it. -/
def laneCompleted (l : Lane) : Lane :=
  if l.state = .fault ∨ l.state = .faultLocked then
    { l with batch := l.stack.head?.map Suspended.batch, stack := l.stack.tail }
  else
    { l with
      state := if l.stack = [] then .idle else .ready
      batch := l.stack.head?.map Suspended.batch, stack := l.stack.tail
      stacker := 0, reject := 0, holds := HoldSet.empty }

theorem completeLane_eq (n : Nat) (s : State) : completeLane n s = putLane n (laneCompleted (s.lane n)) s := by
  unfold completeLane laneCompleted
  dsimp only
  split
  · cases stack : (s.lane n).stack with
    | nil =>
      refine congrArg (fun l => putLane n l s) ?_
      simp
    | cons x rest => rfl
  · rw [popOrIdle_eq]

theorem laneCompleted_still (l : Lane) : (laneCompleted l).state ≠ .running := by
  unfold laneCompleted
  split
  · next fault => rcases fault with state | state <;> rw [state] <;> decide
  · dsimp only
    split <;> decide

theorem leaveQueue_lane (m : Nat) : (leaveQueue q s).lane m = if q.lane = some m then laneCompleted (s.lane m) else s.lane m := by
  unfold leaveQueue
  cases lane : q.lane with
  | none => rfl
  | some n =>
    dsimp only
    rw [completeLane_eq]
    refine (putLane_lane n m _ s).trans ?_
    by_cases same : m = n
    · rw [if_pos same, if_pos (by rw [same]), same]
    · have other : n ≠ m := fun h => same h.symm
      rw [if_neg same, if_neg (by simpa using other)]

end Queue

/-! ## The first slot that holds a merge back -/

section Held

variable {y : Tally} {s : State} {i : Nat} {f : MoveFail}

theorem countFail_slot {k : Nat} {x : Int} (h : countFail i k x = some f) : f.slot = some i := by
  unfold countFail at h
  split_ifs at h <;> (cases h; rfl)

theorem slotFail_slot (h : slotFail y s i = some f) : f.slot = some i := by
  have change := mergeChange_slot y s i
  unfold slotFail stockFail at h
  simp only [Option.or_eq_some_iff, change] at h
  rcases h with (first | ⟨-, second | ⟨-, third | ⟨-, fourth | ⟨-, straps⟩⟩⟩⟩) | ⟨-, suspects⟩
  · exact countFail_slot first
  · exact countFail_slot second
  · exact countFail_slot third
  · exact countFail_slot fourth
  · split at straps
    · cases straps
    · split at straps <;> cases straps
      rfl
  · unfold suspectFail at suspects
    split at suspects <;> cases suspects
    rfl

theorem slotFits_eq (y : Tally) (s : State) (i : Nat) : slotFits y s i = (slotFail y s i).isNone := by
  unfold slotFits slotFail
  cases stockFail s (mergeChange y s i) <;> cases suspectFail s (i, (tallySlot y i).suspect) <;> rfl

/-- R140: the slot that STOCK_RANGE names is the first that cannot take its pieces. -/
theorem heldSlot_firstHeld (h : slotNumbers.findSome? (slotFail y s) = some f) : heldSlot f = firstHeld y s := by
  obtain ⟨before, i, after, split, fails, fit⟩ := List.findSome?_eq_some_iff.mp h
  rw [heldSlot, slotFail_slot fails, firstHeld]
  symm
  rw [List.find?_eq_some_iff_append]
  refine ⟨by rw [slotFits_eq, fails]; rfl, before, after, split, fun j mem => ?_⟩
  rw [slotFits_eq, fit j mem]
  rfl

theorem firstHeld_congr {t : State} (denoms : t.acu.denoms = s.acu.denoms) (stock : t.acu.stock = s.acu.stock)
    (suspects : t.acu.suspects = s.acu.suspects) : firstHeld y t = firstHeld y s := by
  have fits : slotFits y t = slotFits y s := by
    funext i
    rw [slotFits_eq, slotFits_eq, slotFail_congr denoms stock suspects]
  rw [firstHeld, firstHeld, fits]

end Held

end Sys2Proof.Machine
end

section
/-!
The completion of a valuation (R134 to R141).
-/

namespace Sys2Proof.Machine

open Sys2Proof

set_option Elab.async false

/-! ## The announcement of a till's result -/

section Announced

variable {c : Confirmation} {n k : Nat} {s u w : State}

/-- R101, R141: what the announcement of a till's result leaves of the tills. -/
theorem announceReport_till (report : reportedTill c.bag = some (n, k)) :
    (announceReport c w s).till n = { s.till n with hold := ((announceReport c w s).till n).hold } ∧
    ((s.till n).hold = true → ((announceReport c w s).till n).hold = true) ∧
    ∀ m, m ≠ n → (announceReport c w s).till m = s.till m := by
  by_cases due : (w.till n).resultDue k = true
  · rw [announceReport_of_due report due, announceResult]
    dsimp only
    have told : ∀ f, (notify .result f s).tau = s.tau := fun f => by simp
    have tills : ∀ f m, (notify .result f s).till m = s.till m := fun f m => by rw [State.till, told, State.till]
    refine ⟨?_, fun held => ?_, fun m other => ?_⟩
    · rw [offer_till, tills]
      split <;> rfl
    · rw [offer_till, tills]
      split
      · rfl
      · exact held
    · have names : ¬ (some n = some m) := fun same => other (Option.some.inj same).symm
      rw [offer_till, tills, if_neg fun h => names h.2.2]
  · rw [announceReport_of_open report (by simpa using due)]
    exact ⟨rfl, id, fun m _ => rfl⟩

/-- R126: the announcement leaves a lane that does not run. -/
theorem announceReport_still (still : (s.lane n).state ≠ .running) : (announceReport c w s).lane n = s.lane n := by
  unfold announceReport announceResult
  split
  · rfl
  · split
    · have told : ∀ f, (notify .result f s).lane n = s.lane n := fun f => lane_notify ..
      dsimp only
      rw [offer_still (by rw [told]; exact still), told]
    · rfl

/-- R148: an announcement after an offer that has left no watch entry armed. -/
theorem announceReport_again {r : WatchResult} (wcu : s.wcu = (offer r u).1.wcu)
    (quiet : ∀ i ∈ slotNumbers, (s.watchEntry i).state = .off ∨ (s.watchEntry i).state = .fired) :
    (announceReport c w s).wcu = s.wcu := by
  unfold announceReport announceResult
  split
  · rfl
  · split
    · have told : ∀ f, (notify .result f s).wcu = s.wcu := fun f => by simp
      dsimp only
      rw [offer_again ((told _).trans wcu) fun i slot => by rw [State.watchEntry, told]; exact quiet i slot, told]
    · rfl

end Announced

/-! ## A completion's outcome -/

section Outcome

variable {b : Bag} {y : Tally} {late fired : Bool} {cls : Classification} {counted : Option Int} {book floor : Int} {rate : Nat} {u : State}

theorem outcomeOf_confirmed (h : outcomeOf b y cls late fired = .confirmed) : cls ≠ .range := by
  intro range
  rw [outcomeOf, if_pos range] at h
  cases h

/-- R134: a result that is not RANGE has its counted value and its variance, and keeps the accountability in range. -/
theorem figures_of_result (h : (testAccountability (valuationResult counted book floor rate) u).cls ≠ .range) :
    ∃ value x, (testAccountability (valuationResult counted book floor rate) u).counted = some value ∧
      (testAccountability (valuationResult counted book floor rate) u).variance = some x ∧
      amountInRange (u.acu.accountability + x) = true := by
  cases counted with
  | none => exact absurd rfl h
  | some value =>
    cases variance : subAmount value book with
    | none =>
      rw [valuationResult, variance] at h
      exact absurd rfl h
    | some x =>
      rw [valuationResult_of variance] at h ⊢
      unfold testAccountability at h ⊢
      dsimp only at h ⊢
      split at h
      · next fits =>
          rw [if_pos fits]
          exact ⟨value, x, rfl, rfl, fits⟩
      · exact absurd rfl h

end Outcome

/-! ## The two ways a completion ends -/

section Completed

variable (q : QueuedCount) (b : Bag) (res : ValuationResult) (fired : Bool) (outcome : BagState) (value x : Int) (w : State)

/-- R138, R139: the completion of a valuation that does not confirm its bag. -/
def countRecorded : State :=
  notifyResult b q res outcome fired false
    (leaveQueue q (endReservation (putBag q.ref (recordCount b q.tally res.cls outcome) w)))

/-- R139: the confirmation that a completion makes. -/
def countConfirmation : Confirmation := ⟨q.ref, recordCount b q.tally res.cls .confirmed, q.tally, value, x, .reserved, .variance⟩

/-- R138 to R141: the completion of a valuation that confirms its bag, as far as the bag's RESULT. -/
def countConfirmed : State :=
  notifyResult b q res .confirmed fired (slotNumbers.findSome? (slotFail q.tally w)).isSome
    (notifyStockRange q.ref (slotNumbers.findSome? (slotFail q.tally w))
      (leaveQueue q (applyConfirmation (countConfirmation q b res value x) (mergeFits q.tally w) w)))

variable {q b res fired outcome value x w} {counted : Option Int} {u : State}

theorem completeCount_recorded
    (valued : res = testAccountability (valuationResult counted b.book u.acu.bandFloor u.acu.bandRate) u)
    (offered : w = (offer (bagWatchResult q.ref b res) u).1)
    (recount : fired = (offer (bagWatchResult q.ref b res) u).2.contains .recount)
    (out : outcome = outcomeOf b q.tally res.cls q.late fired) (other : outcome ≠ .confirmed) :
    completeCount q b counted u = countRecorded q b res fired outcome w := by
  unfold completeCount
  dsimp only
  rw [← valued, ← recount, ← out, ← offered]
  clear out
  cases outcome
  case confirmed => exact absurd rfl other
  all_goals rfl

theorem completeCount_confirmed
    (valued : res = testAccountability (valuationResult counted b.book u.acu.bandFloor u.acu.bandRate) u)
    (offered : w = (offer (bagWatchResult q.ref b res) u).1)
    (recount : fired = (offer (bagWatchResult q.ref b res) u).2.contains .recount)
    (out : outcomeOf b q.tally res.cls q.late fired = .confirmed) (figure : res.counted = some value) (variance : res.variance = some x)
    (fits : amountInRange (u.acu.accountability + x) = true) :
    completeCount q b counted u = announceReport (countConfirmation q b res value x) w (countConfirmed q b res fired value x w) := by
  have acu : w.acu = u.acu := by rw [offered, (offer_frame _ u).2.2.2.2.1]
  have sound : Confirmable (countConfirmation q b res value x) w := ⟨.inl rfl, by rw [acu]; exact fits⟩
  have confirmed := sound.confirm
  unfold countConfirmation at confirmed
  unfold completeCount
  dsimp only
  rw [← valued, ← recount, ← offered, out, figure, variance]
  dsimp only
  rw [confirmed]
  rfl

/-! ## What each leaves -/

variable (q b res fired outcome value x w)

theorem countRecorded_keeps : (countRecorded q b res fired outcome w).rcu = ⟨w.rcu.queue.tail, none⟩ ∧
    (countRecorded q b res fired outcome w).tau = w.tau ∧ (countRecorded q b res fired outcome w).wcu = w.wcu ∧
    (countRecorded q b res fired outcome w).sys = w.sys ∧ (countRecorded q b res fired outcome w).cru = w.cru ∧
    (countRecorded q b res fired outcome w).csc.latch = w.csc.latch ∧ (countRecorded q b res fired outcome w).hoc = w.hoc ∧
    (countRecorded q b res fired outcome w).bgr.retired = w.bgr.retired := by
  simp [countRecorded]

theorem countConfirmed_keeps : (countConfirmed q b res fired value x w).rcu = ⟨w.rcu.queue.tail, none⟩ ∧
    (countConfirmed q b res fired value x w).wcu = w.wcu ∧
    (countConfirmed q b res fired value x w).sys = w.sys ∧ (countConfirmed q b res fired value x w).cru = w.cru ∧
    (countConfirmed q b res fired value x w).csc.latch = w.csc.latch ∧ (countConfirmed q b res fired value x w).hoc = w.hoc := by
  simp [countConfirmed]

theorem countRecorded_acu : (countRecorded q b res fired outcome w).acu = { w.acu with reserved := w.acu.reserved - 3 } := by
  have ended : ∀ v, (endReservation v).acu = { v.acu with reserved := v.acu.reserved - 3 } := fun v => by
    rw [endReservation, (syncJournal_frame _).1]
  have told : (countRecorded q b res fired outcome w).acu =
      (endReservation (putBag q.ref (recordCount b q.tally res.cls outcome) w)).acu := by
    simp [countRecorded]
  rw [told, ended]
  rfl

theorem countRecorded_bag (r : Nat) : (countRecorded q b res fired outcome w).bag r =
    if r = q.ref then some (recordCount b q.tally res.cls outcome) else w.bag r := by
  have bgr : (countRecorded q b res fired outcome w).bgr = (putBag q.ref (recordCount b q.tally res.cls outcome) w).bgr := by
    simp [countRecorded]
  rw [← putBag_bag, State.bag, bgr, State.bag]

theorem countRecorded_lane (m : Nat) : (countRecorded q b res fired outcome w).lane m =
    if q.lane = some m then laneCompleted (w.lane m) else w.lane m := by
  have clc : (endReservation (putBag q.ref (recordCount b q.tally res.cls outcome) w)).lane m = w.lane m := by simp [State.lane]
  rw [← clc, ← leaveQueue_lane, State.lane, State.lane, countRecorded]
  simp

theorem countConfirmed_lane (m : Nat) : (countConfirmed q b res fired value x w).lane m =
    if q.lane = some m then laneCompleted (w.lane m) else w.lane m := by
  have clc : (applyConfirmation (countConfirmation q b res value x) (mergeFits q.tally w) w).lane m = w.lane m := by simp [State.lane]
  rw [← clc, ← leaveQueue_lane, State.lane, State.lane, countConfirmed]
  simp

theorem countConfirmed_confirms :
    (countConfirmed q b res fired value x w).bgr = (applyConfirmation (countConfirmation q b res value x) (mergeFits q.tally w) w).bgr ∧
    (countConfirmed q b res fired value x w).acu = (applyConfirmation (countConfirmation q b res value x) (mergeFits q.tally w) w).acu ∧
    (countConfirmed q b res fired value x w).tau = (applyConfirmation (countConfirmation q b res value x) (mergeFits q.tally w) w).tau := by
  simp [countConfirmed]

/-! ## The notices of a completion -/

/-- R141: the bag's RESULT. -/
def resultNotice (b : Bag) (q : QueuedCount) (v : ValuationResult) (outcome : BagState) (fired held : Bool) : Notice :=
  ⟨.result, [fNamed (codeIn ResultKind.list .bag), fRef (some q.ref), fLane q.lane, fNamed (flagByte q.lane.isNone),
    fAmountOpt v.counted, fAmountOpt v.variance, fAmountOpt v.band, fNamed (codeIn Classification.list v.cls),
    fNamed (codeIn BagState.list outcome), fNum 1 (recountAfter b q.tally v.cls),
    fSet (resultMarks b q v.cls fired held)]⟩

theorem countRecorded_notices : ∃ chutes : List Notice, (∀ y ∈ chutes, y.kind = .chuteLocked) ∧
    (countRecorded q b res fired outcome w).hpt = (notifyAll (chutes ++ [resultNotice b q res outcome fired false]) w).hpt := by
  obtain ⟨l, hl, ended⟩ := endReservation_notices (putBag q.ref (recordCount b q.tally res.cls outcome) w)
  have left : (leaveQueue q (endReservation (putBag q.ref (recordCount b q.tally res.cls outcome) w))).hpt = (notifyAll l w).hpt := by
    rw [(leaveQueue_keeps _ _).2.1, ended]
    exact notifyAll_hpt_congr l _ _ rfl
  exact ⟨l, hl, notifyAll_trans l [resultNotice b q res outcome fired false] _ _ _ left rfl⟩

/-- R140: STOCK_RANGE, when a merge is held back. -/
def heldNotice (r : Nat) (y : Tally) (s : State) : List Notice :=
  if mergeFits y s = false then [⟨.stockRange, [fRef (some r), fLane (firstHeld y s)]⟩] else []

theorem notifyStockRange_eq (r : Nat) (y : Tally) (w s : State) :
    notifyStockRange r (slotNumbers.findSome? (slotFail y w)) s = notifyAll (heldNotice r y w) s := by
  rw [heldNotice, mergeFits_eq]
  cases fails : slotNumbers.findSome? (slotFail y w) with
  | none => rfl
  | some f =>
    rw [← heldSlot_firstHeld fails]
    rfl

theorem countConfirmed_notices : ∃ chutes : List Notice, (∀ y ∈ chutes, y.kind = .chuteLocked) ∧
    (countConfirmed q b res fired value x w).hpt =
      (notifyAll (chutes ++ heldNotice q.ref q.tally w ++ [resultNotice b q res .confirmed fired (!mergeFits q.tally w)]) w).hpt := by
  obtain ⟨l, hl, confirmed⟩ := applyConfirmation_notices (countConfirmation q b res value x) (mergeFits q.tally w) w
  have left := (leaveQueue_keeps q (applyConfirmation (countConfirmation q b res value x) (mergeFits q.tally w) w)).2.1.trans confirmed
  have marks : (slotNumbers.findSome? (slotFail q.tally w)).isSome = !mergeFits q.tally w := by
    rw [mergeFits_eq]
    cases slotNumbers.findSome? (slotFail q.tally w) <;> rfl
  refine ⟨l, hl, ?_⟩
  rw [countConfirmed, notifyStockRange_eq, marks]
  exact notifyAll_trans _ [resultNotice b q res .confirmed fired (!mergeFits q.tally w)] _ _ _ (notifyAll_trans l _ _ _ _ left rfl) rfl

end Completed

end Sys2Proof.Machine
end

section
/-!
VALUATION_COMPLETION of the oldest entry (R132 to R141).
-/

namespace Sys2Proof.Machine

open Sys2Proof

set_option Elab.async false

theorem exec_valuationCompletion {s : State} {e : QueueEntry} {rest : List QueueEntry} {v : Valuation} {q : QueuedCount} {b : Bag}
    (powered : s.sys.powered = true) (engine : s.rcu.engine = some v) (queue : s.rcu.queue = e :: rest)
    (count : queuedCount e s = some q) (held : s.bag q.ref = some b) :
    exec .valuationCompletion s = .next (completeCount q b v.counted (snoopFor b s)) := by
  show background completeValuation s = _
  rw [background, if_pos powered, completeValuation, engine, queue]
  simp only [count, held]

theorem queuedCount_of {s : State} {e : QueueEntry} {q : QueuedCount}
    (names : e = .manual q.ref q.tally ∧ q.late = false ∧ q.lane = none ∨
      ∃ n x, e = .lane n ∧ (s.lane n).batch = some x ∧ q = ⟨x.ref, x.tally, x.lateNotes, some n⟩) : queuedCount e s = some q := by
  rcases names with ⟨rfl, late, lane⟩ | ⟨n, x, rfl, batch, rfl⟩
  · obtain ⟨ref, tally, late', lane'⟩ := q
    cases late
    cases lane
    rfl
  · rw [queuedCount, batch]
    rfl

section Figures

variable {c : Confirmation} {merge : Bool} {s u w : State} {n k : Nat} {v : Int} {t : Till}

theorem mergeChange_congr {y : Tally} (denoms : u.acu.denoms = s.acu.denoms) : mergeChange y u = mergeChange y s := by
  funext i
  simp only [mergeChange, State.denom, denoms]

theorem report_fields (t : Till) (k : Nat) (v : Int) : (t.report k v).hold = t.hold ∧ (t.report k v).session = t.session := by
  have counted : (t.count v).hold = t.hold ∧ (t.count v).session = t.session := by
    unfold Till.count
    cases addAmount t.counted v <;> exact ⟨rfl, rfl⟩
  unfold Till.report
  split
  · exact counted
  · exact ⟨rfl, rfl⟩

theorem reportedTillAfter_fields (t : Till) (k : Nat) (v : Int) (s : State) :
    (reportedTillAfter t k v s).hold = t.hold ∧ (reportedTillAfter t k v s).session = t.session := by
  unfold reportedTillAfter
  split <;> exact report_fields t k v

/-- R100: a till whose result is due is in the session reported, and a report makes it RECONCILED. -/
theorem reportedTillAfter_of_due (due : t.resultDue k = true) :
    (reportedTillAfter t k v s).state = .reconciled ∧ (reportedTillAfter t k v s).session = k := by
  have session : t.session = k := by
    simp only [Till.resultDue, Till.takesReport, Bool.and_eq_true, decide_eq_true_eq] at due
    exact due.1.1.1
  exact ⟨by rw [reportedTillAfter, due]; rfl, (reportedTillAfter_fields t k v s).2.trans session⟩

theorem chargeAccount_hold (x : Option (Account × Int)) (s : State) (m : Nat) : ((chargeAccount x s).till m).hold = (s.till m).hold := by
  rcases x with _ | ⟨_ | _ | _, _⟩
  · rfl
  · rw [chargeAccount_till]
    split
    · next same => rw [same]
    · rfl
  · rfl
  · rfl

/-- R139: a confirmation holds and releases no till. -/
theorem applyConfirmation_hold (c : Confirmation) (merge : Bool) (s : State) (m : Nat) :
    ((applyConfirmation c merge s).till m).hold = (s.till m).hold := by
  have tau : (applyMovement (confirmMovement c merge s) s).till m = (chargeAccount (confirmMovement c merge s).charge s).till m := by
    rw [State.till, applyMovement_tau, State.till]
  have report : ∀ u, ((applyReport c u).till m).hold = (u.till m).hold := fun u => by
    unfold applyReport
    split
    · rfl
    · rw [putTill_till]
      split
      · next same => rw [(reportedTillAfter_fields _ _ _ _).1, same]
      · rfl
  rw [State.till, applyConfirmation_tau]
  exact (report _).trans ((congrArg Till.hold tau).trans (chargeAccount_hold ..))

/-- R139: the entries of a confirmation that a till's report makes. -/
theorem resultEntries_due (source : c.bag.source = .till n k) (purpose : c.bag.purpose = .takings ∨ c.bag.purpose = .skim)
    (due : (s.till n).resultDue k = true) :
    resultEntries c s = [⟨.tillResult, none, some n, (reportedTillAfter (s.till n) k c.counted s).variance.getD 0, 0⟩] := by
  rw [resultEntries_some (reportedTill_of source purpose), due]
  rfl

theorem resultEntries_open (more : ∀ n k, c.bag.source = .till n k → (c.bag.purpose = .takings ∨ c.bag.purpose = .skim) →
    (s.till n).resultDue k = false) : resultEntries c s = [] := by
  cases report : reportedTill c.bag with
  | none => exact resultEntries_none report
  | some x =>
    obtain ⟨n, k⟩ := x
    obtain ⟨source, purpose⟩ := source_of_reportedTill report
    rw [resultEntries_some report, more n k source purpose]
    rfl

theorem announceReport_open (more : ∀ n k, c.bag.source = .till n k → (c.bag.purpose = .takings ∨ c.bag.purpose = .skim) →
    (w.till n).resultDue k = false) : announceReport c w s = s := by
  cases report : reportedTill c.bag with
  | none => exact announceReport_of_none report
  | some x =>
    obtain ⟨n, k⟩ := x
    obtain ⟨source, purpose⟩ := source_of_reportedTill report
    exact announceReport_of_open report (more n k source purpose)

end Figures

/-! ## What a completion that confirms its bag leaves -/

section Announced

/-- R139 to R141: the completion of a valuation that confirms its bag. -/
def countAnnounced (q : QueuedCount) (b : Bag) (res : ValuationResult) (fired : Bool) (value x : Int) (w : State) : State :=
  announceReport (countConfirmation q b res value x) w (countConfirmed q b res fired value x w)

variable (q : QueuedCount) (b : Bag) (res : ValuationResult) (fired : Bool) (value x : Int) (w : State) {n k : Nat}

theorem countAnnounced_keeps : (countAnnounced q b res fired value x w).rcu = ⟨w.rcu.queue.tail, none⟩ ∧
    (countAnnounced q b res fired value x w).sys = w.sys ∧ (countAnnounced q b res fired value x w).cru = w.cru ∧
    (countAnnounced q b res fired value x w).csc.latch = w.csc.latch ∧ (countAnnounced q b res fired value x w).hoc = w.hoc := by
  obtain ⟨rcu, -, sys, cru, latch, hoc⟩ := countConfirmed_keeps q b res fired value x w
  rw [← rcu, ← sys, ← cru, ← latch, ← hoc]
  simp [countAnnounced]

theorem countAnnounced_confirms : (countAnnounced q b res fired value x w).bgr =
      (applyConfirmation (countConfirmation q b res value x) (mergeFits q.tally w) w).bgr ∧
    (countAnnounced q b res fired value x w).acu =
      (applyMovement (confirmMovement (countConfirmation q b res value x) (mergeFits q.tally w) w) w).acu := by
  obtain ⟨bgr, acu, -⟩ := countConfirmed_confirms q b res fired value x w
  rw [← applyConfirmation_acu, ← bgr, ← acu]
  simp [countAnnounced]

theorem countAnnounced_bag (r : Nat) : (countAnnounced q b res fired value x w).bag r =
    if r = q.ref then some (confirmedBag (countConfirmation q b res value x) (mergeFits q.tally w)) else w.bag r := by
  rw [State.bag, (countAnnounced_confirms ..).1]
  exact applyConfirmation_bag ..

theorem countAnnounced_retired : (countAnnounced q b res fired value x w).bgr.retired =
    if mergeFits q.tally w then w.bgr.retired ++ [q.ref] else w.bgr.retired := by
  rw [(countAnnounced_confirms ..).1, applyConfirmation_bgr]
  rfl

theorem countConfirmed_till (m : Nat) : (countConfirmed q b res fired value x w).till m =
    (applyConfirmation (countConfirmation q b res value x) (mergeFits q.tally w) w).till m := by
  rw [State.till, (countConfirmed_confirms ..).2.2, State.till]

/-- R97, R139: the tills of a completion that confirms a till's takings or skim. -/
theorem countAnnounced_till (source : b.source = .till n k) (purpose : b.purpose = .takings ∨ b.purpose = .skim) :
    (countAnnounced q b res fired value x w).till n =
      { reportedTillAfter { w.till n with day := (w.till n).day.charge x } k value w with
        hold := ((countAnnounced q b res fired value x w).till n).hold } ∧
    ((w.till n).hold = true → ((countAnnounced q b res fired value x w).till n).hold = true) ∧
    ∀ m, m ≠ n → (countAnnounced q b res fired value x w).till m = w.till m := by
  have moved := applyConfirmation_till (countConfirmation q b res value x) (mergeFits q.tally w) w source purpose
  obtain ⟨own, held, others⟩ := announceReport_till (c := countConfirmation q b res value x) (w := w)
    (s := countConfirmed q b res fired value x w) (reportedTill_of source purpose)
  have before := (countConfirmed_till q b res fired value x w n).trans ((moved n).trans (if_pos rfl))
  refine ⟨?_, fun hold => held ?_, fun m other => (others m other).trans
    ((countConfirmed_till q b res fired value x w m).trans ((moved m).trans (if_neg other)))⟩
  · rw [before] at own
    exact own
  · rw [before]
    exact (reportedTillAfter_fields ..).1.trans hold

theorem countAnnounced_tau (source : ∀ n k, b.source ≠ .till n k) : (countAnnounced q b res fired value x w).tau = w.tau := by
  rw [countAnnounced, announceReport_of_none (reportedTill_none source), (countConfirmed_confirms ..).2.2]
  exact applyConfirmation_tau_of_other _ _ _ source

theorem countAnnounced_lane (lane : q.lane = some n) : (countAnnounced q b res fired value x w).lane n = laneCompleted (w.lane n) := by
  have done := (countConfirmed_lane q b res fired value x w n).trans (if_pos lane)
  rw [countAnnounced, announceReport_still (by rw [done]; exact laneCompleted_still _), done]

/-- R141: a completion whose announcement meets no armed watch entry. -/
theorem countAnnounced_quiet {r : WatchResult} {u : State} (offered : w = (offer r u).1)
    (calm : (∀ n k, b.source ≠ .till n k) ∨
      ∀ i ∈ slotNumbers, (w.watchEntry i).state = .off ∨ (w.watchEntry i).state = .fired) :
    (countAnnounced q b res fired value x w).wcu = w.wcu ∧
    (∀ m, ((countAnnounced q b res fired value x w).till m).hold = (w.till m).hold) ∧
    ∀ m, q.lane ≠ some m → (countAnnounced q b res fired value x w).lane m = w.lane m := by
  have wcu := (countConfirmed_keeps q b res fired value x w).2.1
  have hold : ∀ m, ((countConfirmed q b res fired value x w).till m).hold = (w.till m).hold := fun m => by
    rw [countConfirmed_till, applyConfirmation_hold]
  have lane := fun m other =>
    (countConfirmed_lane q b res fired value x w m).trans (if_neg other)
  unfold countAnnounced
  rcases calm with source | quiet
  · rw [announceReport_of_none (reportedTill_none source)]
    exact ⟨wcu, hold, lane⟩
  · have quiet' : ∀ i ∈ slotNumbers, ((countConfirmed q b res fired value x w).watchEntry i).state = .off ∨
        ((countConfirmed q b res fired value x w).watchEntry i).state = .fired := fun i slot => by
      rw [State.watchEntry, wcu]
      exact quiet i slot
    obtain ⟨tau, clc⟩ := announceReport_quiet (c := countConfirmation q b res value x) (w := w) quiet'
    refine ⟨(announceReport_again (wcu.trans (congrArg State.wcu offered)) quiet').trans wcu, fun m => ?_, fun m other => ?_⟩
    · rw [State.till, tau]
      exact hold m
    · rw [State.lane, clc]
      exact lane m other

end Announced

end Sys2Proof.Machine

namespace Sys2Proof.Proofs.Valuations

open Sys2Proof Sys2Proof.Machine

/-- Settles O45. -/
theorem valuationCompletes : Obligations.ValuationCompletes := by
  unfold Obligations.ValuationCompletes
  intro s u w e rest v c b res fired outcome powered engine queue names held snooped valued offered recount out
  refine ⟨fun source => snooped.trans (snoopFor_of_other source), ?_⟩
  have ran := exec_valuationCompletion powered engine queue (queuedCount_of names) held
  rw [← snooped] at ran
  have kept : u.acu.denoms = s.acu.denoms ∧ u.acu.stock = s.acu.stock ∧ u.acu.suspects = s.acu.suspects ∧
      u.acu.reserved = s.acu.reserved ∧ u.acu.bandFloor = s.acu.bandFloor ∧ u.acu.bandRate = s.acu.bandRate ∧
      u.bgr.retired = s.bgr.retired ∧ u.rcu = s.rcu ∧ u.sys = s.sys ∧ u.cru = s.cru ∧ u.csc.latch = s.csc.latch ∧
      u.hoc = s.hoc := by
    rw [snooped]
    simp
  obtain ⟨denoms, stock, suspects, reserved, floor, rate, retired, rcu, sys, cru, latch, hoc⟩ := kept
  rw [← floor, ← rate] at valued
  obtain ⟨-, -, sys', cru', acu', bgr', rcu', csc', hoc', -⟩ := offer_frame (bagWatchResult c.ref b res) u
  rw [← offered] at sys' cru' acu' bgr' rcu' csc' hoc'
  have bags : ∀ q, w.bag q = u.bag q := fun q => by rw [State.bag, bgr', State.bag]
  have leaves : (⟨w.rcu.queue.tail, none⟩ : Rcu) = ⟨rest, none⟩ := by rw [rcu', rcu, queue]; rfl
  have fits : mergeFits c.tally w = mergeFits c.tally u := mergeFits_congr (by rw [acu']) (by rw [acu']) (by rw [acu'])
  have first : firstHeld c.tally w = firstHeld c.tally u := firstHeld_congr (by rw [acu']) (by rw [acu']) (by rw [acu'])
  have change : mergeChange c.tally w = mergeChange c.tally s := mergeChange_congr (by rw [acu', denoms])
  by_cases confirmed : outcome = .confirmed
  case neg =>
    rw [completeCount_recorded valued offered recount out confirmed] at ran
    obtain ⟨rcu'', tau, wcu, sys'', cru'', latch'', hoc'', retired''⟩ := countRecorded_keeps c b res fired outcome w
    have acu := countRecorded_acu c b res fired outcome w
    have bag := countRecorded_bag c b res fired outcome w
    have lane := countRecorded_lane c b res fired outcome w
    obtain ⟨chutes, kinds, hpt⟩ := countRecorded_notices c b res fired outcome w
    rw [acu', reserved] at acu
    generalize countRecorded c b res fired outcome w = t at *
    refine ⟨t, recordCount b c.tally res.cls outcome, ran, rcu''.trans leaves, by rw [acu], (bag c.ref).trans (if_pos rfl),
      rfl, rfl, rfl, rfl, rfl, fun q other => ((bag q).trans (if_neg other)).trans (bags q), fun _ => ⟨rfl, rfl, acu, tau, wcu, ?_⟩,
      fun _ _ yes => absurd yes confirmed,
      fun _ => ⟨wcu, fun m => by rw [State.till, tau, State.till], fun m other => (lane m).trans (if_neg other)⟩,
      fun n named => (lane n).trans (if_pos named), ⟨t, chutes, kinds, ?_, fun _ _ yes => absurd yes confirmed, fun _ => rfl⟩,
      sys''.trans (sys'.trans sys), cru''.trans (cru'.trans cru), ?_, hoc''.trans (hoc'.trans hoc)⟩
    · rw [retired'', bgr', retired]
    · rw [hpt, if_neg fun yes => confirmed yes.1, List.append_nil, decide_eq_false confirmed, Bool.false_and]
      rfl
    · rw [latch'', csc', latch]
  case pos =>
    subst confirmed
    obtain ⟨value, x, figure, variance, range⟩ := figures_of_result (valued ▸ outcomeOf_confirmed out.symm)
    rw [← valued] at figure variance
    rw [completeCount_confirmed valued offered recount out.symm figure variance range] at ran
    change exec _ s = .next (countAnnounced c b res fired value x w) at ran
    obtain ⟨rcu'', sys'', cru'', latch'', hoc''⟩ := countAnnounced_keeps c b res fired value x w
    have acu := (countAnnounced_confirms c b res fired value x w).2
    have moved := applyMovement_acu_eq (confirmMovement (countConfirmation c b res value x) (mergeFits c.tally w) w) w
    rw [← acu, confirmMovement_delta, acu'] at moved
    have bag := countAnnounced_bag c b res fired value x w
    have retired'' := countAnnounced_retired c b res fired value x w
    have tills := fun n k => countAnnounced_till c b res fired value x w (n := n) (k := k)
    have tau := countAnnounced_tau c b res fired value x w
    have lane := fun n => countAnnounced_lane c b res fired value x w (n := n)
    have quiet := countAnnounced_quiet c b res fired value x w offered
    obtain ⟨chutes, kinds, hpt⟩ := countConfirmed_notices c b res fired value x w
    rw [heldNotice, first] at hpt
    rw [fits] at acu moved bag retired'' hpt
    have announced : countAnnounced c b res fired value x w = announceReport (countConfirmation c b res value x) w
      (countConfirmed c b res fired value x w) := rfl
    have before := countConfirmed_till c b res fired value x w
    rw [bgr', retired] at retired''
    generalize countAnnounced c b res fired value x w = t at *
    refine ⟨t, confirmedBag (countConfirmation c b res value x) (mergeFits c.tally u), ran, rcu''.trans leaves, ?_,
      (bag c.ref).trans (if_pos rfl), rfl, rfl, rfl, rfl, rfl, fun q other => ((bag q).trans (if_neg other)).trans (bags q),
      fun other => absurd rfl other, ?figures, quiet, fun n named => lane n named,
      ⟨countConfirmed c b res fired value x w, chutes, kinds, ?_, fun n k _ source purpose due => ?result, fun more => ?_⟩,
      sys''.trans (sys'.trans sys), cru''.trans (cru'.trans cru), ?_, hoc''.trans (hoc'.trans hoc)⟩
    case figures =>
      intro value' x' _ figure' variance'
      obtain rfl : value = value' := Option.some.inj (figure.symm.trans figure')
      obtain rfl : x = x' := Option.some.inj (variance.symm.trans variance')
      refine ⟨rfl, congrArg Acu.accountability moved, ?made, fun merged => ?counts, acu, fun merged => ?_, fun full => ?_,
        fun n k source purpose => ?_, fun visit source => ?_, fun source => ?_⟩
      case made =>
        refine ⟨resultEntries (countConfirmation c b res value x) w, congrArg Acu.journal moved, fun n k source purpose due => ?_,
          fun more => resultEntries_open more⟩
        have same : (t.till n).variance = (reportedTillAfter (w.till n) k value w).variance := by
          rw [(tills n k source purpose).1, reportedTillAfter_charged]
        rw [same]
        exact resultEntries_due source purpose due
      case counts =>
        have stock' : t.acu.stock = (slotNumbers.map (mergeChange c.tally s)).foldl applyStock s.acu.stock := by
          rw [moved, ← stock, ← change]
          exact congrArg (fun m => (if m then slotNumbers.map (mergeChange c.tally w) else []).foldl applyStock u.acu.stock) merged
        have suspects' : t.acu.suspects = (mergeSuspects c.tally).foldl applySuspect s.acu.suspects := by
          rw [moved, ← suspects]
          exact congrArg (fun m => (if m then mergeSuspects c.tally else []).foldl applySuspect u.acu.suspects) merged
        exact ⟨fun i slot f k note => merged_note slot stock' note, fun i slot f coin => merged_coin slot stock' coin,
          fun i slot => merged_suspect slot suspects'⟩
      · exact ⟨congrArg (fun m => if m then BagState.emptied else .confirmed) merged, retired''.trans (if_pos merged)⟩
      · refine ⟨congrArg (fun m => if m then BagState.emptied else .confirmed) full, retired''.trans (if_neg (by simp [full])), ?_, ?_⟩
        · rw [moved, ← stock]
          exact congrArg (fun m => (if m then slotNumbers.map (mergeChange c.tally w) else []).foldl applyStock u.acu.stock) full
        · rw [moved, ← suspects]
          exact congrArg (fun m => (if m then mergeSuspects c.tally else []).foldl applySuspect u.acu.suspects) full
      · have band : ∀ y, reportedTillAfter y k value w = reportedTillAfter y k value u := fun y =>
          reportedTillAfter_congr y k value (by rw [acu']) (by rw [acu'])
        rw [← band]
        exact tills n k source purpose
      · refine ⟨(congrArg Acu.courier moved).trans ?_, tau fun n k till => by rw [source] at till; cases till⟩
        have charge : (confirmMovement (countConfirmation c b res value x) (mergeFits c.tally u) w).charge = some (.courier, x) :=
          congrArg (fun z => z.account.map (fun a => (a, x))) source
        rw [charge, ← acu']
        rfl
      · refine ⟨(congrArg Acu.unattributed moved).trans ?_, tau fun n k till => by rw [source] at till; cases till⟩
        have charge : (confirmMovement (countConfirmation c b res value x) (mergeFits c.tally u) w).charge = some (.unattributed, x) :=
          congrArg (fun z => z.account.map (fun a => (a, x))) source
        rw [charge, ← acu']
        rfl
    case result =>
      have moved' := applyConfirmation_till (countConfirmation c b res value x) (mergeFits c.tally w) w source purpose n
      have own := (before n).trans (moved'.trans (if_pos rfl))
      rw [own]
      exact ⟨announced.trans ((announceReport_of_due (reportedTill_of source purpose) due).trans (by rw [← own]; rfl)),
        reportedTillAfter_of_due (t := { w.till n with day := (w.till n).day.charge x }) due⟩
    · have ended : t.acu.reserved = u.acu.reserved - 3 := by
        rw [moved]
        rfl
      exact ended.trans (congrArg (· - 3) reserved)
    · simp only [true_and, decide_true, Bool.true_and]
      exact hpt
    · exact announced.trans (announceReport_open fun n k source purpose => more rfl n k source purpose)
    · rw [latch'', csc', latch]

end Sys2Proof.Proofs.Valuations
end

section
/-!
R46: what the record of each bag owes the books.  The rule of the books is put as one statement about each record, so that a
write of a record has to answer for that record alone; `d` is what the accountability is still to move by.
-/

namespace Sys2Proof.Machine

open Sys2Proof

set_option Elab.async false

/-! ## What each record owes -/

/-- R139: the value of a CONFIRMED bag's latest tally is its book value. -/
def Valued (s : State) (b : Bag) : Prop := b.state = .confirmed → ∃ y, b.tally = some y ∧ valueTally y s = some b.book

/-- R94, R95: a live bag still undeclared and not CONFIRMED has the book value +0. -/
def Undeclared (b : Bag) : Prop := b.flags.undeclared = true → b.state.live = true → b.state ≠ .confirmed → b.book = 0

/-- R83: the record is that of the float of till `n`. -/
def FloatOf (s : State) (n : Nat) (b : Bag) : Prop :=
  b.state = .intact ∧ b.purpose = .float ∧ b.source.till? = some n ∧ b.book = linesValue (s.till n).floatLines s

/-- R83: till `n` waits with the bag `r` as its float. -/
def Floats (s : State) (n r : Nat) : Prop := (s.till n).state = .floatReady ∧ (s.till n).floatBag = some r

/-- What the record of bag `r` owes to the lists that name it, and of itself. -/
structure Owed (s : State) (r : Nat) (b : Bag) : Prop where
  retired    : r ∈ s.bgr.retired → b.state.live = false
  counting   : r ∈ s.countingBags → b.state = .counting
  unsent     : r ∈ s.unsentBags → b.purpose = .deposit ∧ b.state = .intact
  float      : ∀ n, Floats s n r → FloatOf s n b
  valued     : Valued s b
  undeclared : Undeclared b

/-- No list names bag `r`. -/
structure Unnamed (s : State) (r : Nat) : Prop where
  retired  : r ∉ s.bgr.retired
  counting : r ∉ s.countingBags
  unsent   : r ∉ s.unsentBags
  float    : ∀ n, ¬ Floats s n r

theorem Unnamed.owed {s : State} {r : Nat} {b : Bag} (h : Unnamed s r) (valued : Valued s b) (undeclared : Undeclared b) :
    Owed s r b :=
  ⟨fun mem => absurd mem h.retired, fun mem => absurd mem h.counting, fun mem => absurd mem h.unsent,
    fun n floats => absurd floats (h.float n), valued, undeclared⟩

/-- R84: the till of a float. -/
def TillSound (s : State) (n : Nat) : Prop := (s.till n).state = .floatReady →
  n ∈ tillNumbers ∧ (s.till n).before ≠ some .floatReady ∧ (∀ l ∈ (s.till n).floatLines, l.slot ≤ 7) ∧ ∃ r, (s.till n).floatBag = some r

/-- R80: the lines of a template. -/
def LinesSound (l : List SlotLine) : Prop := (∀ x ∈ l, x.slot ≤ 7) ∧ (l.map SlotLine.slot).Nodup

/-- R3, R44: the straps of a slot. -/
def StrapsSound (s : State) (i : Nat) : Prop := ∀ k, (s.denom i).strap? = some k → 0 < k ∧ (s.slotStock i).strapped % k = 0

/-- R103, R118, R122, R130, R132: the lanes, the reconciliation queue and the engine agree. -/
structure LanesSound (s : State) : Prop where
  once   : s.countingBags.Nodup
  batch  : ∀ n ∈ laneNumbers, laneBatchRule (s.lane n) = true
  queue  : s.queuedLanes.Nodup
  queued : ∀ n ∈ s.queuedLanes, laneQueuedRule s n = true
  engine : engineRule s = true

/-- R46, and what the records that a movement reads owe it; the accountability has still to move by `d`. -/
structure Books (d : Int) (s : State) : Prop where
  table     : Table.wf none s.bgr.bags = true
  balance   : s.acu.accountability + d = s.stockValue + s.bookSum
  retired   : s.bgr.retired.Nodup
  straps    : ∀ i ∈ slotNumbers, StrapsSound s i
  templates : ∀ n, LinesSound (s.template n)
  tills     : ∀ n, TillSound s n
  lanes     : LanesSound s
  unsent    : s.unsentBags.Nodup
  owed      : ∀ r b, s.bag r = some b → Owed s r b
  free      : ∀ r, s.bag r = none → Unnamed s r

/-! ## The rule of the books -/

section Rule

variable {s : State}

theorem distinct_iff (l : List Nat) : distinct l = true ↔ l.Nodup := by simp [distinct]

theorem any_iff {α : Type} (x : Option α) (p : α → Bool) : x.any p = true ↔ ∃ a, x = some a ∧ p a = true := by
  cases x <;> simp

/-- A test of the bags a list names, as a statement about each record and each free slot. -/
theorem named_iff (l : List Nat) (p : Bag → Bool) : l.all (fun r => (s.bag r).any p) = true ↔
    (∀ r b, s.bag r = some b → r ∈ l → p b = true) ∧ ∀ r, s.bag r = none → r ∉ l := by
  rw [List.all_eq_true]
  constructor
  · intro h
    refine ⟨fun r b held mem => ?_, fun r free mem => ?_⟩
    · have own := h r mem
      rwa [held] at own
    · have own := h r mem
      rw [free] at own
      cases own
  · rintro ⟨held, free⟩ r mem
    cases bag : s.bag r with
    | none => exact absurd mem (free r bag)
    | some b => exact held r b bag mem

theorem templateRule_iff (wf : Table.wf [] s.tau.templates = true) : templateRule s = true ↔ ∀ n, LinesSound (s.template n) := by
  have line : ∀ l : List SlotLine, (l.all (fun x => decide (x.slot ≤ 7)) && distinct (l.map SlotLine.slot)) = true ↔ LinesSound l := by
    intro l
    simp [LinesSound, distinct_iff]
  unfold templateRule
  rw [List.all_eq_true]
  constructor
  · intro h n
    by_cases blank : s.template n = []
    · rw [blank]
      exact ⟨by simp, by simp⟩
    · exact (line _).mp (h (n, s.template n) ((Table.mem_iff [] _ wf n _).mpr ⟨rfl, blank⟩))
  · rintro h ⟨n, l⟩ mem
    have own := ((Table.mem_iff [] _ wf n l).mp mem).1
    exact (line l).mpr (own ▸ h n)

theorem floatRule_iff (wf : Table.wf Till.initial s.tau.tills = true) : floatRule s = true ↔
    (∀ n, TillSound s n) ∧ (∀ r b, s.bag r = some b → ∀ n, Floats s n r → FloatOf s n b) ∧
      ∀ r, s.bag r = none → ∀ n, ¬ Floats s n r := by
  rw [floatRule, tillsAll_iff s _ wf fun n => rfl]
  have till : ∀ n, (decide ((s.till n).state ≠ .floatReady) || holdsFloat s n (s.till n)) = true ↔
      TillSound s n ∧ ((s.till n).state = .floatReady → ∃ r, (s.till n).floatBag = some r ∧ ∃ b, s.bag r = some b ∧ FloatOf s n b) := by
    intro n
    by_cases ready : (s.till n).state = .floatReady
    · simp only [ready, ne_eq, not_true_eq_false, decide_false, Bool.false_or, holdsFloat, Bool.and_eq_true, decide_eq_true_eq,
        List.all_eq_true, any_iff, TillSound, FloatOf, true_implies, Option.bind_eq_some_iff]
      constructor
      · rintro ⟨⟨⟨valid, before⟩, lines⟩, b, ⟨r, bag, held⟩, ⟨⟨state, purpose⟩, source⟩, book⟩
        exact ⟨⟨valid, before, lines, r, bag⟩, r, bag, b, held, state, purpose, source, book⟩
      · rintro ⟨⟨valid, before, lines, -⟩, r, bag, b, held, state, purpose, source, book⟩
        exact ⟨⟨⟨valid, before⟩, lines⟩, b, ⟨r, bag, held⟩, ⟨⟨state, purpose⟩, source⟩, book⟩
    · simp [ready, TillSound]
  simp only [till]
  constructor
  · intro h
    refine ⟨fun n => (h n).1, fun r b held n floats => ?_, fun r free n floats => ?_⟩
    · obtain ⟨r', bag, b', held', own⟩ := (h n).2 floats.1
      obtain rfl := Option.some.inj (bag.symm.trans floats.2)
      obtain rfl := Option.some.inj (held.symm.trans held')
      exact own
    · obtain ⟨r', bag, b', held', -⟩ := (h n).2 floats.1
      obtain rfl := Option.some.inj (bag.symm.trans floats.2)
      rw [free] at held'
      cases held'
  · rintro ⟨tills, own, free⟩ n
    refine ⟨tills n, fun ready => ?_⟩
    obtain ⟨-, -, -, r, bag⟩ := tills n ready
    cases held : s.bag r with
    | none => exact absurd ⟨ready, bag⟩ (free r held n)
    | some b => exact ⟨r, bag, b, held, own r b held n ⟨ready, bag⟩⟩

theorem confirmedRule_iff (wf : Table.wf none s.bgr.bags = true) :
    confirmedRule s = true ↔ ∀ r b, s.bag r = some b → Valued s b := by
  rw [confirmedRule, bagsAll_iff s _ wf]
  refine forall_congr' fun r => forall_congr' fun b => imp_congr_right fun _ => ?_
  by_cases state : b.state = .confirmed <;> simp [Valued, state, any_iff]

theorem undeclaredRule_iff (wf : Table.wf none s.bgr.bags = true) :
    undeclaredRule s = true ↔ ∀ r b, s.bag r = some b → Undeclared b := by
  rw [undeclaredRule, bagsAll_iff s _ wf]
  refine forall_congr' fun r => forall_congr' fun b => imp_congr_right fun _ => ?_
  unfold Undeclared
  cases b.flags.undeclared <;> cases b.state.live <;> by_cases state : b.state = .confirmed <;> simp [state]

theorem strapRule_iff : strapRule s = true ↔ ∀ i ∈ slotNumbers, StrapsSound s i := by
  rw [strapRule, List.all_eq_true]
  refine forall_congr' fun i => imp_congr_right fun _ => ?_
  unfold StrapsSound
  cases (s.denom i).strap? <;> simp

theorem tablesRule_parts (h : tablesRule s = true) : Table.wf none s.bgr.bags = true ∧ Table.wf Till.initial s.tau.tills = true ∧
    Table.wf [] s.tau.templates = true := by
  simp only [tablesRule, Bool.and_eq_true] at h
  obtain ⟨⟨⟨⟨⟨⟨⟨⟨⟨⟨⟨-, -⟩, -⟩, -⟩, bags⟩, -⟩, tills⟩, templates⟩, -⟩, -⟩, -⟩, -⟩ := h
  exact ⟨bags, tills, templates⟩

/-- The rule of the books, record by record. -/
theorem booksRule_iff (tables : tablesRule s = true) : booksRule s = true ↔ Books 0 s := by
  obtain ⟨bags, tills, templates⟩ := tablesRule_parts tables
  simp only [booksRule, Bool.and_eq_true, balanceRule, decide_eq_true_eq, retiredRule, countingRule, outboundRule, distinct_iff,
    named_iff, strapRule_iff, templateRule_iff templates, floatRule_iff tills, confirmedRule_iff bags, undeclaredRule_iff bags]
  constructor
  · rintro ⟨⟨⟨⟨⟨⟨⟨⟨⟨balance, once, dead, undead⟩, straps⟩, lines⟩, sound, own, unheld⟩, valued⟩, undeclared⟩,
      ⟨⟨⟨⟨counted, counting, uncounted⟩, batch⟩, queue⟩, queued⟩⟩, engine⟩, single, unsent, sent⟩
    refine ⟨bags, by rw [add_zero]; exact balance, once, straps, lines, sound, ⟨counted, ?_, queue, ?_, engine⟩, single,
      fun r b held => ⟨fun mem => ?_, fun mem => ?_, fun mem => ?_, own r b held, valued r b held, undeclared r b held⟩,
      fun r free => ⟨undead r free, uncounted r free, sent r free, unheld r free⟩⟩
    · exact List.all_eq_true.mp batch
    · exact List.all_eq_true.mp queued
    · simpa using dead r b held mem
    · exact counting r b held mem
    · exact unsent r b held mem
  · rintro ⟨-, balance, once, straps, lines, sound, ⟨counted, batch, queue, queued, engine⟩, single, owed, free⟩
    rw [add_zero] at balance
    exact ⟨⟨⟨⟨⟨⟨⟨⟨⟨balance, once, fun r b held mem => by simpa using (owed r b held).retired mem, fun r none => (free r none).retired⟩,
      straps⟩, lines⟩, sound, fun r b held => (owed r b held).float, fun r none => (free r none).float⟩,
      fun r b held => (owed r b held).valued⟩, fun r b held => (owed r b held).undeclared⟩,
      ⟨⟨⟨⟨counted, fun r b held mem => (owed r b held).counting mem, fun r none => (free r none).counting⟩,
        List.all_eq_true.mpr batch⟩, queue⟩, List.all_eq_true.mpr queued⟩⟩, engine⟩, single,
      fun r b held mem => (owed r b held).unsent mem, fun r none => (free r none).unsent⟩

end Rule

end Sys2Proof.Machine
end

section
/-!
R46: what each write of a record does to the books.
-/

namespace Sys2Proof.Machine

open Sys2Proof

set_option Elab.async false

section Writes

variable {d e : Int} {s t : State} {r n : Nat} {b : Bag}

theorem Books.debt (h : Books d s) (same : d = e) : Books e s := same ▸ h

/-! ## Records that the rule does not read -/

/-- The records that the rule of the books reads, but the tills. -/
def SameRecords (s t : State) : Prop :=
  t.acu.accountability = s.acu.accountability ∧ t.acu.denoms = s.acu.denoms ∧ t.acu.stock = s.acu.stock ∧
  t.bgr.bags = s.bgr.bags ∧ t.bgr.retired = s.bgr.retired ∧ t.tau.templates = s.tau.templates ∧ t.clc = s.clc ∧
  t.rcu = s.rcu ∧ t.hoc.manifests = s.hoc.manifests

/-- Two till records with the same float. -/
def Alike (a b : Till) : Prop := b.before = a.before ∧ b.floatLines = a.floatLines ∧ b.floatBag = a.floatBag ∧
  (b.state = a.state ∨ a.state ≠ .floatReady ∧ b.state ≠ .floatReady)

theorem Alike.refl (a : Till) : Alike a a := ⟨rfl, rfl, rfl, .inl rfl⟩

theorem Alike.ready {a b : Till} (h : Alike a b) (ready : b.state = .floatReady) : a.state = .floatReady := by
  rcases h.2.2.2 with same | ⟨-, other⟩
  · rw [← same, ready]
  · exact absurd ready other

/-- A till record that, with a float made, has the float of another. -/
def FloatKept (a b : Till) : Prop := b.state = .floatReady →
  a.state = .floatReady ∧ b.before = a.before ∧ b.floatLines = a.floatLines ∧ b.floatBag = a.floatBag

theorem Alike.kept {a b : Till} (h : Alike a b) : FloatKept a b := fun ready => ⟨h.ready ready, h.1, h.2.1, h.2.2.1⟩

theorem LanesSound.congr (h : LanesSound s) (clc : t.clc = s.clc) (rcu : t.rcu = s.rcu) (denoms : t.acu.denoms = s.acu.denoms) :
    LanesSound t := by
  have lane : t.lane = s.lane := by funext n; simp only [State.lane, clc]
  have denom : t.denom = s.denom := by funext i; simp only [State.denom, denoms]
  have value : ∀ y, valueTally y t = valueTally y s := by intro y; simp only [valueTally, denom]
  have counting : t.countingBags = s.countingBags := by simp only [State.countingBags, lane, rcu]
  have queue : t.queuedLanes = s.queuedLanes := by simp only [State.queuedLanes, rcu]
  have queued : laneQueuedRule t = laneQueuedRule s := by funext n; simp only [laneQueuedRule, lane]
  have counts : ∀ e, queuedCount e t = queuedCount e s := by
    intro e
    cases e <;> simp only [queuedCount, lane]
  have engine : engineRule t = engineRule s := by simp only [engineRule, rcu, counts, value]
  exact ⟨counting ▸ h.once, lane ▸ h.batch, queue ▸ h.queue, by rw [queue, queued]; exact h.queued, engine.trans h.engine⟩

/-- A change that leaves the records the rule reads and makes no float. -/
theorem Books.kept (h : Books d s) (same : SameRecords s t) (tills : ∀ n, FloatKept (s.till n) (t.till n)) : Books d t := by
  obtain ⟨acc, denoms, stock, bags, retired, templates, clc, rcu, manifests⟩ := same
  have bag : t.bag = s.bag := by funext r; simp only [State.bag, bags]
  have denom : t.denom = s.denom := by funext i; simp only [State.denom, denoms]
  have slot : t.slotStock = s.slotStock := by funext i; simp only [State.slotStock, stock]
  have template : t.template = s.template := by funext i; simp only [State.template, templates]
  have lane : t.lane = s.lane := by funext n; simp only [State.lane, clc]
  have manifest : t.manifest = s.manifest := by funext n; simp only [State.manifest, manifests]
  have value : ∀ y, valueTally y t = valueTally y s := by intro y; simp only [valueTally, denom]
  have lines : ∀ l, linesValue l t = linesValue l s := by intro l; simp only [linesValue, denom]
  have counting : t.countingBags = s.countingBags := by simp only [State.countingBags, lane, rcu]
  have unsent : t.unsentBags = s.unsentBags := by simp only [State.unsentBags, State.manifestsWhere, manifest]
  have floats : ∀ n r, Floats t n r → Floats s n r := fun n r ⟨ready, holds⟩ => by
    obtain ⟨state, -, -, bag⟩ := tills n ready
    exact ⟨state, bag ▸ holds⟩
  have floatOf : ∀ n b, (t.till n).state = .floatReady → FloatOf s n b → FloatOf t n b := fun n b ready ⟨state, purpose, source, book⟩ => by
    obtain ⟨-, -, same, -⟩ := tills n ready
    exact ⟨state, purpose, source, by rw [lines, same]; exact book⟩
  refine ⟨bags ▸ h.table, ?_, retired ▸ h.retired, ?_, fun n => template ▸ h.templates n, fun n ready => ?_, ?_, unsent ▸ h.unsent,
    fun r b held => ?_, fun r none => ?_⟩
  · have stockValue : t.stockValue = s.stockValue := by simp only [State.stockValue, denom, slot]
    have bookSum : t.bookSum = s.bookSum := by simp only [bookSum_eq, bags]
    rw [acc, stockValue, bookSum]
    exact h.balance
  · intro i mem
    have own := h.straps i mem
    unfold StrapsSound at own ⊢
    rw [denom, slot]
    exact own
  · obtain ⟨state, before', lines', bag'⟩ := tills n ready
    obtain ⟨valid, before, slots, bag⟩ := h.tills n state
    rw [before', lines', bag']
    exact ⟨valid, before, slots, bag⟩
  · exact h.lanes.congr clc rcu denoms
  · have o := h.owed r b (bag ▸ held)
    refine ⟨retired ▸ o.retired, counting ▸ o.counting, unsent ▸ o.unsent, fun n f => floatOf n b f.1 (o.float n (floats n r f)),
      fun state => ?_, o.undeclared⟩
    obtain ⟨y, tally, valued⟩ := o.valued state
    exact ⟨y, tally, (value y).trans valued⟩
  · have o := h.free r (bag ▸ none)
    exact ⟨retired ▸ o.retired, counting ▸ o.counting, unsent ▸ o.unsent, fun n f => o.float n (floats n r f)⟩

/-- A change that leaves the records the rule reads, and each till's float. -/
theorem Books.alike (h : Books d s) (same : SameRecords s t) (tills : ∀ n, Alike (s.till n) (t.till n)) : Books d t :=
  h.kept same fun n => (tills n).kept

/-- A change that leaves the records the rule reads and the tills. -/
theorem Books.same (h : Books d s) (records : SameRecords s t) (tills : t.tau.tills = s.tau.tills) : Books d t :=
  h.alike records fun n => by
    have own : t.till n = s.till n := by simp only [State.till, tills]
    rw [own]
    exact .refl _

theorem Books.putTill (h : Books d s) {x : Till} (alike : Alike (s.till n) x) : Books d (putTill n x s) :=
  h.alike ⟨rfl, rfl, rfl, rfl, rfl, rfl, rfl, rfl, rfl⟩ fun m => by
    rw [putTill_till]
    split
    · next same => exact same ▸ alike
    · exact .refl _

/-- R83 to R85: a till that waits with no float is written. -/
theorem Books.unready (h : Books d s) {x : Till} (state : x.state ≠ .floatReady) : Books d (Machine.putTill n x s) :=
  h.kept ⟨rfl, rfl, rfl, rfl, rfl, rfl, rfl, rfl, rfl⟩ fun m => by
    rw [putTill_till]
    split
    · exact fun ready => absurd ready state
    · exact fun ready => ⟨ready, rfl, rfl, rfl⟩

/-- R83: a till takes a float whose bag is on the table. -/
theorem Books.ready (h : Books d s) {x : Till} (valid : n ∈ tillNumbers) (before : x.before ≠ some .floatReady)
    (slots : ∀ l ∈ x.floatLines, l.slot ≤ 7) (bag : x.floatBag = some r) (held : s.bag r = some b) (state : b.state = .intact)
    (purpose : b.purpose = .float) (source : b.source.till? = some n) (book : b.book = linesValue x.floatLines s) :
    Books d (Machine.putTill n x s) := by
  have till : ∀ m, (Machine.putTill n x s).till m = if m = n then x else s.till m := fun m => putTill_till ..
  have others : ∀ m q, m ≠ n → Floats (Machine.putTill n x s) m q → Floats s m q := fun m q other floats => by
    unfold Floats at floats
    rw [till, if_neg other] at floats
    exact floats
  refine ⟨h.table, h.balance, h.retired, h.straps, h.templates, fun m => ?_, h.lanes.congr rfl rfl rfl, h.unsent, fun q c own => ?_,
    fun q free => ?_⟩
  · unfold TillSound
    rw [till]
    split
    · next same => exact fun _ => ⟨same ▸ valid, before, slots, r, bag⟩
    · exact h.tills m
  · have o := h.owed q c own
    refine ⟨o.retired, o.counting, o.unsent, fun m floats => ?_, o.valued, o.undeclared⟩
    by_cases same : m = n
    · subst same
      unfold Floats at floats
      rw [till, if_pos rfl, bag] at floats
      obtain rfl := Option.some.inj floats.2
      obtain rfl := Option.some.inj (held.symm.trans own)
      refine ⟨state, purpose, source, ?_⟩
      rw [till, if_pos rfl]
      exact book
    · obtain ⟨intact, float, origin, value⟩ := o.float m (others m q same floats)
      refine ⟨intact, float, origin, ?_⟩
      rw [till, if_neg same]
      exact value
  · have o := h.free q free
    refine ⟨o.retired, o.counting, o.unsent, fun m floats => ?_⟩
    by_cases same : m = n
    · subst same
      unfold Floats at floats
      rw [till, if_pos rfl, bag] at floats
      obtain rfl := Option.some.inj floats.2
      rw [show s.bag r = none from free] at held
      cases held
    · exact o.float m (others m q same floats)

/-! ## Bag records -/

/-- The record of bag `r` is written. -/
theorem Books.putBag (h : Books d s) (o : Owed s r b) :
    Books (d + bookPart (some b) - bookPart (s.bag r)) (putBag r b s) := by
  refine ⟨Table.wf_set none s.bgr.bags r (some b) h.table, ?_, h.retired, h.straps, h.templates, h.tills, h.lanes.congr rfl rfl rfl,
    h.unsent, fun q c held => ?_, fun q free => ?_⟩
  · have balance := h.balance
    have stock : (Machine.putBag r b s).stockValue = s.stockValue := rfl
    have acc : (Machine.putBag r b s).acu = s.acu := rfl
    rw [bookSum_putBag r b s h.table, stock, acc]
    omega
  · rw [putBag_bag] at held
    split at held
    · next same =>
        obtain rfl := Option.some.inj held
        subst same
        exact ⟨o.retired, o.counting, o.unsent, o.float, o.valued, o.undeclared⟩
    · have own := h.owed q c held
      exact ⟨own.retired, own.counting, own.unsent, own.float, own.valued, own.undeclared⟩
  · rw [putBag_bag] at free
    split at free
    · cases free
    · have own := h.free q free
      exact ⟨own.retired, own.counting, own.unsent, own.float⟩

/-- R27: a record written over one that is as live and has the same book value. -/
theorem Books.rewrite (h : Books d s) {c : Bag} (held : s.bag r = some c) (o : Owed s r b) (live : b.state.live = c.state.live)
    (book : b.book = c.book) : Books d (Machine.putBag r b s) :=
  (h.putBag o).debt (by rw [held, bookPart, bookPart, live, book]; omega)

/-- R30: a bag that no list names is retired with a record that is not live. -/
theorem Books.retireBag (h : Books d s) (unnamed : Unnamed s r) (dead : b.state.live = false) :
    Books (d - bookPart (s.bag r)) (retireBag r b s) := by
  have valued : Valued s b := fun state => by rw [state] at dead; cases dead
  have undeclared : Undeclared b := fun _ live => by rw [dead] at live; cases live
  have written := h.putBag (unnamed.owed valued undeclared)
  have listed : Books (d - bookPart (s.bag r)) { Machine.putBag r b s with bgr.retired := s.bgr.retired ++ [r] } := by
    refine ⟨written.table, ?_, ?_, written.straps, written.templates, written.tills, written.lanes.congr rfl rfl rfl,
      written.unsent, fun q c held => ?_,
      fun q free => ?_⟩
    · have balance := written.balance
      have part : bookPart (some b) = 0 := by rw [bookPart, dead]; rfl
      rw [part, add_zero] at balance
      exact balance
    · exact List.nodup_append.mpr ⟨h.retired, by simp, fun a mem c last same => unnamed.retired (by
        rw [List.mem_singleton] at last
        rw [← last, ← same]
        exact mem)⟩
    · have own := written.owed q c held
      refine ⟨fun mem => ?_, own.counting, own.unsent, own.float, own.valued, own.undeclared⟩
      rcases List.mem_append.mp mem with before | last
      · exact own.retired before
      · rw [List.mem_singleton] at last
        have held' : (Machine.putBag r b s).bag q = some c := held
        rw [last, putBag_bag, if_pos rfl] at held'
        rw [← Option.some.inj held', dead]
    · have own := written.free q free
      refine ⟨fun mem => ?_, own.counting, own.unsent, own.float⟩
      rcases List.mem_append.mp mem with before | last
      · exact own.retired before
      · rw [List.mem_singleton] at last
        have free' : (Machine.putBag r b s).bag q = none := free
        rw [last, putBag_bag, if_pos rfl] at free'
        cases free'
  exact listed.same (by simp [SameRecords, Machine.retireBag]) (by simp [Machine.retireBag])

/-- R28: a free slot takes a new record. -/
theorem Books.recordBag (h : Books d s) (free : s.bag r = none) (valued : Valued s b) (undeclared : Undeclared b) :
    Books (d + bookPart (some b)) (recordBag r b s) := by
  have written := h.putBag ((h.free r free).owed valued undeclared)
  have none : bookPart (s.bag r) = 0 := by rw [free]; rfl
  rw [none, sub_zero] at written
  exact written.same (by simp [SameRecords, Machine.recordBag]) (by simp [Machine.recordBag])

/-- R31: the slots of bags that no list names but the retired list, and that are not live, are freed. -/
theorem Books.freeBag (h : Books d s) {rest : List Nat} (listed : s.bgr.retired = r :: rest) :
    Books d { s with bgr.bags := Table.set none s.bgr.bags r none, bgr.retired := rest } := by
  have once := h.retired
  rw [listed, List.nodup_cons] at once
  have bag : ∀ q, ({ s with bgr.bags := Table.set none s.bgr.bags r none, bgr.retired := rest } : State).bag q =
      if q = r then none else s.bag q := fun q => by
    simp only [State.bag, Table.get_set]
  have dead : bookPart (s.bag r) = 0 := by
    cases held : s.bag r with
    | none => rfl
    | some b =>
      have gone := (h.owed r b held).retired (by simp [listed])
      rw [bookPart, gone]
      rfl
  have own : ∀ b, s.bag r = some b → b.state.live = false := fun b held => (h.owed r b held).retired (by simp [listed])
  have unfloated : ∀ n, ¬ Floats s n r := fun n floats => by
    cases held : s.bag r with
    | none => exact (h.free r held).float n floats
    | some b =>
      have intact := ((h.owed r b held).float n floats).1
      have gone := own b held
      rw [intact] at gone
      cases gone
  refine ⟨Table.wf_set none s.bgr.bags r none h.table, ?_, once.2, h.straps, h.templates, h.tills, h.lanes.congr rfl rfl rfl, h.unsent,
    fun q b held => ?_, fun q free => ?_⟩
  · have balance := h.balance
    have sum := bookSum_free r s.bgr.bags h.table
    rw [show Table.get none s.bgr.bags r = s.bag r from rfl, dead] at sum
    change s.acu.accountability + d = s.stockValue + Table.total bookPart (Table.set none s.bgr.bags r none)
    rw [sum]
    rw [bookSum_eq] at balance
    omega
  · rw [bag] at held
    split at held
    · cases held
    · have own := h.owed q b held
      exact ⟨fun mem => own.retired (by rw [listed]; exact .tail _ mem), own.counting, own.unsent, own.float, own.valued, own.undeclared⟩
  · rw [bag] at free
    split at free
    · next same =>
        subst same
        refine ⟨once.1, fun mem => ?_, fun mem => ?_, unfloated⟩
        · cases held : s.bag q with
          | none => exact (h.free q held).counting mem
          | some b =>
            have counts := (h.owed q b held).counting mem
            have gone := own b held
            rw [counts] at gone
            cases gone
        · cases held : s.bag q with
          | none => exact (h.free q held).unsent mem
          | some b =>
            have intact := ((h.owed q b held).unsent mem).2
            have gone := own b held
            rw [intact] at gone
            cases gone
    · have own := h.free q free
      exact ⟨fun mem => own.retired (by rw [listed]; exact .tail _ mem), own.counting, own.unsent, own.float⟩

/-- R31: an allocated slot is free. -/
theorem Books.allocate (h : Books d s) {u : State} (slot : allocate s = some (r, u)) : Books d u ∧ u.bag r = none := by
  unfold Machine.allocate at slot
  split at slot
  · next lowest =>
      obtain ⟨rfl, rfl⟩ := Prod.mk.inj (Option.some.inj slot)
      have free := List.find?_some lowest
      exact ⟨h, Option.isNone_iff_eq_none.mp free⟩
  · split at slot
    · cases slot
    · next listed =>
        obtain ⟨rfl, rfl⟩ := Prod.mk.inj (Option.some.inj slot)
        exact ⟨h.freeBag listed, by simp [State.bag]⟩

/-- R33, R61: the retired bags are freed. -/
theorem Books.freeRetired (h : Books d s) : Books d (freeRetired s) := by
  have freed : ∀ (l : List Nat) (u : State), Books d u → u.bgr.retired = l →
      Books d { u with bgr.bags := l.foldl (fun t r => Table.set none t r none) u.bgr.bags, bgr.retired := [] } := by
    intro l
    induction l with
    | nil =>
      intro u hu listed
      exact hu.same ⟨rfl, rfl, rfl, rfl, listed.symm, rfl, rfl, rfl, rfl⟩ rfl
    | cons r l ih =>
      intro u hu listed
      exact ih _ (hu.freeBag listed) rfl
  exact (freed _ s h rfl).same (by simp [SameRecords, Machine.freeRetired]) (by simp [Machine.freeRetired])

end Writes

end Sys2Proof.Machine
end

section
/-!
R46: what a movement does to the books (R44, R47).
-/

namespace Sys2Proof.Machine

open Sys2Proof

set_option Elab.async false

/-! ## Changes of the stock -/

/-- R45: what a stock change adds to the stock value. -/
def changeGain (D : Denom) (c : StockChange) : Int :=
  match D with
  | .unused => 0
  | .note face _ => (c.strapped + c.loose + c.unfit) * face
  | .coin face => c.coin * face

/-- R44: a stock change leaves no count below 0 and moves whole straps. -/
structure Fits (D : Nat → Denom) (T : Table SlotStock) (c : StockChange) : Prop where
  slot     : c.slot ∈ slotNumbers
  strapped : 0 ≤ ((Table.get SlotStock.initial T c.slot).strapped : Int) + c.strapped
  loose    : 0 ≤ ((Table.get SlotStock.initial T c.slot).loose : Int) + c.loose
  unfit    : 0 ≤ ((Table.get SlotStock.initial T c.slot).unfit : Int) + c.unfit
  coin     : 0 ≤ ((Table.get SlotStock.initial T c.slot).coin : Int) + c.coin
  whole    : ∀ k, (D c.slot).strap? = some k → (k : Int) ∣ c.strapped

/-- R44, R47: the changes of a movement, each on the stock that those before it leave. -/
def FitsAll (D : Nat → Denom) : Table SlotStock → List StockChange → Prop
  | _, [] => True
  | T, c :: l => Fits D T c ∧ FitsAll D (applyStock T c) l

section Stock

variable {D : Nat → Denom} {T : Table SlotStock} {c : StockChange} {l : List StockChange} {s : State}

theorem slotValue_gain (fits : Fits D T c) : slotValue (D c.slot) (Table.get SlotStock.initial (applyStock T c) c.slot) =
    slotValue (D c.slot) (Table.get SlotStock.initial T c.slot) + changeGain (D c.slot) c := by
  obtain ⟨-, strapped, loose, unfit, coin, -⟩ := fits
  rw [get_applyStock, if_pos rfl]
  generalize Table.get SlotStock.initial T c.slot = k at *
  cases D c.slot with
  | unused => rfl
  | note face strap =>
    simp only [slotValue, changeGain, Nat.cast_mul, Nat.cast_add, Int.toNat_of_nonneg strapped, Int.toNat_of_nonneg loose,
      Int.toNat_of_nonneg unfit]
    ring
  | coin face =>
    simp only [slotValue, changeGain, Nat.cast_mul, Int.toNat_of_nonneg coin]
    ring

theorem stockValue_gain (fits : Fits s.denom s.acu.stock c) :
    ({ s with acu.stock := applyStock s.acu.stock c } : State).stockValue = s.stockValue + changeGain (s.denom c.slot) c := by
  rw [stockValue_applyStock s c fits.slot, slotValue_gain fits, State.slotStock]
  omega

theorem straps_applyStock (straps : ∀ i ∈ slotNumbers, StrapsSound s i) (fits : Fits s.denom s.acu.stock c) :
    ∀ i ∈ slotNumbers, StrapsSound { s with acu.stock := applyStock s.acu.stock c } i := by
  intro i mem k strap
  obtain ⟨positive, whole⟩ := straps i mem k strap
  refine ⟨positive, ?_⟩
  have reads := get_applyStock s.acu.stock c i
  rw [State.slotStock, reads]
  split
  · next same =>
      subst same
      have straps' : (k : Int) ∣ ((s.slotStock c.slot).strapped : Int) + c.strapped :=
        dvd_add (by exact_mod_cast Nat.dvd_of_mod_eq_zero whole) (fits.whole k strap)
      have nonneg := fits.strapped
      refine Nat.mod_eq_zero_of_dvd ?_
      rw [← Int.natCast_dvd_natCast, Int.toNat_of_nonneg nonneg]
      exact straps'
  · exact whole

theorem stockValue_all (l : List StockChange) (s : State) (straps : ∀ i ∈ slotNumbers, StrapsSound s i)
    (fits : FitsAll s.denom s.acu.stock l) :
    ({ s with acu.stock := l.foldl applyStock s.acu.stock } : State).stockValue =
      s.stockValue + (l.map (fun c => changeGain (s.denom c.slot) c)).sum ∧
    ∀ i ∈ slotNumbers, StrapsSound { s with acu.stock := l.foldl applyStock s.acu.stock } i := by
  induction l generalizing s with
  | nil => exact ⟨(add_zero _).symm, straps⟩
  | cons c l ih =>
    obtain ⟨first, rest⟩ := fits
    obtain ⟨value, sound⟩ := ih { s with acu.stock := applyStock s.acu.stock c } (straps_applyStock straps first) rest
    refine ⟨?_, sound⟩
    have gained := stockValue_gain first
    rw [List.map_cons, List.sum_cons, ← add_assoc, ← gained]
    exact value

/-- Changes of different slots do not meet. -/
theorem fitsAll_of_distinct (once : (l.map StockChange.slot).Nodup) (fits : ∀ c ∈ l, Fits D T c) : FitsAll D T l := by
  induction l generalizing T with
  | nil => trivial
  | cons c l ih =>
    rw [List.map_cons, List.nodup_cons] at once
    refine ⟨fits c (by simp), ih once.2 fun x mem => ?_⟩
    have other : x.slot ≠ c.slot := fun same => once.1 (same ▸ List.mem_map_of_mem mem)
    obtain ⟨slot, strapped, loose, unfit, coin, whole⟩ := fits x (by simp [mem])
    have reads : Table.get SlotStock.initial (applyStock T c) x.slot = Table.get SlotStock.initial T x.slot := by
      rw [get_applyStock, if_neg other]
    exact ⟨slot, by rw [reads]; exact strapped, by rw [reads]; exact loose, by rw [reads]; exact unfit, by rw [reads]; exact coin, whole⟩

/-- Pieces can always be added. -/
theorem fitsAll_of_adds (slots : ∀ c ∈ l, c.slot ∈ slotNumbers)
    (adds : ∀ c ∈ l, c.strapped = 0 ∧ 0 ≤ c.loose ∧ 0 ≤ c.unfit ∧ 0 ≤ c.coin) : FitsAll D T l := by
  induction l generalizing T with
  | nil => trivial
  | cons c l ih =>
    obtain ⟨strapped, loose, unfit, coin⟩ := adds c (by simp)
    exact ⟨⟨slots c (by simp), by omega, by omega, by omega, by omega, fun k _ => by rw [strapped]; exact dvd_zero _⟩,
      ih (fun x mem => slots x (by simp [mem])) fun x mem => adds x (by simp [mem])⟩

theorem countFail_none {n k : Nat} {x : Int} (h : countFail n k x = none) : 0 ≤ (k : Int) + x := ((countFail_none_iff n k x).mp h).1

/-- R44: a change that passes the stock check. -/
theorem fits_of_stockFail (slot : c.slot ∈ slotNumbers) (straps : StrapsSound s c.slot) (passes : stockFail s c = none) :
    Fits s.denom s.acu.stock c := by
  unfold stockFail at passes
  simp only [Option.or_eq_none_iff] at passes
  obtain ⟨strapped, loose, unfit, coin, whole⟩ := passes
  refine ⟨slot, countFail_none strapped, countFail_none loose, countFail_none unfit, countFail_none coin, fun k strap => ?_⟩
  rw [strap] at whole
  dsimp only at whole
  split at whole
  · next multiple =>
      have held : (k : Int) ∣ ((s.slotStock c.slot).strapped : Int) :=
        Int.natCast_dvd_natCast.mpr (Nat.dvd_of_mod_eq_zero (straps k strap).2)
      exact (dvd_add_right held).mp (Int.dvd_of_emod_eq_zero multiple)
  · cases whole

end Stock

/-! ## The movement -/

section Movement

variable {d e : Int} {s t : State} {m : Movement}

/-- A change of the accountability and the stock. -/
theorem Books.figures (h : Books d s) {a : Acu} (denoms : a.denoms = s.acu.denoms)
    (straps : ∀ i ∈ slotNumbers, StrapsSound { s with acu := a } i)
    (balance : a.accountability + e = ({ s with acu := a } : State).stockValue + s.bookSum) : Books e { s with acu := a } := by
  have value : ∀ y, valueTally y { s with acu := a } = valueTally y s := fun y => valueTally_congr denoms
  have lines : ∀ l, linesValue l { s with acu := a } = linesValue l s := fun l => by simp only [linesValue, State.denom, denoms]
  refine ⟨h.table, balance, h.retired, straps, h.templates, h.tills, h.lanes.congr rfl rfl denoms, h.unsent, fun r b held => ?_,
    fun r free => ?_⟩
  · have o := h.owed r b held
    refine ⟨o.retired, o.counting, o.unsent, fun n f => ?_, fun state => ?_, o.undeclared⟩
    · obtain ⟨intact, purpose, source, book⟩ := o.float n f
      exact ⟨intact, purpose, source, by rw [lines]; exact book⟩
    · obtain ⟨y, tally, valued⟩ := o.valued state
      exact ⟨y, tally, (value y).trans valued⟩
  · have o := h.free r free
    exact ⟨o.retired, o.counting, o.unsent, o.float⟩

theorem chargeAccount_alike (x : Option (Account × Int)) (s : State) (n : Nat) : Alike (s.till n) ((chargeAccount x s).till n) := by
  rcases x with _ | ⟨_ | _ | _, _⟩
  · exact .refl _
  · rw [chargeAccount_till]
    split
    · next same =>
        rw [same]
        exact ⟨rfl, rfl, rfl, .inl rfl⟩
    · exact .refl _
  · exact .refl _
  · exact .refl _

/-- R45: what a movement adds to the stock value. -/
def Movement.gain (m : Movement) (s : State) : Int := (m.stock.map (fun c => changeGain (s.denom c.slot) c)).sum

/-- R46, R47: a movement whose changes fit moves the accountability by its entries and the stock value by its changes. -/
theorem Books.applyMovement (h : Books d s) (m : Movement) (fits : FitsAll s.denom s.acu.stock m.stock) :
    Books (d - m.delta + m.gain s) (applyMovement m s) := by
  obtain ⟨value, straps⟩ := stockValue_all m.stock s h.straps fits
  have moved : Books (d - m.delta + m.gain s) { s with acu := { s.acu with
      accountability := s.acu.accountability + m.delta
      stock := m.stock.foldl applyStock s.acu.stock } } := by
    refine h.figures rfl straps ?_
    have balance := h.balance
    have same : ({ s with acu := { s.acu with
      accountability := s.acu.accountability + m.delta
      stock := m.stock.foldl applyStock s.acu.stock } } : State).stockValue = s.stockValue + m.gain s := value
    rw [same]
    dsimp only
    omega
  have acu := applyMovement_acu_eq m s
  have tills : ∀ n, (Machine.applyMovement m s).till n = (chargeAccount m.charge s).till n := fun n => by
    rw [State.till, applyMovement_tau, State.till]
  obtain ⟨-, -, -, bgr, clc, rcu, -, hoc⟩ := applyMovement_frame m s
  refine moved.alike ⟨by rw [acu], by rw [acu], by rw [acu], by rw [bgr], by rw [bgr], by simp, clc, rcu, by rw [hoc]⟩ fun n => ?_
  rw [tills]
  exact chargeAccount_alike m.charge s n

/-- R47: a movement of entries alone. -/
theorem Books.entries (h : Books d s) (o : Origin) (l : List EntrySpec) :
    Books (d - (entriesOnly o l).delta) (Machine.applyMovement (entriesOnly o l) s) :=
  (h.applyMovement (entriesOnly o l) trivial).debt (by simp [Movement.gain, entriesOnly])

end Movement

end Sys2Proof.Machine
end

section
/-!
R46: what the lanes and the reconciliation queue owe the books (R27, R103, R118, R122, R130, R132).
-/

namespace Sys2Proof.Machine

open Sys2Proof

set_option Elab.async false

/-! ## The bags that are counted -/

/-- The bags of a lane's batches. -/
def laneRefs (l : Lane) : List Nat := (l.batch.map Batch.ref).toList ++ l.stack.map (fun x => x.batch.ref)

/-- The bags of the MANUAL entries of a queue. -/
def manualRefs (q : List QueueEntry) : List Nat :=
  q.filterMap (fun e => match e with
    | .manual ref _ => some ref
    | .lane _ => none)

theorem countingBags_eq (s : State) :
    s.countingBags = laneNumbers.flatMap (fun n => laneRefs (s.lane n)) ++ manualRefs s.rcu.queue := rfl

/-- Two lists built item by item that differ in the part of one item. -/
theorem flatMap_split {f g : Nat → List Nat} {l : List Nat} {n : Nat} (once : l.Nodup) (mem : n ∈ l) (same : ∀ k, k ≠ n → g k = f k) :
    ∃ a b, l.flatMap f = a ++ (f n ++ b) ∧ l.flatMap g = a ++ (g n ++ b) := by
  obtain ⟨before, after, rfl⟩ := List.append_of_mem mem
  rw [List.nodup_append, List.nodup_cons] at once
  obtain ⟨-, ⟨outside, -⟩, apart⟩ := once
  have head : before.flatMap g = before.flatMap f := List.flatMap_congr fun k hk => same k fun e => apart k hk n (.head _) e
  have tail : after.flatMap g = after.flatMap f := List.flatMap_congr fun k hk => same k fun e => outside (e ▸ hk)
  exact ⟨before.flatMap f, after.flatMap f, by simp, by simp [head, tail]⟩

section Refs

variable {d : Int} {s t : State} {n r : Nat} {l : Lane}

theorem countingBags_putLane (valid : n ∈ laneNumbers) : ∃ a b, s.countingBags = a ++ (laneRefs (s.lane n) ++ b) ∧
    (putLane n l s).countingBags = a ++ (laneRefs l ++ b) := by
  obtain ⟨a, b, before, after⟩ := flatMap_split (f := fun n => laneRefs (s.lane n)) (g := fun k => laneRefs ((putLane n l s).lane k))
    (by decide : laneNumbers.Nodup) valid fun k other => by rw [putLane_lane, if_neg other]
  rw [putLane_lane, if_pos rfl] at after
  refine ⟨a, b ++ manualRefs s.rcu.queue, ?_, ?_⟩
  · rw [countingBags_eq, before]
    simp
  · rw [countingBags_eq, after]
    simp [putLane]

theorem countingBags_same (valid : n ∈ laneNumbers) (refs : laneRefs l = laneRefs (s.lane n)) :
    (putLane n l s).countingBags = s.countingBags := by
  obtain ⟨a, b, before, after⟩ := countingBags_putLane (s := s) (l := l) valid
  rw [before, after, refs]

/-- A lane that gives up batches. -/
theorem countingBags_fewer (valid : n ∈ laneNumbers) (refs : List.Sublist (laneRefs l) (laneRefs (s.lane n))) :
    List.Sublist (putLane n l s).countingBags s.countingBags := by
  obtain ⟨a, b, before, after⟩ := countingBags_putLane (s := s) (l := l) valid
  rw [before, after]
  exact (List.Sublist.refl a).append (refs.append (List.Sublist.refl b))

/-- A lane that gives up its current batch no longer counts that batch's bag. -/
theorem countingBags_without (valid : n ∈ laneNumbers) (once : s.countingBags.Nodup) (refs : laneRefs (s.lane n) = r :: laneRefs l) :
    r ∉ (putLane n l s).countingBags := by
  obtain ⟨a, b, before, after⟩ := countingBags_putLane (s := s) (l := l) valid
  rw [before, refs] at once
  rw [after]
  have moved : (r :: (a ++ (laneRefs l ++ b))).Nodup := (List.perm_middle.nodup_iff).mp once
  exact (List.nodup_cons.mp moved).1

/-- A lane that takes up a bag that is not counted yet. -/
theorem countingBags_more {k : List Nat} (valid : n ∈ laneNumbers) (once : s.countingBags.Nodup) (refs : laneRefs l = r :: k)
    (sub : List.Sublist k (laneRefs (s.lane n))) (new : r ∉ s.countingBags) :
    (putLane n l s).countingBags.Nodup ∧ ∀ q ∈ (putLane n l s).countingBags, q = r ∨ q ∈ s.countingBags := by
  obtain ⟨a, b, before, after⟩ := countingBags_putLane (s := s) (l := l) valid
  rw [after, refs]
  have rest : List.Sublist (a ++ (k ++ b)) s.countingBags := by
    rw [before]
    exact (List.Sublist.refl a).append (sub.append (List.Sublist.refl b))
  have moved : List.Perm (a ++ (r :: k ++ b)) (r :: (a ++ (k ++ b))) := List.perm_middle
  refine ⟨moved.nodup_iff.mpr (List.nodup_cons.mpr ⟨fun mem => new (rest.subset mem), once.sublist rest⟩), fun q mem => ?_⟩
  rcases List.mem_cons.mp (moved.subset mem) with same | old
  · exact .inl same
  · exact .inr (rest.subset old)

end Refs

/-! ## A change of the lanes and the queue -/

section Lanes

variable {d : Int} {s t : State} {n r : Nat} {l : Lane} {b : Bag}

/-- R46: a change of the lanes and the queue that names no bag but those already counted and such as are COUNTING. -/
theorem Books.relane (h : Books d s) {clc : Clc} {rcu : Rcu} (sound : LanesSound { s with clc := clc, rcu := rcu })
    (counts : ∀ r ∈ ({ s with clc := clc, rcu := rcu } : State).countingBags,
      r ∈ s.countingBags ∨ ∃ b, s.bag r = some b ∧ b.state = .counting) : Books d { s with clc := clc, rcu := rcu } := by
  refine ⟨h.table, h.balance, h.retired, h.straps, h.templates, h.tills, sound, h.unsent, fun r b held => ?_, fun r free => ?_⟩
  · have o := h.owed r b held
    refine ⟨o.retired, fun mem => ?_, o.unsent, o.float, o.valued, o.undeclared⟩
    rcases counts r mem with old | ⟨c, held', state⟩
    · exact o.counting old
    · obtain rfl := Option.some.inj (held.symm.trans held')
      exact state
  · have o := h.free r free
    refine ⟨o.retired, fun mem => ?_, o.unsent, o.float⟩
    rcases counts r mem with old | ⟨c, held', -⟩
    · exact o.counting old
    · rw [show s.bag r = none from free] at held'
      cases held'

theorem mem_queuedLanes (s : State) (n : Nat) : n ∈ s.queuedLanes ↔ QueueEntry.lane n ∈ s.rcu.queue := by
  unfold State.queuedLanes
  rw [List.mem_filterMap]
  constructor
  · rintro ⟨e, mem, eq⟩
    cases e with
    | manual ref y => cases eq
    | lane m =>
      cases eq
      exact mem
  · intro mem
    exact ⟨_, mem, rfl⟩

/-- R118, R122: a lane in the queue is CLOSING or has faulted, with its batch queued. -/
theorem laneQueuedRule_iff (s : State) (n : Nat) : laneQueuedRule s n = true ↔ n ∈ laneNumbers ∧
    (∃ x, (s.lane n).batch = some x ∧ x.queued = true) ∧
    ((s.lane n).state = .closing ∨ (s.lane n).state = .fault ∨ (s.lane n).state = .faultLocked) := by
  simp only [laneQueuedRule, Bool.and_eq_true, decide_eq_true_eq, any_iff, Bool.or_eq_true, and_assoc, or_assoc]

theorem LanesSound.unqueued (h : LanesSound s) (state : (s.lane n).state ≠ .closing ∧ (s.lane n).state ≠ .fault ∧
    (s.lane n).state ≠ .faultLocked) : n ∉ s.queuedLanes := by
  intro mem
  obtain ⟨-, -, closing | fault | locked⟩ := (laneQueuedRule_iff s n).mp (h.queued n mem)
  · exact state.1 closing
  · exact state.2.1 fault
  · exact state.2.2 locked

/-- R132: the valuation in flight, when the oldest entry is that of a lane. -/
def EngineOf (s : State) (n : Nat) (x : Option Batch) : Prop := ∀ v rest, s.rcu.engine = some v → s.rcu.queue = .lane n :: rest →
  ∀ b, x = some b → b.lateNotes = true ∨ v.counted = valueTally b.tally s

theorem engineOf_of (h : engineRule s = true) (n : Nat) : EngineOf s n (s.lane n).batch := by
  intro v rest engine queue b batch
  unfold engineRule at h
  rw [engine, queue] at h
  simp only [queuedCount, batch, Option.map_some, Option.all_some, Bool.or_eq_true, decide_eq_true_eq] at h
  exact h

theorem engineRule_putLane (h : engineRule s = true) (own : EngineOf s n l.batch) : engineRule (putLane n l s) = true := by
  have rcu : (putLane n l s).rcu = s.rcu := rfl
  have value : ∀ y, valueTally y (putLane n l s) = valueTally y s := fun y => rfl
  unfold engineRule at h ⊢
  rw [rcu]
  cases engine : s.rcu.engine with
  | none => rfl
  | some v =>
    rw [engine] at h
    cases queue : s.rcu.queue with
    | nil =>
      rw [queue] at h
      exact h
    | cons e rest =>
      rw [queue] at h
      dsimp only at h ⊢
      by_cases same : e = .lane n
      · subst same
        rw [queuedCount, putLane_lane, if_pos rfl]
        cases batch : l.batch with
        | none => rfl
        | some b => simpa [value] using own v rest engine queue b batch
      · have count : queuedCount e (putLane n l s) = queuedCount e s := by
          cases e with
          | manual r y => rfl
          | lane m =>
            have other : m ≠ n := fun e => same (by rw [e])
            simp only [queuedCount, putLane_lane, if_neg other]
        rw [count]
        exact h

/-- A write of a lane, by what the lane still owes. -/
theorem LanesSound.putLane (h : LanesSound s) (once : (putLane n l s).countingBags.Nodup) (batch : laneBatchRule l = true)
    (queued : n ∈ s.queuedLanes → laneQueuedRule (putLane n l s) n = true) (engine : EngineOf s n l.batch) :
    LanesSound (putLane n l s) := by
  refine ⟨once, fun m mem => ?_, h.queue, fun m mem => ?_, engineRule_putLane h.engine engine⟩
  · rw [putLane_lane]
    split
    · exact batch
    · exact h.batch m mem
  · by_cases same : m = n
    · subst same
      exact queued mem
    · have lane : (Machine.putLane n l s).lane m = s.lane m := by rw [putLane_lane, if_neg same]
      have own := h.queued m mem
      unfold laneQueuedRule at own ⊢
      rw [lane]
      exact own

/-- R46: a lane outside the queue is written. -/
theorem Books.putLane (h : Books d s) (once : (putLane n l s).countingBags.Nodup) (batch : laneBatchRule l = true)
    (unqueued : n ∉ s.queuedLanes)
    (counts : ∀ r ∈ (Machine.putLane n l s).countingBags, r ∈ s.countingBags ∨ ∃ b, s.bag r = some b ∧ b.state = .counting) :
    Books d (Machine.putLane n l s) := by
  refine h.relane (h.lanes.putLane once batch (fun mem => absurd mem unqueued) fun v rest engine queue b _ => ?_) counts
  exact absurd ((mem_queuedLanes s n).mpr (by rw [queue]; exact .head _)) unqueued

/-- What a write of lane `n` keeps of its batch: the bag, the mark that it is queued, and for a queued one the tally or the mark
that notes came late. -/
def BatchKept (s : State) (n : Nat) (x y : Option Batch) : Prop :=
  y.map Batch.ref = x.map Batch.ref ∧ y.map Batch.queued = x.map Batch.queued ∧
  (n ∈ s.queuedLanes → ∀ b c, x = some b → y = some c → c.lateNotes = true ∨ c.lateNotes = b.lateNotes ∧ c.tally = b.tally)

theorem BatchKept.refl (s : State) (n : Nat) (x : Option Batch) : BatchKept s n x x :=
  ⟨rfl, rfl, fun _ b c hb hc => by
    obtain rfl := Option.some.inj (hb.symm.trans hc)
    exact .inr ⟨rfl, rfl⟩⟩

/-- R46: a lane that keeps its batches is written; in the queue it stays CLOSING or faulted. -/
theorem Books.keepLane (h : Books d s) (valid : n ∈ laneNumbers) (kept : BatchKept s n (s.lane n).batch l.batch)
    (stack : l.stack = (s.lane n).stack) (batch : laneBatchRule l = true)
    (state : n ∈ s.queuedLanes → l.state = .closing ∨ l.state = .fault ∨ l.state = .faultLocked) : Books d (Machine.putLane n l s) := by
  obtain ⟨ref, queued, late⟩ := kept
  have refs : laneRefs l = laneRefs (s.lane n) := by rw [laneRefs, ref, stack, laneRefs]
  have counting := countingBags_same (s := s) valid refs
  refine h.relane (h.lanes.putLane (by rw [counting]; exact h.lanes.once) batch (fun mem => ?_) fun v rest engine queue c held => ?_)
    fun r mem => .inl (counting ▸ mem)
  · obtain ⟨-, ⟨x, held, marked⟩, -⟩ := (laneQueuedRule_iff s n).mp (h.lanes.queued n mem)
    rw [laneQueuedRule_iff, putLane_lane, if_pos rfl]
    rw [held] at queued
    obtain ⟨y, held', same⟩ := Option.map_eq_some_iff.mp queued
    exact ⟨valid, ⟨y, held', same.trans marked⟩, state mem⟩
  · have own := engineOf_of h.lanes.engine n v rest engine queue
    rw [held] at ref
    obtain ⟨b, held', -⟩ := Option.map_eq_some_iff.mp ref.symm
    rcases late ((mem_queuedLanes s n).mpr (by rw [queue]; exact .head _)) b c held' held with marked | ⟨marks, tally⟩
    · exact .inl marked
    · rw [marks, tally]
      exact own b held'

theorem laneNumbers_of_le (valid : n ≤ 3) : n ∈ laneNumbers := by
  have all : ∀ n, n ≤ 3 → n ∈ laneNumbers := by decide
  exact all n valid

/-- R103: a lane at work has a current batch. -/
theorem laneBatchRule_some {x : Batch} (held : l.batch = some x) : laneBatchRule l = true := by simp [laneBatchRule, held]

theorem laneBatchRule_idle (state : l.state ≠ .ready ∧ l.state ≠ .running ∧ l.state ≠ .held ∧ l.state ≠ .closing) :
    laneBatchRule l = true := by simp [laneBatchRule, state]

theorem LanesSound.working (h : LanesSound s) (valid : n ∈ laneNumbers) (state : (s.lane n).state = .ready ∨
    (s.lane n).state = .running ∨ (s.lane n).state = .held ∨ (s.lane n).state = .closing) : ∃ x, (s.lane n).batch = some x := by
  have rule := h.batch n valid
  unfold laneBatchRule at rule
  rw [Bool.or_eq_true] at rule
  rcases rule with held | idle
  · exact Option.isSome_iff_exists.mp held
  · rcases state with s1 | s1 | s1 | s1 <;> simp [s1] at idle

end Lanes

end Sys2Proof.Machine
end

section
/-!
R46: what the operations of the lanes keep of the books.
-/

namespace Sys2Proof.Machine

open Sys2Proof

set_option Elab.async false

section Holds

variable {d : Int} {s t : State} {n r : Nat} {l : Lane} {b : Bag} {x : Batch}

/-- A rule that each item of a list keeps. -/
theorem foldl_mem_rule {α : Type} (P : State → Prop) (f : State → α → State) (l : List α) (s : State) (hs : P s)
    (step : ∀ u, ∀ a ∈ l, P u → P (f u a)) : P (l.foldl f s) := by
  induction l generalizing s with
  | nil => exact hs
  | cons a l ih => exact ih (f s a) (step s a (by simp) hs) fun u b mem => step u b (by simp [mem])

theorem Books.ite {c : Prop} [Decidable c] (yes : Books d s) (no : Books d t) : Books d (if c then s else t) := by
  split
  · exact yes
  · exact no

theorem Books.notify (h : Books d s) (k : NoticeKind) (f : List Field) : Books d (notify k f s) :=
  h.same (by simp [SameRecords]) (by simp)

theorem Books.command (h : Books d s) (p : UnitPos) (c : UnitCmd) : Books d (command p c s) := h.same ⟨rfl, rfl, rfl, rfl, rfl, rfl, rfl, rfl, rfl⟩ rfl

/-- R123: a hold added to a lane. -/
theorem Books.addHold (h : Books d s) (valid : n ∈ laneNumbers) (c : HoldCause) : Books d (addHold n c s) := by
  have written : Books d (Machine.putLane n { s.lane n with
      holds := (s.lane n).holds.put c true
      state := if (s.lane n).state = .running ∨ (s.lane n).state = .ready then .held else (s.lane n).state } s) := by
    by_cases works : (s.lane n).state = .running ∨ (s.lane n).state = .ready
    · rw [if_pos works]
      obtain ⟨x, held⟩ := h.lanes.working valid (by rcases works with s1 | s1 <;> simp [s1])
      have free := h.lanes.unqueued (n := n) (by rcases works with s1 | s1 <;> simp [s1])
      exact h.keepLane valid (.refl ..) rfl (laneBatchRule_some held) fun mem => absurd mem free
    · rw [if_neg works]
      refine h.keepLane valid (.refl ..) rfl (h.lanes.batch n valid) fun mem => ?_
      exact ((laneQueuedRule_iff s n).mp (h.lanes.queued n mem)).2.2
  unfold Machine.addHold
  exact h.ite (Books.notify (.ite (written.command _ _) written) _ _)

theorem Books.notifyFault (h : Books d s) (c : FaultCause) (st : LaneState) (ref : Option Nat) (stray : Bool) :
    Books d (notifyFault n c st ref stray s) := h.same (by simp [SameRecords]) (by simp)

/-- R122: a lane faults. -/
theorem Books.faultLane (h : Books d s) (valid : n ∈ laneNumbers) (c : FaultCause) : Books d (faultLane n c s) := by
  have written : Books d (Machine.putLane n { s.lane n with state := .fault, fault := some c } s) :=
    h.keepLane valid (.refl ..) rfl (laneBatchRule_idle ⟨nofun, nofun, nofun, nofun⟩) fun _ => .inr (.inl rfl)
  unfold Machine.faultLane
  exact Books.notifyFault (.ite (written.command _ _) written) _ _ _ _

theorem Books.lockdownLanes (h : Books d s) : Books d (lockdownLanes s) :=
  foldl_mem_rule (Books d) _ laneNumbers s h fun u n valid hu => by
    exact .ite (hu.addHold valid _) hu

theorem Books.haltLanes (h : Books d s) : Books d (haltLanes s) :=
  foldl_mem_rule (Books d) _ s.runningLanes s h fun _ _ mem hu => hu.addHold (List.mem_of_mem_filter mem) _

/-- R103: a lane out of HELD and READY that settles. -/
theorem Books.settleHeld (h : Books d s) (valid : n ∈ laneNumbers) (state : l.state = (s.lane n).state) (batch : l.batch = (s.lane n).batch)
    (stack : l.stack = (s.lane n).stack) : Books d (Machine.putLane n (settleHeld l) s) := by
  have rule := h.lanes.batch n valid
  unfold Machine.settleHeld
  split
  · next settles =>
      rw [state] at settles
      obtain ⟨x, held⟩ := h.lanes.working valid (.inr (.inr (.inl settles.1)))
      have free := h.lanes.unqueued (n := n) (by simp [settles.1])
      exact h.keepLane valid (batch ▸ .refl ..) stack (laneBatchRule_some (batch.trans held)) fun mem => absurd mem free
  · refine h.keepLane valid (batch ▸ .refl ..) stack ?_ fun mem => ?_
    · unfold laneBatchRule at rule ⊢
      rw [batch, state]
      exact rule
    · rw [state]
      exact ((laneQueuedRule_iff s n).mp (h.lanes.queued n mem)).2.2

theorem Books.emptyPocket (h : Books d s) (valid : n ∈ laneNumbers) (p : Pocket) : Books d (emptyPocket n p s) := by
  cases p with
  | stacker => exact h.settleHeld valid rfl rfl rfl
  | reject => exact h.settleHeld valid rfl rfl rfl

/-- R122: a JAM record. -/
theorem Books.takeJam (h : Books d s) (valid : n ∈ laneNumbers) : Books d (takeJam n s) := by
  unfold Machine.takeJam
  dsimp only
  split
  · exact h.notifyFault _ _ _ _
  · exact h.notifyFault _ _ _ _
  · have locked : Books d (Machine.putLane n { s.lane n with state := .faultLocked, locked := true } s) :=
      h.keepLane valid (.refl ..) rfl (laneBatchRule_idle ⟨nofun, nofun, nofun, nofun⟩) fun _ => .inr (.inr rfl)
    exact locked.notifyFault _ _ _ _
  · exact h.notifyFault _ _ _ _
  · exact h.faultLane valid _
  · exact h.faultLane valid _
  · exact h.faultLane valid _
  · exact h.faultLane valid _

/-! ## Notes -/

theorem markLate_fields (x : Batch) (st : LaneState) : (x.markLate st).ref = x.ref ∧ (x.markLate st).queued = x.queued ∧
    (st = .closing → (x.markLate st).lateNotes = true) := by
  unfold Batch.markLate
  split
  · exact ⟨rfl, rfl, fun _ => rfl⟩
  · next open' => exact ⟨rfl, rfl, fun closing => absurd closing open'⟩

/-- R117, R133: a note counted on a lane at work; on a CLOSING lane the batch is marked. -/
theorem Books.noted (h : Books d s) (valid : n ∈ laneNumbers) {y : Batch} (held : (s.lane n).batch = some x)
    (works : (s.lane n).state = .running ∨ (s.lane n).state = .held ∨ (s.lane n).state = .closing) (ref : y.ref = x.ref)
    (queued : y.queued = x.queued) (batch : l.batch = some (y.markLate (s.lane n).state)) (stack : l.stack = (s.lane n).stack)
    (state : l.state = (s.lane n).state) : Books d (Machine.putLane n l s) := by
  obtain ⟨sameRef, sameQueued, late⟩ := markLate_fields y (s.lane n).state
  refine h.keepLane valid ⟨?_, ?_, fun mem b c hb hc => ?_⟩ stack (laneBatchRule_some batch) fun mem => ?_
  · rw [batch, held, Option.map_some, Option.map_some, sameRef, ref]
  · rw [batch, held, Option.map_some, Option.map_some, sameQueued, queued]
  · have closing : (s.lane n).state = .closing := by
      obtain ⟨-, -, s1 | s1 | s1⟩ := (laneQueuedRule_iff s n).mp (h.lanes.queued n mem)
      · exact s1
      · simp [s1] at works
      · simp [s1] at works
    rw [batch] at hc
    rw [← Option.some.inj hc]
    exact .inl (late closing)
  · rw [state]
    exact ((laneQueuedRule_iff s n).mp (h.lanes.queued n mem)).2.2

theorem Books.stackerNote (h : Books d s) (valid : n ∈ laneNumbers) (held : (s.lane n).batch = some x)
    (works : (s.lane n).state = .running ∨ (s.lane n).state = .held ∨ (s.lane n).state = .closing) (i strap : Nat) (f : Fitness) :
    Books d (stackerNote n i strap f x s) := by
  have noted : ∀ y : Batch, y.ref = x.ref → y.queued = x.queued → ∀ k, Books d (Machine.putLane n
      { s.lane n with batch := some (y.markLate (s.lane n).state), stacker := k } s) :=
    fun y ref queued k => h.noted valid held works ref queued rfl rfl rfl
  have counted : ∀ y : Batch, y.ref = x.ref → y.queued = x.queued → Books d
      (if (s.lane n).stacker + 1 = 200 then Machine.addHold n .stackerFull (Machine.putLane n
        { s.lane n with batch := some (y.markLate (s.lane n).state), stacker := (s.lane n).stacker + 1 } s)
      else Machine.putLane n
        { s.lane n with batch := some (y.markLate (s.lane n).state), stacker := (s.lane n).stacker + 1 } s) :=
    fun y ref queued => .ite ((noted y ref queued _).addHold valid _) (noted y ref queued _)
  unfold Machine.stackerNote
  refine .ite (h.faultLane valid _) (.ite (h.faultLane valid _) ?_)
  cases f with
  | fit =>
    have kept := countStrap_fields (x.putSlot i { tallySlot x.tally i with fit := (tallySlot x.tally i).fit + 1 }) i strap
    exact counted _ ((congrArg Batch.ref kept).trans rfl) ((congrArg Batch.queued kept).trans rfl)
  | unfit => exact counted _ rfl rfl

theorem Books.rejectNote (h : Books d s) (valid : n ∈ laneNumbers) (held : (s.lane n).batch = some x)
    (works : (s.lane n).state = .running ∨ (s.lane n).state = .held ∨ (s.lane n).state = .closing) (slot : Option Nat) :
    Books d (rejectNote n slot x s) := by
  have noted : ∀ y : Batch, y.ref = x.ref → y.queued = x.queued → ∀ k, Books d (Machine.putLane n
      { s.lane n with batch := some (y.markLate (s.lane n).state), reject := k } s) :=
    fun y ref queued k => h.noted valid held works ref queued rfl rfl rfl
  have counted : ∀ y : Batch, y.ref = x.ref → y.queued = x.queued → Books d
      (if (s.lane n).reject + 1 = 50 then Machine.addHold n .rejectFull (Machine.putLane n
        { s.lane n with batch := some (y.markLate (s.lane n).state), reject := (s.lane n).reject + 1 } s)
      else Machine.putLane n
        { s.lane n with batch := some (y.markLate (s.lane n).state), reject := (s.lane n).reject + 1 } s) :=
    fun y ref queued => .ite ((noted y ref queued _).addHold valid _) (noted y ref queued _)
  unfold Machine.rejectNote
  refine .ite (h.faultLane valid _) (.ite (h.faultLane valid _) ?_)
  cases slot with
  | none => exact counted { x with tally := _ } rfl rfl
  | some i => exact counted (x.putSlot i _) rfl rfl

/-- R117: a NOTE record. -/
theorem Books.takeNote (h : Books d s) (valid : n ∈ laneNumbers) (slot : Option Nat) (f : Fitness) (suspect : Bool) :
    Books d (takeNote n slot f suspect s) := by
  have stray : ∀ k, Books d (strayNote n k f suspect s) := fun k => h.notify _ _
  unfold Machine.takeNote
  dsimp only
  split
  · exact stray _
  · next held =>
      split
      · next works =>
          split
          · exact h.rejectNote valid held works _
          · split
            · exact h.rejectNote valid held works _
            · split
              · exact h.rejectNote valid held works _
              · exact h.stackerNote valid held works _ _ _
      · exact stray _

end Holds

end Sys2Proof.Machine
end

section
/-!
R46: what the requests for the lanes and the reconciliation queue keep of the books.
-/

namespace Sys2Proof.Machine

open Sys2Proof

set_option Elab.async false

section Bags

variable {d : Int} {s t : State} {n r : Nat} {l : Lane} {b : Bag} {x : Batch}

/-- A live bag that is neither COUNTING nor an INTACT float or deposit is on no list. -/
theorem Books.unnamed (h : Books d s) (held : s.bag r = some b) (live : b.state.live = true) (uncounted : b.state ≠ .counting)
    (other : b.state = .intact → b.purpose ≠ .deposit ∧ b.purpose ≠ .float) : Unnamed s r := by
  have o := h.owed r b held
  refine ⟨fun mem => ?_, fun mem => uncounted (o.counting mem), fun mem => ?_, fun n floats => ?_⟩
  · rw [o.retired mem] at live
    cases live
  · obtain ⟨deposit, intact⟩ := o.unsent mem
    exact (other intact).1 deposit
  · obtain ⟨intact, purpose, -⟩ := o.float n floats
    exact (other intact).2 purpose

theorem counted_purpose (purpose : b.purpose = .takings ∨ b.purpose = .skim ∨ b.purpose = .changeIn) :
    b.purpose ≠ .deposit ∧ b.purpose ≠ .float := by
  rcases purpose with p | p | p <;> rw [p] <;> exact ⟨nofun, nofun⟩

theorem Books.unnamed_counted (h : Books d s) (held : s.bag r = some b) (state : b.state = .intact ∨ b.state = .quarantined)
    (purpose : b.purpose = .takings ∨ b.purpose = .skim ∨ b.purpose = .changeIn) : Unnamed s r :=
  h.unnamed held (by rcases state with s1 | s1 <;> rw [s1] <;> rfl) (by rcases state with s1 | s1 <;> rw [s1] <;> nofun)
    fun _ => counted_purpose purpose

/-- R27: a bag goes to COUNTING. -/
theorem Books.countBag (h : Books d s) (held : s.bag r = some b) (state : b.state = .intact ∨ b.state = .quarantined)
    (purpose : b.purpose = .takings ∨ b.purpose = .skim ∨ b.purpose = .changeIn) (place : Place) :
    Books d (Machine.putBag r { b with state := .counting, custody := place } s) := by
  have live : b.state.live = true ∧ b.state ≠ .confirmed := by rcases state with s1 | s1 <;> rw [s1] <;> exact ⟨rfl, nofun⟩
  refine h.rewrite held ((h.unnamed_counted held state purpose).owed nofun fun flag _ _ => ?_) live.1.symm rfl
  exact (h.owed r b held).undeclared flag live.1 live.2

/-- R27: a COUNTING bag that is counted no longer returns to the BENCH. -/
theorem Books.returnBag (h : Books d s) (counting : ∀ b, s.bag r = some b → b.state = .counting) (left : r ∉ s.countingBags) :
    Books d (returnBag r s) := by
  unfold Machine.returnBag
  split
  · exact h
  · next b held =>
      have state := counting b held
      have o := h.owed r b held
      have before : b.beforeCounting.live = true ∧ b.beforeCounting ≠ .confirmed := by
        unfold Bag.beforeCounting
        split <;> exact ⟨rfl, nofun⟩
      refine h.rewrite held (Unnamed.owed ⟨fun mem => ?_, left, fun mem => ?_, fun n floats => ?_⟩ (fun confirmed => ?_)
        fun flag _ _ => ?_) (by rw [state]; exact before.1) rfl
      · have dead := o.retired mem
        rw [state] at dead
        cases dead
      · have intact := (o.unsent mem).2
        rw [state] at intact
        cases intact
      · have intact := (o.float n floats).1
        rw [state] at intact
        cases intact
      · exact absurd confirmed before.2
      · exact o.undeclared flag (by rw [state]; rfl) (by rw [state]; nofun)

end Bags

/-! ## A batch that comes to a lane -/

section Batches

variable {d : Int} {s t : State} {n r : Nat} {l : Lane} {b : Bag} {x : Batch}

/-- R103, R104: a lane outside the queue takes up a bag that has gone to COUNTING. -/
theorem Books.takeUp (h : Books d s) (valid : n ∈ laneNumbers) (held : s.bag r = some b) (state : b.state = .counting)
    (new : r ∉ s.countingBags) {k : List Nat} (refs : laneRefs l = r :: k) (sub : List.Sublist k (laneRefs (s.lane n)))
    (batch : laneBatchRule l = true) (unqueued : n ∉ s.queuedLanes) : Books d (Machine.putLane n l s) := by
  obtain ⟨once, named⟩ := countingBags_more valid h.lanes.once refs sub new
  refine h.putLane once batch unqueued fun q mem => ?_
  rcases named q mem with same | old
  · exact .inr ⟨b, same ▸ held, state⟩
  · exact .inl old

theorem Books.laneLoaded (h : Books d s) (valid : n ∈ laneNumbers) (held : s.bag r = some b)
    (state : b.state = .intact ∨ b.state = .quarantined) (purpose : b.purpose = .takings ∨ b.purpose = .skim ∨ b.purpose = .changeIn)
    (unqueued : n ∉ s.queuedLanes) {k : List Nat} (refs : laneRefs l = r :: k) (sub : List.Sublist k (laneRefs (s.lane n)))
    (batch : laneBatchRule l = true) : Books d (Machine.putLane n l (bagToLane n r b s)) := by
  have counted := h.countBag held state purpose (.lane n)
  have new := (h.unnamed_counted held state purpose).counting
  exact counted.takeUp (b := { b with state := .counting, custody := .lane n }) valid ((putBag_bag ..).trans (if_pos rfl)) rfl new refs sub
    batch unqueued

/-- R106: a lane at work whose batch is taken off, and whose bag returns. -/
theorem putLane_returnBag (n r : Nat) (l : Lane) (s : State) :
    Machine.putLane n l (Machine.returnBag r s) = Machine.returnBag r (Machine.putLane n l s) := by
  have bag : (Machine.putLane n l s).bag r = s.bag r := rfl
  unfold Machine.returnBag
  rw [bag]
  cases s.bag r <;> rfl

theorem laneRefs_of_batch (held : l.batch = some x) : laneRefs l = x.ref :: l.stack.map (fun y => y.batch.ref) := by
  rw [laneRefs, held]
  rfl

theorem laneRefs_popped (l : Lane) (state : LaneState) (stacker reject : Nat) (holds : HoldSet) :
    laneRefs { l with
      state := state, batch := l.stack.head?.map Suspended.batch, stack := l.stack.tail
      stacker := stacker, reject := reject, holds := holds } = l.stack.map (fun y => y.batch.ref) := by
  unfold laneRefs
  cases l.stack <;> rfl

theorem popOrIdle_rule (l : Lane) : laneRefs (popOrIdle l) = l.stack.map (fun y => y.batch.ref) ∧ laneBatchRule (popOrIdle l) = true := by
  rw [popOrIdle_eq]
  refine ⟨laneRefs_popped .., ?_⟩
  cases stack : l.stack with
  | nil => exact laneBatchRule_idle ⟨nofun, nofun, nofun, nofun⟩
  | cons y rest => exact laneBatchRule_some rfl

theorem laneCompleted_rule (l : Lane) :
    laneRefs (laneCompleted l) = l.stack.map (fun y => y.batch.ref) ∧ laneBatchRule (laneCompleted l) = true := by
  unfold laneCompleted
  split
  · next fault =>
      refine ⟨laneRefs_popped .., laneBatchRule_idle ?_⟩
      rcases fault with state | state <;> rw [state] <;> exact ⟨nofun, nofun, nofun, nofun⟩
  · rw [← popOrIdle_eq]
    exact popOrIdle_rule l

/-- A lane outside the queue gives up its current batch, whose bag is then counted no longer. -/
theorem Books.giveUp (h : Books d s) (valid : n ∈ laneNumbers) (held : (s.lane n).batch = some x)
    (refs : laneRefs l = (s.lane n).stack.map (fun y => y.batch.ref)) (batch : laneBatchRule l = true) (unqueued : n ∉ s.queuedLanes) :
    Books d (Machine.putLane n l s) ∧ x.ref ∉ (Machine.putLane n l s).countingBags := by
  have whole : laneRefs (s.lane n) = x.ref :: laneRefs l := by rw [refs, laneRefs_of_batch held]
  have fewer := countingBags_fewer (s := s) (l := l) valid (by rw [whole]; exact List.sublist_cons_self ..)
  exact ⟨h.putLane (h.lanes.once.sublist fewer) batch unqueued fun r mem => .inl (fewer.subset mem),
    countingBags_without valid h.lanes.once whole⟩

theorem mem_countingBags_of_batch (valid : n ∈ laneNumbers) (held : (s.lane n).batch = some x) : x.ref ∈ s.countingBags := by
  rw [countingBags_eq, List.mem_append]
  refine .inl (List.mem_flatMap.mpr ⟨n, valid, ?_⟩)
  rw [laneRefs_of_batch held]
  exact .head _

theorem Books.batchAborted (h : Books d s) (valid : n ∈ laneNumbers) (works : (s.lane n).state = .ready ∨ (s.lane n).state = .held) :
    Books d (Machine.putLane n (popOrIdle (s.lane n)) (Machine.returnBag (((s.lane n).batch.map Batch.ref).getD 0) s)) := by
  obtain ⟨x, held⟩ := h.lanes.working valid (by rcases works with s1 | s1 <;> simp [s1])
  have unqueued := h.lanes.unqueued (n := n) (by rcases works with s1 | s1 <;> simp [s1])
  obtain ⟨refs, batch⟩ := popOrIdle_rule (s.lane n)
  obtain ⟨given, left⟩ := h.giveUp valid held refs batch unqueued
  rw [putLane_returnBag, held]
  refine given.returnBag (fun b own => ?_) left
  exact (h.owed x.ref b own).counting (mem_countingBags_of_batch valid held)

/-- R107: a lane in READY, RUNNING or HELD goes to a state of these three. -/
theorem Books.workLane (h : Books d s) (valid : n ∈ laneNumbers)
    (works : (s.lane n).state = .ready ∨ (s.lane n).state = .running ∨ (s.lane n).state = .held) (batch : l.batch = (s.lane n).batch)
    (stack : l.stack = (s.lane n).stack) : Books d (Machine.putLane n l s) := by
  obtain ⟨x, held⟩ := h.lanes.working valid (by rcases works with s1 | s1 | s1 <;> simp [s1])
  have unqueued := h.lanes.unqueued (n := n) (by rcases works with s1 | s1 | s1 <;> simp [s1])
  exact h.keepLane valid (batch ▸ .refl ..) stack (laneBatchRule_some (batch.trans held)) fun mem => absurd mem unqueued

/-- R129: CLEAR_FAULT of a lane whose batch is not queued. -/
theorem Books.faultCleared (h : Books d s) (valid : n ∈ laneNumbers) (free : ((s.lane n).batch.map Batch.queued).getD false = false) :
    Books d (Machine.putLane n (clearedLane (s.lane n)) s) := by
  have unqueued : n ∉ s.queuedLanes := fun mem => by
    obtain ⟨-, ⟨x, held, queued⟩, -⟩ := (laneQueuedRule_iff s n).mp (h.lanes.queued n mem)
    rw [held] at free
    simp [queued] at free
  have same : (clearedLane (s.lane n)).batch = (s.lane n).batch ∧ (clearedLane (s.lane n)).stack = (s.lane n).stack ∧
      laneBatchRule (clearedLane (s.lane n)) = true := by
    unfold clearedLane
    split
    · next x held => exact ⟨rfl, rfl, laneBatchRule_some held⟩
    · exact ⟨rfl, rfl, laneBatchRule_idle ⟨nofun, nofun, nofun, nofun⟩⟩
  obtain ⟨batch, stack, rule⟩ := same
  exact h.keepLane valid (batch ▸ .refl ..) stack rule fun mem => absurd mem unqueued

/-- R63, R64: every lane is switched on, or off. -/
theorem updateLanes_eq (f : Lane → Lane) (ks : List Nat) (s : State) :
    { s with clc.lanes := Table.update Lane.initial f ks s.clc.lanes } = ks.foldl (fun s n => Machine.putLane n (f (s.lane n)) s) s := by
  induction ks generalizing s with
  | nil => rfl
  | cons n ks ih => exact ih (Machine.putLane n (f (s.lane n)) s)

/-- R63, R64: a lane that is OFF or IDLE goes to the other of the two. -/
theorem Books.switchLane (h : Books d s) (valid : n ∈ laneNumbers) {f : Lane → Lane} (batch : ∀ l, (f l).batch = l.batch)
    (stack : ∀ l, (f l).stack = l.stack) (state : ∀ l, (f l).state = l.state ∨
      (f l).state ≠ .ready ∧ (f l).state ≠ .running ∧ (f l).state ≠ .held ∧ (f l).state ≠ .closing ∧
        l.state ≠ .closing ∧ l.state ≠ .fault ∧ l.state ≠ .faultLocked) :
    Books d (Machine.putLane n (f (s.lane n)) s) := by
  refine h.keepLane valid (by rw [batch]; exact .refl ..) (stack _) ?_ fun mem => ?_
  · rcases state (s.lane n) with same | ⟨ready, running, held, closing, -⟩
    · have rule := h.lanes.batch n valid
      unfold laneBatchRule at rule ⊢
      rw [batch, same]
      exact rule
    · exact laneBatchRule_idle ⟨ready, running, held, closing⟩
  · rcases state (s.lane n) with same | ⟨-, -, -, -, other⟩
    · rw [same]
      exact ((laneQueuedRule_iff s n).mp (h.lanes.queued n mem)).2.2
    · exact absurd mem (h.lanes.unqueued other)

theorem Books.lanesOn (h : Books d s) : Books d (lanesOn s) := by
  rw [Machine.lanesOn, updateLanes_eq]
  refine foldl_mem_rule (Books d) _ laneNumbers s h fun u n valid hu => hu.switchLane valid (f := switchOn) (fun l => ?_) (fun l => ?_) fun l => ?_
  · rw [switchOn_eq]
  · rw [switchOn_eq]
  · unfold switchOn
    split
    · next off => exact .inr (by rw [off]; exact ⟨nofun, nofun, nofun, nofun, nofun, nofun, nofun⟩)
    · exact .inl rfl

theorem Books.lanesOff (h : Books d s) : Books d (lanesOff s) := by
  have kept : ∀ l, (switchOff l).batch = l.batch ∧ (switchOff l).stack = l.stack := fun l => by
    unfold switchOff
    split <;> exact ⟨rfl, rfl⟩
  rw [Machine.lanesOff, updateLanes_eq]
  refine foldl_mem_rule (Books d) _ laneNumbers s h fun u n valid hu => hu.switchLane valid (f := switchOff) (fun l => (kept l).1)
    (fun l => (kept l).2) fun l => ?_
  unfold switchOff
  split
  · next idle => exact .inr (by rw [idle]; exact ⟨nofun, nofun, nofun, nofun, nofun, nofun, nofun⟩)
  · exact .inl rfl

end Batches

/-! ## The reconciliation queue -/

section Queue

variable {d : Int} {s t : State} {n r : Nat} {l : Lane} {b : Bag} {x : Batch}

/-- R132, R133: the valuation in flight is of the oldest entry, and unless notes came late it is of the tally as it stands. -/
theorem engineRule_iff (s : State) : engineRule s = true ↔ ∀ v, s.rcu.engine = some v → ∃ e rest, s.rcu.queue = e :: rest ∧
    ∀ q, queuedCount e s = some q → q.late = true ∨ v.counted = valueTally q.tally s := by
  unfold engineRule
  cases engine : s.rcu.engine with
  | none => simp
  | some v =>
    cases queue : s.rcu.queue with
    | nil => simp
    | cons e rest => cases count : queuedCount e s <;> simp [count]

/-- R132: an entry at the end of the queue leaves the valuation in flight. -/
theorem engineRule_append (h : engineRule s = true) (e : QueueEntry) :
    engineRule { s with rcu.queue := s.rcu.queue ++ [e] } = true := by
  have counts : ∀ f, queuedCount f { s with rcu.queue := s.rcu.queue ++ [e] } = queuedCount f s := fun f => by cases f <;> rfl
  rw [engineRule_iff] at h ⊢
  intro v engine
  obtain ⟨f, rest, queue, valued⟩ := h v engine
  refine ⟨f, rest ++ [e], congrArg (· ++ [e]) queue, fun q count => ?_⟩
  rw [counts] at count
  exact valued q count

/-- R118: a CLOSING lane joins the queue. -/
theorem Books.enqueueLane (h : Books d s) (new : n ∉ s.queuedLanes) (rule : laneQueuedRule s n = true) :
    Books d { s with rcu.queue := s.rcu.queue ++ [.lane n] } := by
  have counting : ({ s with rcu.queue := s.rcu.queue ++ [.lane n] } : State).countingBags = s.countingBags := by
    rw [countingBags_eq, countingBags_eq]
    simp [manualRefs, State.lane]
  have queued : ({ s with rcu.queue := s.rcu.queue ++ [.lane n] } : State).queuedLanes = s.queuedLanes ++ [n] := by
    simp [State.queuedLanes]
  refine h.relane (clc := s.clc) (rcu := { s.rcu with queue := s.rcu.queue ++ [.lane n] }) ⟨?_, h.lanes.batch, ?_, fun m mem => ?_,
    engineRule_append h.lanes.engine _⟩ fun r mem => .inl (counting ▸ mem)
  · exact counting ▸ h.lanes.once
  · refine queued ▸ List.nodup_append.mpr ⟨h.lanes.queue, by simp, fun a mem c last same => new ?_⟩
    rw [List.mem_singleton] at last
    rw [← last, ← same]
    exact mem
  · have mem' : m ∈ s.queuedLanes ++ [n] := queued ▸ mem
    rcases List.mem_append.mp mem' with old | last
    · exact h.lanes.queued m old
    · rw [List.mem_singleton] at last
      exact last ▸ rule

/-- R131: a COUNTING bag that is not counted yet joins the queue. -/
theorem Books.enqueueManual (h : Books d s) (held : s.bag r = some b) (state : b.state = .counting) (new : r ∉ s.countingBags)
    (y : Tally) : Books d { s with rcu.queue := s.rcu.queue ++ [.manual r y] } := by
  have counting : ({ s with rcu.queue := s.rcu.queue ++ [.manual r y] } : State).countingBags = s.countingBags ++ [r] := by
    rw [countingBags_eq, countingBags_eq]
    simp [manualRefs, State.lane]
  have queued : ({ s with rcu.queue := s.rcu.queue ++ [.manual r y] } : State).queuedLanes = s.queuedLanes := by
    simp [State.queuedLanes]
  refine h.relane (clc := s.clc) (rcu := { s.rcu with queue := s.rcu.queue ++ [.manual r y] }) ⟨?_, h.lanes.batch, queued ▸ h.lanes.queue,
    fun m mem => h.lanes.queued m (queued ▸ mem), engineRule_append h.lanes.engine _⟩ fun q mem => ?_
  · refine counting ▸ List.nodup_append.mpr ⟨h.lanes.once, by simp, fun a mem c last same => new ?_⟩
    rw [List.mem_singleton] at last
    rw [← last, ← same]
    exact mem
  · have mem' : q ∈ s.countingBags ++ [r] := counting ▸ mem
    rcases List.mem_append.mp mem' with old | last
    · exact .inl old
    · rw [List.mem_singleton] at last
      exact .inr ⟨b, last ▸ held, state⟩

/-- R138: the oldest entry leaves the queue, and the engine is free. -/
theorem Books.dequeue (h : Books d s) {e : QueueEntry} {rest : List QueueEntry} (queue : s.rcu.queue = e :: rest) :
    Books d { s with rcu := ⟨rest, none⟩ } ∧ (∀ r y, e = .manual r y → r ∉ ({ s with rcu := ⟨rest, none⟩ } : State).countingBags) ∧
      ∀ n, e = .lane n → n ∉ ({ s with rcu := ⟨rest, none⟩ } : State).queuedLanes := by
  have manual : manualRefs s.rcu.queue = manualRefs [e] ++ manualRefs rest := by rw [queue]; exact List.filterMap_append (l := [e])
  have waits : s.queuedLanes = ({ s with rcu := ⟨[e], none⟩ } : State).queuedLanes ++
      ({ s with rcu := ⟨rest, none⟩ } : State).queuedLanes := by
    unfold State.queuedLanes
    rw [queue]
    exact List.filterMap_append (l := [e])
  have fewer : List.Sublist ({ s with rcu := ⟨rest, none⟩ } : State).countingBags s.countingBags := by
    rw [countingBags_eq s, manual]
    exact (List.Sublist.refl _).append (List.sublist_append_right ..)
  have once := h.lanes.once
  have single := h.lanes.queue
  rw [countingBags_eq, manual] at once
  rw [waits] at single
  refine ⟨h.relane (clc := s.clc) (rcu := ⟨rest, none⟩) ⟨h.lanes.once.sublist fewer, h.lanes.batch,
    (List.nodup_append.mp single).2.1, fun m mem => h.lanes.queued m (by rw [waits]; exact List.mem_append_right _ mem), rfl⟩
    fun r mem => .inl (fewer.subset mem), fun r y same => ?_, fun n same => ?_⟩
  · subst same
    intro mem
    obtain ⟨-, tail, apart⟩ := List.nodup_append.mp once
    rcases List.mem_append.mp (show r ∈ laneNumbers.flatMap (fun n => laneRefs (s.lane n)) ++ manualRefs rest from mem) with lane | later
    · exact apart r lane r (List.mem_append_left _ (.head _)) rfl
    · exact (List.nodup_append.mp tail).2.2 r (.head _) r later rfl
  · subst same
    intro mem
    exact (List.nodup_append.mp single).2.2 n (.head _) n mem rfl

/-- R120, R138: a completed valuation leaves the queue, and its bag is counted no longer. -/
theorem Books.leaveQueue (h : Books d s) {e : QueueEntry} {rest : List QueueEntry} {q : QueuedCount} (queue : s.rcu.queue = e :: rest)
    (count : queuedCount e s = some q) : Books d (leaveQueue q s) ∧ q.ref ∉ (leaveQueue q s).countingBags ∧ q.ref ∈ s.countingBags := by
  obtain ⟨popped, manual, lane⟩ := h.dequeue queue
  cases e with
  | manual r y =>
    obtain rfl := Option.some.inj count
    have left : Machine.leaveQueue ⟨r, y, false, none⟩ s = { s with rcu := ⟨rest, none⟩ } := by
      rw [Machine.leaveQueue, queue]
      rfl
    rw [left]
    refine ⟨popped, manual r y rfl, ?_⟩
    rw [countingBags_eq, queue]
    exact List.mem_append_right _ (.head _)
  | lane n =>
    obtain ⟨x, held, rfl⟩ := Option.map_eq_some_iff.mp count
    have valid : n ∈ laneNumbers := ((laneQueuedRule_iff s n).mp (h.lanes.queued n ((mem_queuedLanes s n).mpr (by rw [queue]; exact .head _)))).1
    obtain ⟨refs, batch⟩ := laneCompleted_rule (s.lane n)
    obtain ⟨given, gone⟩ := popped.giveUp valid held refs batch (lane n rfl)
    have left : Machine.leaveQueue ⟨x.ref, x.tally, x.lateNotes, some n⟩ s =
        Machine.putLane n (laneCompleted (s.lane n)) { s with rcu := ⟨rest, none⟩ } := by
      unfold Machine.leaveQueue
      dsimp only
      rw [completeLane_eq]
      dsimp only [Machine.putLane]
      rw [queue]
      rfl
    rw [left]
    exact ⟨given, gone, mem_countingBags_of_batch valid held⟩

/-- R132: the free engine begins the valuation of the oldest entry. -/
theorem Books.beginValuation (h : Books d s) : Books d (beginValuation s) := by
  unfold Machine.beginValuation
  split
  · next e rest free queue =>
      split
      · exact h
      · next q count =>
          have counts : queuedCount e { s with rcu.engine := some ⟨q.tally, valueTally q.tally s⟩ } = some q := by
            rw [← count]
            cases e <;> rfl
          refine h.relane (clc := s.clc) (rcu := { s.rcu with engine := some ⟨q.tally, valueTally q.tally s⟩ })
            ⟨h.lanes.once, h.lanes.batch, h.lanes.queue, h.lanes.queued, ?_⟩ fun r mem => .inl mem
          rw [engineRule_iff]
          rintro v engine
          obtain rfl := Option.some.inj engine
          refine ⟨e, rest, queue, fun p count' => .inr ?_⟩
          obtain rfl := Option.some.inj (counts.symm.trans count')
          rfl
  · exact h

theorem Books.makeReservation (h : Books d s) : Books d (makeReservation s) := h.same (by simp [SameRecords]) (by simp)

/-- R118, R119: a batch is closed and its lane joins the queue. -/
theorem Books.batchClosed (h : Books d s) (valid : n ∈ laneNumbers) (works : (s.lane n).state = .ready ∨ (s.lane n).state = .held)
    (coins : Option (Table Nat)) :
    Books d (Machine.makeReservation (Machine.putLane n (closingLane coins (s.lane n)) { s with rcu.queue := s.rcu.queue ++ [.lane n] })) := by
  obtain ⟨x, held⟩ := h.lanes.working valid (by rcases works with s1 | s1 <;> simp [s1])
  have unqueued := h.lanes.unqueued (n := n) (by rcases works with s1 | s1 <;> simp [s1])
  have batch : (closingLane coins (s.lane n)).batch = some { x with tally := withCoins x.tally (coins.getD []), queued := true } := by
    rw [closingLane, held]
    rfl
  have refs : laneRefs (closingLane coins (s.lane n)) = laneRefs (s.lane n) := by
    rw [laneRefs_of_batch batch, laneRefs_of_batch held]
    rfl
  have counting := countingBags_same (s := s) valid refs
  have closed : Books d (Machine.putLane n (closingLane coins (s.lane n)) s) :=
    h.putLane (by rw [counting]; exact h.lanes.once) (laneBatchRule_some batch) unqueued fun r mem => .inl (counting ▸ mem)
  have rule : laneQueuedRule (Machine.putLane n (closingLane coins (s.lane n)) s) n = true := by
    rw [laneQueuedRule_iff, putLane_lane, if_pos rfl]
    exact ⟨valid, ⟨_, batch, rfl⟩, .inl rfl⟩
  exact (closed.enqueueLane unqueued rule).makeReservation

/-- R131: COUNT_MANUAL. -/
theorem Books.countQueued (h : Books d s) (held : s.bag r = some b) (state : b.state = .intact ∨ b.state = .quarantined)
    (purpose : b.purpose = .takings ∨ b.purpose = .skim ∨ b.purpose = .changeIn) (y : Tally) :
    Books d (Machine.makeReservation (Machine.putBag r { b with state := .counting } { s with rcu.queue := s.rcu.queue ++ [.manual r y] })) := by
  have counted := h.countBag held state purpose b.custody
  have new := (h.unnamed_counted held state purpose).counting
  have queued := counted.enqueueManual (b := { b with state := .counting, custody := b.custody }) ((putBag_bag ..).trans (if_pos rfl)) rfl new y
  exact queued.makeReservation

end Queue

end Sys2Proof.Machine
end

section
/-!
R46: what the tills, their postings and the Watch Unit keep of the books (R88 to R101, R147 to R153).
-/

namespace Sys2Proof.Machine

open Sys2Proof

set_option Elab.async false

section Tills

variable {d : Int} {s t : State} {n r : Nat} {b : Bag} {x : Till}

/-! ## Till records with the same float -/

theorem Alike.trans {a b c : Till} (h : Alike a b) (g : Alike b c) : Alike a c := by
  obtain ⟨before, lines, bag, state⟩ := h
  obtain ⟨before', lines', bag', state'⟩ := g
  refine ⟨before'.trans before, lines'.trans lines, bag'.trans bag, ?_⟩
  rcases state with same | ⟨out, out'⟩
  · rw [← same]
    exact state'
  · refine .inr ⟨out, ?_⟩
    rcases state' with same | ⟨-, out''⟩
    · rw [same]
      exact out'
    · exact out''

theorem Alike.count (x : Till) (v : Int) : Alike x (x.count v) := by
  unfold Till.count
  cases addAmount x.counted v <;> exact ⟨rfl, rfl, rfl, .inl rfl⟩

theorem Alike.posted (x : Till) (k : PostingKind) (a : Int) : Alike x (x.accumulate k a).reckon := by
  have added : Alike x (x.accumulate k a) := by cases k <;> exact ⟨rfl, rfl, rfl, .inl rfl⟩
  refine added.trans ?_
  unfold Till.reckon
  cases (x.accumulate k a).expectedTotal <;> exact ⟨rfl, rfl, rfl, .inl rfl⟩

theorem Alike.report (x : Till) (k : Nat) (v : Int) : Alike x (x.report k v) := by
  unfold Till.report
  split
  · exact Alike.trans (.count x v) ⟨rfl, rfl, rfl, .inl rfl⟩
  · exact .refl x

theorem Alike.reported (x : Till) (k : Nat) (v : Int) (s : State) : Alike x (reportedTillAfter x k v s) := by
  unfold reportedTillAfter
  split
  · next due =>
      have open' : x.state ≠ .floatReady := by
        simp only [Till.resultDue, Bool.and_eq_true, decide_eq_true_eq] at due
        rw [due.2]
        nofun
      obtain ⟨before, lines, bag, -⟩ := Alike.report x k v
      exact ⟨before, lines, bag, .inr ⟨open', nofun⟩⟩
  · exact .report x k v

/-! ## The skim queue -/

theorem Books.joinSkim (h : Books d s) (n : Nat) : Books d (joinSkim n s) := h.same (by simp [SameRecords]) (by simp)

theorem Books.clearOverLimit (h : Books d s) (n : Nat) : Books d (clearOverLimit n s) := by
  have records : ∀ v, SameRecords v (leaveSkim n v) := fun v => by simp [SameRecords]
  have tills : ∀ v, (leaveSkim n v).tau.tills = v.tau.tills := fun v => by simp
  unfold Machine.clearOverLimit
  exact (h.putTill (n := n) (x := { s.till n with overLimit := false }) ⟨rfl, rfl, rfl, .inl rfl⟩).same (records _) (tills _)

theorem Books.overLimitTest (h : Books d s) (n : Nat) : Books d (overLimitTest n s) := by
  have marked : Books d (Machine.putTill n { s.till n with overLimit := true } s) := h.putTill ⟨rfl, rfl, rfl, .inl rfl⟩
  unfold Machine.overLimitTest
  exact h.ite (.ite (marked.joinSkim n) (h.clearOverLimit n))

/-! ## Postings -/

theorem Books.notifyOrphan (h : Books d s) (p : Posting) (c : OrphanCause) : Books d (notifyOrphan p c s) := h.notify _ _

theorem Books.rememberSkim (h : Books d s) (p : Posting) (g : Nat) : Books d (rememberSkim p g s) := by
  unfold Machine.rememberSkim
  exact .ite (h.putTill ⟨rfl, rfl, rfl, .inl rfl⟩) (h.notifyOrphan _ _)

/-- R39, R95: a bag that a SKIM posting can attach is a live, undeclared skim from an unknown source. -/
theorem attachable_of {g : Nat} (found : s.attachable g = some r) (held : s.bag r = some b) : b.purpose = .skim ∧
    b.flags.undeclared = true ∧ b.source = .unknown ∧ b.state.live = true := by
  have suits := List.find?_some found
  have listed := List.mem_of_find?_eq_some found
  rw [State.tagLookup, State.refsWhere, List.mem_filter] at listed
  have live := listed.2
  rw [held] at suits live
  simp only [Bool.and_eq_true, decide_eq_true_eq] at suits live
  exact ⟨suits.1.1, suits.1.2, suits.2, live.1⟩

/-- R95: what the record of an attached bag owes. -/
theorem Books.attachedOwed (h : Books d s) {g : Nat} (found : s.attachable g = some r) (held : s.bag r = some b) (n k : Nat) (a : Int) :
    Owed s r (b.attach n k a) := by
  obtain ⟨purpose, -, -, live⟩ := attachable_of found held
  have o := h.owed r b held
  refine ⟨o.retired, o.counting, fun mem => ?_, fun m floats => ?_, fun state => ?_, fun flag _ _ => ?_⟩
  · have deposit := (o.unsent mem).1
    rw [purpose] at deposit
    cases deposit
  · have float := (o.float m floats).2.1
    rw [purpose] at float
    cases float
  · have confirmed : b.state = .confirmed := state
    obtain ⟨y, tally, valued⟩ := o.valued confirmed
    refine ⟨y, tally, ?_⟩
    rw [Bag.attach, if_pos confirmed]
    exact valued
  · cases flag

/-- R95: the skim attachment. -/
theorem Books.attachSkim (h : Books d s) (p : Posting) (g : Nat) : Books d (attachSkim p g s) := by
  unfold Machine.attachSkim
  dsimp only
  split
  · exact h.rememberSkim p g
  · next r found =>
      split
      · exact h.rememberSkim p g
      · next b held =>
          obtain ⟨-, undeclared, -, live⟩ := attachable_of found held
          split
          · next confirmed =>
              have counted : Books d (Machine.putTill p.till ((s.till p.till).count b.book) s) := h.putTill (.count _ _)
              have owed := counted.attachedOwed (s := Machine.putTill p.till ((s.till p.till).count b.book) s) found held p.till
                (s.till p.till).session p.amount
              refine (counted.rewrite held owed rfl ?_).clearOverLimit _
              rw [Bag.attach, if_pos confirmed]
          · next unconfirmed =>
              split
              · exact h.notifyOrphan _ _
              · have waits : Books d (Machine.putTill p.till { s.till p.till with outstanding := (s.till p.till).outstanding + 1 } s) :=
                  h.putTill ⟨rfl, rfl, rfl, .inl rfl⟩
                have moved := waits.entries .field [⟨.bagAttach, some r, some p.till, p.amount, p.amount⟩]
                have same : ∀ u, (Machine.applyMovement (attachMovement p.till r p.amount) u).bgr = u.bgr := fun u => by simp
                have bag : (Machine.applyMovement (attachMovement p.till r p.amount) (Machine.putTill p.till
                    { s.till p.till with outstanding := (s.till p.till).outstanding + 1 } s)).bag = s.bag := by
                  funext q
                  rw [State.bag, same, State.bag]
                  rfl
                have book : b.book = 0 := (h.owed r b held).undeclared undeclared live unconfirmed
                refine Books.clearOverLimit ?_ _
                change Books _ (Machine.applyMovement (attachMovement p.till r p.amount) _) at moved
                generalize Machine.applyMovement (attachMovement p.till r p.amount) (Machine.putTill p.till
                    { s.till p.till with outstanding := (s.till p.till).outstanding + 1 } s) = u at moved bag
                have found' : u.attachable g = some r := by
                  rw [← found]
                  simp only [State.attachable, State.tagLookup, State.refsWhere, bag]
                have held' : u.bag r = some b := by rw [bag, held]
                refine (moved.putBag (moved.attachedOwed found' held' p.till (s.till p.till).session p.amount)).debt ?_
                rw [held']
                simp [bookPart, Bag.attach, unconfirmed, live, book, Movement.delta, entriesOnly]

theorem Books.applyInSession (h : Books d s) (p : Posting) : Books d (applyInSession p s) := by
  have posted : Books d (Machine.putTill p.till ((s.till p.till).accumulate p.kind p.amount).reckon s) := h.putTill (.posted _ _ _)
  unfold Machine.applyInSession
  refine Books.overLimitTest ?_ _
  split
  · exact posted.attachSkim _ _
  · exact posted

theorem Books.applyLate (h : Books d s) (p : Posting) : Books d (applyLate p s) := by
  have late : Books d (Machine.putTill p.till ((s.till p.till).addLate (signedEffect p.kind p.amount)) s) :=
    h.putTill ⟨rfl, rfl, rfl, .inl rfl⟩
  unfold Machine.applyLate
  exact late.notify _ _

theorem Books.applyOrphan (h : Books d s) (p : Posting) : Books d (applyOrphan p s) := by
  have charged : Books d (chargeAccount (some (.unattributed, signedEffect p.kind p.amount)) s) :=
    h.same ⟨rfl, rfl, rfl, rfl, rfl, rfl, rfl, rfl, rfl⟩ rfl
  unfold Machine.applyOrphan
  exact charged.notifyOrphan _ _

theorem Books.applyPosting (h : Books d s) (p : Posting) : Books d (applyPosting s p) := by
  unfold Machine.applyPosting
  split
  · exact h.applyInSession p
  · exact h.applyInSession p
  · exact h.applyLate p
  · exact h.applyOrphan p
  · exact h.applyOrphan p

theorem Books.postings (h : Books d s) (l : List Posting) : Books d { s with tau.postings := l } :=
  h.same ⟨rfl, rfl, rfl, rfl, rfl, rfl, rfl, rfl, rfl⟩ rfl

theorem Books.snoopTill (h : Books d s) (n : Nat) : Books d (snoopTill n s) := by
  unfold Machine.snoopTill
  exact foldl_mem_rule (Books d) Machine.applyPosting _ _ (h.postings _) fun _ p _ hu => hu.applyPosting p

theorem Books.snoopFor (h : Books d s) (b : Bag) : Books d (snoopFor b s) := by
  unfold Machine.snoopFor
  split
  · exact h
  · exact h.snoopTill _

theorem Books.applyOldest (h : Books d s) : Books d (applyOldest s) := by
  unfold Machine.applyOldest
  split
  · exact h
  · exact (h.postings _).applyPosting _

theorem Books.skimSearch (h : Books d s) (g : Nat) : Books d (skimSearch g s) := by
  unfold Machine.skimSearch
  split
  · exact h
  · exact (h.postings _).applyPosting _

theorem Books.countDrop (h : Books d s) (x : TakenSkim) : Books d (countDrop x s) := by
  have waits : Books d (Machine.putTill x.till { s.till x.till with outstanding := (s.till x.till).outstanding + 1 } s) :=
    h.putTill ⟨rfl, rfl, rfl, .inl rfl⟩
  unfold Machine.countDrop
  dsimp only
  split
  · exact waits.clearOverLimit _
  · exact h.clearOverLimit _

/-! ## Offers -/

theorem Books.takeFiring (h : Books d s) (q : WatchResult) (f : Firing) : Books d (takeFiring q s f) := by
  rw [takeFiring_eq]
  have act : Books d (acted q s f) := by
    unfold acted
    split
    · exact h.putTill ⟨rfl, rfl, rfl, .inl rfl⟩
    · exact h.haltLanes
    · exact h
  exact act.notify _ _

theorem Books.offer (h : Books d s) (q : WatchResult) : Books d (offer q s).1 := by
  rw [offer_eq]
  exact foldl_mem_rule (Books d) _ _ _ (h.same (by simp [SameRecords]) (by simp)) fun u f _ hu => hu.takeFiring q f

theorem Books.announceReport (h : Books d s) (c : Confirmation) (w : State) : Books d (announceReport c w s) := by
  unfold Machine.announceReport announceResult
  split
  · exact h
  · exact .ite ((h.notify _ _).offer _) h

theorem Books.applyReport (h : Books d s) (c : Confirmation) : Books d (applyReport c s) := by
  unfold Machine.applyReport
  split
  · exact h
  · exact h.putTill (.reported _ _ _ _)

end Tills

end Sys2Proof.Machine
end

section
/-!
R46: what the confirmations and the merges keep of the books (R21, R134 to R144).
-/

namespace Sys2Proof.Machine

open Sys2Proof

set_option Elab.async false

/-! ## The value of a merge -/

section Value

variable {d : Int} {s t : State} {n r i : Nat} {b : Bag} {y : Tally} {m : Movement} {v : Int}

/-- R13: a tally that has a value has the sum of its products. -/
theorem valueTally_sum (valued : valueTally y s = some v) :
    v = (slotNumbers.map (fun i => slotProduct (s.denom i) (tallySlot y i))).sum := by
  obtain ⟨sums, many, large⟩ := valueSlots_eq (slotNumbers.map (fun i => (s.denom i, tallySlot y i))) 0 le_rfl
  have value : valueTally y s = valueSlots (slotNumbers.map (fun i => (s.denom i, tallySlot y i))) 0 := rfl
  rw [value] at valued
  simp only [List.map_map, Function.comp_def, zero_add] at sums large
  by_cases overflow : ∃ x ∈ slotNumbers.map (fun i => (s.denom i, tallySlot y i)), overCounted x.1 x.2
  · rw [many overflow] at valued
    cases valued
  · by_cases fits : (slotNumbers.map (fun i => slotProduct (s.denom i) (tallySlot y i))).sum ≤ 999999999999
    · rw [sums (fun x mem held => overflow ⟨x, mem, held⟩) fits] at valued
      exact (Option.some.inj valued).symm
    · rw [large (by decide) (not_le.mp fits)] at valued
      cases valued

/-- R21: a slot's merge adds to stock what the slot is worth. -/
theorem changeGain_merge (y : Tally) (s : State) (i : Nat) :
    changeGain (s.denom i) (mergeChange y s i) = slotProduct (s.denom i) (tallySlot y i) := by
  unfold mergeChange
  cases s.denom i with
  | unused => rfl
  | coin face => simp [changeGain, slotProduct]
  | note face strap =>
    have whole : (tallySlot y i).fit / strap * strap + (tallySlot y i).fit % strap = (tallySlot y i).fit := Nat.div_add_mod' ..
    have pieces : ((((tallySlot y i).fit / strap * strap : Nat) : Int) + (((tallySlot y i).fit % strap : Nat) : Int)) =
        ((tallySlot y i).fit : Int) := by exact_mod_cast whole
    dsimp only [changeGain, slotProduct, noChange]
    rw [pieces]
    push_cast
    rfl

theorem gain_merge (stock : m.stock = slotNumbers.map (mergeChange y s)) (valued : valueTally y s = some v) : m.gain s = v := by
  rw [valueTally_sum valued, Movement.gain, stock, List.map_map]
  refine congrArg List.sum (List.map_congr_left fun i _ => ?_)
  have slot := mergeChange_slot y s i
  rw [← changeGain_merge, Function.comp_apply, slot]

theorem fitsAll_merge (straps : ∀ i ∈ slotNumbers, StrapsSound s i) (passes : ∀ i ∈ slotNumbers, slotFail y s i = none) :
    FitsAll s.denom s.acu.stock (slotNumbers.map (mergeChange y s)) := by
  have slots : (slotNumbers.map (mergeChange y s)).map StockChange.slot = slotNumbers := by
    simp [Function.comp_def, mergeChange_slot]
  refine fitsAll_of_distinct (by rw [slots]; decide) fun c mem => ?_
  obtain ⟨i, slot, rfl⟩ := List.mem_map.mp mem
  have own := mergeChange_slot y s i
  exact fits_of_stockFail (own.symm ▸ slot) (own.symm ▸ straps i slot) (Option.or_eq_none_iff.mp (passes i slot)).1

theorem stockCheck_of_check (fits : checkMovement m s = none) : stockCheck m s = none := by
  unfold checkMovement at fits
  split at fits
  · cases fits
  · split at fits
    · cases fits
    · split at fits
      · cases fits
      · next passes => exact passes

theorem slotFail_of_check (stock : m.stock = slotNumbers.map (mergeChange y s)) (suspects : m.suspects = mergeSuspects y)
    (fits : checkMovement m s = none) : ∀ i ∈ slotNumbers, slotFail y s i = none := by
  have passes := stockCheck_of_check fits
  rw [stockCheck_merge stock suspects] at passes
  exact List.findSome?_eq_none_iff.mp passes

end Value

/-! ## Confirmations -/

section Confirm

variable {d : Int} {s t u w : State} {n r : Nat} {b : Bag} {c : Confirmation} {merge : Bool} {q : QueuedCount} {v : Int}

/-- No list names a bag after a change of the tills that keeps their floats. -/
theorem Unnamed.alike (h : Unnamed s r) (retired : t.bgr.retired = s.bgr.retired) (clc : t.clc = s.clc) (rcu : t.rcu = s.rcu)
    (manifests : t.hoc.manifests = s.hoc.manifests) (tills : ∀ n, Alike (s.till n) (t.till n)) : Unnamed t r := by
  have lane : t.lane = s.lane := by funext n; simp only [State.lane, clc]
  have manifest : t.manifest = s.manifest := by funext n; simp only [State.manifest, manifests]
  have counting : t.countingBags = s.countingBags := by simp only [State.countingBags, lane, rcu]
  have unsent : t.unsentBags = s.unsentBags := by simp only [State.unsentBags, State.manifestsWhere, manifest]
  exact ⟨retired ▸ h.retired, counting ▸ h.counting, unsent ▸ h.unsent,
    fun n floats => h.float n ⟨(tills n).ready floats.1, (tills n).2.2.1 ▸ floats.2⟩⟩

theorem applyMovement_alike (m : Movement) (s : State) (n : Nat) : Alike (s.till n) ((applyMovement m s).till n) := by
  have tau : (applyMovement m s).till n = (chargeAccount m.charge s).till n := by
    rw [State.till, applyMovement_tau, State.till]
  rw [tau]
  exact chargeAccount_alike ..

/-- A movement names no bag. -/
theorem Unnamed.moved (h : Unnamed s r) (m : Movement) : Unnamed (applyMovement m s) r :=
  h.alike (by simp) (by simp) (by simp) (by simp) (applyMovement_alike m s)

theorem applyReport_alike (c : Confirmation) (s : State) (m : Nat) : Alike (s.till m) ((applyReport c s).till m) := by
  unfold applyReport
  split
  · exact .refl _
  · rw [putTill_till]
    split
    · next same =>
        subst same
        exact .reported ..
    · exact .refl _

theorem reported_alike (c : Confirmation) (merge : Bool) (s : State) (m : Nat) : Alike (s.till m) ((reported c merge s).till m) :=
  (applyMovement_alike ..).trans (applyReport_alike c _ m)

/-- R139, R140: a live bag that no list names is confirmed with the value of its tally. -/
theorem Books.confirmed (h : Books d s) (held : s.bag c.ref = some b) (live : b.state.live = true) (unnamed : Unnamed s c.ref)
    (book : b.book + c.variance = c.counted) (valued : valueTally c.tally s = some c.counted) (tally : c.bag.tally = some c.tally)
    (passes : merge = true → ∀ i ∈ slotNumbers, slotFail c.tally s i = none) : Books d (applyConfirmation c merge s) := by
  have part : bookPart (s.bag c.ref) = b.book := by rw [held, bookPart, if_pos live]
  have moved : Books (d - c.variance + if merge then c.counted else 0) (reported c merge s) := by
    rw [reported, ← confirmMovement_delta c merge s]
    refine Books.applyReport (((h.applyMovement (confirmMovement c merge s) ?_)).debt ?_) c
    · cases merge with
      | false => trivial
      | true => exact fitsAll_merge h.straps (passes rfl)
    · cases merge with
      | false => rfl
      | true => rw [gain_merge rfl valued, if_pos rfl]
  have unnamed' : Unnamed (reported c merge s) c.ref :=
    unnamed.alike (by simp [reported]) (by simp [reported]) (by simp [reported]) (by simp [reported]) (reported_alike c merge s)
  have bag : (reported c merge s).bag c.ref = s.bag c.ref := by
    have bgr : (reported c merge s).bgr = s.bgr := by simp [reported]
    rw [State.bag, bgr, State.bag]
  have valued' : valueTally c.tally (reported c merge s) = some c.counted :=
    (valueTally_congr (by simp [reported])).trans valued
  rw [applyConfirmation_eq]
  cases merge with
  | true =>
    refine (moved.retireBag (b := confirmedBag c true) unnamed' rfl).debt ?_
    rw [bag, part, if_pos rfl]
    omega
  | false =>
    have owed : Owed (reported c false s) c.ref (confirmedBag c false) :=
      unnamed'.owed (fun _ => ⟨c.tally, tally, valued'⟩) fun _ _ other => absurd rfl other
    refine (moved.putBag owed).debt ?_
    have own : bookPart (some (confirmedBag c false)) = c.counted := rfl
    rw [bag, part, own]
    simp only [Bool.false_eq_true, if_false]
    omega

/-- R139, R140: a confirmation, with its merge or without it. -/
theorem Books.confirm (h : Books d s) (held : s.bag c.ref = some b) (live : b.state.live = true) (unnamed : Unnamed s c.ref)
    (book : b.book + c.variance = c.counted) (valued : valueTally c.tally s = some c.counted) (tally : c.bag.tally = some c.tally) :
    Books d (confirm c s).1 := by
  have merged : checkMovement (confirmMovement c true s) s = none → Books d (applyConfirmation c true s) := fun fits =>
    h.confirmed held live unnamed book valued tally fun _ =>
      slotFail_of_check (m := confirmMovement c true s) (y := c.tally) (s := s) rfl rfl fits
  have unmerged : Books d (applyConfirmation c false s) := h.confirmed held live unnamed book valued tally nofun
  cases fails : checkMovement (confirmMovement c true s) s with
  | none =>
    have merges : (Machine.confirm c s).1 = applyConfirmation c true s := by rw [Machine.confirm, fails]
    exact merges ▸ merged fails
  | some f =>
    have holds : (Machine.confirm c s).1 = applyConfirmation c false s := by rw [Machine.confirm, fails]
    exact holds ▸ unmerged

theorem Books.notifyStockRange (h : Books d s) (r : Nat) (f : Option MoveFail) : Books d (notifyStockRange r f s) := by
  unfold Machine.notifyStockRange
  split
  · exact h
  · exact h.notify _ _

end Confirm

/-! ## The snoop leaves a bag whose source is known -/

section Snoop

variable {s u : State} {r n : Nat} {b c : Bag}

/-- R95: an attachment writes only a bag from an unknown source. -/
theorem attachSkim_apart (apart : ∀ b, s.bag r = some b → b.source ≠ .unknown) (p : Posting) (g : Nat) :
    (attachSkim p g s).bag r = s.bag r := by
  cases found : s.attachable g with
  | none =>
    unfold attachSkim
    rw [found]
    simp [State.bag]
  | some a =>
    obtain ⟨x, held, -, -, -, -, source⟩ := attachable_spec found
    have other : r ≠ a := fun same => apart x (same ▸ held) source
    by_cases confirmed : x.state = .confirmed
    · rw [attachSkim_of_confirmed found held confirmed, bag_of_set attachedCounted_bgr, if_neg other]
    · cases fails : checkMovement (attachMovement p.till a p.amount) s with
      | none => rw [attachSkim_of_room found held confirmed fails, bag_of_set attachedBooked_bgr, if_neg other]
      | some f =>
        rw [attachSkim_of_fail found held confirmed fails]
        simp [State.bag]

theorem applyPosting_apart (apart : ∀ b, s.bag r = some b → b.source ≠ .unknown) (p : Posting) :
    (applyPosting s p).bag r = s.bag r := by
  have session : (applyInSession p s).bag r = s.bag r := by
    have tested : ∀ v, (overLimitTest p.till v).bag r = v.bag r := fun v => overLimitTest_bag ..
    unfold applyInSession
    rw [tested]
    split
    · exact attachSkim_apart (s := putTill p.till ((s.till p.till).accumulate p.kind p.amount).reckon s) apart p _
    · rfl
  have late : (applyLate p s).bag r = s.bag r := by simp [State.bag]
  have orphan : (applyOrphan p s).bag r = s.bag r := by simp [State.bag]
  unfold applyPosting
  split
  · exact session
  · exact session
  · exact late
  · exact orphan
  · exact orphan

/-- R100: the snoop leaves the record it is made for. -/
theorem snoopFor_bag (held : s.bag r = some b) : (snoopFor b s).bag r = some b := by
  cases source : b.source with
  | till n k =>
    have known : b.source ≠ .unknown := by rw [source]; nofun
    unfold snoopFor
    split
    · exact held
    · unfold snoopTill
      refine foldl_mem_rule (fun u => u.bag r = some b) applyPosting _ _ held fun u p _ own => ?_
      refine (applyPosting_apart (fun c held' => ?_) p).trans own
      rw [own] at held'
      exact Option.some.inj held' ▸ known
  | courier v => rw [snoopFor_of_other (by rw [source]; nofun), held]
  | office => rw [snoopFor_of_other (by rw [source]; nofun), held]
  | unknown => rw [snoopFor_of_other (by rw [source]; nofun), held]

end Snoop

/-! ## Completions -/

section Complete

variable {d : Int} {s t u w : State} {n r : Nat} {b : Bag} {c : Confirmation} {merge : Bool} {q : QueuedCount} {v : Int}
  {e : QueueEntry} {rest : List QueueEntry} {x : Int} {res : ValuationResult} {fired : Bool} {outcome : BagState}

theorem confirmMovement_congr (c : Confirmation) (merge : Bool) (acu : t.acu = s.acu) (tau : t.tau = s.tau) :
    confirmMovement c merge t = confirmMovement c merge s := by
  have change : mergeChange c.tally t = mergeChange c.tally s := mergeChange_congr (by rw [acu])
  have till : t.till = s.till := by funext n; rw [State.till, tau, State.till]
  have entries : resultEntries c t = resultEntries c s := by
    unfold resultEntries
    rw [till]
    split
    · rfl
    · rw [reportedTillAfter_congr (u := t) (s := s) _ _ _ (by rw [acu]) (by rw [acu])]
  unfold confirmMovement
  rw [change, entries]

theorem chargeAccount_congr (x : Option (Account × Int)) (acu : t.acu = s.acu) (tau : t.tau = s.tau) :
    (chargeAccount x t).acu = (chargeAccount x s).acu ∧ (chargeAccount x t).tau = (chargeAccount x s).tau := by
  have till : t.till = s.till := by funext n; rw [State.till, tau, State.till]
  rcases x with _ | ⟨_ | _ | n, v⟩ <;> simp [chargeAccount, putTill, acu, tau, till]

/-- R139: what a confirmation makes of the accounts and the tills depends on these alone. -/
theorem applyConfirmation_congr (c : Confirmation) (merge : Bool) (acu : t.acu = s.acu) (tau : t.tau = s.tau) :
    (applyConfirmation c merge t).acu = (applyConfirmation c merge s).acu ∧
    (applyConfirmation c merge t).tau = (applyConfirmation c merge s).tau := by
  have movement := confirmMovement_congr c merge acu tau
  obtain ⟨acu', tau'⟩ := chargeAccount_congr (confirmMovement c merge s).charge acu tau
  have moved : (applyMovement (confirmMovement c merge s) t).acu = (applyMovement (confirmMovement c merge s) s).acu := by
    rw [applyMovement_acu_eq, applyMovement_acu_eq, acu', acu]
  have taus : (applyMovement (confirmMovement c merge s) t).tau = (applyMovement (confirmMovement c merge s) s).tau := by
    rw [applyMovement_tau, applyMovement_tau, tau']
  refine ⟨by rw [applyConfirmation_acu, applyConfirmation_acu, movement, moved], ?_⟩
  rw [applyConfirmation_tau, applyConfirmation_tau, reported, reported, movement]
  generalize applyMovement (confirmMovement c merge s) t = a at moved taus
  generalize applyMovement (confirmMovement c merge s) s = b at moved taus
  have till : a.till = b.till := by funext n; rw [State.till, taus, State.till]
  unfold applyReport
  split
  · exact taus
  · rw [till, reportedTillAfter_congr (u := a) (s := b) _ _ _ (by rw [moved]) (by rw [moved])]
    simp [putTill, taus]

theorem applyConfirmation_records (c : Confirmation) (merge : Bool) (s : State) :
    (applyConfirmation c merge s).bgr.bags = Table.set none s.bgr.bags c.ref (some (confirmedBag c merge)) ∧
    (applyConfirmation c merge s).bgr.retired = if merge then s.bgr.retired ++ [c.ref] else s.bgr.retired := by
  have bgr : (reported c merge s).bgr = s.bgr := by simp [reported]
  rw [applyConfirmation_eq]
  cases merge
  · simp [putBag, bgr]
  · simp [retireBag, putBag, bgr]

theorem leaveQueue_clc (q : QueuedCount) (clc : t.clc = s.clc) : (leaveQueue q t).clc = (leaveQueue q s).clc := by
  have lane : t.lane = s.lane := by funext n; rw [State.lane, clc, State.lane]
  unfold leaveQueue
  cases q.lane with
  | none => exact clc
  | some n =>
    dsimp only
    rw [completeLane_eq, completeLane_eq, lane]
    simp [putLane, clc]

/-- R120, R138: the bag of a completed count is COUNTING and on no list. -/
theorem leaveQueue_books (h : Books d w) (queue : w.rcu.queue = e :: rest) (count : queuedCount e w = some q)
    (held : w.bag q.ref = some b) : Books d (leaveQueue q w) ∧ Unnamed (leaveQueue q w) q.ref ∧ b.state = .counting := by
  obtain ⟨left, uncounted, counted⟩ := h.leaveQueue queue count
  have counting : b.state = .counting := (h.owed q.ref b held).counting counted
  have held' : (leaveQueue q w).bag q.ref = some b := by
    rw [← held]
    simp [State.bag]
  have o := left.owed q.ref b held'
  refine ⟨left, ⟨fun mem => ?_, uncounted, fun mem => ?_, fun n floats => ?_⟩, counting⟩
  · have dead := o.retired mem
    rw [counting] at dead
    cases dead
  · have intact := (o.unsent mem).2
    rw [counting] at intact
    cases intact
  · have intact := (o.float n floats).1
    rw [counting] at intact
    cases intact

/-- R120, R138, R139: a queued count confirms its bag. -/
theorem countConfirmed_books (h : Books d w) (queue : w.rcu.queue = e :: rest) (count : queuedCount e w = some q)
    (held : w.bag q.ref = some b) (book : b.book + x = v) (valued : valueTally q.tally w = some v) :
    Books d (countConfirmed q b res fired v x w) := by
  obtain ⟨left, unnamed, counting⟩ := leaveQueue_books h queue count held
  have kept : (leaveQueue q w).acu = w.acu ∧ (leaveQueue q w).bgr = w.bgr ∧ (leaveQueue q w).tau = w.tau ∧
      (leaveQueue q w).hoc = w.hoc := by simp
  obtain ⟨acu, bgr, tau, hoc⟩ := kept
  have held' : (leaveQueue q w).bag q.ref = some b := by rw [State.bag, bgr]; exact held
  have done := left.confirmed (c := countConfirmation q b res v x) (merge := mergeFits q.tally w) held' (by rw [counting]; rfl) unnamed
    book ((valueTally_congr (by rw [acu])).trans valued) rfl fun fits i slot => by
      rw [show (countConfirmation q b res v x).tally = q.tally from rfl,
        slotFail_congr (t := leaveQueue q w) (s := w) (by rw [acu]) (by rw [acu]) (by rw [acu])]
      exact (mergeFits_iff q.tally w).mp fits i slot
  obtain ⟨bgr', acu', tau'⟩ := countConfirmed_confirms q b res fired v x w
  obtain ⟨rcu', -, -, -, -, hoc'⟩ := countConfirmed_keeps q b res fired v x w
  have clc' : (countConfirmed q b res fired v x w).clc = (leaveQueue q w).clc := by
    have left : (countConfirmed q b res fired v x w).clc =
        (leaveQueue q (applyConfirmation (countConfirmation q b res v x) (mergeFits q.tally w) w)).clc := by
      simp [countConfirmed]
    exact left.trans (leaveQueue_clc q (applyConfirmation_frame ..).2.2.2.1)
  generalize countConfirmed q b res fired v x w = t at bgr' acu' tau' rcu' hoc' clc' ⊢
  obtain ⟨acu'', tau''⟩ := applyConfirmation_congr (countConfirmation q b res v x) (mergeFits q.tally w) acu tau
  obtain ⟨bags, retired⟩ := applyConfirmation_records (countConfirmation q b res v x) (mergeFits q.tally w) w
  obtain ⟨bags2, retired2⟩ := applyConfirmation_records (countConfirmation q b res v x) (mergeFits q.tally w) (leaveQueue q w)
  obtain ⟨-, -, -, clc3, rcu3, -, hoc3⟩ := applyConfirmation_frame (countConfirmation q b res v x) (mergeFits q.tally w) (leaveQueue q w)
  refine done.same ⟨by rw [acu', acu''], by rw [acu', acu''], by rw [acu', acu''], ?_, ?_, by rw [tau', tau''], clc'.trans clc3.symm,
    ?_, by rw [hoc', hoc3, hoc]⟩ (by rw [tau', tau''])
  · rw [bgr', bags, bags2, bgr]
  · rw [bgr', retired, retired2, bgr]
  · rw [rcu', rcu3, leaveQueue_rcu]

/-- R120, R138: a queued count leaves its bag QUARANTINED or DISPUTED. -/
theorem countRecorded_books (h : Books d w) (queue : w.rcu.queue = e :: rest) (count : queuedCount e w = some q)
    (held : w.bag q.ref = some b) (other : outcome ≠ .confirmed) (live : outcome.live = true) :
    Books d (countRecorded q b res fired outcome w) := by
  obtain ⟨left, unnamed, counting⟩ := leaveQueue_books h queue count held
  have kept : (leaveQueue q w).acu = w.acu ∧ (leaveQueue q w).bgr = w.bgr ∧ (leaveQueue q w).tau = w.tau ∧
      (leaveQueue q w).hoc = w.hoc := by simp
  obtain ⟨acu, bgr, tau, hoc⟩ := kept
  have held' : (leaveQueue q w).bag q.ref = some b := by rw [State.bag, bgr]; exact held
  have alive : b.state.live = true := by rw [counting]; rfl
  have done := left.rewrite (b := recordCount b q.tally res.cls outcome) held'
    (unnamed.owed (fun state => absurd state other) fun flag _ _ =>
      (h.owed q.ref b held).undeclared flag alive (by rw [counting]; nofun)) (live.trans alive.symm) rfl
  have acu' := countRecorded_acu q b res fired outcome w
  obtain ⟨rcu', tau', -, -, -, -, hoc', retired'⟩ := countRecorded_keeps q b res fired outcome w
  have bags : (countRecorded q b res fired outcome w).bgr.bags =
      (putBag q.ref (recordCount b q.tally res.cls outcome) (leaveQueue q w)).bgr.bags := by
    simp [countRecorded, putBag]
  have clc' : (countRecorded q b res fired outcome w).clc = (leaveQueue q w).clc := by
    have left : (countRecorded q b res fired outcome w).clc =
        (leaveQueue q (endReservation (putBag q.ref (recordCount b q.tally res.cls outcome) w))).clc := by
      simp [countRecorded]
    exact left.trans (leaveQueue_clc q (by simp))
  generalize countRecorded q b res fired outcome w = t at acu' tau' rcu' hoc' clc' retired' bags ⊢
  refine done.same ⟨?_, ?_, ?_, bags, ?_, ?_, clc', ?_, ?_⟩ ?_
  · rw [acu']
    exact (congrArg Acu.accountability acu).symm
  · rw [acu']
    exact (congrArg Acu.denoms acu).symm
  · rw [acu']
    exact (congrArg Acu.stock acu).symm
  · rw [retired']
    exact (congrArg Bgr.retired bgr).symm
  · rw [tau']
    exact (congrArg Tau.templates tau).symm
  · rw [rcu']
    exact (leaveQueue_rcu q w).symm
  · rw [hoc']
    exact (congrArg Hoc.manifests hoc).symm
  · rw [tau']
    exact (congrArg Tau.tills tau).symm

/-- R126: the offer leaves the count of a queued entry. -/
theorem offered_count (h : Books d s) (queue : s.rcu.queue = e :: rest) (r : WatchResult) :
    queuedCount e (offer r s).1 = queuedCount e s := by
  cases e with
  | manual f y => rfl
  | lane n =>
    have mem : n ∈ s.queuedLanes := (mem_queuedLanes s n).mpr (by rw [queue]; exact .head _)
    obtain ⟨-, -, state⟩ := (laneQueuedRule_iff s n).mp (h.lanes.queued n mem)
    have still : (s.lane n).state ≠ .running := by rcases state with s1 | s1 | s1 <;> rw [s1] <;> nofun
    rw [queuedCount, queuedCount, offer_still still]

/-- R137: the outcome of a count that confirms its bag is not that of a batch with late notes. -/
theorem outcomeOf_late {y : Tally} {cls : Classification} {late : Bool} (out : outcomeOf b y cls late fired = .confirmed) :
    late = false := by
  cases late with
  | false => rfl
  | true =>
    unfold outcomeOf at out
    split at out
    · cases out
    · cases out

/-- R137: a count leaves its bag live. -/
theorem outcomeOf_live (b : Bag) (y : Tally) (cls : Classification) (late : Bool) (fired : Bool) :
    (outcomeOf b y cls late fired).live = true := by
  unfold outcomeOf
  split_ifs <;> rfl

/-- R12, R16: a variance is what the counted value exceeds the book value by. -/
theorem add_of_subAmount {value book : Int} (variance : subAmount value book = some x) : book + x = value := by
  rw [subAmount, addAmount] at variance
  split at variance
  · have difference := Option.some.inj variance
    omega
  · cases variance

theorem figures_of_valuation {counted : Option Int} {book floor : Int} {rate : Nat}
    (figure : (valuationResult counted book floor rate).counted = some v)
    (variance : (valuationResult counted book floor rate).variance = some x) : counted = some v ∧ book + x = v := by
  cases counted with
  | none => cases figure
  | some value =>
    cases difference : subAmount value book with
    | none =>
      rw [valuationResult, difference] at variance
      cases variance
    | some y =>
      rw [valuationResult_of difference] at figure variance
      cases figure
      cases variance
      exact ⟨rfl, add_of_subAmount difference⟩

theorem testAccountability_figures {res' : ValuationResult} (figure : (testAccountability res' s).counted = some v)
    (variance : (testAccountability res' s).variance = some x) : res'.counted = some v ∧ res'.variance = some x := by
  cases held : res'.variance with
  | none =>
    have same : testAccountability res' s = res' := by rw [testAccountability, held]
    rw [same] at variance
    cases held.symm.trans variance
  | some y =>
    have tested : testAccountability res' s = if amountInRange (s.acu.accountability + y) then res' else
        { res' with variance := none, band := none, cls := .range } := by rw [testAccountability, held]
    rw [tested] at figure variance
    split_ifs at figure variance
    exact ⟨figure, held.symm.trans variance⟩

/-- R134 to R141: the completion of a count. -/
theorem completeCount_books (h : Books d u) (queue : u.rcu.queue = e :: rest) (count : queuedCount e u = some q)
    (held : u.bag q.ref = some b) {counted : Option Int} (valued : q.late = true ∨ counted = valueTally q.tally u) :
    Books d (completeCount q b counted u) := by
  obtain ⟨res, result⟩ : ∃ res, res = testAccountability (valuationResult counted b.book u.acu.bandFloor u.acu.bandRate) u := ⟨_, rfl⟩
  obtain ⟨w, offered⟩ : ∃ w, w = (offer (bagWatchResult q.ref b res) u).1 := ⟨_, rfl⟩
  obtain ⟨fired, recount⟩ : ∃ f, f = (offer (bagWatchResult q.ref b res) u).2.contains .recount := ⟨_, rfl⟩
  have hw : Books d w := offered ▸ h.offer _
  have queue' : w.rcu.queue = e :: rest := by
    rw [offered, ← queue]
    simp
  have count' : queuedCount e w = some q := by rw [offered, offered_count h queue, count]
  have held' : w.bag q.ref = some b := by
    rw [offered, ← held]
    simp [State.bag]
  by_cases out : outcomeOf b q.tally res.cls q.late fired = .confirmed
  · obtain ⟨value, x, figure, variance, range⟩ := figures_of_result (result ▸ outcomeOf_confirmed out)
    rw [← result] at figure variance
    obtain ⟨figure', variance'⟩ := testAccountability_figures (result ▸ figure) (result ▸ variance)
    obtain ⟨own, book⟩ := figures_of_valuation figure' variance'
    have worth : valueTally q.tally w = some value := by
      rcases valued with late | same
      · rw [outcomeOf_late out] at late
        cases late
      · rw [valueTally_congr (s := u) (by rw [offered]; simp), ← same, own]
    rw [completeCount_confirmed result offered recount out figure variance range]
    exact (countConfirmed_books hw queue' count' held' book worth).announceReport _ _
  · rw [completeCount_recorded result offered recount rfl out]
    exact countRecorded_books hw queue' count' held' out (outcomeOf_live ..)

/-- R100, R132 to R141: VALUATION_COMPLETION. -/
theorem Books.completeValuation (h : Books d s) : Books d (completeValuation s) := by
  unfold Machine.completeValuation
  split
  · next v e rest engine queue =>
      split
      · exact h
      · next q count =>
          split
          · exact h
          · next b held =>
              obtain ⟨f, l, queue', valued⟩ := (engineRule_iff s).mp h.lanes.engine v engine
              obtain ⟨rfl, rfl⟩ := List.cons.inj (queue.symm.trans queue')
              have kept : (Machine.snoopFor b s).rcu = s.rcu ∧ (Machine.snoopFor b s).clc = s.clc ∧
                  (Machine.snoopFor b s).acu.denoms = s.acu.denoms := by simp
              obtain ⟨rcu, clc, denoms⟩ := kept
              have counts : queuedCount e (Machine.snoopFor b s) = queuedCount e s := by
                cases e with
                | manual r y => rfl
                | lane n => rw [queuedCount, queuedCount, State.lane, clc, State.lane]
              refine completeCount_books (h.snoopFor b) (by rw [rcu, queue]) (counts.trans count) (snoopFor_bag held) ?_
              rw [valueTally_congr denoms]
              exact valued q count
  · exact h

end Complete

/-! ## RESOLVE_DISPUTE and MERGE_BAG -/

section Resolve

variable {d : Int} {s u : State} {r : Nat} {b : Bag} {y : Tally}

/-- R142, R143: a dispute settled. -/
theorem settleDispute_books (h : Books d s) (held : s.bag r = some b) (state : b.state = .disputed) (y : Tally) :
    Books d (settleDispute r b y s).state := by
  have unnamed : Unnamed s r := h.unnamed held (by rw [state]; rfl) (by rw [state]; nofun) fun intact => by
    rw [state] at intact
    cases intact
  unfold settleDispute
  split
  · next value x band cls result =>
      have figures := figures_of_valuation (v := value) (x := x) (by rw [result]) (by rw [result])
      obtain ⟨valued, book⟩ := figures
      have done : Books d (Machine.confirm (resolution r b y value x) s).1 :=
        h.confirm (c := resolution r b y value x) held (by rw [state]; rfl) unnamed book valued (recordChoice_fields b y).1
      dsimp only
      split
      · exact h
      · split
        · exact h
        · exact (done.notifyStockRange r _).announceReport _ _
  · exact h

/-- R144: MERGE_BAG. -/
theorem mergeBag_books (h : Books d s) (held : s.bag r = some b) (state : b.state = .confirmed)
    (fits : checkMovement (mergeMovement r b s) s = none) : Books d (bagMerged r b s) := by
  obtain ⟨y, tally, valued⟩ := (h.owed r b held).valued state
  have own : b.tally.getD Tally.initial = y := by rw [tally]; rfl
  have stock : (mergeMovement r b s).stock = slotNumbers.map (mergeChange y s) := by rw [← own]; rfl
  have suspects : (mergeMovement r b s).suspects = mergeSuspects y := by rw [← own]; rfl
  have changes := fitsAll_merge h.straps (slotFail_of_check stock suspects fits)
  rw [← stock] at changes
  have moved := h.applyMovement (mergeMovement r b s) changes
  have unnamed : Unnamed s r := h.unnamed held (by rw [state]; rfl) (by rw [state]; nofun) fun intact => by
    rw [state] at intact
    cases intact
  have unnamed' := unnamed.moved (mergeMovement r b s)
  have bag : (applyMovement (mergeMovement r b s) s).bag r = some b := by
    rw [← held]
    simp [State.bag]
  unfold bagMerged
  refine (moved.retireBag unnamed' rfl).debt ?_
  have delta : (mergeMovement r b s).delta = 0 := rfl
  rw [bag, gain_merge stock valued, delta, bookPart, state]
  simp [BagState.live]

end Resolve

end Sys2Proof.Machine
end

section
/-!
R46: what the floats and the takings keep of the books (R82 to R86).
-/

namespace Sys2Proof.Machine

open Sys2Proof

set_option Elab.async false

/-! ## What a line takes from stock and gives to it -/

section Lines

variable {s t : State} {l : SlotLine} {x : StockChange × Nat} {loose count k held : Nat} {lines : List SlotLine}
  {taken : List (StockChange × Nat)}

theorem slot_mem {i : Nat} (le : i ≤ 7) : i ∈ slotNumbers := by
  have all : ∀ i, i ≤ 7 → i ∈ slotNumbers := by decide
  exact all i le

/-- R82: the straps broken cover what loose notes do not. -/
theorem strapsBroken_covers (positive : 0 < k) : count ≤ loose + strapsBroken loose count k * k := by
  have ceil := Nat.lt_mul_div_succ (count - loose + (k - 1)) positive
  rw [Nat.mul_add, Nat.mul_one, Nat.mul_comm] at ceil
  unfold strapsBroken
  omega

/-- R82: no more straps are broken than there are. -/
theorem strapsBroken_held (positive : 0 < k) (whole : held % k = 0) (covered : count ≤ loose + held) :
    strapsBroken loose count k * k ≤ held := by
  obtain ⟨m, rfl⟩ := Nat.dvd_of_mod_eq_zero whole
  have few : strapsBroken loose count k < m + 1 := by
    unfold strapsBroken
    refine (Nat.div_lt_iff_lt_mul positive).mpr ?_
    rw [Nat.add_mul, Nat.one_mul, Nat.mul_comm m k]
    omega
  rw [Nat.mul_comm k m]
  exact Nat.mul_le_mul_right k (Nat.lt_succ_iff.mp few)

/-- R82: what a line takes fits in stock, and is what the line is worth. -/
theorem takeLine_fits (slot : l.slot ≤ 7) (straps : StrapsSound s l.slot) (h : takeLine l s = some x) :
    Fits s.denom s.acu.stock x.1 ∧ x.1.slot = l.slot ∧
      changeGain (s.denom x.1.slot) x.1 = -((l.count * (s.denom l.slot).face : Nat) : Int) := by
  obtain ⟨c, b⟩ := x
  have same := (takeLine_slot h).1
  dsimp only
  rw [same]
  cases denom : s.denom l.slot with
  | unused => simp [takeLine, denom] at h
  | coin f =>
    obtain ⟨rfl, rfl, covered⟩ := takeLine_coin denom h
    have stock : l.count ≤ (Table.get SlotStock.initial s.acu.stock l.slot).coin := covered
    refine ⟨⟨slot_mem slot, by simp, by simp, by simp, by dsimp only; omega, fun k _ => dvd_zero _⟩, rfl, ?_⟩
    simp [changeGain, Denom.face]
  | note f k =>
    have covered : l.count ≤ (s.slotStock l.slot).loose + (s.slotStock l.slot).strapped := by
      simp only [takeLine, denom] at h
      split at h
      · next fits => exact fits
      · cases h
    obtain ⟨rfl, rfl⟩ := takeLine_note denom h
    obtain ⟨positive, whole⟩ := straps k (by rw [denom]; rfl)
    have most := strapsBroken_held (loose := (s.slotStock l.slot).loose) (count := l.count) positive whole covered
    have least := strapsBroken_covers (loose := (s.slotStock l.slot).loose) (count := l.count) positive
    have own : s.slotStock l.slot = Table.get SlotStock.initial s.acu.stock l.slot := rfl
    generalize strapsBroken (s.slotStock l.slot).loose l.count k = n at *
    rw [own] at most least
    refine ⟨⟨slot_mem slot, by dsimp only; omega, by dsimp only; omega, by simp, by simp, fun j strap => ?_⟩, rfl, ?_⟩
    · dsimp only at strap ⊢
      rw [denom] at strap
      obtain rfl := Option.some.inj strap
      rw [dvd_neg]
      exact_mod_cast Dvd.intro_left n rfl
    · dsimp only [changeGain, Denom.face]
      push_cast
      ring

theorem takeLines_cons (h : takeLines (l :: lines) s = .ok taken) : ∃ x rest, taken = x :: rest ∧ takeLine l s = some x ∧
    takeLines lines s = .ok rest := by
  unfold takeLines at h ⊢
  rw [List.mapM_cons] at h
  simp only [bind_ok_iff, requireSome_ok_iff] at h
  obtain ⟨x, first, rest, others, whole⟩ := h
  exact ⟨x, rest, (Except.ok.inj whole).symm, first, others⟩

/-- R82: what the lines of a template take. -/
theorem takeLines_fits (slots : ∀ l ∈ lines, l.slot ≤ 7) (straps : ∀ i ∈ slotNumbers, StrapsSound s i)
    (h : takeLines lines s = .ok taken) : (taken.map Prod.fst).map StockChange.slot = lines.map SlotLine.slot ∧
    (∀ c ∈ taken.map Prod.fst, Fits s.denom s.acu.stock c) ∧
    ((taken.map Prod.fst).map (fun c => changeGain (s.denom c.slot) c)).sum = -linesValue lines s := by
  induction lines generalizing taken with
  | nil =>
    obtain rfl : taken = [] := (Except.ok.inj h).symm
    exact ⟨rfl, by simp, rfl⟩
  | cons l lines ih =>
    obtain ⟨x, rest, rfl, first, others⟩ := takeLines_cons h
    obtain ⟨same, fits, value⟩ := ih (fun y mem => slots y (by simp [mem])) others
    obtain ⟨fit, slot, worth⟩ := takeLine_fits (slots l (by simp)) (straps l.slot (slot_mem (slots l (by simp)))) first
    refine ⟨by simp only [List.map_cons, slot, same], ?_, ?_⟩
    · intro c mem
      rcases List.mem_cons.mp mem with rfl | later
      · exact fit
      · exact fits c later
    · rw [List.map_cons, List.map_cons, List.sum_cons, worth, value]
      unfold linesValue
      rw [List.map_cons, List.sum_cons]
      ring

/-- R84: what a line gives back to stock. -/
theorem giveLine_worth (s : State) (l : SlotLine) : (giveLine s l).slot = l.slot ∧ (giveLine s l).strapped = 0 ∧
    0 ≤ (giveLine s l).loose ∧ 0 ≤ (giveLine s l).unfit ∧ 0 ≤ (giveLine s l).coin ∧
    changeGain (s.denom l.slot) (giveLine s l) = ((l.count * (s.denom l.slot).face : Nat) : Int) := by
  unfold giveLine
  cases s.denom l.slot <;> simp [noChange, changeGain, Denom.face]

end Lines

/-! ## Floats -/

section Floats

variable {d : Int} {s t u w : State} {n m r g : Nat} {b : Bag} {lines : List SlotLine} {taken : List (StockChange × Nat)}

theorem till_mem (valid : validTill n = true) : n ∈ tillNumbers := by
  simp only [validTill, Bool.and_eq_true, decide_eq_true_eq] at valid
  simp only [tillNumbers, List.mem_range'_1]
  omega

/-- R83: MAKE_FLOAT. -/
theorem floatMade_books (h : Books 0 s) (valid : validTill n = true) (state : (s.till n).state = .idle ∨ (s.till n).state = .reconciled)
    (lines : takeLines (s.template m) s = .ok taken) (slot : allocate s = some (r, w)) :
    Books 0 (floatMade n r g (s.template m) taken s w) := by
  obtain ⟨slots, once⟩ := h.templates m
  obtain ⟨allocated, free⟩ := h.allocate slot
  obtain ⟨same, fits, value⟩ := takeLines_fits slots h.straps lines
  generalize s.template m = l at *
  generalize bag : newBag g .float (.till n (floatSession (s.till n))) none (linesValue l s) none = b
  have recorded : Books (0 + linesValue l s) (recordBag r b w) := by
    refine (allocated.recordBag (b := b) free (fun state => ?_) fun flag _ _ => ?_).debt ?_
    · rw [← bag] at state
      cases state
    · rw [← bag] at flag
      cases flag
    · rw [← bag]
      rfl
  have acu : (recordBag r b w).acu = s.acu := by
    have kept : (recordBag r b w).acu = w.acu := by simp
    rw [kept, allocate_eq slot]
  have denoms : (recordBag r b w).denom = s.denom := by funext i; rw [State.denom, acu, State.denom]
  have moved : Books 0 (applyMovement (floatMovement n r l taken s) (recordBag r b w)) := by
    refine (recorded.applyMovement (floatMovement n r l taken s) ?_).debt ?_
    · rw [denoms, acu]
      exact fitsAll_of_distinct (same ▸ once) fits
    · have gain : (floatMovement n r l taken s).gain (recordBag r b w) = -linesValue l s := by
        rw [← value, Movement.gain, denoms]
        rfl
      have delta : (floatMovement n r l taken s).delta = 0 := rfl
      rw [gain, delta]
      omega
  have held : (applyMovement (floatMovement n r l taken s) (recordBag r b w)).bag r = some b := by
    have kept : (applyMovement (floatMovement n r l taken s) (recordBag r b w)).bgr = (recordBag r b w).bgr := by simp
    rw [State.bag, kept, recordBag_bgr, Table.get_set, if_pos rfl]
  have worth : linesValue l (applyMovement (floatMovement n r l taken s) (recordBag r b w)) = linesValue l s := by
    have kept : (applyMovement (floatMovement n r l taken s) (recordBag r b w)).acu.denoms = s.acu.denoms := by
      rw [← acu]
      simp
    simp only [linesValue, State.denom, kept]
  have book : b.book = linesValue l s := by rw [← bag]; rfl
  unfold floatMade
  rw [bag]
  refine moved.ready (till_mem valid) ?_ slots rfl held (by rw [← bag]; rfl) (by rw [← bag]; rfl) (by rw [← bag]; rfl) ?_
  · rcases state with s1 | s1 <;> simp [floatTill, s1]
  · exact book.trans worth.symm

/-- R84, R85, R187: a write of another block and the retirement of a bag do not meet. -/
theorem retired_sameRecords {mv : Movement} {c : Bag} (charge : mv.charge = none) (acu : w.acu = u.acu) (bgr : w.bgr = u.bgr)
    (acu' : t.acu = (retireBag r c (applyMovement mv u)).acu) (bgr' : t.bgr = (retireBag r c (applyMovement mv u)).bgr)
    (tau : t.tau = w.tau) (clc : t.clc = w.clc) (rcu : t.rcu = w.rcu) (hoc : t.hoc = w.hoc) :
    SameRecords (retireBag r c (applyMovement mv w)) t ∧ t.tau.tills = (retireBag r c (applyMovement mv w)).tau.tills := by
  have figures : (retireBag r c (applyMovement mv w)).acu = t.acu := by
    have uncharged : ∀ v, chargeAccount none v = v := fun v => rfl
    rw [acu', retired_acu, retired_acu, applyMovement_acu_eq mv w, applyMovement_acu_eq mv u, charge, uncharged, uncharged, acu]
  have table : (retireBag r c (applyMovement mv w)).bgr = t.bgr := by rw [bgr', retired_bgr, retired_bgr, bgr]
  have tau' := retired_tau (r := r) (m := mv) c w charge
  obtain ⟨-, -, -, clc', rcu', -, hoc'⟩ := retired_frame (r := r) mv c w
  generalize retireBag r c (applyMovement mv w) = a at *
  exact ⟨⟨by rw [figures], by rw [figures], by rw [figures], by rw [table], by rw [table], by rw [tau, tau'], by rw [clc, clc'],
    by rw [rcu, rcu'], by rw [hoc, hoc']⟩, by rw [tau, tau']⟩

/-- R84, R85: a till's record and the retirement of its float do not meet. -/
theorem putTill_retired {mv : Movement} (charge : mv.charge = none) (x : Till) (c : Bag) (s : State) :
    SameRecords (retireBag r c (applyMovement mv (putTill n x s))) (putTill n x (retireBag r c (applyMovement mv s))) ∧
    (putTill n x (retireBag r c (applyMovement mv s))).tau.tills = (retireBag r c (applyMovement mv (putTill n x s))).tau.tills := by
  have tau := retired_tau (r := r) (m := mv) c s charge
  obtain ⟨-, -, -, clc, rcu, -, hoc⟩ := retired_frame (r := r) mv c s
  have kept : ∀ v, (putTill n x v).acu = v.acu ∧ (putTill n x v).bgr = v.bgr ∧ (putTill n x v).clc = v.clc ∧
      (putTill n x v).rcu = v.rcu ∧ (putTill n x v).hoc = v.hoc := fun v => ⟨rfl, rfl, rfl, rfl, rfl⟩
  have tills' : ∀ v, v.tau = s.tau → (putTill n x v).tau = (putTill n x s).tau := fun v same => by rw [putTill, same, putTill]
  obtain ⟨acuS, bgrS, clcS, rcuS, hocS⟩ := kept s
  obtain ⟨acuT, bgrT, clcT, rcuT, hocT⟩ := kept (retireBag r c (applyMovement mv s))
  exact retired_sameRecords charge acuS bgrS acuT bgrT (tills' _ tau) ((clcT.trans clc).trans clcS.symm)
    ((rcuT.trans rcu).trans rcuS.symm) ((hocT.trans hoc).trans hocS.symm)

/-- R84, R85: a till with a float gives it up, and the float's bag leaves the books. -/
theorem floatLeft_books (h : Books d s) (state : (s.till n).state = .floatReady) (bag : s.floatBag n = some (r, b)) {x : Till}
    (next : x.state ≠ .floatReady) {mv : Movement} (charge : mv.charge = none) (fits : FitsAll s.denom s.acu.stock mv.stock) {c : Bag}
    (dead : c.state.live = false) :
    Books (d - mv.delta + mv.gain s - b.book) (putTill n x (retireBag r c (applyMovement mv s))) ∧
      b.book = linesValue (s.till n).floatLines s := by
  obtain ⟨holds, held⟩ : (s.till n).floatBag = some r ∧ s.bag r = some b := by
    unfold State.floatBag at bag
    split at bag
    · cases bag
    · next q named =>
        obtain ⟨y, own, same⟩ := Option.map_eq_some_iff.mp bag
        obtain ⟨rfl, rfl⟩ := Prod.mk.inj same
        exact ⟨named, own⟩
  obtain ⟨intact, purpose, source, book⟩ := (h.owed r b held).float n ⟨state, holds⟩
  have o := h.owed r b held
  have written : Books d (putTill n x s) := h.unready next
  have unnamed : Unnamed (putTill n x s) r := by
    refine ⟨fun mem => ?_, fun mem => ?_, fun mem => ?_, fun k floats => ?_⟩
    · have gone := o.retired mem
      rw [intact] at gone
      cases gone
    · have counting := o.counting mem
      rw [intact] at counting
      cases counting
    · have deposit := (o.unsent mem).1
      rw [purpose] at deposit
      cases deposit
    · unfold Floats at floats
      rw [putTill_till] at floats
      split at floats
      · exact next floats.1
      · next other =>
          have origin := (o.float k floats).2.2.1
          exact other (Option.some.inj (origin.symm.trans source))
  have moved := written.applyMovement mv fits
  have own : (applyMovement mv (putTill n x s)).bag r = some b := by
    have bgr : (applyMovement mv (putTill n x s)).bgr = s.bgr := by simp
    rw [State.bag, bgr]
    exact held
  obtain ⟨records, tills⟩ := putTill_retired (n := n) (r := r) charge x c s
  refine ⟨((moved.retireBag (b := c) (unnamed.moved mv) dead).same records tills).debt ?_, book⟩
  have part : bookPart ((applyMovement mv (putTill n x s)).bag r) = b.book := by
    rw [own, bookPart, intact]
    rfl
  rw [part]
  rfl

/-- R84: UNMAKE_FLOAT. -/
theorem floatUnmade_books (h : Books 0 s) (state : (s.till n).state = .floatReady) (bag : s.floatBag n = some (r, b)) :
    Books 0 (floatUnmade n r b s) := by
  obtain ⟨-, before, slots, -⟩ := h.tills n state
  have next : (unmadeTill (s.till n)).state ≠ .floatReady := by
    unfold unmadeTill
    dsimp only
    cases was : (s.till n).before with
    | none => nofun
    | some y => exact fun same => before (was.trans (congrArg some same))
  have fits : FitsAll s.denom s.acu.stock (unmakeMovement n r b s).stock := by
    refine fitsAll_of_adds (fun c mem => ?_) fun c mem => ?_
    · obtain ⟨l, line, rfl⟩ := List.mem_map.mp mem
      rw [(giveLine_worth s l).1]
      exact slot_mem (slots l line)
    · obtain ⟨l, line, rfl⟩ := List.mem_map.mp mem
      obtain ⟨-, strapped, loose, unfit, coin, -⟩ := giveLine_worth s l
      exact ⟨strapped, loose, unfit, coin⟩
  have gain : (unmakeMovement n r b s).gain s = linesValue (s.till n).floatLines s := by
    rw [Movement.gain, unmakeMovement, List.map_map]
    refine congrArg List.sum (List.map_congr_left fun l _ => ?_)
    obtain ⟨slot, -, -, -, -, worth⟩ := giveLine_worth s l
    rw [Function.comp_apply, slot, worth]
  obtain ⟨left, book⟩ := floatLeft_books h state bag next (mv := unmakeMovement n r b s) rfl fits (c := { b with state := .emptied }) rfl
  have delta : (unmakeMovement n r b s).delta = 0 := rfl
  exact left.debt (by rw [gain, delta, book]; omega)

/-- R85: ISSUE_FLOAT. -/
theorem floatIssued_books {cashier : Nat} (h : Books 0 s) (state : (s.till n).state = .floatReady) (bag : s.floatBag n = some (r, b)) :
    Books 0 (floatIssued n r cashier b s) := by
  have next : ((s.till n).issue cashier b.book).state ≠ .floatReady := nofun
  obtain ⟨left, -⟩ := floatLeft_books h state bag next (mv := issueMovement n r b) rfl trivial
    (c := { b with state := .issued, custody := .till n }) rfl
  have delta : (issueMovement n r b).delta = -b.book := by simp [issueMovement, entriesOnly, Movement.delta]
  have gain : (issueMovement n r b).gain s = 0 := rfl
  exact (left.debt (by rw [gain, delta]; omega)).overLimitTest n

/-- R86: RECEIVE_TAKINGS. -/
theorem takingsReceived_books {cashier : Nat} {v : Int} (h : Books 0 s) (slot : allocate s = some (r, w)) :
    Books 0 (takingsReceived n r g cashier v s w) := by
  obtain ⟨allocated, free⟩ := h.allocate slot
  have recorded := allocated.recordBag (b := newBag g .takings (.till n (s.till n).session) (some cashier) v (some v)) free
    (fun state => by cases state) fun flag => by cases flag
  have moved := recorded.entries .host [⟨.bagIn, some r, some n, v, v⟩]
  have part : bookPart (some (newBag g .takings (.till n (s.till n).session) (some cashier) v (some v))) = v := rfl
  have next : ({ s.till n with state := .takingsIn, outstanding := (s.till n).outstanding + 1 } : Till).state ≠ .floatReady := nofun
  unfold takingsReceived
  refine Books.clearOverLimit (Books.unready (moved.debt ?_) next) n
  rw [part]
  simp [entriesOnly, Movement.delta]

end Floats

end Sys2Proof.Machine
end

section
/-!
R46: what the deposits, the days, the denominations and the moves of a bag keep of the books (R4, R32, R60, R62, R171, R181).
-/

namespace Sys2Proof.Machine

open Sys2Proof

set_option Elab.async false

/-! ## Deposits -/

section Deposits

variable {s w : State} {r g i : Nat} {l : DepositLine} {lines : List DepositLine}

theorem all_of_firstFailing {α : Type} {ok : α → Bool} {l : List α} (h : firstFailing ok l = none) : ∀ x ∈ l, ok x = true := by
  simpa [firstFailing, List.findIdx?_eq_none_iff] using h

/-- R181: what a line of a deposit takes fits in stock, and is what the line is worth. -/
theorem depositChange_fits (slot : l.slot ≤ 7) (suits : depositLineSuits s l = true) (covered : depositLineCovered s l = true) :
    Fits s.denom s.acu.stock (depositChange l) ∧ changeGain (s.denom l.slot) (depositChange l) =
      -(((l.strapped.getD 0 + l.unfit.getD 0 + l.coin.getD 0) * (s.denom l.slot).face : Nat) : Int) := by
  simp only [depositLineCovered, Bool.and_eq_true, decide_eq_true_eq] at covered
  obtain ⟨⟨strapped, unfit⟩, coin⟩ := covered
  have own : s.slotStock l.slot = Table.get SlotStock.initial s.acu.stock l.slot := rfl
  rw [own] at strapped unfit coin
  have fits : (∀ k, (s.denom l.slot).strap? = some k → (k : Int) ∣ -((l.strapped.getD 0 : Nat) : Int)) →
      Fits s.denom s.acu.stock (depositChange l) := fun whole => by
    refine ⟨slot_mem slot, ?_, ?_, ?_, ?_, whole⟩ <;> simp only [depositChange] <;> omega
  unfold depositLineSuits at suits
  split at suits
  · next f k a b denom sa sb sc =>
      refine ⟨fits fun j strap => ?_, ?_⟩
      · rw [denom] at strap
        obtain rfl := Option.some.inj strap
        rw [dvd_neg, sa]
        exact_mod_cast Nat.dvd_of_mod_eq_zero (of_decide_eq_true suits)
      · rw [denom]
        simp only [changeGain, depositChange, Denom.face, sa, sb, sc, Option.getD_some, Option.getD_none]
        push_cast
        ring
  · next f c denom sa sb sc =>
      refine ⟨fits fun j strap => ?_, ?_⟩
      · rw [sa]
        exact dvd_zero _
      · rw [denom]
        simp only [changeGain, depositChange, Denom.face, sa, sb, sc, Option.getD_some, Option.getD_none]
        push_cast
        ring
  · cases suits

/-- R181: MAKE_DEPOSIT. -/
theorem depositMade_books (h : Books 0 s) (slots : ∀ l ∈ lines, l.slot ≤ 7) (once : (lines.map DepositLine.slot).Nodup)
    (suits : ∀ l ∈ lines, depositLineSuits s l = true) (covered : ∀ l ∈ lines, depositLineCovered s l = true)
    (slot : allocate s = some (r, w)) : Books 0 (depositMade r g lines s w) := by
  obtain ⟨allocated, free⟩ := h.allocate slot
  have recorded := allocated.recordBag (b := newBag g .deposit .office none (depositValue lines s) none) free
    (fun state => by cases state) fun flag => by cases flag
  have part : bookPart (some (newBag g .deposit .office none (depositValue lines s) none)) = depositValue lines s := rfl
  rw [part] at recorded
  unfold depositMade
  generalize newBag g .deposit .office none (depositValue lines s) none = b at recorded ⊢
  have acu : (recordBag r b w).acu = s.acu := by
    have kept : (recordBag r b w).acu = w.acu := by simp
    rw [kept, allocate_eq slot]
  have denoms : (recordBag r b w).denom = s.denom := by funext i; rw [State.denom, acu, State.denom]
  refine (recorded.applyMovement (depositMovement r lines s) ?_).debt ?_
  · rw [denoms, acu]
    refine fitsAll_of_distinct ?_ fun c mem => ?_
    · have same : (lines.map depositChange).map StockChange.slot = lines.map DepositLine.slot := by rw [List.map_map]; rfl
      exact same ▸ once
    · obtain ⟨l, line, rfl⟩ := List.mem_map.mp mem
      exact (depositChange_fits (slots l line) (suits l line) (covered l line)).1
  · have gain : (depositMovement r lines s).gain (recordBag r b w) = -depositValue lines s := by
      rw [Movement.gain, denoms, depositMovement, List.map_map, depositValue, List.sum_neg, List.map_map]
      refine congrArg List.sum (List.map_congr_left fun l line => ?_)
      exact (depositChange_fits (slots l line) (suits l line) (covered l line)).2
    have delta : (depositMovement r lines s).delta = 0 := rfl
    rw [gain, delta]
    omega

end Deposits

/-! ## Days -/

section Days

variable {d : Int} {s : State} {l : StockLine} {lines : List StockLine}

/-- R60: what a line of an opening puts in stock, and what it is worth. -/
theorem openingChange_fits (slot : l.slot ≤ 7) (ok : stockLineOk s l = true) : Fits s.denom s.acu.stock (openingChange l) ∧
    changeGain (s.denom l.slot) (openingChange l) =
      (((l.strapped.getD 0 + l.loose.getD 0 + l.unfit.getD 0 + l.coin.getD 0) * (s.denom l.slot).face : Nat) : Int) := by
  have adds : 0 ≤ (openingChange l).strapped ∧ 0 ≤ (openingChange l).loose ∧ 0 ≤ (openingChange l).unfit ∧ 0 ≤ (openingChange l).coin :=
    ⟨Int.natCast_nonneg _, Int.natCast_nonneg _, Int.natCast_nonneg _, Int.natCast_nonneg _⟩
  obtain ⟨strapped, loose, unfit, coin⟩ := adds
  have fits : (∀ k, (s.denom l.slot).strap? = some k → (k : Int) ∣ (openingChange l).strapped) →
      Fits s.denom s.acu.stock (openingChange l) := fun whole =>
    ⟨slot_mem slot, by omega, by omega, by omega, by omega, whole⟩
  unfold stockLineOk at ok
  split at ok
  · next f k a b c denom sa sb sc sd =>
      simp only [Bool.and_eq_true, decide_eq_true_eq] at ok
      refine ⟨fits fun j strap => ?_, ?_⟩
      · rw [denom] at strap
        obtain rfl := Option.some.inj strap
        simp only [openingChange, sa, Option.getD_some]
        exact_mod_cast Nat.dvd_of_mod_eq_zero ok.2
      · rw [denom]
        simp only [changeGain, openingChange, Denom.face, sa, sb, sc, sd, Option.getD_some, Option.getD_none, Nat.add_zero]
        push_cast
        rfl
  · next f c denom sa sb sc sd =>
      refine ⟨fits fun j strap => ?_, ?_⟩
      · simp only [openingChange, sa, Option.getD_none]
        exact dvd_zero _
      · rw [denom]
        simp only [changeGain, openingChange, Denom.face, sa, sb, sc, sd, Option.getD_some, Option.getD_none, Nat.zero_add]
        push_cast
        rfl
  · cases ok

/-- R60: OPEN_DAY. -/
theorem dayOpened_books (h : Books d s) (date : Date) (slots : ∀ l ∈ lines, l.slot ≤ 7) (ok : ∀ l ∈ lines, stockLineOk s l = true)
    (once : (lines.map StockLine.slot).Nodup) : Books d (dayOpened date lines s) := by
  have moved : Books d (applyMovement (openingMovement lines s) s) := by
    refine (h.applyMovement (openingMovement lines s) (fitsAll_of_distinct ?_ fun c mem => ?_)).debt ?_
    · have same : (lines.map openingChange).map StockChange.slot = lines.map StockLine.slot := by rw [List.map_map]; rfl
      exact same ▸ once
    · obtain ⟨l, line, rfl⟩ := List.mem_map.mp mem
      exact (openingChange_fits (slots l line) (ok l line)).1
    · have gain : (openingMovement lines s).gain s = openingValue lines s := by
        rw [Movement.gain, openingMovement, List.map_map, openingValue]
        exact congrArg List.sum (List.map_congr_left fun l line => (openingChange_fits (slots l line) (ok l line)).2)
      have delta : (openingMovement lines s).delta = openingValue lines s := by simp [openingMovement, Movement.delta]
      rw [gain, delta]
      omega
  unfold dayOpened
  generalize applyMovement (openingMovement lines s) s = u at moved ⊢
  exact moved.same ⟨rfl, rfl, rfl, rfl, rfl, rfl, rfl, rfl, rfl⟩ rfl

theorem closeDay_kept (x : Till) : FloatKept x x.closeDay := by
  intro ready
  rw [Till.closeDay_eq] at ready ⊢
  refine ⟨?_, rfl, rfl, rfl⟩
  by_cases reconciled : x.state = .reconciled
  · simp [reconciled] at ready
  · simpa [reconciled] using ready

/-- R62: CLOSE_DAY. -/
theorem dayClosed_books (h : Books d s) (outs : List SlotLine) : Books d (dayClosedState outs s) := by
  have figures : Books d (dayFigures outs s) := by
    refine h.kept (by simp [SameRecords, dayFigures]) fun n => ?_
    rw [dayFigures_till]
    split
    · exact closeDay_kept _
    · exact fun ready => ⟨ready, rfl, rfl, rfl⟩
  have entry := figures.freeRetired.entries .host [⟨.dayClose, none, none, 0, 0⟩]
  unfold dayClosedState
  exact entry.debt (by simp [entriesOnly, Movement.delta])

/-! ## Denominations and templates -/

/-- R4: an entry's straps are of 10 notes at least. -/
theorem entryDenom_strap {e : DenomEntry} {k : Nat} (strap : (entryDenom e).strap? = some k) : 0 < k := by
  unfold entryDenom at strap
  split at strap
  · obtain rfl := Option.some.inj strap
    simp [clampStrap]
  · cases strap
  · cases strap

/-- R4 check 6: a slot keeps its denomination, or it holds nothing and its straps are of notes. -/
theorem rewritten_denom {entries : List DenomEntry} (free : ∀ e ∈ entries, rewriteOk s e = true) (T : Table Denom)
    (old : ∀ i, Table.get Denom.unused T i = s.denom i ∨
      s.slotHeld i = false ∧ ∀ k, (Table.get Denom.unused T i).strap? = some k → 0 < k) (i : Nat) :
    Table.get Denom.unused (entries.foldl (fun t e => Table.set Denom.unused t e.slot (entryDenom e)) T) i = s.denom i ∨
      s.slotHeld i = false ∧ ∀ k, (Table.get Denom.unused
        (entries.foldl (fun t e => Table.set Denom.unused t e.slot (entryDenom e)) T) i).strap? = some k → 0 < k := by
  induction entries generalizing T with
  | nil => exact old i
  | cons e entries ih =>
    refine ih (fun f mem => free f (by simp [mem])) _ fun j => ?_
    rw [Table.get_set]
    split
    · next same =>
        subst same
        have own := free e (by simp)
        simp only [rewriteOk, Bool.or_eq_true, decide_eq_true_eq, Bool.not_eq_true'] at own
        rcases own with kept | empty
        · exact .inl kept
        · exact .inr ⟨empty, fun k => entryDenom_strap⟩
    · exact old j

/-- R4: a change of the denominations of slots that hold nothing, with no count in hand. -/
theorem denominations_books (h : Books d s) (idle : s.countsPending = false) {T : Table Denom}
    (denoms : ∀ i, Table.get Denom.unused T i = s.denom i ∨
      s.slotHeld i = false ∧ ∀ k, (Table.get Denom.unused T i).strap? = some k → 0 < k) :
    Books d { s with acu.denoms := T } := by
  have denom : ∀ i, ({ s with acu.denoms := T } : State).denom i = Table.get Denom.unused T i := fun i => rfl
  have held : ∀ i, s.slotHeld i = false → s.slotStock i = SlotStock.initial ∧ ∀ n ∈ tillNumbers, (s.till n).state = .floatReady →
      ∀ l ∈ (s.till n).floatLines, l.slot ≠ i := fun i empty => by
    simp only [State.slotHeld, Bool.or_eq_false_iff, decide_eq_false_iff_not, not_not, List.any_eq_false, Bool.and_eq_true,
      decide_eq_true_eq, not_and] at empty
    refine ⟨empty.1, fun n valid ready l line same => empty.2 n valid ready ?_⟩
    exact List.any_eq_true.mpr ⟨l, line, decide_eq_true same⟩
  simp only [State.countsPending, Bool.or_eq_false_iff, List.any_eq_false, Bool.not_eq_false'] at idle
  obtain ⟨⟨-, queue⟩, bags⟩ := idle
  have unconfirmed : ∀ r b, s.bag r = some b → b.state ≠ .confirmed := fun r b own confirmed => by
    have listed := (Table.mem_iff none s.bgr.bags h.table r (some b)).mpr ⟨own, nofun⟩
    have quiet := bags _ listed
    simp [confirmed] at quiet
  have engine : s.rcu.engine = none := by
    cases engine : s.rcu.engine with
    | none => rfl
    | some v =>
      obtain ⟨e, rest, queued, -⟩ := (engineRule_iff s).mp h.lanes.engine v engine
      rw [queued] at queue
      cases queue
  refine ⟨h.table, ?_, h.retired, fun i slot => ?_, h.templates, h.tills,
    ⟨h.lanes.once, h.lanes.batch, h.lanes.queue, h.lanes.queued, ?_⟩, h.unsent, fun r b own => ?_, fun r free => ?_⟩
  · have value : ({ s with acu.denoms := T } : State).stockValue = s.stockValue := by
      refine congrArg List.sum (List.map_congr_left fun i _ => ?_)
      rw [denom]
      rcases denoms i with same | ⟨empty, -⟩
      · rw [same]
        rfl
      · have stock : ({ s with acu.denoms := T } : State).slotStock i = SlotStock.initial := (held i empty).1
        rw [stock, (held i empty).1]
        cases Table.get Denom.unused T i <;> cases s.denom i <;> simp [slotValue, SlotStock.initial]
    rw [value]
    exact h.balance
  · intro k strap
    rw [denom] at strap
    rcases denoms i with same | ⟨empty, straps⟩
    · rw [same] at strap
      exact h.straps i slot k strap
    · refine ⟨straps k strap, ?_⟩
      have stock : ({ s with acu.denoms := T } : State).slotStock i = SlotStock.initial := (held i empty).1
      rw [stock]
      exact Nat.zero_mod k
  · unfold engineRule
    dsimp only
    rw [engine]
  · have o := h.owed r b own
    refine ⟨o.retired, o.counting, o.unsent, fun n floats => ?_, fun confirmed => absurd confirmed (unconfirmed r b own), o.undeclared⟩
    obtain ⟨intact, purpose, source, book⟩ := o.float n floats
    refine ⟨intact, purpose, source, book.trans ?_⟩
    refine congrArg List.sum (List.map_congr_left fun l line => ?_)
    have valid := (h.tills n floats.1).1
    rw [denom]
    rcases denoms l.slot with same | ⟨empty, -⟩
    · rw [same]
    · exact absurd rfl ((held l.slot empty).2 n valid floats.1 l line)
  · have o := h.free r free
    exact ⟨o.retired, o.counting, o.unsent, o.float⟩

/-- R80: SET_TEMPLATE. -/
theorem template_books (h : Books d s) {n : Nat} {lines : List SlotLine} (sound : LinesSound lines) :
    Books d { s with tau.templates := Table.set [] s.tau.templates n lines } := by
  refine ⟨h.table, h.balance, h.retired, h.straps, fun m => ?_, h.tills, h.lanes.congr rfl rfl rfl, h.unsent, fun r b own => ?_,
    fun r free => ?_⟩
  · rw [State.template, Table.get_set]
    split
    · exact sound
    · exact h.templates m
  · have o := h.owed r b own
    exact ⟨o.retired, o.counting, o.unsent, o.float, o.valued, o.undeclared⟩
  · have o := h.free r free
    exact ⟨o.retired, o.counting, o.unsent, o.float⟩

end Days

/-! ## Moves of a bag -/

section Moves

variable {d : Int} {s : State} {r n : Nat} {b : Bag}

/-- R32: a bag is moved. -/
theorem custody_books (h : Books d s) (held : s.bag r = some b) (p : Place) : Books d (putBag r { b with custody := p } s) := by
  have o := h.owed r b held
  exact h.rewrite held ⟨o.retired, o.counting, o.unsent, o.float, o.valued, o.undeclared⟩ rfl rfl

theorem benchBag_books (h : Books d s) (r : Nat) : Books d (benchBag s r) := by
  unfold benchBag
  split
  · exact h
  · next b held => exact custody_books h held .bench

/-- R171: CLEAR_DROP_SAFE. -/
theorem safeCleared_books (h : Books d s) (n : Nat) : Books d (safeCleared n s) := by
  have benched : Books d ((s.refsWhere (fun b => b.state.live && decide (b.custody = .drop n))).foldl benchBag s) :=
    foldl_mem_rule (Books d) benchBag _ s h fun u r _ hu => benchBag_books hu r
  unfold safeCleared
  dsimp only
  generalize (s.refsWhere _).foldl benchBag s = u at benched ⊢
  exact benched.same (by simp [SameRecords]) (by simp)

end Moves

end Sys2Proof.Machine
end

section
/-!
R46: what the manifests and the hatch keep of the books (R182 to R192).
-/

namespace Sys2Proof.Machine

open Sys2Proof

set_option Elab.async false

/-! ## The bags still to be sent -/

/-- R182: the bags that an entry of the manifest table has still to send. -/
def manifestRefs (x : Option Manifest) : List Nat :=
  ((x.filter Manifest.isOpen).map (fun m => (m.outbound.filter (fun o => !o.scanned)).map OutItem.ref)).getD []

section Unsent

variable {d : Int} {s t : State} {n r : Nat} {m x : Manifest}

theorem unsentBags_eq (s : State) : s.unsentBags = manifestNumbers.flatMap (fun n => manifestRefs (s.manifest n)) := by
  unfold State.unsentBags State.manifestsWhere
  generalize manifestNumbers = l
  induction l with
  | nil => rfl
  | cons n l ih =>
    rw [List.filterMap_cons, List.flatMap_cons, ← ih]
    cases open' : (s.manifest n).filter Manifest.isOpen <;> simp [manifestRefs, open']

theorem manifestRefs_open (isOpen : m.isOpen = true) :
    manifestRefs (some m) = (m.outbound.filter (fun o => !o.scanned)).map OutItem.ref := by
  simp [manifestRefs, Option.filter, isOpen]

theorem manifestRefs_closed (closed : m.isOpen = false) : manifestRefs (some m) = [] := by
  simp [manifestRefs, Option.filter, closed]

theorem flatMap_sublist {f g : Nat → List Nat} (l : List Nat) (less : ∀ k, List.Sublist (g k) (f k)) :
    List.Sublist (l.flatMap g) (l.flatMap f) := by
  induction l with
  | nil => exact .slnil
  | cons k l ih =>
    rw [List.flatMap_cons, List.flatMap_cons]
    exact (less k).append ih

/-- An entry of the manifest table that has no other bags to send than it had. -/
theorem unsentBags_fewer (less : ∀ k, List.Sublist (manifestRefs (t.manifest k)) (manifestRefs (s.manifest k))) :
    List.Sublist t.unsentBags s.unsentBags := by
  rw [unsentBags_eq, unsentBags_eq]
  exact flatMap_sublist _ less

/-- R46: a change of the manifests that names no bag but those already to be sent and such as are INTACT deposits. -/
theorem Books.listed (h : Books d s) {hoc : Hoc} (once : ({ s with hoc := hoc } : State).unsentBags.Nodup)
    (refs : ∀ r ∈ ({ s with hoc := hoc } : State).unsentBags,
      r ∈ s.unsentBags ∨ ∃ b, s.bag r = some b ∧ b.purpose = .deposit ∧ b.state = .intact) : Books d { s with hoc := hoc } := by
  refine ⟨h.table, h.balance, h.retired, h.straps, h.templates, h.tills, h.lanes.congr rfl rfl rfl, once, fun r b held => ?_,
    fun r free => ?_⟩
  · have o := h.owed r b held
    refine ⟨o.retired, o.counting, fun mem => ?_, o.float, o.valued, o.undeclared⟩
    rcases refs r mem with old | ⟨c, held', deposit⟩
    · exact o.unsent old
    · obtain rfl := Option.some.inj (held.symm.trans held')
      exact deposit
  · have o := h.free r free
    refine ⟨o.retired, o.counting, fun mem => ?_, o.float⟩
    rcases refs r mem with old | ⟨c, held', -⟩
    · exact o.unsent old
    · rw [show s.bag r = none from free] at held'
      cases held'

theorem Books.fewer (h : Books d s) {hoc : Hoc}
    (less : ∀ k, List.Sublist (manifestRefs (({ s with hoc := hoc } : State).manifest k)) (manifestRefs (s.manifest k))) :
    Books d { s with hoc := hoc } := by
  have sub := unsentBags_fewer (s := s) (t := { s with hoc := hoc }) less
  exact h.listed (h.unsent.sublist sub) fun r mem => .inl (sub.subset mem)

/-- R182: an entry of the manifest table is written with no other bags to send. -/
theorem putManifest_books (h : Books d s) (less : List.Sublist (manifestRefs (some m)) (manifestRefs (s.manifest n))) :
    Books d (putManifest n m s) := by
  refine h.fewer (hoc := (putManifest n m s).hoc) fun k => ?_
  have reads : ({ s with hoc := (putManifest n m s).hoc } : State).manifest k = if k = n then some m else s.manifest k :=
    putManifest_manifest ..
  rw [reads]
  split
  · next same => exact same ▸ less
  · exact .refl _

theorem closeRecord_books (h : Books d s) {st : ManifestState} {c : CloseCause} (closed : (m.close st c).isOpen = false) :
    Books d (closeRecord n m st c s) := by
  have written : Books d (putManifest n (m.close st c) s) := putManifest_books h (by rw [manifestRefs_closed closed]; exact List.nil_sublist _)
  unfold closeRecord
  exact written.same ⟨rfl, rfl, rfl, rfl, rfl, rfl, rfl, rfl, rfl⟩ rfl

theorem closeManifest_books (h : Books d s) {st : ManifestState} {c : CloseCause} (closed : (m.close st c).isOpen = false) :
    Books d (closeManifest n m st c s) := by
  unfold closeManifest
  exact (closeRecord_books h closed).notify _ _

theorem mem_manifestsWhere {p : Manifest → Bool} (mem : (n, m) ∈ s.manifestsWhere p) :
    n ∈ manifestNumbers ∧ s.manifest n = some m ∧ p m = true := by
  simp only [State.manifestsWhere, List.mem_filterMap, Option.map_eq_some_iff, Option.filter_eq_some_iff] at mem
  obtain ⟨k, entry, x, ⟨held, holds⟩, same⟩ := mem
  obtain ⟨rfl, rfl⟩ := Prod.mk.inj same
  exact ⟨entry, held, holds⟩

theorem of_inHandover (now : s.inHandover = some (n, m)) : n ∈ manifestNumbers ∧ s.manifest n = some m ∧ m.state = .handover := by
  obtain ⟨entry, held, state⟩ := mem_manifestsWhere (List.mem_of_head? now)
  exact ⟨entry, held, of_decide_eq_true state⟩

end Unsent

/-! ## Manifests -/

section Manifests

variable {d : Int} {s t w : State} {n r g : Nat} {m x : Manifest} {b : Bag} {o : OutItem} {i : InItem}

theorem abortHandover_books (h : Books d s) : Books d (abortHandover s) := by
  unfold abortHandover
  split
  · exact h
  · exact closeManifest_books h rfl

theorem acceptHandover_books (h : Books d s) (n : Nat) (m : Manifest) : Books d (acceptHandover n m s) := by
  unfold acceptHandover
  dsimp only
  split
  · exact closeManifest_books h rfl
  · exact closeManifest_books h rfl

theorem expireHandover_books (h : Books d s) : Books d (expireHandover s) := by
  unfold expireHandover
  split
  · exact h
  · exact .ite (closeManifest_books h rfl) h

theorem startTest_books (h : Books d s) (k : Nat) (cls : CredClass) : Books d (startTest k cls s) := by
  have told : ∀ c q v, Books d (notifyUnexpected c q v s) := fun c q v => h.notify _ _
  unfold startTest
  split
  · exact h
  · dsimp only
    split
    · exact .ite (told _ _ _) h
    · split
      · exact h
      · split
        · exact told _ _ _
        · next n m earliest =>
            obtain ⟨-, held, planned⟩ := mem_manifestsWhere (List.mem_of_mem_filter (earliestManifest_mem _ _ earliest))
            simp only [Bool.and_eq_true, decide_eq_true_eq] at planned
            split
            · exact told _ _ _
            · split
              · refine putManifest_books h ?_
                rw [held, manifestRefs_open (by rfl), manifestRefs_open (by rw [Manifest.isOpen, planned.1]; rfl)]
              · exact h.notify _ _

theorem presentedAtHatch_books (h : Books d s) (k : Nat) (cls : CredClass) : Books d (presentedAtHatch k cls s) := by
  unfold presentedAtHatch
  split
  · exact .ite (acceptHandover_books h _ _) h
  · exact startTest_books h k cls

/-- R70 to R73: BADGE. -/
theorem takeBadge_books (h : Books d s) (reader : Reader) (n : Nat) (p : PinResult) : Books d (takeBadge reader n p s) := by
  have told : ∀ {v}, Books d v → ∀ c, Books d (tellOwner reader n c v) := fun hv c => by
    unfold tellOwner
    cases reader with
    | office => exact hv
    | strongroom => exact hv.same (by simp [SameRecords]) (by simp)
    | hatch => exact presentedAtHatch_books hv n c
  have presented : ∀ c duress, Books d (present reader n c duress s) := fun c duress => by
    have listed : Books d (putPresence reader (enterPresence ⟨n, c.cls, (putCredential n (some { c with fails := 0 }) s).cru.lifetime⟩
        ((putCredential n (some { c with fails := 0 }) s).presence reader)) (putCredential n (some { c with fails := 0 }) s)) :=
      h.same (by simp [SameRecords]) (by simp)
    unfold present
    dsimp only
    split
    · exact told (listed.same (by simp [SameRecords]) (by simp)) _
    · exact told listed _
  unfold takeBadge
  split
  · exact h.notify _ _
  · split
    · exact h.same (by simp [SameRecords]) (by simp)
    · split
      · exact h.same (by simp [SameRecords]) (by simp)
      · exact presented _ _
      · exact presented _ _

/-- R183: the bags that a new manifest has to send are those of its list. -/
theorem manifestRefs_new {outbound : List Nat} (out : m.outbound = outItems outbound s) :
    List.Sublist (manifestRefs (some m)) outbound := by
  cases isOpen : m.isOpen with
  | false =>
    rw [manifestRefs_closed isOpen]
    exact List.nil_sublist _
  | true =>
    have all : ∀ o ∈ outItems outbound s, (!o.scanned) = true := fun o mem => by
      obtain ⟨r, -, rfl⟩ := List.mem_map.mp mem
      rfl
    have same : (outItems outbound s).map OutItem.ref = outbound := by
      rw [outItems, List.map_map]
      exact List.map_id'' (fun r => rfl) outbound
    rw [manifestRefs_open isOpen, out, List.filter_eq_self.mpr all, same]

/-- R183: a bag that a new manifest may name is an INTACT deposit that no open manifest has still to send. -/
theorem fresh_of_depositReady (ready : depositReady s r = true) :
    r ∉ s.unsentBags ∧ ∃ b, s.bag r = some b ∧ b.purpose = .deposit ∧ b.state = .intact := by
  unfold depositReady at ready
  cases held : s.bag r with
  | none =>
    rw [held] at ready
    cases ready
  | some b =>
    rw [held] at ready
    simp only [Bool.and_eq_true, decide_eq_true_eq, Bool.not_eq_true'] at ready
    obtain ⟨⟨deposit, intact⟩, unlisted⟩ := ready
    refine ⟨fun sent => ?_, b, rfl, deposit, intact⟩
    obtain ⟨⟨k, x⟩, listed, item⟩ := List.mem_flatMap.mp sent
    obtain ⟨o, waits, rfl⟩ := List.mem_map.mp item
    obtain ⟨entry, manifest, isOpen⟩ := mem_manifestsWhere listed
    have found : (k, x) ∈ s.manifestsWhere (fun m => m.isOpen && m.outbound.any (fun p => decide (p.ref = o.ref))) := by
      simp only [State.manifestsWhere, List.mem_filterMap, Option.map_eq_some_iff, Option.filter_eq_some_iff]
      refine ⟨k, entry, x, ⟨manifest, ?_⟩, rfl⟩
      rw [isOpen, Bool.true_and, List.any_eq_true]
      exact ⟨o, List.mem_of_mem_filter waits, decide_eq_true rfl⟩
    unfold State.onOpenManifest at unlisted
    rw [Bool.not_eq_false', List.isEmpty_iff] at unlisted
    rw [unlisted] at found
    cases found

/-- R183: CREATE_MANIFEST. -/
theorem manifestCreated_books (h : Books d s) {outbound : List Nat} (out : m.outbound = outItems outbound s) (once : outbound.Nodup)
    (ready : ∀ r ∈ outbound, depositReady s r = true) : Books d (manifestCreated n m s) := by
  have refs := manifestRefs_new out
  have fresh := fun r mem => fresh_of_depositReady (ready r mem)
  have manifest : ∀ k, (manifestCreated n m s).manifest k = if k = n then some m else s.manifest k := fun k => putManifest_manifest ..
  refine h.listed (hoc := (manifestCreated n m s).hoc) ?_ ?_ <;>
    rw [show ({ s with hoc := (manifestCreated n m s).hoc } : State) = manifestCreated n m s from rfl]
  · by_cases entry : n ∈ manifestNumbers
    · obtain ⟨a, b, before, after⟩ := flatMap_split (f := fun n => manifestRefs (s.manifest n))
        (g := fun k => manifestRefs ((manifestCreated n m s).manifest k)) (by decide : manifestNumbers.Nodup) entry
        fun k other => by rw [manifest, if_neg other]
      rw [manifest, if_pos rfl] at after
      rw [unsentBags_eq, after]
      have sub : List.Sublist (a ++ b) s.unsentBags := by
        rw [unsentBags_eq, before]
        exact (List.Sublist.refl a).append (List.sublist_append_right ..)
      have moved : List.Perm (a ++ (manifestRefs (some m) ++ b)) (manifestRefs (some m) ++ (a ++ b)) := by
        rw [← List.append_assoc, ← List.append_assoc]
        exact List.perm_append_comm.append_right b
      rw [moved.nodup_iff, List.nodup_append]
      exact ⟨once.sublist refs, h.unsent.sublist sub, fun r mem q other same =>
        (fresh r (refs.subset mem)).1 (same ▸ sub.subset other)⟩
    · have same : (manifestCreated n m s).unsentBags = s.unsentBags := by
        rw [unsentBags_eq, unsentBags_eq]
        refine List.flatMap_congr fun k mem => ?_
        rw [manifest, if_neg fun e : k = n => entry (e ▸ mem)]
      rw [same]
      exact h.unsent
  · intro r mem
    rw [unsentBags_eq] at mem
    obtain ⟨k, entry, item⟩ := List.mem_flatMap.mp mem
    rw [manifest] at item
    split at item
    · exact .inr (fresh r (refs.subset item)).2
    · refine .inl ?_
      rw [unsentBags_eq]
      exact List.mem_flatMap.mpr ⟨k, entry, item⟩

/-! ## Scans -/

theorem refuseScan_books (h : Books d s) (g r : Option Nat) (x : ScanReason) : Books d (refuseScan g r x s) :=
  h.same (by simp [SameRecords]) (by simp)

theorem markScanned_refs (r : Nat) (m : Manifest) :
    List.Sublist (manifestRefs (some (markScanned r m))) (manifestRefs (some m)) ∧ r ∉ manifestRefs (some (markScanned r m)) := by
  have same : (markScanned r m).isOpen = m.isOpen := rfl
  cases isOpen : m.isOpen with
  | false =>
    rw [manifestRefs_closed (same.trans isOpen)]
    exact ⟨List.nil_sublist _, nofun⟩
  | true =>
    rw [manifestRefs_open (same.trans isOpen), manifestRefs_open isOpen, markScanned]
    dsimp only
    generalize m.outbound = l
    induction l with
    | nil => exact ⟨.slnil, nofun⟩
    | cons o l ih =>
      obtain ⟨less, gone⟩ := ih
      by_cases own : o.ref = r
      · rw [List.map_cons, if_pos own, List.filter_cons_of_neg (by simp)]
        refine ⟨?_, gone⟩
        rw [List.filter_cons]
        split
        · exact less.cons _
        · exact less
      · rw [List.map_cons, if_neg own, List.filter_cons, List.filter_cons]
        split
        · rw [List.map_cons, List.map_cons]
          exact ⟨less.cons_cons _, fun mem => (List.mem_cons.mp mem).elim (fun e => own e.symm) gone⟩
        · exact ⟨less, gone⟩

/-- R187: a bag that is sent leaves the manifest's bags. -/
theorem unsentBags_marked (h : Books d s) (entry : n ∈ manifestNumbers) (held : s.manifest n = some m) (isOpen : m.isOpen = true)
    (listed : o ∈ m.outbound) (fresh : o.scanned = false) :
    o.ref ∈ s.unsentBags ∧ o.ref ∉ (putManifest n (markScanned o.ref m) s).unsentBags := by
  have own : o.ref ∈ manifestRefs (s.manifest n) := by
    rw [held, manifestRefs_open isOpen]
    exact List.mem_map.mpr ⟨o, List.mem_filter.mpr ⟨listed, by simp [fresh]⟩, rfl⟩
  have manifest : ∀ k, (putManifest n (markScanned o.ref m) s).manifest k = if k = n then some (markScanned o.ref m) else s.manifest k :=
    fun k => putManifest_manifest ..
  obtain ⟨a, b, before, after⟩ := flatMap_split (f := fun n => manifestRefs (s.manifest n))
    (g := fun k => manifestRefs ((putManifest n (markScanned o.ref m) s).manifest k)) (by decide : manifestNumbers.Nodup) entry
    fun k other => by rw [manifest, if_neg other]
  rw [manifest, if_pos rfl] at after
  have once := h.unsent
  rw [unsentBags_eq, before] at once
  obtain ⟨-, rest, left⟩ := List.nodup_append.mp once
  obtain ⟨-, -, right⟩ := List.nodup_append.mp rest
  refine ⟨?_, fun mem => ?_⟩
  · rw [unsentBags_eq, before]
    exact List.mem_append_right _ (List.mem_append_left _ own)
  · rw [unsentBags_eq, after] at mem
    rcases List.mem_append.mp mem with first | later
    · exact left o.ref first o.ref (List.mem_append_left _ own) rfl
    · rcases List.mem_append.mp later with here | last
      · exact (markScanned_refs o.ref m).2 here
      · exact right o.ref own o.ref last rfl

/-- R187: a manifest's record and the retirement of a bag do not meet. -/
theorem despatched_sameRecords (n r : Nat) (x : Manifest) (b : Bag) (s : State) :
    SameRecords (despatched r b (putManifest n x s)) (putManifest n x (despatched r b s)) ∧
    (putManifest n x (despatched r b s)).tau.tills = (despatched r b (putManifest n x s)).tau.tills := by
  have kept : ∀ v, (putManifest n x v).acu = v.acu ∧ (putManifest n x v).bgr = v.bgr ∧ (putManifest n x v).tau = v.tau ∧
      (putManifest n x v).clc = v.clc ∧ (putManifest n x v).rcu = v.rcu := fun v => ⟨rfl, rfl, rfl, rfl, rfl⟩
  have listed : ∀ v, v.hoc = s.hoc → (putManifest n x v).hoc = (putManifest n x s).hoc := fun v same => by
    rw [putManifest, same, putManifest]
  unfold despatched
  generalize ({ b with state := .despatched, custody := .inTransit } : Bag) = c
  have charge : (fieldEntry (outboundEntry r b)).charge = none := rfl
  generalize fieldEntry (outboundEntry r b) = mv at charge ⊢
  have tau := retired_tau (r := r) (m := mv) c s charge
  obtain ⟨-, -, -, clc, rcu, -, hoc⟩ := retired_frame (r := r) mv c s
  obtain ⟨acuS, bgrS, tauS, clcS, rcuS⟩ := kept s
  obtain ⟨acuT, bgrT, tauT, clcT, rcuT⟩ := kept (retireBag r c (applyMovement mv s))
  exact retired_sameRecords charge acuS bgrS acuT bgrT ((tauT.trans tau).trans tauS.symm) ((clcT.trans clc).trans clcS.symm)
    ((rcuT.trans rcu).trans rcuS.symm) (listed _ hoc)

theorem scanOutbound_books (h : Books 0 s) (now : s.inHandover = some (n, m)) (listed : o ∈ m.outbound) (g : Nat) :
    Books 0 (scanOutbound n m o g s) := by
  cases fresh : o.scanned with
  | true =>
    rw [scanOutbound_again fresh]
    exact h.notify _ _
  | false =>
    by_cases staged : ∃ b, s.bag o.ref = some b ∧ b.custody = .bench
    case neg =>
      rw [scanOutbound_unstaged fresh fun b held bench => staged ⟨b, held, bench⟩]
      exact refuseScan_books h _ _ _
    case pos =>
      obtain ⟨b, held, bench⟩ := staged
      obtain ⟨fails, fits⟩ := scanOutbound_staged (n := n) (m := m) (g := g) fresh held bench
      cases check : checkMovement (fieldEntry (outboundEntry o.ref b)) s with
      | some f =>
        rw [fails f check]
        exact refuseScan_books h _ _ _
      | none =>
        rw [fits check]
        obtain ⟨entry, manifest, state⟩ := of_inHandover now
        obtain ⟨waits, sent⟩ := unsentBags_marked h entry manifest (by rw [Manifest.isOpen, state]; rfl) listed fresh
        obtain ⟨deposit, intact⟩ := (h.owed _ b held).unsent waits
        have marked : Books 0 (putManifest n (markScanned o.ref m) s) :=
          putManifest_books h (by rw [manifest]; exact (markScanned_refs o.ref m).1)
        have own := marked.owed o.ref b held
        have unnamed : Unnamed (putManifest n (markScanned o.ref m) s) o.ref := by
          refine ⟨fun mem => ?_, fun mem => ?_, sent, fun k floats => ?_⟩
          · have dead := own.retired mem
            rw [intact] at dead
            cases dead
          · have counting := own.counting mem
            rw [intact] at counting
            cases counting
          · have purpose := (own.float k floats).2.1
            rw [deposit] at purpose
            cases purpose
        have delta : (fieldEntry (outboundEntry o.ref b)).delta = -b.book := by simp [fieldEntry, entriesOnly, Movement.delta, outboundEntry]
        have entered : Books (0 + b.book) (applyMovement (fieldEntry (outboundEntry o.ref b)) (putManifest n (markScanned o.ref m) s)) :=
          Books.debt (marked.entries .field [outboundEntry o.ref b])
            (by rw [show (entriesOnly .field [outboundEntry o.ref b]).delta = -b.book from delta]; omega)
        have bag : (applyMovement (fieldEntry (outboundEntry o.ref b)) (putManifest n (markScanned o.ref m) s)).bag o.ref = some b := by
          have bgr : (applyMovement (fieldEntry (outboundEntry o.ref b)) (putManifest n (markScanned o.ref m) s)).bgr = s.bgr := by simp
          rw [State.bag, bgr]
          exact held
        have part : bookPart ((applyMovement (fieldEntry (outboundEntry o.ref b)) (putManifest n (markScanned o.ref m) s)).bag o.ref) =
            b.book := by
          rw [bag, bookPart, intact]
          rfl
        obtain ⟨records, tills⟩ := despatched_sameRecords n o.ref (markScanned o.ref m) b s
        have unnamed' := unnamed.moved (fieldEntry (outboundEntry o.ref b))
        unfold despatched at records tills ⊢
        generalize applyMovement (fieldEntry (outboundEntry o.ref b)) (putManifest n (markScanned o.ref m) s) = u at *
        have retired : Books (0 + b.book - bookPart (u.bag o.ref)) (retireBag o.ref { b with state := .despatched, custody := .inTransit } u) :=
          entered.retireBag unnamed' rfl
        exact (retired.same records tills).debt (by rw [part]; omega)

theorem scanInbound_books (h : Books 0 s) (now : s.inHandover = some (n, m)) (i : InItem) : Books 0 (scanInbound n m i s) := by
  obtain ⟨-, manifest, -⟩ := of_inHandover now
  cases fresh : i.received with
  | some r =>
    rw [scanInbound_again fresh]
    exact h.notify _ _
  | none =>
    by_cases room : 8 < s.available
    case neg =>
      rw [scanInbound_full fresh (by omega)]
      exact refuseScan_books h _ _ _
    case pos =>
      cases slot : allocate s with
      | none =>
        unfold scanInbound
        rw [fresh, if_pos (by simp [State.canAllocate, room]), slot]
        exact refuseScan_books h _ _ _
      | some x =>
        obtain ⟨r, u⟩ := x
        obtain ⟨fails, fits⟩ := scanInbound_room (n := n) (m := m) fresh room slot
        cases check : checkMovement (fieldEntry (inboundEntry r i)) s with
        | some f =>
          rw [fails f check]
          exact refuseScan_books h _ _ _
        | none =>
          rw [fits check]
          obtain ⟨allocated, free⟩ := h.allocate slot
          have recorded := allocated.recordBag (b := inboundBag i m.visit u) free (fun state => by cases state) fun flag => by cases flag
          have entered := recorded.entries .field [inboundEntry r i]
          have part : bookPart (some (inboundBag i m.visit u)) = i.declared := rfl
          have delta : (entriesOnly .field [inboundEntry r i]).delta = i.declared := by
            simp [entriesOnly, Movement.delta, inboundEntry]
          have settled := entered.debt (e := 0) (by rw [part, delta]; omega)
          have hoc : (bagEntered (inboundEntry r i) r (inboundBag i m.visit u) u).hoc = s.hoc := by
            rw [bagEntered_frame.2.2.2.2.2.2, allocate_eq slot]
          have same : (bagEntered (inboundEntry r i) r (inboundBag i m.visit u) u).manifest n = some m := by
            rw [State.manifest, hoc]
            exact manifest
          have settled' : Books 0 (bagEntered (inboundEntry r i) r (inboundBag i m.visit u) u) := settled
          have refs : manifestRefs (some (markReceived i.tagNo r m)) = manifestRefs (some m) := by
            cases isOpen : m.isOpen with
            | false => rw [manifestRefs_closed isOpen, manifestRefs_closed (m := markReceived i.tagNo r m) isOpen]
            | true => rw [manifestRefs_open isOpen, manifestRefs_open (m := markReceived i.tagNo r m) isOpen, markReceived]
          refine putManifest_books settled' ?_
          rw [same, refs]

/-- R187 to R189: HATCH_SCAN. -/
theorem takeScan_books (h : Books 0 s) (g : Option Nat) : Books 0 (takeScan g s) := by
  cases now : s.inHandover with
  | none =>
    rw [takeScan_late now]
    exact (h.command _ _).notify _ _
  | some x =>
    obtain ⟨n, m⟩ := x
    cases g with
    | none =>
      rw [takeScan_untagged now]
      exact refuseScan_books h _ _ _
    | some g =>
      unfold takeScan
      rw [now]
      dsimp only
      split
      · next o found => exact scanOutbound_books h now (List.mem_of_find?_eq_some found) g
      · split
        · exact scanInbound_books h now _
        · exact refuseScan_books h _ _ _

end Manifests

end Sys2Proof.Machine
end

section
/-!
R46: what the drops, the starts, the lockdown and the ticks keep of the books (R94, R128, R145, R170, R175, R203).
-/

namespace Sys2Proof.Machine

open Sys2Proof

set_option Elab.async false

/-! ## Drops -/

section Drops

variable {d : Int} {s t u v : State} {n r g : Nat} {tag ref : Option Nat} {flags : AnomalyFlags} {noRoom : Bool} {x : TakenSkim}

theorem recordUndeclared_books (h : Books d v) (free : v.bag r = none) : Books d (recordUndeclared n r tag flags noRoom v) := by
  have recorded := h.recordBag (b := undeclaredBag n tag flags) free (fun state => by cases state) fun _ _ _ => rfl
  have part : bookPart (some (undeclaredBag n tag flags)) = 0 := rfl
  unfold recordUndeclared
  exact (recorded.debt (by rw [part, add_zero])).notify _ _

theorem pendingTaken_books (h : Books d v) (x : TakenSkim) : Books d (removePending x v) := by
  unfold removePending
  exact h.putTill ⟨rfl, rfl, rfl, .inl rfl⟩

theorem recordDeclared_books (h : Books d v) (free : v.bag r = none) : Books d (recordDeclared n r tag flags x v) := by
  have taken := pendingTaken_books h x
  have free' : (removePending x v).bag r = none := free
  by_cases fits : 1 ≤ v.journalFree ∧ amountInRange (v.acu.accountability + x.entry.amount) = true
  · rw [recordDeclared_of_room fits.1 fits.2]
    have recorded := taken.recordBag (b := declaredBag n tag flags x) free' (fun state => by cases state) fun flag => by cases flag
    have entered := recorded.entries .field [declaredEntry r x]
    have part : bookPart (some (declaredBag n tag flags x)) = x.entry.amount := rfl
    have delta : (entriesOnly .field [declaredEntry r x]).delta = x.entry.amount := by
      simp [entriesOnly, Movement.delta, declaredEntry]
    exact (entered.debt (by rw [part, delta]; omega)).countDrop x
  · have fails : v.journalFree = 0 ∨ amountInRange (v.acu.accountability + x.entry.amount) = false := by
      by_cases full : v.journalFree = 0
      · exact .inl full
      · exact .inr (by simpa using fun range => fits ⟨Nat.one_le_iff_ne_zero.mpr full, range⟩)
    rw [recordDeclared_of_fail fails]
    exact recordUndeclared_books taken free'

/-- R94: a drop's skim search leaves its slot free. -/
theorem skimSearch_free (free : v.bag r = none) (g : Nat) : (skimSearch g v).bag r = none := by
  unfold skimSearch
  split
  · exact free
  · next p _ =>
      refine (applyPosting_apart (s := { v with tau.postings := v.tau.postings.erase p }) (fun b held => ?_) p).trans free
      rw [show ({ v with tau.postings := v.tau.postings.erase p } : State).bag r = none from free] at held
      cases held

theorem recordDrop_books (h : Books d v) (free : v.bag r = none) : Books d (recordDrop n r tag v) := by
  unfold recordDrop
  dsimp only
  split
  · exact recordUndeclared_books h free
  · next g =>
      have searched := h.skimSearch g
      have free' := skimSearch_free free g
      split
      · exact recordUndeclared_books searched free'
      · exact recordDeclared_books searched free'

theorem countInSafe_books (h : Books d v) (n : Nat) (tag ref : Option Nat) : Books d (countInSafe n tag ref v) :=
  h.same (by simp [SameRecords]) (by simp)

/-- R170: DROP. -/
theorem takeDrop_books (h : Books d s) (n : Nat) (tag : Option Nat) : Books d (takeDrop n tag s) := by
  cases slot : allocate s with
  | none =>
    rw [takeDrop_overrun slot]
    exact countInSafe_books h n tag none
  | some y =>
    obtain ⟨r, u⟩ := y
    obtain ⟨allocated, free⟩ := h.allocate slot
    rw [takeDrop_of_slot slot]
    exact countInSafe_books (recordDrop_books allocated free) n tag (some r)

end Drops

/-! ## Lockdown -/

section Lockdown

variable {d : Int} {s : State}

/-- R175: PANIC and LOCKDOWN. -/
theorem lockdown_books (h : Books d s) (c : LockdownCause) : Books d (lockdown c s) := by
  have latched : Books d (startHold (driveAlarm (lockChutes (secureDoors s.movingDoors { s with csc.latch := true })))) :=
    h.same (by simp [SameRecords, startHold, driveAlarm]) (by simp [startHold, driveAlarm])
  have renewed : Books d (driveAlarm (startHold s)) :=
    h.same ⟨rfl, rfl, rfl, rfl, rfl, rfl, rfl, rfl, rfl⟩ rfl
  have renew : Books d (renewLatch c s) := by
    unfold renewLatch notifyLockdown
    exact renewed.notify _ _
  have set : Books d (setLatch c s) := by
    unfold setLatch notifyLockdown
    exact abortHandover_books (latched.notify _ _).lockdownLanes
  unfold lockdown
  split
  · exact renew
  · exact set

end Lockdown

/-! ## Starts -/

section Starts

variable {d : Int} {s t : State} {r : Nat} {l : List Nat}

theorem returnBag_eq (r : Nat) (s : State) : returnBag r s = { s with bgr := (returnBag r s).bgr } := by
  unfold returnBag
  split <;> rfl

theorem returnBag_bgr_congr (r : Nat) (bgr : t.bgr = s.bgr) : (returnBag r t).bgr = (returnBag r s).bgr := by
  have bag : t.bag r = s.bag r := by rw [State.bag, bgr, State.bag]
  unfold returnBag
  rw [bag]
  split
  · exact bgr
  · simp [putBag, bgr]

theorem returnBags_bgr_congr (l : List Nat) (bgr : t.bgr = s.bgr) : (returnBags l t).bgr = (returnBags l s).bgr := by
  unfold returnBags
  induction l generalizing s t with
  | nil => exact bgr
  | cons r l ih => exact ih (returnBag_bgr_congr r bgr)

/-- R27: COUNTING bags that nothing counts any longer return to the BENCH. -/
theorem returnBags_books (h : Books d s) (once : l.Nodup) (counting : ∀ r ∈ l, ∀ b, s.bag r = some b → b.state = .counting)
    (left : ∀ r ∈ l, r ∉ s.countingBags) : Books d (returnBags l s) := by
  unfold returnBags
  induction l generalizing s with
  | nil => exact h
  | cons r l ih =>
    obtain ⟨apart, once'⟩ := List.nodup_cons.mp once
    refine ih (h.returnBag (counting r (by simp)) (left r (by simp))) once' (fun q mem b held => ?_) fun q mem => ?_
    · rw [returnBag_bag, if_neg fun same : q = r => apart (same ▸ mem)] at held
      exact counting q (by simp [mem]) b held
    · dsimp only
      rw [returnBag_eq]
      exact left q (by simp [mem])

/-- R128, R145: every batch and every valuation is abandoned. -/
theorem abandonCounts_books (h : Books d s) : Books d (abandonCounts s) := by
  generalize resolved : ({ Lane.initial with state := if s.acu.mode = .opened then .idle else .off } : Lane) = l
  have empty : l.batch = none ∧ l.stack = [] ∧ laneBatchRule l = true := by
    rw [← resolved]
    refine ⟨rfl, rfl, laneBatchRule_idle ?_⟩
    dsimp only
    split <;> exact ⟨nofun, nofun, nofun, nofun⟩
  obtain ⟨batch, stack, rule⟩ := empty
  have lane : ∀ n ∈ laneNumbers, Table.get Lane.initial (Table.update Lane.initial (fun _ => l) laneNumbers s.clc.lanes) n = l :=
    fun n mem => by rw [Table.get_update _ _ laneNumbers (by decide), if_pos mem]
  have counting : ({ s with clc.lanes := Table.update Lane.initial (fun _ => l) laneNumbers s.clc.lanes, rcu := ⟨[], none⟩ } :
      State).countingBags = [] := by
    rw [countingBags_eq, List.append_eq_nil_iff]
    refine ⟨List.flatMap_eq_nil_iff.mpr fun n mem => ?_, rfl⟩
    rw [State.lane, lane n mem, laneRefs, batch, stack]
    rfl
  have idle : Books d { s with clc.lanes := Table.update Lane.initial (fun _ => l) laneNumbers s.clc.lanes, rcu := ⟨[], none⟩ } := by
    refine h.relane (clc := { s.clc with lanes := Table.update Lane.initial (fun _ => l) laneNumbers s.clc.lanes }) (rcu := ⟨[], none⟩)
      ⟨counting ▸ List.nodup_nil, fun n mem => ?_, List.nodup_nil, nofun, rfl⟩ fun r mem => ?_
    · rw [State.lane, lane n mem]
      exact rule
    · rw [counting] at mem
      cases mem
  have returned := returnBags_books idle h.lanes.once (fun r mem b held => (h.owed r b held).counting mem) fun r _ => by
    rw [counting]
    nofun
  have keeps : ∀ (k : List Nat) (v : State), returnBags k v = { v with bgr := (returnBags k v).bgr } := fun k => by
    unfold returnBags
    induction k with
    | nil => exact fun v => rfl
    | cons r k ih =>
      intro v
      rw [List.foldl_cons, ih, returnBag_eq]
  have bgr := returnBags_bgr_congr (t := s)
    (s := { s with clc.lanes := Table.update Lane.initial (fun _ => l) laneNumbers s.clc.lanes, rcu := ⟨[], none⟩ }) s.countingBags rfl
  unfold abandonCounts
  dsimp only
  rw [resolved]
  rw [keeps] at returned
  rw [keeps]
  rw [bgr]
  exact returned.same ⟨rfl, rfl, rfl, rfl, rfl, rfl, rfl, rfl, rfl⟩ rfl

theorem abortAtStart_books (h : Books d s) : Books d (abortAtStart s) := by
  unfold abortAtStart
  split
  · exact h
  · exact closeRecord_books h rfl

/-- R203: a start that keeps the retained store. -/
theorem warmStart_books (h : Books d s) (c : StartCause) : Books d (warmStart c s) := by
  have resolved : Books d (resolveCustody (decide (c = .power)) (abandonCounts s)) :=
    (abandonCounts_books h).same ⟨rfl, rfl, rfl, rfl, rfl, rfl, rfl, rfl, rfl⟩ rfl
  have aborted := abortAtStart_books resolved
  have prepared : Books d (startPrepared c s) := by
    unfold startPrepared
    generalize abortAtStart (resolveCustody (decide (c = .power)) (abandonCounts s)) = u at aborted ⊢
    exact aborted.same ⟨rfl, rfl, rfl, rfl, rfl, rfl, rfl, rfl, rfl⟩ rfl
  have started : Books d (sendStart c (startPrepared c s)) := by
    generalize startPrepared c s = u at prepared ⊢
    exact prepared.same ⟨rfl, rfl, rfl, rfl, rfl, rfl, rfl, rfl, rfl⟩ rfl
  rw [warmStart_eq]
  unfold sendAborted
  split
  · exact started
  · exact started.same ⟨rfl, rfl, rfl, rfl, rfl, rfl, rfl, rfl, rfl⟩ rfl

theorem reset_books : Books 0 State.reset := (booksRule_iff (by decide)).mp (by decide)

/-- R203: a COLD start. -/
theorem coldStart_books (s : State) : Books 0 (coldStart s) :=
  reset_books.same ⟨rfl, rfl, rfl, rfl, rfl, rfl, rfl, rfl, rfl⟩ rfl

/-- R57: every timer one tick on. -/
theorem tickTimers_books (h : Books d s) : Books d (tickTimers s) := by
  have same : ∀ x, manifestRefs (tickManifest x) = manifestRefs x := fun x => by
    cases x with
    | none => rfl
    | some m =>
      cases isOpen : m.isOpen with
      | false => rw [manifestRefs_closed isOpen]; exact manifestRefs_closed isOpen
      | true => rw [manifestRefs_open isOpen]; exact manifestRefs_open isOpen
  have listed : Books d { s with hoc.manifests := Table.update none tickManifest manifestNumbers s.hoc.manifests } := by
    refine h.fewer (hoc := { s.hoc with manifests := Table.update none tickManifest manifestNumbers s.hoc.manifests }) fun k => ?_
    rw [State.manifest, Table.get_update _ _ manifestNumbers (by decide)]
    split
    · rw [same]
      exact .refl _
    · exact .refl _
  exact listed.same ⟨rfl, rfl, rfl, rfl, rfl, rfl, rfl, rfl, rfl⟩ rfl

end Starts

end Sys2Proof.Machine
end

section
/-!
R46: every step keeps the rule of the books.
-/

namespace Sys2Proof.Machine

open Sys2Proof

set_option Elab.async false

section Loads

variable {s : State} {n r : Nat} {b : Bag}

/-- R106: the bags of a lane whose batch joins its stack. -/
theorem pushedLane_refs (r : Nat) (s : State) (l : Lane) : laneRefs (pushedLane r s l) = r :: laneRefs l := by
  unfold laneRefs pushedLane newBatch
  cases l.batch <;> simp

theorem lanePushed_books (h : Books 0 s) (valid : n ∈ laneNumbers) (held : s.bag r = some b)
    (state : b.state = .intact ∨ b.state = .quarantined) (purpose : b.purpose = .takings ∨ b.purpose = .skim ∨ b.purpose = .changeIn)
    (works : (s.lane n).state = .ready ∨ (s.lane n).state = .held) :
    Books 0 (putLane n (pushedLane r s (s.lane n)) (bagToLane n r b s)) := by
  have unqueued := h.lanes.unqueued (n := n) (by rcases works with s1 | s1 <;> simp [s1])
  exact h.laneLoaded valid held state purpose unqueued (pushedLane_refs r s _) (List.Sublist.refl _) (laneBatchRule_some rfl)

theorem laneLoaded_books (h : Books 0 s) (valid : n ∈ laneNumbers) (held : s.bag r = some b)
    (state : b.state = .intact ∨ b.state = .quarantined) (purpose : b.purpose = .takings ∨ b.purpose = .skim ∨ b.purpose = .changeIn)
    (idle : (s.lane n).state = .idle) (urgent : Bool) :
    Books 0 (putLane n { s.lane n with state := .ready, batch := some (newBatch r urgent s), holds := HoldSet.empty } (bagToLane n r b s)) := by
  have unqueued := h.lanes.unqueued (n := n) (by simp [idle])
  refine h.laneLoaded valid held state purpose unqueued (k := (s.lane n).stack.map (fun x => x.batch.ref)) rfl ?_ (laneBatchRule_some rfl)
  exact List.sublist_append_right ..

/-- R60: the lines of an opening. -/
theorem openingLines {date : Date} {lines : List StockLine} (ok : openDayFieldsOk date lines s = true) :
    (∀ l ∈ lines, l.slot ≤ 7) ∧ (∀ l ∈ lines, stockLineOk s l = true) ∧ (lines.map StockLine.slot).Nodup := by
  simp only [openDayFieldsOk, Bool.and_eq_true] at ok
  obtain ⟨-, lines'⟩ := ok
  split at lines'
  · simp only [Bool.and_eq_true, List.isEmpty_iff] at lines'
    obtain ⟨-, rfl⟩ := lines'
    exact ⟨nofun, nofun, List.nodup_nil⟩
  · simp only [Bool.and_eq_true, List.all_eq_true, decide_eq_true_eq, distinct_iff] at lines'
    obtain ⟨each, once⟩ := lines'
    exact ⟨fun l mem => (each l mem).1, fun l mem => (each l mem).2, once⟩

end Loads

/-! ## Every change -/

section Changes

variable {s t : State}

theorem Accepted.books (a : Accepted s t) (h : Books 0 s) : Books 0 t := by
  cases a
  case denominations entries idle ok once free =>
    exact denominations_books h idle (rewritten_denom (all_of_firstFailing free) s.acu.denoms fun i => .inl rfl)
  case dayOpened date lines day ok opening =>
    obtain ⟨slots, each, once⟩ := openingLines ok
    exact dayOpened_books h date slots each once
  case dayClosed outs room ok => exact dayClosed_books h outs
  case officeOpened latch =>
    have opened : Books 0 { s with acu.mode := .opened } := h.same ⟨rfl, rfl, rfl, rfl, rfl, rfl, rfl, rfl, rfl⟩ rfl
    exact opened.lanesOn
  case officeClosed =>
    have closed : Books 0 { s with acu.mode := .afterHours } := h.same ⟨rfl, rfl, rfl, rfl, rfl, rfl, rfl, rfl, rfl⟩ rfl
    exact closed.lanesOff
  case bagMoved r b d found still => exact custody_books h found _
  case limit n v =>
    have limited : Books 0 (putTill n { s.till n with limit := v } s) := h.putTill ⟨rfl, rfl, rfl, .inl rfl⟩
    exact limited.overLimitTest n
  case template n lines slots once => exact template_books h ⟨slots, (distinct_iff _).mp once⟩
  case floatMade n m r g taken w till state room lines slot space => exact floatMade_books h till state lines slot
  case floatUnmade n r b till state bag room fits => exact floatUnmade_books h state bag
  case floatIssued n r cashier b till state bag room => exact floatIssued_books h state bag
  case takings n r g cashier v w till state room slot space => exact takingsReceived_books h slot
  case tillReleased n => exact h.putTill ⟨rfl, rfl, rfl, .inl rfl⟩
  case snooped n => exact h.snoopTill n
  case laneLoaded n r urgent b lane found state custody purpose idle =>
    exact laneLoaded_books h (laneNumbers_of_le lane) found state purpose idle urgent
  case lanePushed n r b lane found state custody purpose works =>
    exact lanePushed_books h (laneNumbers_of_le lane) found state purpose works
  case laneStarted n lane ready latch =>
    have started : Books 0 (putLane n { s.lane n with state := .running } s) := h.workLane (laneNumbers_of_le lane) (.inl ready) rfl rfl
    exact started.command _ _
  case laneStopped n lane works => exact h.addHold (laneNumbers_of_le lane) .operator
  case laneResumed n lane held => exact h.settleHeld (laneNumbers_of_le lane) rfl rfl rfl
  case batchClosed n coins lane works queue room => exact h.batchClosed (laneNumbers_of_le lane) works coins
  case batchAborted n lane works => exact h.batchAborted (laneNumbers_of_le lane) works
  case faultCleared n lane faulty free => exact h.faultCleared (laneNumbers_of_le lane) free
  case countQueued r b y found purpose state queue room =>
    have counted : b.purpose = .takings ∨ b.purpose = .skim ∨ b.purpose = .changeIn := by
      simpa [countedPurpose, or_assoc] using purpose
    exact h.countQueued found state counted y
  case disputeSettled r b y found disputed day =>
    exact settleDispute_books (h.snoopFor b) (snoopFor_bag found) disputed y
  case merged r b found confirmed fits => exact mergeBag_books h found confirmed fits
  case doorRequested d creds a granted =>
    rcases requestDoor_grants granted with e | ⟨k, e⟩
    · rw [e]
      exact h.same (by simp [SameRecords]) (by simp)
    · rw [e]
      exact h.same (by simp [SameRecords]) (by simp)
  case safeCleared n safe => exact safeCleared_books h n
  case lockdown => exact lockdown_books h .request
  case deposited r g lines w slots once suits covered room slot space =>
    exact depositMade_books h slots ((distinct_iff _).mp once) (all_of_firstFailing suits)
      (fun l mem => by simpa using List.find?_eq_none.mp covered l mem) slot
  case manifestCreated n visit courier opens closes window outbound inbound once ready entry =>
    exact manifestCreated_books h rfl ((distinct_iff _).mp once) (all_of_firstFailing ready)
  case manifestCancelled n m st ends found =>
    refine closeManifest_books h ?_
    rcases ends with rfl | rfl <;> rfl
  all_goals exact h.same (by simp [SameRecords]) (by simp)

theorem Happens.books (a : Happens s t) (h : Books 0 s) : Books 0 t := by
  cases a
  case bytes l =>
    exact foldl_mem_rule (Books 0) feedByte l s h fun u b _ hu => hu.same (by simp [SameRecords]) (by simp)
  case note n slot f x lane => exact h.takeNote (laneNumbers_of_le lane) slot f x
  case pocket n p lane => exact h.emptyPocket (laneNumbers_of_le lane) p
  case jam n lane => exact h.takeJam (laneNumbers_of_le lane)
  case badge r n p => exact takeBadge_books h r n p
  case drop n g safe => exact takeDrop_books h n g
  case scan g => exact takeScan_books h g
  case panic e =>
    have level : Books 0 { s with ubc.panicHigh := levelAfter e } := h.same ⟨rfl, rfl, rfl, rfl, rfl, rfl, rfl, rfl, rfl⟩ rfl
    unfold panicEdge
    exact .ite (lockdown_books level .panic) level
  case cold => exact coldStart_books s
  case restartCold => exact coldStart_books _
  case warm c => exact warmStart_books h c
  case restartWarm =>
    have sent : Books 0 (sendReplies s) := h.same (by simp [SameRecords]) (by simp)
    exact warmStart_books sent .restart
  case tick =>
    have ticked := tickTimers_books h
    exact ticked.same (by simp [SameRecords]) (by simp)
  case handoverExpiry => exact expireHandover_books h
  case posting => exact h.applyOldest
  case begun => exact h.beginValuation
  case completed => exact h.completeValuation
  all_goals exact h.same (by simp [SameRecords]) (by simp)

theorem books_kept : Kept (Books 0) where
  queue s l h := h.same ⟨rfl, rfl, rfl, rfl, rfl, rfl, rfl, rfl, rfl⟩ rfl
  arrives i tag kind s h := h.same (by simp [SameRecords]) (by simp)
  taken s h := h.same (by simp [SameRecords]) (by simp)
  replied s r h := h.same (by simp [SameRecords]) (by simp)
  accepted s t h a := a.books h
  happens s t h a := a.books h

end Changes

end Sys2Proof.Machine

namespace Sys2Proof.Proofs.Books

open Sys2Proof Sys2Proof.Machine

/-- Settles O8: the rule of the books is one statement about each record, and every step's writes answer for the records they write. -/
theorem stepKeepsBooks : Obligations.StepKeepsBooks := by
  unfold Obligations.StepKeepsBooks
  refine ⟨fun s books => ?_, fun s t books tables stepped => ?_⟩
  · simp only [booksRule, Bool.and_eq_true, balanceRule, decide_eq_true_eq] at books
    obtain ⟨⟨⟨⟨⟨⟨⟨⟨⟨balance, -⟩, -⟩, -⟩, -⟩, -⟩, -⟩, -⟩, -⟩, -⟩ := books
    exact balance
  · have tables' : tablesRule t = true := tablesRule_kept.step tables stepped
    exact (booksRule_iff tables').mpr (books_kept.step ((booksRule_iff tables).mp books) stepped)

end Sys2Proof.Proofs.Books
end
